-- ==== Sys2Proof/Word.lean ====
section
/-! DEFINITION. The register word, the byte, and their plainest conversions. -/

namespace Sys2Proof

/-- A register word: every register is 32 bits wide (spec/00_scope.md, Registers and access types). -/
abbrev Word := BitVec 32

/-- A byte of a memory. -/
abbrev Byte := BitVec 8

/-- The word of a natural number, modulo 2^32. -/
abbrev Word.of (n : Nat) : Word := BitVec.ofNat 32 n

/-- The byte of a natural number, modulo 2^8. -/
abbrev Byte.of (n : Nat) : Byte := BitVec.ofNat 8 n

/-- Bits `hi` down to `lo` of a natural number, as a natural number. -/
def bitsOf (n hi lo : Nat) : Nat := (n >>> lo) % 2 ^ (hi + 1 - lo)

/-- `n` read as a two's-complement number of `w` bits. -/
def signedOf (w n : Nat) : Int :=
  if 2 ^ (w - 1) ≤ n % 2 ^ w then (n % 2 ^ w : Nat) - (2 ^ w : Nat) else (n % 2 ^ w : Nat)

/-- The two's-complement code of `z` in `w` bits. -/
def codeOf (w : Nat) (z : Int) : Nat := (z % (2 ^ w : Nat)).toNat

/-- A Bool as a number. -/
def b2n (b : Bool) : Nat := if b then 1 else 0

end Sys2Proof
end

