-- ==== Sys2Proof/Syntax.lean ====
section
/-! DEFINITION. The commands of the block: one constructor per row of spec/opcode_table.json. Accesses carry the master that issued them (R16); events carry what the outside world, a driver chip or a firmware core supplies with them. -/

namespace Sys2Proof

/-- A master identity 0 to 14 (R16); 15 is reserved and never granted access. -/
abbrev Master := Fin 15

/-- A DisplayPort sink port. -/
abbrev Port := Fin 4

/-- A forward lane CL0–CL95 (a stripe has the same range). -/
abbrev Lane := Fin 96

/-- A return lane SR0–SR23. -/
abbrev RetLane := Fin 24

/-- An Ikiush core IK0–IK7. -/
abbrev CoreId := Fin 8

/-- A monitored supply of R557. -/
inductive PfSupply where
  | vinHv | vddCore | vddIo
deriving DecidableEq, Repr

/-- What the boot ROM found in one boot slot, by the checks of R50 in their order: the header, the digest, the signature (none: the image carries no signature), the key hash, the version. -/
structure BootSlotScan where
  header : Bool
  digestOk : Bool
  sigOk : Option Bool
  keyHashOk : Bool
  version : Nat
deriving DecidableEq, Repr

/-- What the operation of a boot step found when it completed (R53, R54). -/
inductive BootOutcome where
  /-- The step's operation ended with nothing to report. -/
  | done
  /-- Boot step 4: failing logical banks of the march, in increasing order, and whether a boot ROM work bank failed. -/
  | march (failing : List Nat) (workBank : Bool)
  /-- Boot step 5: what the two boot slots hold, and whether only the repeat in 1S-1S-1S found a header (R488). -/
  | bootSlots (a b : BootSlotScan) (slow : Bool)
  /-- Boot step 8: whether initialisation met an uncorrectable ECC error. -/
  | frameStore (uncorrectable : Bool)
  /-- Boot step 11: a flash read error in the maps. -/
  | maps (flashErr : Bool)
deriving DecidableEq, Repr

/-- One input video format as a port latches it at a frame start (R106, R114, R116). -/
structure VideoFormat where
  /-- DPRX_STREAM.colour: 0 RGB, 1 YCbCr 4:4:4, 2 YCbCr 4:2:2, 3 any other. -/
  colour : Fin 4
  /-- DPRX_STREAM.bpc: 0, 1 and 2 for 8, 10 and 12 bits, 3 any other. -/
  bpc : Fin 4
  /-- The colorimetry comes from a VSC SDP (else from the MSA), and its code. -/
  vsc : Bool
  code : Fin 16
  /-- The stream signals the narrow range. -/
  narrow : Bool
  width : Nat
  height : Nat
deriving DecidableEq, Repr

/-- The downstream sink's answer to an AUX request (R133). -/
inductive AuxReply where
  | ack | nack | defer
deriving DecidableEq, Repr

/-- The kinds of rail fault the HV die detects (R346). -/
inductive RailFault where
  | uv | ov | oc | psm
  /-- An over-current episode shorter than 1 ms, which is only counted. -/
  | climit
deriving DecidableEq, Repr

/-- What an ECC check of a word found. -/
inductive Ecc where
  | ok | corr | uncorr
deriving DecidableEq, Repr

/-- What port A does to the same 64-bit word of a Pond bank in the same cycle as a port-B access (R392). -/
inductive PortA where
  | none | read
  | write (bytes : List Nat)
deriving DecidableEq, Repr

/-- A burst as the controller receives it in a slot of a return lane (R323, R326): its phase in symbols from the slot's start, whether a code or disparity error or a guard signal was seen, the bytes of positions 13 to 60, and the CRC-16 of positions 61 and 62. -/
structure Burst where
  ret : RetLane
  slot : Fin 4
  phase : Nat
  codeErr : Bool
  guard : Bool
  body : List Nat
  crc : Nat
deriving DecidableEq, Repr

/-- What resets the PCIe endpoint (R478). -/
inductive PcieReset where
  | flr | hotReset | perst | linkDown
deriving DecidableEq, Repr

/-- What the data that a facet waited for showed (R204, R245, R261, R384, R394): frame-store words with their ECC findings; the row's defect index lost, and entries lost by number; columns whose knot read failed; slots and columns whose LUT read failed; window offsets of the uncorrectable Pond words. -/
structure FacetFound where
  words : List (Nat × Ecc)
  rowLost : Bool
  lost : List Nat
  knots : List Nat
  luts : List (Nat × Nat)
  pond : List Nat
deriving DecidableEq, Repr

/-- The commands: one constructor per row of spec/opcode_table.json, each named after its row. -/
inductive Instr where
  /-- REGISTER_WRITE (R7). A write to a register that has no row of its own is checked for alignment, permission, lock, state and range, then applied according to its access type or rejected with its error latched. -/
  | registerWrite (m : Master) (off val be : Nat)
  /-- READ_CLEAR (R7). A read of an RC field returns its value and clears it; an event arriving in the same cycle is counted after the clear. -/
  | readClear (m : Master) (off : Nat)
  /-- HV_ACCESS_UNSTALL (R18). An HV-die access that stalled behind 16 posted writes proceeds when one of those writes completes. -/
  | hvAccessUnstall
  /-- HV_WRITE_COMPLETE (R18). A posted HV-die write takes effect on the HV die and frees its slot in the posting queue. -/
  | hvWriteComplete
  /-- HV_BRIDGE_TRANSFER (R19). A transfer arrives over the HV bridge and is checked by its CRC-8. -/
  | hvBridgeTransfer (ok : Bool)
  /-- HV_BRIDGE_LOST (R19). After a third failed transfer, or 100 µs with no valid transfer, the bridge is lost: the HV die discharges on its own, HV accesses fail with E_STATE, and a panel-safe fault is raised. -/
  | hvBridgeLost
  /-- MODE_REQ_DARK (R44). An accepted request for DARK starts the DARK entry: discharge if needed, HPD low, Keep store, wake settings copied, PWRUP_EN low and core-die isolation. -/
  | modeReqDark (m : Master)
  /-- MODE_REQ_TADPOLE (R33). An accepted request for TADPOLE discharges the rails if they are up, takes the restart store and reruns the boot from the core-die reset. -/
  | modeReqTadpole (m : Master)
  /-- MODE_REQ_LIVE (R33). An accepted request for LIVE starts a transition that takes effect at a vertical swap point, starting scan-out and training lanes when needed. -/
  | modeReqLive (m : Master)
  /-- MODE_REQ_GECKO (R40). An accepted host request for GECKO enters self-refresh at the first vertical swap point after the last complete input frame. -/
  | modeReqGecko (m : Master)
  /-- MODE_REQ_LOUPE (R41). An accepted request for LOUPE pauses in-service sensing, records the mode it came from, and replaces the picture with sense patterns at the next vertical swap point. -/
  | modeReqLoupe (m : Master)
  /-- MODE_TRANSITION_EFFECT (R36). A requested mode transition takes effect at its vertical swap point, updating GLB_MODE, the cause registers and the values that R549 sets. -/
  | modeTransitionEffect
  /-- PANEL_REPLAY_ENTRY (R122). A source enters Panel Replay on a port; its stripes are driven from the frame store, and GECKO is entered once every port of the layout has entered. -/
  | panelReplayEntry (p : Port)
  /-- PANEL_REPLAY_EXIT (R123). A source exits Panel Replay on a port of the active layout, returning the controller to LIVE with cause 0x8. -/
  | panelReplayExit (p : Port)
  /-- LOUPE_RETURN (R291). When the planner ends the LOUPE survey, the controller returns to the recorded mode at the next vertical swap point. -/
  | loupeReturn
  /-- SUPPLY_APPLIED (R49). Supplies are applied with SYS_RST_N released: the always-on island starts, writes the wake cause and the device wakes whatever GLB_WAKE_CFG holds. -/
  | supplyApplied
  /-- SYS_RST_RELEASE (R554). SYS_RST_N is released: the core die leaves reset once its supplies are good, and the boot begins. -/
  | sysRstRelease
  /-- SYS_RST_ASSERT (R556). SYS_RST_N held low beyond its 1 µs filter while the core die runs is handled as a power-fail. -/
  | sysRstAssert (vkeep : Bool)
  /-- POWER_FAIL (R46). A supply monitor reports VIN_HV, VDD_CORE or VDD_IO below its threshold: the discharge starts, the power-fail Keep store is taken and DARK is entered with cause 0xB. -/
  | powerFail (src : PfSupply) (vkeep : Bool)
  /-- WAKE_PIN (R47). A low level on an enabled wake pin longer than the filter time wakes the device, or is latched during a DARK entry. -/
  | wakePin (pin : Fin 2) (ns : Nat)
  /-- WAKE_ALARM (R45). The Keep clock reaches GLB_WAKE_ALARM with the alarm enabled and wakes the device. -/
  | wakeAlarm
  /-- PWRUP_HOLD_EXPIRE (R45). The 10 ms minimum low time of PWRUP_EN ends, and the controller wakes on any latched wake event. -/
  | pwrupHoldExpire
  /-- BOOT_STEP_COMPLETE (R53). A boot step completes after its operation (march, image read, frame-store initialisation, rails, lane training, map load), and the next steps start or the boot halts. -/
  | bootStepComplete (n : Nat) (o : BootOutcome)
  /-- BOOT_FW_START_TIMEOUT (R52). Walern firmware not running within 50 ms of authentication halts the boot with code 0x86. -/
  | bootFwStartTimeout
  /-- BOOT_ENTER_LIVE (R57). With every step complete and hold 0, LIVE is entered at the first vertical swap point and GLB_BOOT_TIME set. -/
  | bootEnterLive
  /-- KEEP_RECALL_COMPLETE (R411). At boot step 3 the recall of Keep completes: pages are kept or copied, records resolved, K registers loaded and counters 0 and 1 updated. -/
  | keepRecallComplete
  /-- IMG_CHECK_DECODE (R75). FAB_IMG_CMD op 1 checks the staged Prism image and, if it passes, decodes it into the mirror set. -/
  | imgCheckDecode (m : Master)
  /-- IMG_CHECK_ONLY (R75). FAB_IMG_CMD op 2 checks the staged Prism image without touching the mirror set. -/
  | imgCheckOnly (m : Master)
  /-- IMG_ABORT (R80). FAB_IMG_CMD op 3 aborts the running image operation, invalidating the mirror if decoding had begun. -/
  | imgAbort (m : Master)
  /-- IMG_OP_COMPLETE (R77). A Prism image operation ends: the first failing check is recorded, or the decode sets the mirror valid with its version and digest. -/
  | imgOpComplete (decoding : Bool)
  /-- MS_WRITE (R81). A write to an MS field changes only the mirror copy and sets dirty, or is rejected with E_BUSY during a swap, refill or decode. -/
  | msWrite (m : Master) (off val : Nat)
  /-- ACTIVE_COPY_READ (R82). A read of FAB_ACT_DATA returns the active-set copy of the register named by the master's FAB_ACT_ADDR. -/
  | activeCopyRead (m : Master)
  /-- SWAP_REQUEST (R86). FAB_SWAP_CTRL req = 1 is checked and, if accepted, makes the swap pending and sends prepare to every island. -/
  | swapRequest (m : Master) (after cancel : Bool)
  /-- SWAP_CANCEL (R87). FAB_SWAP_CTRL cancel = 1 stops a pending swap before it is armed, or is rejected. -/
  | swapCancel (m : Master) (after : Bool)
  /-- ISLAND_READY (R88). An island replies ready to a prepare once its mirror copy passes ECC, is not being written and the island is powered. -/
  | islandReady (i : Nat) (ecc : Bool)
  /-- SWAP_ARM (R88). At the arm point the swap controller sends commit if every island is ready, otherwise defers or abandons the swap. -/
  | swapArm
  /-- ISLAND_DONE (R88). An island flips its select bit at its frame boundary and replies done. -/
  | islandDone (i : Nat)
  /-- SWAP_TAKE_EFFECT (R93). When all islands have replied done, the swap takes effect: counters, versions and claims update and the refill starts. -/
  | swapTakeEffect
  /-- SWAP_DONE_TIMEOUT (R91). An island not replying done within 4 line periods after the swap point raises an S3 fault. -/
  | swapDoneTimeout
  /-- MIRROR_REFILL_COMPLETE (R93). The refill of the mirror from the new active set completes within 1 ms. -/
  | mirrorRefillComplete
  /-- LIVE_WRITE (R100). A write to a live register reaches each island and applies at its next pixel clock, tearing the frame if in active lines. -/
  | liveWrite (m : Master) (off val : Nat)
  /-- LIVE_TMG_WRITE (R98). A live TMG write is rejected if it breaks a limit that the earlier values met; otherwise it changes the raster and tears the frame. -/
  | liveTmgWrite (m : Master) (off val : Nat)
  /-- HELD_WRITE (R99). A write to LAY_ZORDER_LO or LAY_PAL_DATA0 is held per master until the partner register is written. -/
  | heldWrite (m : Master) (order : Bool) (val : Nat)
  /-- ZORDER_APPLY (R99). A write to LAY_ZORDER_HI applies the order with the held low half, rejecting a non-permutation. -/
  | zorderApply (m : Master) (val : Nat)
  /-- PALETTE_WRITE (R175). A write to LAY_PAL_DATA1 writes the selected palette entry with held red and green, advancing the entry when inc is set. -/
  | paletteWrite (m : Master) (val : Nat)
  /-- LAYER_ENABLE_WRITE (R174). A live LAY_EN write enables or disables layers, rejecting enables of unbound, empty or faulted layers. -/
  | layerEnableWrite (m : Master) (val : Nat)
  /-- VERTICAL_SWAP_POINT (R136). The raster reaches the start of line TMG_VACT: frame count increments, frame-latched writes apply, driven frames flip and per-frame bookkeeping runs. -/
  | verticalSwapPoint (bad : List Nat)
  /-- FRAME_START_DECISION (R143). At t_end of a locked-raster frame the controller starts a through, lagged or waiting frame, or skips the input frame. -/
  | frameStartDecision (lag : Nat) (latePassed : Bool)
  /-- THROUGH_FRAME_START (R143). After waiting until the input frame start plus A, a through-path glass frame starts. -/
  | throughFrameStart
  /-- LATE_LIMIT (R145). The late limit passes with no input frame, and a repeat frame starts. -/
  | lateLimit (tie : Bool)
  /-- LOCAL_FRAME_START (R147). A local-raster glass frame starts, each port's stripes taking the newest usable input frame or replaying. -/
  | localFrameStart (usable : Fin 16)
  /-- GLASS_LINE_START (R313). A glass line begins at horizontal sync: the LIN block is sent and gate, SSEL and SEN pulses are timed from it. -/
  | glassLineStart
  /-- LINE_DEADLINE (R152). A row's line-packet deadline arrives; a stripe whose packed line is not ready holds the previous codes. -/
  | lineDeadline (t : Lane)
  /-- PACKED_LINE_COMPLETE (R220). A stripe's code packer completes a packed line into the lane's transmit buffer. -/
  | packedLineComplete (t : Lane) (lag : Nat) (tie : Bool)
  /-- CREDIT_RETURN (R218). A credit returns to a stalled sender, which resumes sending components. -/
  | creditReturn (t : Lane) (j : Fin 14)
  /-- FACET_DATA_ARRIVE (R204). Record-plane or defect data that a facet waits for arrives and the facet resumes. -/
  | facetDataArrive (t : Lane) (f : FacetFound)
  /-- NOIN_HOLD_EXPIRE (R151). After TMG_NOIN.frames frame periods without valid input, stripes switch from replay to the fill colour. -/
  | noinHoldExpire (e : Fin 5)
  /-- SCAN_RUN (R154). TMG_SCAN run = 1 in TADPOLE starts the raster, or is rejected while a claimed lane is untrained. -/
  | scanRun (m : Master)
  /-- SCAN_STOP (R154). TMG_SCAN run = 0 drives one frame at code 0 and stops at the following swap point. -/
  | scanStop (m : Master)
  /-- TEST_RASTER_WRITE (R156). A TMG_TEST write with en = 1 in TADPOLE runs a local test raster with the chosen pattern. -/
  | testRasterWrite (m : Master) (val : Nat)
  /-- CHK_LEARN (R166). Writing learn = 1 makes a check window record its CRCs as expected values over P active frames. -/
  | chkLearn (m : Master) (w : Fin 64) (val : Nat)
  /-- CHK_WINDOW_RESULT (R167). Each window's CRC comparison for a frame is recorded; a mismatch is counted and may raise a check-window fault. -/
  | chkWindowResult
  /-- DPRX_CAP_CHANGE (R111). A DPRX_CTRL write changing capabilities updates the DPCD and drives a 20 ms HPD low pulse. -/
  | dprxCapChange (m : Master) (p : Port) (val : Nat)
  /-- HPD_ENABLE_CLEAR (R110). Clearing DPRX_CTRL.hpd_en drives HPD low and drops the port's link at once. -/
  | hpdEnableClear (m : Master) (p : Port) (val : Nat)
  /-- HPD_PULSE_END (R111). An HPD low pulse of 20 ms ends and HPD returns high if R110 allows. -/
  | hpdPulseEnd (p : Port)
  /-- DPRX_LINK_LOCK (R119). A DPRX port's link locks after training by the source, stopping any relock timer. -/
  | dprxLinkLock (p : Port) (rate lanes : Nat) (tie : Bool)
  /-- DPRX_LOCK_LOSS (R119). A trained port loses lock: its stream is invalid, IRQ_HPD is sent and the relock timer starts. -/
  | dprxLockLoss (p : Port)
  /-- DPRX_RELOCK_TIMEOUT (R119). The relock timer expires: lost is set, the timeout counted and one HPD low pulse sent. -/
  | dprxRelockTimeout (p : Port)
  /-- DPRX_FRAME_START (R114). An input frame starts on a port: format and size are latched, validity is evaluated, or the frame is discarded as early. -/
  | dprxFrameStart (p : Port) (f : VideoFormat) (since skew lineHz : Nat)
  /-- DPRX_LINE_RECEIVE (R217). A port writes a received line into its input ring and the incoming frame, overwriting the ring slot four lines back. -/
  | dprxLineReceive (p : Port) (samples : List Nat) (corr uncorr : Nat)
  /-- SELECTIVE_UPDATE (R124). A selective-update region received in GECKO is mapped to glass tiles, each receiving an explicit target. -/
  | selectiveUpdate (p : Port) (x y w h : Nat) (pixels : List Nat)
  /-- EDID_COMMIT (R125). DPRX_EDID_CMD commit checks the staged EDID and starts HPD low, replacement of the served copy and the Keep store. -/
  | edidCommit (m : Master) (p : Port)
  /-- EDID_COMMIT_DONE (R126). An EDID commit finishes when the Keep store and the HPD pulse have completed. -/
  | edidCommitDone (p : Port)
  /-- DPRX_AUX_READ (R126). A source's AUX read transaction returns EDID bytes wholly from one served copy. -/
  | dprxAuxRead (p : Port) (off n : Nat)
  /-- TAP_ENABLE (R128). Setting TAP_CTRL.en claims the DPTX lanes and starts cloning the selected port. -/
  | tapEnable (m : Master) (val : Nat)
  /-- TAP_DISABLE (R128). Clearing TAP_CTRL.en releases the DPTX lanes at the end of the current output frame. -/
  | tapDisable (m : Master) (val : Nat)
  /-- TAP_SRC_CHANGE (R132). Changing TAP_CTRL.src switches the clone at the next frame start on the new port, retraining if needed. -/
  | tapSrcChange (m : Master) (src : Port)
  /-- TAP_LINK_PARAM_CHANGE (R132). A change to the tap's max_rate, max_lanes or ssc while enabled causes one retraining. -/
  | tapLinkParamChange (m : Master) (rate lanes ssc : Nat)
  /-- TAP_DOWNSTREAM_HPD (R131). The downstream sink's filtered HPD changes, training or losing the tap link. -/
  | tapDownstreamHpd (level : Bool) (rate lanes : Nat)
  /-- TAP_AUX_NATIVE_READ (R133). TAP_AUX_CMD operation 0 starts a native AUX read to the downstream sink. -/
  | tapAuxNativeRead (m : Master) (addr : Nat) (len : Fin 16)
  /-- TAP_AUX_NATIVE_WRITE (R133). TAP_AUX_CMD operation 1 starts a native AUX write to the downstream sink. -/
  | tapAuxNativeWrite (m : Master) (addr : Nat) (len : Fin 16)
  /-- TAP_AUX_I2C_READ (R133). TAP_AUX_CMD operation 2 writes the byte offset then reads over I2C-over-AUX. -/
  | tapAuxI2cRead (m : Master) (addr : Nat) (len : Fin 16)
  /-- TAP_AUX_I2C_WRITE (R133). TAP_AUX_CMD operation 3 starts an I2C-over-AUX write. -/
  | tapAuxI2cWrite (m : Master) (addr : Nat) (len : Fin 16)
  /-- TAP_AUX_REPLY (R133). The downstream sink's AUX reply arrives and is recorded, repeating after DEFER up to 7 times. -/
  | tapAuxReply (r : AuxReply) (data : List Nat)
  /-- TAP_AUX_TIMEOUT (R133). No AUX reply within 400 µs ends the transaction with the no-reply code. -/
  | tapAuxTimeout
  /-- LOOPBACK_START (R134). Setting TAP_LOOP.run in held TADPOLE claims the lanes and runs the PRBS loopback test. -/
  | loopbackStart (m : Master) (rate : Nat)
  /-- LOOPBACK_STOP (R134). Clearing TAP_LOOP.run ends the test and releases both claims. -/
  | loopbackStop (m : Master) (errs : List Nat)
  /-- LAYER_ALLOCATE (R177). LAY_BUF_CMD op 1 allocates the lowest free handle at the lowest large-enough run of granules. -/
  | layerAllocate (m : Master) (granules : Nat)
  /-- LAYER_FREE (R178). LAY_BUF_CMD op 2 frees an unreferenced buffer allocated by the master or freed by master 0. -/
  | layerFree (m : Master) (h : Fin 64)
  /-- LAYER_BUFFER_RELEASE (R179). Within 2 line periods of the swap point at which a buffer stops being referenced, its reference bit clears and the release doorbell rings. -/
  | layerBufferRelease (h : Fin 64)
  /-- LAYER_UNDERRUN (R183). A compose facet needs undelivered index data: the layer is tail-dropped for the rest of the frame and counted. -/
  | layerUnderrun (i : Fin 16) (t : Lane) (x : Nat)
  /-- POOL_CLAIM (R215). FAB_POOL_CLAIM en = 1 claims a range of pool units for integrator firmware. -/
  | poolClaim (m : Master) (val : Nat)
  /-- POOL_RELEASE (R215). FAB_POOL_CLAIM en = 0 releases the master's pool claim at once. -/
  | poolRelease (m : Master)
  /-- KNOT_WRITE (R229). A TRN_KNOT_DATA write writes the selected knot to every cluster's copy, advancing the selection when inc is set. -/
  | knotWrite (m : Master) (val : Nat)
  /-- GRID_WRITE (R238). A TRN_TGRID write by the permitted writer updates a grid point at the next swap point and resets staleness. -/
  | gridWrite (m : Master) (k : Fin 144) (val : Nat)
  /-- GRID_STALE (R243). No grid write for TRN_TCFG.stale seconds sets stale and raises an S1 temperature-source fault. -/
  | gridStale (tie : Bool)
  /-- KICK_RETARGET (R246). TRN_KICK_CMD op 1 gives each tile in the range an explicit target in the next pass. -/
  | kickRetarget (m : Master)
  /-- KICK_SETTLE (R246). TRN_KICK_CMD op 2 makes each running tile in the range take its final action in the next pass. -/
  | kickSettle (m : Master)
  /-- KICK_FREEZE (R246). TRN_KICK_CMD op 3 freezes each tile in the range in the next pass. -/
  | kickFreeze (m : Master)
  /-- KICK_UNFREEZE (R246). TRN_KICK_CMD op 4 returns frozen tiles in the range to idle in the next pass. -/
  | kickUnfreeze (m : Master)
  /-- MAP_LOAD (R274). CMP_MAP_CMD op 1 loads a map of the chosen type from flash and checks it. -/
  | mapLoad (m : Master) (t : Fin 4)
  /-- MAP_CHECK_ADOPT (R274). CMP_MAP_CMD op 2 checks a map already in the frame store and adopts it. -/
  | mapCheckAdopt (m : Master) (t : Fin 4)
  /-- MAP_OP_COMPLETE (R275). A map operation ends, setting the map version or leaving the destination as its failure point requires. -/
  | mapOpComplete (err : Bool)
  /-- SENSING_ENABLE (R288). Setting SRV_CTRL.en claims the survey timer and starts in-service sensing. -/
  | sensingEnable (m : Master) (val : Nat)
  /-- SENSE_TIMER_EXPIRE (R288). The survey timer expires and makes one sense operation due, up to four. -/
  | senseTimerExpire
  /-- SENSE_OP_START (R284). A due sense operation starts in vertical blanking, sending SENSE and the sense level to its row. -/
  | senseOpStart
  /-- SENSE_RETURN_DEADLINE (R285). The sense return timeout expires; missing drivers' operations are repeated or recorded as invalid. -/
  | senseReturnDeadline (tie : Bool)
  /-- SURVEY_STAGE (R292). SRV_CMD op 1 copies the plane in force into the staging plane and sets stage_valid. -/
  | surveyStage (m : Master)
  /-- SURVEY_APPLY (R293). SRV_CMD op 2 applies the staging plane as a step or a ramp of N frames. -/
  | surveyApply (m : Master)
  /-- SURVEY_SAVE (R298). SRV_CMD op 3 saves the chosen map types to flash, updates the index and may write the calibration record. -/
  | surveySave (m : Master) (types : Fin 4)
  /-- SURVEY_SENSE_NOW (R303). SRV_CMD op 4 makes one more sense operation due. -/
  | surveySenseNow (m : Master)
  /-- SURVEY_RESTART_SWEEP (R290). SRV_CMD op 5 restarts the sweep at operation 0 in the current bank. -/
  | surveyRestartSweep (m : Master)
  /-- SURVEY_END_LOUPE (R291). SRV_CMD op 6 ends the LOUPE survey without a correction. -/
  | surveyEndLoupe (m : Master)
  /-- SURVEY_CMD_COMPLETE (R303). A background survey command (stage or save) finishes and reports in SRV_CMD_STAT. -/
  | surveyCmdComplete (err : Bool)
  /-- INTEGRATOR_SAVE_TIMER (R298). Every SRV_SAVE_INT minutes Walern firmware issues a save of the stress integrator map. -/
  | integratorSaveTimer
  /-- LANE_FULL_TRAIN (R331). ACL_CMD op 1 starts a full training of a forward lane from WAKE. -/
  | laneFullTrain (m : Master) (n : Lane)
  /-- LANE_FAST_RETRAIN (R335). ACL_CMD op 2 starts a fast retrain of a lane with its preset kept. -/
  | laneFastRetrain (m : Master) (n : Lane)
  /-- SPARE_PLANNED_MOVE (R338). ACL_CMD op 3 moves a stripe to a spare lane at a chosen vertical swap point with no held load. -/
  | sparePlannedMove (m : Master) (n : Lane) (k : Fin 4)
  /-- SPARE_PLANNED_RETURN (R338). ACL_CMD op 4 returns a stripe from its spare to its primary lane at a chosen swap point. -/
  | sparePlannedReturn (m : Master) (n : Lane)
  /-- RETURN_LANE_REGRANT (R329). ACL_CMD op 5 silences a return lane's drivers and re-grants their slots in turn. -/
  | returnLaneRegrant (m : Master) (r : RetLane)
  /-- LANE_OFF (R331). ACL_CMD op 6 stops a lane sending and puts it in OFF. -/
  | laneOff (m : Master) (n : Lane)
  /-- TRAIN_ALL_LANES (R335). ACL_CMD op 7 trains every claimed lane in parallel within 5 ms, setting failures FAILED. -/
  | trainAllLanes (m : Master)
  /-- LANE_WAKE_DONE (R331). A lane's 20 µs WAKE phase ends: the scrambler is seeded and CONFIG is sent. -/
  | laneWakeDone (n : Lane)
  /-- LANE_LOCK_TIMEOUT (R331). ACL_CTRL.lock_to expires in LOCK without a qualifying burst; the lane fails or retrains. -/
  | laneLockTimeout (n : Lane)
  /-- EQ_PRESET_DONE (R334). A preset's 16 measured return frames end; the next preset is tried or the best chosen. -/
  | eqPresetDone (n : Lane) (growth fom : Nat) (ceased : Bool)
  /-- EQ_HOLD_DONE (R334). The 8-return-frame hold after preset choice ends and the lane becomes ACTIVE or STANDBY. -/
  | eqHoldDone (n : Lane)
  /-- MRK_SEND (R312). Every 80k blocks each powered lane sends an MRK block that begins a return frame. -/
  | mrkSend
  /-- CAPS_BURST (R324). A CAPS burst arrives from a driver, completing a grant, a lock phase or recognising a driver reset. -/
  | capsBurst (b : Burst) (tie : Bool)
  /-- STATUS_BURST (R324). A STATUS burst arrives and updates the driver's lock, counters, temperature and acknowledgements. -/
  | statusBurst (b : Burst) (tie ackTie : Bool)
  /-- SENSE_BURST (R327). A SENSE burst arrives with one chunk of a driver's sense values, which are stored in the scratch bank. -/
  | senseBurst (b : Burst) (tie : Bool)
  /-- RETURN_SLOT_END (R326). A return slot ends; a slot with no valid burst is a missing burst for its driver. -/
  | returnSlotEnd (r : RetLane) (j : Fin 4) (guard : Bool)
  /-- JAM_RETRY_TIMER (R330). Every 100 ms a jammed return lane repeats the silence and re-grant procedure. -/
  | jamRetryTimer (r : RetLane)
  /-- CONFIG_RESEND_TIMER (R328). Every 8 return frames CONFIG is resent to a lost or reset driver until CAPS arrives. -/
  | configResendTimer (n : Lane)
  /-- CONTROL_PACKET_RESEND (R318). A control packet unacknowledged within 4 return frames is resent; after 3 resends the lane retrains. -/
  | controlPacketResend (n : Lane)
  /-- INTEGRATOR_PACKET_SEND (R342). ACL_CP_CMD sends an integrator-defined control packet on the named lane. -/
  | integratorPacketSend (m : Master)
  /-- POWER_UP (R347). HVP_CMD op 1 starts the power-up sequence of the enabled rail steps. -/
  | powerUp (m : Master)
  /-- DISCHARGE (R354). HVP_CMD op 2 starts the full discharge of the rails. -/
  | discharge (m : Master)
  /-- RAIL_GOOD (R345). A converter or pixel supply becomes good and the sequence waits its step delay. -/
  | railGood (i : Fin 8) (mon : Nat) (tie : Bool)
  /-- SEQ_DELAY_EXPIRE (R347). The delay after a good step expires: the next step starts or the sequence completes and RESUME is sent. -/
  | seqDelayExpire
  /-- PG_TIMEOUT (R349). A step not good within pg_to abandons the sequence with a power-good timeout fault. -/
  | pgTimeout
  /-- VIN_BELOW_WARN (R350). VIN_HV falls below warn, pausing a running sequence or being counted otherwise. -/
  | vinBelowWarn
  /-- VIN_RECOVER (R350). VIN_HV rises above warn plus 0.2 V during a pause and the sequence resumes. -/
  | vinRecover (tie : Bool)
  /-- BROWNOUT_WAIT_EXPIRE (R350). The brown-out wait expires during a pause, abandoning the sequence with a brown-out fault. -/
  | brownoutWaitExpire
  /-- RAIL_FAULT_DETECT (R346). The HV die detects a rail or pixel-supply fault and starts the discharge within 10 µs. -/
  | railFaultDetect (k : RailFault) (i : Fin 8)
  /-- HV_OVERTEMP (R346). The HV die temperature passes 140 °C (S1) or 150 °C (S3). -/
  | hvOvertemp (temp : Nat)
  /-- PSM_SAMPLE (R345). A pixel-supply monitor reading is taken every 10 µs and compared with its window. -/
  | psmSample (k : Fin 4) (v : Nat)
  /-- DISCHARGE_HOLD_END (R354). The gate-on hold of the discharge ends and the rails are bled in reverse order. -/
  | dischargeHoldEnd
  /-- RAIL_DISCHARGED (R354). A rail or supply being bled is discharged and the next is stopped; after VGL the discharge completes. -/
  | railDischarged (i : Fin 8) (mon : Nat) (tie : Bool)
  /-- BLEED_TIMEOUT (R355). A rail not discharged within bleed_to is logged and the bleed moves to the next rail. -/
  | bleedTimeout
  /-- PF_HOLD_EXPIRE (R356). The power-fail gate hold ends and every PS_EN and converter stops with bleeds on. -/
  | pfHoldExpire
  /-- CRACK_MEASURE (R365). Every 1 ms the crack loop is measured and high or low limits are judged. -/
  | crackMeasure (ohm : Nat)
  /-- SEG_FRAME_START (R367). A status-glass frame starts, taking new segment content at positive frames. -/
  | segFrameStart
  /-- SEG_BLINK_TOGGLE (R370). The 1 Hz blink toggles lit and blank halves of blinking codes. -/
  | segBlinkToggle (ram : Bool)
  /-- SEG_WIDE_SET (R371). Setting SEG_CFG.wide claims segment lines 36 to 39 from GPIO. -/
  | segWideSet (m : Master) (val : Nat)
  /-- SEG_WIDE_CLEAR (R371). Clearing SEG_CFG.wide releases lines 36 to 39 at the next positive frame. -/
  | segWideClear (m : Master) (val : Nat)
  /-- BAR2_WRITE (R382). A BAR2 write stores bytes in the frame store, dropping bytes in protected regions. -/
  | bar2Write (a : Nat) (bs : List (Option Nat))
  /-- BAR2_READ (R384). A BAR2 read returns frame-store data, poisoned on an uncorrectable word. -/
  | bar2Read (a n : Nat) (ecc : List (Nat × Ecc))
  /-- ECC_WRITEBACK (R383). A corrected frame-store word is written back within 2 µs unless a master wrote it meanwhile. -/
  | eccWriteback (w : Nat)
  /-- SCRUB_READ (R387). The scrubber reads the next frame-store word at its rate, correcting and counting errors. -/
  | scrubRead (found : Ecc)
  /-- POND_WINDOW_ACCESS (R475). A master-0 or debug access through the BAR0 Pond window reads or writes a Pond bank. -/
  | pondWindowAccess (m : Master) (off : Nat) (val : Option Nat) (pa : PortA) (found : Ecc)
  /-- POND_RETRY (R392). An internal master's Pond access that saw busy is repeated in the next free cycle. -/
  | pondRetry (pa : PortA)
  /-- BANK_RETENTION_ENTER (R395). A bank with ret set and no access for 1 ms enters retention. -/
  | bankRetentionEnter (i : Fin 384)
  /-- BANK_WAKE_DONE (R395). A retained bank woken by an access completes its wake and the access proceeds. -/
  | bankWakeDone (i : Fin 384)
  /-- MARCH_PRESERVING (R398). MEM_MARCH_CMD op 1 starts a preserving march pass over unpinned banks. -/
  | marchPreserving (m : Master)
  /-- MARCH_DESTROYING (R400). MEM_MARCH_CMD op 2 starts a destroying run over released banks. -/
  | marchDestroying (m : Master)
  /-- MARCH_ABORT (R401). MEM_MARCH_CMD op 3 aborts the pass after the current segment or bank. -/
  | marchAbort (m : Master)
  /-- MARCH_INTERVAL_EXPIRE (R398). The wait between segments ends and copy-in of the next segment begins. -/
  | marchIntervalExpire
  /-- MARCH_COPYIN_DONE (R398). A segment's copy-in completes and accesses are redirected to the copy while the test runs. -/
  | marchCopyinDone (ecc : List (Nat × Ecc))
  /-- MARCH_TEST_DONE (R399). A segment's test ends; copy-back starts, or a failing segment is patched. -/
  | marchTestDone (fail : Option (Nat × Nat))
  /-- MARCH_COPYBACK_DONE (R398). Copy-back completes and redirection ends. -/
  | marchCopybackDone
  /-- MARCH_BANK_DONE (R400). A destroying run finishes a bank, leaving it zeroed, and moves to the next. -/
  | marchBankDone (fail : Option (Nat × Nat × Nat))
  /-- KEEP_STORE_CMD (R406). KEEP_CMD op 1 starts a Keep store of the dirty pages. -/
  | keepStoreCmd (m : Master)
  /-- KEEP_UNLOCK (R416). KEEP_CMD op 2 compares the master's password latch with a region's password and unlocks it. -/
  | keepUnlock (m : Master) (j : Fin 16)
  /-- KEEP_LOCK (R416). KEEP_CMD op 3 clears the master's unlock of a region. -/
  | keepLock (m : Master) (j : Fin 16)
  /-- KEEP_SET_PASSWORD (R417). KEEP_CMD op 4 sets a region's password to the latch and starts a store. -/
  | keepSetPassword (m : Master) (j : Fin 16)
  /-- KEEP_LOCK_ALL (R416). KEEP_CMD op 5 clears every unlock of the master. -/
  | keepLockAll (m : Master)
  /-- KEEP_STAGE_RELEASE (R425). KEEP_CMD op 6 releases the master's ownership of KEEP_STAGE. -/
  | keepStageRelease (m : Master)
  /-- KEEP_AUTO_STORE (R406). The auto-store timer expires with dirty pages and starts a store, waiting for any running store. -/
  | keepAutoStore
  /-- KEEP_SNAPSHOT (R407). A store, after any counter update, takes its snapshot of dirty pages; DARK and power-fail stores freeze Keep. -/
  | keepSnapshot
  /-- KEEP_STORE_COMPLETE (R408). A store finishes programming its pages and the departure record. -/
  | keepStoreComplete (tie : Bool)
  /-- KEEP_STORE_TIMEOUT (R409). A store not complete 10 ms after its snapshot fails, is logged and keeps its pages dirty. -/
  | keepStoreTimeout
  /-- KEEP_DATA_READ (R413). A KEEP_DATA read returns the word at the master's pointer and advances it. -/
  | keepDataRead (m : Master)
  /-- KEEP_DATA_WRITE (R413). A KEEP_DATA write stores a word at the master's pointer, dirtying its page, and advances the pointer. -/
  | keepDataWrite (m : Master) (val : Nat)
  /-- KEEP_PASSWORD_WORD (R416). A KEEP_PW write enters the next 16-bit word of the master's password latch. -/
  | keepPasswordWord (m : Master) (val : Nat)
  /-- KEEP_REGION_WRITE (R418). A KEEP_RGN write changes a region's protection or bounds and starts a store. -/
  | keepRegionWrite (m : Master) (j : Fin 16) (val : Nat)
  /-- RECORD_RESOLVE (R425). KEEP_REC_CMD op 1 resolves a record and copies its body into KEEP_STAGE. -/
  | recordResolve (m : Master) (id : Nat) (forEn : Bool) (who : Nat)
  /-- RECORD_COMMIT (R424). KEEP_REC_CMD op 2 commits KEEP_STAGE to the other copy of a record. -/
  | recordCommit (m : Master) (id len : Nat) (forEn : Bool) (who : Nat)
  /-- RECORD_COMMIT_DONE (R424). A record commit writes its sequence number last and finishes. -/
  | recordCommitDone
  /-- KEEP_STAGE_WRITE (R425). A KEEP_STAGE write takes ownership of the stage, or is rejected while another master owns it. -/
  | keepStageWrite (m : Master) (i : Fin 256) (val : Nat)
  /-- COUNTER_ADD (R427). KEEP_CTR_CMD op 1 adds an amount to the selected spread counter, saturating. -/
  | counterAdd (m : Master) (amount : Nat)
  /-- COUNTER_CLEAR (R427). KEEP_CTR_CMD op 2 clears the selected spread counter. -/
  | counterClear (m : Master)
  /-- COUNTER_UPDATE_DONE (R427). A spread-counter update writes its sequence number last and completes. -/
  | counterUpdateDone
  /-- COUNTER_READ (R427). A read of KEEP_CTR_LO returns the low word and latches the high word for the master. -/
  | counterRead (m : Master)
  /-- LOG_APPEND (R431). KEEP_LOG_CMD appends the master's data as a fault-log entry at the head. -/
  | logAppend (m : Master)
  /-- CLOCK_SET (R432). KEEP_CLK_SET sets the Keep clock forward, never backward. -/
  | clockSet (m : Master) (val : Nat)
  /-- KEEP_CLOCK_TICK (R432). The Keep clock advances one second. -/
  | keepClockTick (vkeep : Bool)
  /-- CORE_RUN (R443). CORE_CTRL run = 1 releases a core to fetch at CORE_BOOT. -/
  | coreRun (m : Master) (k : CoreId)
  /-- CORE_RESET (R447). CORE_CTRL run = 0 resets an integrator core, releasing its locks, claims, stage and doorbells. -/
  | coreReset (m : Master) (k : CoreId)
  /-- CORE_HALT (R443). CORE_CTRL halt = 1 stops the core at an instruction boundary. -/
  | coreHalt (m : Master) (k : CoreId)
  /-- CORE_RESUME (R443). CORE_CTRL halt = 0 resumes a halted core. -/
  | coreResume (m : Master) (k : CoreId)
  /-- CORE_INSTRUCTION (R436). A core executes one RV32IMC or Zicsr instruction in machine mode. -/
  | coreInstruction (k : CoreId)
  /-- CORE_WFI (R443). A core executes WFI and waits for an enabled interrupt. -/
  | coreWfi (k : CoreId)
  /-- FENCE_I (R438). A core executes FENCE.I, emptying its prefetch buffer. -/
  | fenceI (k : CoreId)
  /-- CORE_INTERRUPT (R440). A pending enabled doorbell or timer interrupt is taken by a running or waiting core. -/
  | coreInterrupt (k : CoreId)
  /-- MTIMER_MATCH (R440). CORE_MTIME reaches a core's compare value and its timer interrupt becomes pending. -/
  | mtimerMatch (k : CoreId)
  /-- MTIME_READ (R440). A read of CORE_MTIME_LO latches CORE_MTIME_HI for the reading master. -/
  | mtimeRead (m : Master)
  /-- CORE_KICK (R446). A core writes CORE_KICK and restarts its watchdog. -/
  | coreKick (m : Master) (k : CoreId)
  /-- WATCHDOG_EXPIRE (R446). A core's watchdog expires: a core fault for IK0 to IK4, a reset for IK5 to IK7. -/
  | watchdogExpire (k : CoreId) (tie : Bool)
  /-- BANK_ASSIGN (R441). A CORE_ALLOC write of a non-zero count assigns the highest free run of Pond banks to an integrator core. -/
  | bankAssign (m : Master) (k : CoreId) (n : Nat)
  /-- BANK_RETURN (R441). A CORE_ALLOC write of count 0 returns the core's banks to the range. -/
  | bankReturn (m : Master) (k : CoreId)
  /-- CHANNEL_BIND (R450). An MB_CHAN write in TADPOLE binds a channel and empties its queues. -/
  | channelBind (m : Master) (c : Fin 64) (val : Nat)
  /-- CHANNEL_TABLE_LOCK (R451). A write of 1 to MBX_CFG.lock locks the channel table until reset into TADPOLE. -/
  | channelTableLock (m : Master)
  /-- MAILBOX_SEND (R452). An MB_TX write appends a word to the writer's outbound queue and rings the receiver's doorbell. -/
  | mailboxSend (m : Master) (c : Fin 64) (val : Nat)
  /-- MAILBOX_RECEIVE (R452). An MB_RX read removes and returns the oldest word of the reader's inbound queue. -/
  | mailboxReceive (m : Master) (c : Fin 64)
  /-- MAILBOX_ACK_TIMEOUT (R455). A queue's acknowledgement timer expires and rings the sender's doorbell. -/
  | mailboxAckTimeout (c : Fin 64) (ab tie : Bool)
  /-- MAILBOX_XWAIT (R456). The cross-wait timer expires with both queues non-empty and rings doorbell 31 at both ends. -/
  | mailboxXwait (c : Fin 64) (tie : Bool)
  /-- DOORBELL_RING (R459). An MBX_DB_RING write sets a doorbell bit of a master. -/
  | doorbellRing (m : Master) (val : Nat)
  /-- LOCK_ACQUIRE_READ (R462). A read of MBX_LOCK acquires a free lock for the reader or returns the holder. -/
  | lockAcquireRead (m : Master) (n : Fin 128) (tied : List Master)
  /-- LOCK_RELEASE (R462). A write of 0 to MBX_LOCK by its owner releases the lock. -/
  | lockRelease (m : Master) (n : Fin 128) (val : Nat)
  /-- LOCK_FORCE_CLEAR (R464). An MBX_LOCK_CLR write releases a lock whoever holds it and counts it forced. -/
  | lockForceClear (m : Master) (val : Nat)
  /-- PING (R467). A PING message to Walern firmware is answered with GLB_REV and the firmware version. -/
  | ping (c : Fin 6)
  /-- COMMIT (R468). A COMMIT message makes IK0 check the staged body's CRC and commit the Keep record on the sender's behalf. -/
  | commit (c : Fin 6)
  /-- LOAD_CORE (R469). A LOAD_CORE message makes IK0 load an integrator core from its loader entry. -/
  | loadCore (c : Fin 6)
  /-- LOAD_CORE_COMPLETE (R469). The load of an integrator core finishes or fails and IK0 sends the reply. -/
  | loadCoreComplete (bad : Bool)
  /-- PCIE_FUNCTION_RESET (R478). An FLR, hot reset, PERST_N low or link down resets the endpoint and master 0's state only. -/
  | pcieFunctionReset (k : PcieReset)
  /-- PCIE_D3HOT (R478). The function enters or leaves D3hot, stopping and resuming BAR decoding and MSI-X. -/
  | pcieD3hot (enter : Bool)
  /-- BAR0_REQUEST (R474). A BAR0 memory request is split into DWORD accesses in increasing order, each checked on its own. -/
  | bar0Request (a : Nat) (write : Option (List Nat)) (n : Nat) (part : List Nat)
  /-- POISONED_WRITE (R476). A received write TLP with the Poisoned bit is dropped, logged under AER and counted. -/
  | poisonedWrite
  /-- MSIX_TRIGGER (R482). A vector's condition becomes true or stays true after a W1C write, sending or pending its message. -/
  | msixTrigger (v : Fin 64) (w1c : Bool)
  /-- ERROR_CLEAR (R479). ERR_CLR bit 0 clears the reading master's error latch. -/
  | errorClear (m : Master) (val : Nat)
  /-- SIDE_PORT_POND_ACCESS (R484). A side-port access to the Pond region reads or writes a word, or sees BUSY_N. -/
  | sidePortPondAccess (a : Nat) (val : Option Nat) (pa : PortA) (found : Ecc)
  /-- SIDE_PORT_LOW_WRITE (R485). A side-port write to a register low half is held without access. -/
  | sidePortLowWrite (a val : Nat)
  /-- SIDE_PORT_HIGH_WRITE (R485). A side-port write to a high half performs one 32-bit write with the held low half. -/
  | sidePortHighWrite (a val : Nat)
  /-- SIDE_PORT_LOW_READ (R485). A side-port read of a low half performs one 32-bit read and latches the upper half. -/
  | sidePortLowRead (a : Nat) (ready : Bool)
  /-- SIDE_PORT_HIGH_READ (R485). A side-port read of a high half returns the latched upper bits. -/
  | sidePortHighRead (a : Nat)
  /-- SIDE_PORT_READ_READY (R486). Data of a busy low-half read becomes ready and BUSY_N returns high. -/
  | sidePortReadReady
  /-- XSPI_READ (R488). HIF_XSPI_CMD op 1 reads up to 16 bytes from flash. -/
  | xspiRead (m : Master) (len : Fin 16)
  /-- XSPI_PROGRAM (R489). HIF_XSPI_CMD op 2 programs bytes within one flash page. -/
  | xspiProgram (m : Master) (len : Fin 16)
  /-- XSPI_SECTOR_ERASE (R489). HIF_XSPI_CMD op 3 erases a 4 KiB sector. -/
  | xspiSectorErase (m : Master)
  /-- XSPI_BLOCK_ERASE (R489). HIF_XSPI_CMD op 4 erases a 64 KiB block. -/
  | xspiBlockErase (m : Master)
  /-- XSPI_READ_STATUS (R488). HIF_XSPI_CMD op 5 reads the flash status byte. -/
  | xspiReadStatus (m : Master)
  /-- XSPI_SOFTWARE_RESET (R488). HIF_XSPI_CMD op 6 resets the flash device. -/
  | xspiSoftwareReset (m : Master)
  /-- XSPI_OP_COMPLETE (R490). A flash operation completes and the next queued operation starts. -/
  | xspiOpComplete (status : Nat) (late : Bool)
  /-- XSPI_BUSY_TIMEOUT (R489). A program or erase whose flash busy state outlasts busy_to ends with E_STATE. -/
  | xspiBusyTimeout (status : Nat)
  /-- DMA_START (R491). HIF_DMA_CMD op 1 starts a transfer with the issuing master's rights. -/
  | dmaStart (m : Master) (ss ds : Fin 4)
  /-- DMA_ABORT (R491). HIF_DMA_CMD op 2 ends the transfer after the operation in progress. -/
  | dmaAbort (m : Master)
  /-- DMA_COMPLETE (R491). A DMA transfer ends, successfully or with an error, and reports its byte count. -/
  | dmaComplete (stop : Option Nat)
  /-- I2C_TRANSACTION (R493). An HIF_I2C_CMD write starts a write, read or write-then-read transaction. -/
  | i2cTransaction (m : Master) (n : Fin 2) (val : Nat)
  /-- I2C_COMPLETE (R493). An I2C transaction ends with success, NACK or PEC mismatch. -/
  | i2cComplete (n : Fin 2) (nack : Option Nat) (pecBad : Bool) (data : List Nat)
  /-- I2C_CLOCK_LOW_TIMEOUT (R493). SCL held low beyond the timeout ends the transaction and clocks nine pulses and a STOP. -/
  | i2cClockLowTimeout (n : Fin 2) (tie : Bool)
  /-- GPIO_ENABLE (R494). Setting an HIF_GPIO_EN bit claims the pin, and clearing it releases the claim. -/
  | gpioEnable (m : Master) (val : Nat)
  /-- GPIO_EDGE (R494). A filtered edge of the selected kind on an enabled pin sets its HIF_IRQ bit. -/
  | gpioEdge (p : Fin 16) (rise : Bool)
  /-- NTC_SAMPLE (R495). Every 10 ms each NTC input is converted and its reading updated. -/
  | ntcSample (k : Fin 4) (c : Nat)
  /-- JTAG_UPDATE_IR (R498). An instruction update puts a JTAG instruction in force, or BYPASS if refused. -/
  | jtagUpdateIr (ir : Nat)
  /-- DBG_ACCESS (R499). Update-DR of DBG_ACCESS starts a register access as master 14. -/
  | dbgAccess (op off data : Nat)
  /-- DBG_CAPTURE (R499). Capture-DR loads the last read data and status into the debug register. -/
  | dbgCapture (running : Bool)
  /-- FAULT_RAISE (R505). A fault condition is raised, recorded, counted, and contained at once or by opening, queuing or combining a recovery. -/
  | faultRaise (code inst obj : Nat)
  /-- INTEGRATOR_FAULT (R521). A FLT_RAISE write raises fault 0x7A at the stated severity. -/
  | integratorFault (m : Master) (val : Nat)
  /-- RECOVERY_COMPLETE (R507). A recovery's end condition holds; it completes and any queued fault's recovery starts. -/
  | recoveryComplete (tie : Bool)
  /-- RECOVERY_BUDGET_END (R508). A recovery's budget of six swap points ends uncompleted and it escalates one level. -/
  | recoveryBudgetEnd
  /-- REGEN_ATTEMPT_START (R515). The wait after a failed attempt ends and IK4 begins a regeneration attempt. -/
  | regenAttemptStart
  /-- REGEN_STEP_DONE (R514). A regeneration step completes and the next step runs, or the attempt fails. -/
  | regenStepDone (found : Bool)
  /-- REGEN_TIMEOUT (R514). An attempt not at step 7 within 1 s fails with E_STATE. -/
  | regenTimeout
  /-- ACCOUNTING_FLUSH (R520). At least every 10 s IK0 adds the growth of the availability and fault counts to the Keep spread counters. -/
  | accountingFlush
  /-- PLL_LOCK_LOSS (R524). A powered PLL loses lock or the crystal stops, raising fault 0x71. -/
  | pllLockLoss (k : Fin 18)
  /-- SSC_HOP_ENABLE (R528). Setting CLK_SSC.hop claims the hop timer; clearing it returns to 31.5 kHz and releases the claim. -/
  | sscHopEnable (m : Master) (val : Nat)
  /-- SSC_HOP (R528). The hop timer expires and the modulation frequency steps to the next value. -/
  | sscHop
  /-- FCLK_STEP_REQUEST (R532). A CLK_FCLK.req write requests a fabric clock step, pending if slower. -/
  | fclkStepRequest (m : Master) (req : Fin 4)
  /-- FCLK_STEP_EFFECT (R532). A requested fabric clock step takes effect at a swap point where R25 holds, switching dividers in blanking. -/
  | fclkStepEffect
  /-- AVS_STEP (R533). Every 20 µs CLK_AVS.cur moves one step toward set. -/
  | avsStep
  /-- AVS_MONITOR (R533). Every 100 µs VDD_CORE is measured; a reading off target for 1 ms sets avs_err. -/
  | avsMonitor (mv : Nat)
  /-- MONITOR_SAMPLE (R534). Every 1 ms all ageing monitors are sampled; slack below hard raises fault 0x70. -/
  | monitorSample (vals : List Nat)
  /-- MARGIN_REPLAN (R535). IK0 re-plans voltage, fabric clock and link presets at its period or after fault 0x70. -/
  | marginReplan (after70 : Bool)
  /-- PRESET_TRIAL (R536). A trial preset on a weak forward lane is measured over 16 return frames and kept or reverted. -/
  | presetTrial (n : Lane) (p : Fin 8) (fomUp hdrUp : Bool)
  /-- EYE_MEASURE (R537). A CLK_EYE_SEL write with start = 1 begins an eye measurement on one lane. -/
  | eyeMeasure (m : Master) (val : Nat)
  /-- EYE_MEASURE_DONE (R537). An eye measurement completes within 100 µs and its result appears in CLK_EYE_DATA. -/
  | eyeMeasureDone (horiz vert fom : Nat) (lost : Bool)
  /-- K_REGISTER_SAVE (R48). Walern firmware saves an accepted write of a K register to Keep within 100 ms. -/
  | kRegisterSave
  /-- VDD_AO_LOSS (R580). VDD_AO falls below its power-on reset, losing Keep's volatile store and the always-on island's state, so the next wake recalls from the shadow with a power-fail cause. -/
  | vddAoLoss
  /-- CORE_SUPPLIES_GOOD (R554). After a wake raises PWRUP_EN, VDD_CORE, VDD_SER, VDD_MEM and VDD_IO have stayed above 95 % of their minimum for 100 µs, and the core die leaves reset, taking the DARK exit into effect. -/
  | coreSuppliesGood
  /-- PCIE_LINK_UP (R471). The PCIe link completes training and comes up, making GLB, ERR and the BARs reachable by master 0 and setting HIF_PCI_STAT link up. -/
  | pcieLinkUp (speed width : Nat) (bme fnMask : Bool)
  /-- VIDEO_STREAM_LOSS (R151). The source stops sending its video stream on a trained port, which clears DPRX_STAT.stream, ends the port's valid stream and stops the tap's video. -/
  | videoStreamLoss (p : Port)
  /-- TEST_LOGIC_RESET (R497). A TRST_N low level or the TMS sequence puts the test access port in test-logic reset, selecting IDCODE and ending any boundary-scan instruction in force. -/
  | testLogicReset
deriving DecidableEq, Repr

end Sys2Proof
end

