-- ==== Sys2Proof/WellFormed.lean ====
section
/-! DEFINITION. Which operands a command can carry: widths of values, ranges of numbers that the syntax leaves unbounded, lengths of lists. -/

namespace Sys2Proof

/-- A 32-bit register value. -/
def okVal (v : Nat) : Bool := decide (v < 2 ^ 32)

/-- A BAR0 offset (64 MiB). -/
def okOff (off : Nat) : Bool := decide (off < 0x4000000)

/-- A 64-bit word number of the frame store (4 GiB). -/
def okFsWord (w : Nat) : Bool := decide (w < 2 ^ 29)

/-- Bytes. -/
def okBytes (l : List Nat) : Bool := l.all (fun b => decide (b < 256))

/-- What port A does to the word of a port-B access: a write carries its 8 bytes. -/
def PortA.wf : PortA → Bool
  | .none => true
  | .read => true
  | .write bs => okBytes bs && decide (bs.length = 8)

/-- A burst: the 48 bytes of positions 13 to 60 and a CRC-16 (R326). -/
def Burst.wf (b : Burst) : Bool := okBytes b.body && decide (b.body.length = 48) && decide (b.crc < 65536)

/-- The outcome of a boot step belongs to the step (R53). -/
def BootOutcome.wf : Nat → BootOutcome → Bool
  | _, .done => true
  | n, .march failing _ => n == 4 && failing.all (fun i => decide (i < 384))
  | n, .bootSlots _ _ _ => n == 5
  | n, .frameStore _ => n == 8
  | n, .maps _ => n == 11

/-- What a facet's data showed lies in the frame store, the row and Pond. -/
def FacetFound.wf (f : FacetFound) : Bool :=
  f.words.all (fun e => okFsWord e.1) && f.knots.all (fun x => decide (x < 8192)) &&
  f.luts.all (fun e => decide (e.1 < 14) && decide (e.2 < 8192)) && f.pond.all (fun a => decide (a < 384 * 131072))

/-- The operands of a command are ones a sender can send. -/
def Instr.wf : Instr → Bool
  | .registerWrite _ off val be => okOff off && okVal val && decide (be < 16)
  | .readClear _ off => okOff off
  | .bootStepComplete n o => decide (n ≤ 11) && BootOutcome.wf n o
  | .msWrite _ off val => okOff off && okVal val
  | .liveWrite _ off val => okOff off && okVal val
  | .liveTmgWrite _ off val => okOff off && okVal val
  | .heldWrite _ _ val => okVal val
  | .zorderApply _ val => okVal val
  | .paletteWrite _ val => okVal val
  | .layerEnableWrite _ val => okVal val
  | .testRasterWrite _ val => okVal val
  | .chkLearn _ _ val => okVal val
  | .dprxCapChange _ _ val => okVal val
  | .hpdEnableClear _ _ val => okVal val
  | .dprxLinkLock _ rate lanes _ => decide (rate < 16) && decide (lanes ≤ 4)
  | .dprxFrameStart _ f _ skew _ => decide (f.width < 65536) && decide (f.height < 65536) && okVal skew
  | .dprxLineReceive _ samples _ _ => samples.all (fun x => decide (x < 4096))
  | .selectiveUpdate _ _ _ _ _ pixels => pixels.all (fun x => decide (x < 4096))
  | .tapEnable _ val => okVal val
  | .tapDisable _ val => okVal val
  | .tapLinkParamChange _ rate lanes ssc => decide (rate < 16) && decide (lanes < 4) && decide (ssc < 2)
  | .tapDownstreamHpd _ rate lanes => decide (rate < 16) && decide (lanes ≤ 4)
  | .tapAuxNativeRead _ addr _ => decide (addr < 2 ^ 20)
  | .tapAuxNativeWrite _ addr _ => decide (addr < 2 ^ 20)
  | .tapAuxI2cRead _ addr _ => decide (addr < 128)
  | .tapAuxI2cWrite _ addr _ => decide (addr < 128)
  | .tapAuxReply _ data => okBytes data && decide (data.length ≤ 16)
  | .loopbackStart _ rate => decide (rate < 16)
  | .loopbackStop _ errs => decide (errs.length ≤ 4)
  | .layerAllocate _ granules => decide (granules < 1024)
  | .poolClaim _ val => okVal val
  | .knotWrite _ val => okVal val
  | .gridWrite _ _ val => okVal val
  | .sensingEnable _ val => okVal val
  | .capsBurst b _ => b.wf
  | .statusBurst b _ _ => b.wf
  | .senseBurst b _ => b.wf
  | .hvOvertemp temp => decide (temp < 65536)
  | .psmSample _ v => decide (v < 1024)
  | .segWideSet _ val => okVal val
  | .segWideClear _ val => okVal val
  | .bar2Write a bs => decide (a < 2 ^ 32) && bs.all (fun b => b.all (fun x => decide (x < 256))) && decide (bs.length ≤ 256)
  | .bar2Read a n ecc => decide (a < 2 ^ 32) && decide (n ≤ 4096) && ecc.all (fun e => okFsWord e.1)
  | .eccWriteback w => okFsWord w
  | .pondWindowAccess _ off val pa _ => okOff off && val.all okVal && pa.wf
  | .pondRetry pa => pa.wf
  | .marchCopyinDone ecc => ecc.all (fun e => decide (e.1 < 512))
  | .marchTestDone fail => fail.all (fun f => decide (f.1 < 512) && decide (f.2 < 72))
  | .marchBankDone fail => fail.all (fun f => decide (f.1 < 32) && decide (f.2.1 < 512) && decide (f.2.2 < 72))
  | .keepDataWrite _ val => okVal val
  | .keepPasswordWord _ val => okVal val
  | .keepRegionWrite _ _ val => okVal val
  | .recordResolve _ id _ who => decide (id < 256) && decide (who < 16)
  | .recordCommit _ id len _ who => decide (id < 256) && decide (len < 2048) && decide (who < 16)
  | .keepStageWrite _ _ val => okVal val
  | .counterAdd _ amount => decide (amount < 2 ^ 24)
  | .clockSet _ val => okVal val
  | .bankAssign _ _ n => decide (n < 128)
  | .channelBind _ _ val => okVal val
  | .mailboxSend _ _ val => okVal val
  | .doorbellRing _ val => okVal val
  | .lockRelease _ _ val => okVal val
  | .lockForceClear _ val => okVal val
  | .bar0Request a write n part =>
    a % 4 == 0 && decide (1 ≤ n ∧ n ≤ 1024) && part.all (fun i => decide (i < n)) &&
      (match write with
        | some w => decide (w.length = n) && w.all okVal
        | none => true)
  | .errorClear _ val => okVal val
  | .sidePortPondAccess a val pa _ => decide (a < 0x80000) && val.all (fun v => decide (v < 65536)) && pa.wf
  | .sidePortLowWrite a val => decide (0x80000 ≤ a ∧ a < 0x100000) && a % 2 == 0 && decide (val < 65536)
  | .sidePortHighWrite a val => decide (0x80000 ≤ a ∧ a < 0x100000) && a % 2 == 1 && decide (val < 65536)
  | .sidePortLowRead a _ => decide (0x80000 ≤ a ∧ a < 0x100000) && a % 2 == 0
  | .sidePortHighRead a => decide (0x80000 ≤ a ∧ a < 0x100000) && a % 2 == 1
  | .xspiOpComplete status _ => decide (status < 256)
  | .xspiBusyTimeout status => decide (status < 256)
  | .i2cTransaction _ _ val => okVal val
  | .i2cComplete _ nack _ data => nack.all (fun k => decide (k < 16)) && okBytes data && decide (data.length ≤ 8)
  | .gpioEnable _ val => okVal val
  | .ntcSample _ c => decide (c < 4096)
  | .jtagUpdateIr ir => decide (ir < 256)
  | .dbgAccess op off data => decide (op < 4) && okOff off && okVal data
  | .faultRaise code inst _ => decide (code < 256) && decide (inst < 256)
  | .integratorFault _ val => okVal val
  | .sscHopEnable _ val => okVal val
  | .monitorSample vals => decide (vals.length = 216) && vals.all (fun v => decide (v < 65536))
  | .eyeMeasure _ val => okVal val
  | .pcieLinkUp speed width _ _ => decide (speed < 16) && decide (width < 8)
  | .facetDataArrive _ f => f.wf
  | .islandReady i _ => decide (i < 64)
  | .islandDone i => decide (i < 64)
  | _ => true

end Sys2Proof
end

