-- ==== Sys2Proof/Decode.lean ====
section
/-! DEFINITION. The command that a word spells by the bits of spec/opcode_table.json. The table gives no row any bits (every row's list of fields is empty), so no word spells a command. -/

namespace Sys2Proof

/-- The rows to which the table gives bits: mnemonic, mask, pattern and command. There is none. -/
def tableRows : List (Nat × Nat × Nat × Instr) := []

/-- The command that a word of `nbits` bits spells: that of the first row of that length whose pattern it has. -/
def decodeTableWord (nbits w : Nat) : Option Instr :=
  (tableRows.find? (fun r => r.1 == nbits && (w &&& r.2.1) == r.2.2.1)).map (fun r => r.2.2.2)

end Sys2Proof
end

