-- ==== Sys2Proof/Machine/Crypto.lean ====
section
/-! DEFINITION. The check codes of the controller: CRC-32 of IEEE 802.3, the other CRCs of the links and records, SHA-256 (FIPS 180-4) and ECDSA over P-256 (FIPS 186-5), the standards that spec/00_scope.md names. -/

namespace Sys2Proof.Machine

/-! ## Cyclic redundancy checks -/

/-- One bit of a reflected CRC-32: polynomial 0x04C11DB7, reflected 0xEDB88320. -/
def crc32Bit (c : Nat) : Nat := if c % 2 = 1 then (c / 2) ^^^ 0xEDB88320 else c / 2

/-- One byte of a running CRC-32. -/
def crc32Byte (c b : Nat) : Nat :=
  let x := c ^^^ (b % 256)
  crc32Bit (crc32Bit (crc32Bit (crc32Bit (crc32Bit (crc32Bit (crc32Bit (crc32Bit x)))))))

/-- A running CRC-32 continued over bytes; the start value is 0xFFFFFFFF and the end is complemented by `crc32`. -/
def crc32Run (c : Nat) (bs : List Nat) : Nat := bs.foldl crc32Byte c

/-- CRC-32 of IEEE 802.3 over bytes. -/
def crc32 (bs : List Nat) : Nat := crc32Run 0xFFFFFFFF bs ^^^ 0xFFFFFFFF

/-- One bit of an unreflected CRC of width `w` with polynomial `p`. -/
def crcBit (w p c : Nat) : Nat :=
  if 2 ^ (w - 1) ≤ c % 2 ^ w then ((2 * c) % 2 ^ w) ^^^ p else (2 * c) % 2 ^ w

/-- One byte of an unreflected CRC of width `w` (at least 8), most significant bit first. -/
def crcByte (w p c b : Nat) : Nat :=
  let f := crcBit w p
  f (f (f (f (f (f (f (f (c ^^^ ((b % 256) * 2 ^ (w - 8)))))))))) % 2 ^ w

/-- An unreflected CRC of width `w`, polynomial `p`, start value `c0`, with no final complement. -/
def crcRun (w p c0 : Nat) (bs : List Nat) : Nat := bs.foldl (crcByte w p) c0

/-! ## SHA-256 -/

/-- The first 32 bits of the fractional parts of the cube roots of the first 64 primes. -/
def sha256K : List Nat :=
  [ 0x428a2f98, 0x71374491, 0xb5c0fbcf, 0xe9b5dba5, 0x3956c25b, 0x59f111f1, 0x923f82a4, 0xab1c5ed5,
    0xd807aa98, 0x12835b01, 0x243185be, 0x550c7dc3, 0x72be5d74, 0x80deb1fe, 0x9bdc06a7, 0xc19bf174 ] ++
  [ 0xe49b69c1, 0xefbe4786, 0x0fc19dc6, 0x240ca1cc, 0x2de92c6f, 0x4a7484aa, 0x5cb0a9dc, 0x76f988da,
    0x983e5152, 0xa831c66d, 0xb00327c8, 0xbf597fc7, 0xc6e00bf3, 0xd5a79147, 0x06ca6351, 0x14292967 ] ++
  [ 0x27b70a85, 0x2e1b2138, 0x4d2c6dfc, 0x53380d13, 0x650a7354, 0x766a0abb, 0x81c2c92e, 0x92722c85,
    0xa2bfe8a1, 0xa81a664b, 0xc24b8b70, 0xc76c51a3, 0xd192e819, 0xd6990624, 0xf40e3585, 0x106aa070 ] ++
  [ 0x19a4c116, 0x1e376c08, 0x2748774c, 0x34b0bcb5, 0x391c0cb3, 0x4ed8aa4a, 0x5b9cca4f, 0x682e6ff3,
    0x748f82ee, 0x78a5636f, 0x84c87814, 0x8cc70208, 0x90befffa, 0xa4506ceb, 0xbef9a3f7, 0xc67178f2 ]

/-- The initial hash value of SHA-256. -/
def sha256H0 : List Nat :=
  [0x6a09e667, 0xbb67ae85, 0x3c6ef372, 0xa54ff53a, 0x510e527f, 0x9b05688c, 0x1f83d9ab, 0x5be0cd19]

/-- Rotate a 32-bit number right. -/
def rotr32 (x n : Nat) : Nat := ((x >>> n) ||| (x <<< (32 - n))) % 2 ^ 32

/-- Extend the message schedule by `n` words; the list holds the words so far, newest first. -/
def sha256Extend : Nat → List Nat → List Nat
  | 0, w => w
  | n + 1, w =>
    let a := w.getD 14 0
    let b := w.getD 1 0
    let s0 := rotr32 a 7 ^^^ rotr32 a 18 ^^^ (a >>> 3)
    let s1 := rotr32 b 17 ^^^ rotr32 b 19 ^^^ (b >>> 10)
    sha256Extend n (((w.getD 15 0 + s0 + w.getD 6 0 + s1) % 2 ^ 32) :: w)

/-- The eight working variables after one round. -/
def sha256Round (v : List Nat) (kw : Nat × Nat) : List Nat :=
  match v with
  | [a, b, c, d, e, f, g, h] =>
    let s1 := rotr32 e 6 ^^^ rotr32 e 11 ^^^ rotr32 e 25
    let ch := (e &&& f) ^^^ ((0xFFFFFFFF ^^^ e) &&& g)
    let t1 := (h + s1 + ch + kw.1 + kw.2) % 2 ^ 32
    let s0 := rotr32 a 2 ^^^ rotr32 a 13 ^^^ rotr32 a 22
    let maj := (a &&& b) ^^^ (a &&& c) ^^^ (b &&& c)
    [(t1 + s0 + maj) % 2 ^ 32, a, b, c, (d + t1) % 2 ^ 32, e, f, g]
  | _ => v

/-- The big-endian number that bytes spell. -/
def beNat (bs : List Nat) : Nat := bs.foldl (fun n b => n * 256 + b % 256) 0

/-- The little-endian number that bytes spell. -/
def leNat : List Nat → Nat
  | [] => 0
  | b :: bs => b % 256 + 256 * leNat bs

/-- `n` as `k` big-endian bytes. -/
def beBytes : Nat → Nat → List Nat
  | 0, _ => []
  | k + 1, n => (n / 256 ^ k) % 256 :: beBytes k n

/-- `n` as `k` little-endian bytes. -/
def leBytes : Nat → Nat → List Nat
  | 0, _ => []
  | k + 1, n => n % 256 :: leBytes k (n / 256)

/-- Cut a list into pieces of `k`, with fuel. -/
def chunks {α : Type} (k : Nat) : Nat → List α → List (List α)
  | 0, _ => []
  | n + 1, l => if l.isEmpty then [] else l.take k :: chunks k n (l.drop k)

/-- One 64-byte block of SHA-256. -/
def sha256Block (h : List Nat) (blk : List Nat) : List Nat :=
  let w := (sha256Extend 48 ((chunks 4 16 blk).map beNat).reverse).reverse
  let v := (sha256K.zip w).foldl sha256Round h
  (h.zip v).map (fun p => (p.1 + p.2) % 2 ^ 32)

/-- The padding of FIPS 180-4 after a message of `n` bytes. -/
def sha256Pad (n : Nat) : List Nat :=
  0x80 :: List.replicate ((119 - n % 64) % 64) 0 ++ beBytes 8 (8 * n)

/-- SHA-256 of bytes, as 32 bytes. -/
def sha256 (msg : List Nat) : List Nat :=
  let m := msg ++ sha256Pad msg.length
  ((chunks 64 (m.length / 64) m).foldl sha256Block sha256H0).flatMap (beBytes 4)

/-! ## ECDSA over P-256 -/

/-- The prime of the field of P-256. -/
def p256P : Nat := 0xFFFFFFFF00000001000000000000000000000000FFFFFFFFFFFFFFFFFFFFFFFF

/-- The order of the base point of P-256. -/
def p256N : Nat := 0xFFFFFFFF00000000FFFFFFFFFFFFFFFFBCE6FAADA7179E84F3B9CAC2FC632551

/-- The coefficient b of P-256; a is −3. -/
def p256B : Nat := 0x5AC635D8AA3A93E7B3EBBD55769886BC651D06B0CC53B0F63BCE3C3E27D2604B

/-- The base point of P-256. -/
def p256G : Nat × Nat :=
  (0x6B17D1F2E12C4247F8BCE6E563A440F277037D812DEB33A0F4A13945D898C296,
   0x4FE342E2FE1A7F9B8EE7EB4A7C0F9E162BCE33576B315ECECBB6406837BF51F5)

/-- Modular power over the low `k` bits of `e`. -/
def powMod (m : Nat) : Nat → Nat → Nat → Nat
  | 0, _, _ => 1 % m
  | k + 1, b, e =>
    let r := powMod m k (b * b % m) (e / 2)
    if e % 2 = 1 then b * r % m else r

/-- The inverse modulo a prime below 2^256 (Fermat). -/
def invMod (m a : Nat) : Nat := powMod m 256 (a % m) (m - 2)

/-- Addition on P-256; none is the point at infinity. -/
def p256Add (u v : Option (Nat × Nat)) : Option (Nat × Nat) :=
  match u, v with
  | none, q => q
  | q, none => q
  | some (x1, y1), some (x2, y2) =>
    let p := p256P
    if x1 = x2 ∧ (y1 + y2) % p = 0 then none
    else
      let l := if x1 = x2 then (3 * x1 * x1 + (p - 3)) * invMod p (2 * y1) % p
               else (y2 + p - y1) * invMod p (x2 + p - x1) % p
      let x3 := (l * l + 2 * p - x1 - x2) % p
      some (x3, (l * (x1 + p - x3) + p - y1) % p)

/-- Scalar multiplication over the low `k` bits of `e`. -/
def p256Mul : Nat → Nat → Option (Nat × Nat) → Option (Nat × Nat)
  | 0, _, _ => none
  | k + 1, e, q =>
    let r := p256Mul k (e / 2) (p256Add q q)
    if e % 2 = 1 then p256Add q r else r

/-- Whether a public key is a point of the curve. -/
def p256OnCurve (x y : Nat) : Bool :=
  decide (x < p256P ∧ y < p256P ∧ y * y % p256P = (x * x * x + (p256P - 3) * x + p256B) % p256P)

/-- ECDSA verification of signature (r, s) over the digest number `e` with public key (x, y). -/
def ecdsaVerify (e r s x y : Nat) : Bool :=
  let n := p256N
  if r = 0 ∨ n ≤ r ∨ s = 0 ∨ n ≤ s then false
  else if !p256OnCurve x y then false
  else
    let w := invMod n s
    let u1 := e % n * w % n
    let u2 := r * w % n
    match p256Add (p256Mul 256 u1 (some p256G)) (p256Mul 256 u2 (some (x, y))) with
    | none => false
    | some (xr, _) => decide (xr % n = r)

end Sys2Proof.Machine
end

