-- ==== Sys2Proof/Config.lean ====
section
/-! DEFINITION. The free values: what the spec leaves open, as constants without a body. Each is applied to the model's own counter `free` of State (and to the operands it may depend on), so that no statement can rest on a number. -/

namespace Sys2Proof

/-- A word the spec does not state (an undefined read, an unstated layout). The first argument is the counter, the second the place. -/
opaque Config.freeWord : Nat → Nat → Word

/-- A byte the spec does not state. -/
opaque Config.freeByte : Nat → Nat → Byte

/-- A natural number below the second argument plus one that the spec does not state. -/
opaque Config.freeNat : Nat → Nat → Nat

/-- A choice the spec leaves to an arbiter or to a true tie (R22, R35). -/
opaque Config.freeBool : Nat → Bool

/-- Whether mtval holds the instruction's bits, rather than 0, after an illegal-instruction exception: the privileged architecture leaves it to each implementation (R436). -/
opaque Config.mtvalBits : Bool

end Sys2Proof
end

