-- ==== Sys2Proof/Machine/PrismSet.lean ====
section
/-! DEFINITION. The decoded content of a Prism image (spec/03_prism_image_mirror.md): the structure half of a set. -/

namespace Sys2Proof.Machine

/-- One facet slot of a stripe (R64): stage kind, LUT block (0xFFFF for none), pool units. -/
structure SlotCfg where
  kind : Nat := 0
  lut : Nat := 0xFFFF
  pool : Nat := 0
deriving DecidableEq, Repr, Inhabited

/-- One stripe of the FACET section (R64). -/
structure StripeCfg where
  comp : Nat := 3
  firstCol : Nat := 0
  width : Nat := 0
  slots : List SlotCfg := []
deriving DecidableEq, Repr, Inhabited

/-- One WIRING entry (R67). -/
structure WireCfg where
  stripe : Nat := 0
  left : Nat := 0
  right : Nat := 0
  mask : Nat := 0
deriving DecidableEq, Repr, Inhabited

/-- One LUT block (R68): kind 1 is 1D, kind 2 is 3D. -/
structure LutBlock where
  ident : Nat := 0
  kind : Nat := 1
  split : Bool := false
  entries : List Nat := []
deriving DecidableEq, Repr, Inhabited

/-- The lane entry of one stripe (R69): forward lane, return lane, return slot. -/
structure LaneEntry where
  lane : Nat := 0
  ret : Nat := 0
  slot : Nat := 0
deriving DecidableEq, Repr, Inhabited

/-- One spare lane with the stripes whose driver chips receive it (R69). -/
structure SpareEntry where
  lane : Nat := 0
  mask : Nat := 0
deriving DecidableEq, Repr, Inhabited

/-- One claim of the CLAIMS section (R70). -/
structure Claim where
  cls : Nat := 0
  feature : Nat := 0
  first : Nat := 0
  count : Nat := 0
deriving DecidableEq, Repr, Inhabited

/-- A decoded Prism image; the reset value holds no stripe. -/
structure PrismSet where
  stripes : List StripeCfg := []
  wires : List WireCfg := []
  luts : List LutBlock := []
  lanes : List LaneEntry := []
  spares : List SpareEntry := []
  claims : List Claim := []
  presets : List (Nat × Nat) := []
  version : Nat := 0
  digest : List Nat := []
deriving DecidableEq, Repr, Inhabited

/-- Whether a claim covers index `i` of class `c`. -/
def Claim.covers (k : Claim) (c i : Nat) : Bool := k.cls == c && decide (k.first ≤ i) && decide (i < k.first + k.count)

/-- The claim of a set on a resource, if any. -/
def PrismSet.claimOf (p : PrismSet) (c i : Nat) : Option Claim := p.claims.find? (fun k => k.covers c i)

/-- The tap widths and mask of a stripe; a stripe without an entry has no taps (WIRING section). -/
def PrismSet.wire (p : PrismSet) (s : Nat) : WireCfg :=
  match p.wires.find? (fun w => w.stripe == s) with
  | some w => w
  | none => { stripe := s }

/-- The LUT block of an identifier. -/
def PrismSet.lut (p : PrismSet) (ident : Nat) : Option LutBlock := p.luts.find? (fun b => b.ident == ident)

/-- The slots of a stripe that hold a stage kind. -/
def StripeCfg.slotsOf (s : StripeCfg) (kind : Nat) : List SlotCfg := s.slots.filter (fun c => c.kind == kind)

/-- Whether a stripe holds a stage kind. -/
def StripeCfg.has (s : StripeCfg) (kind : Nat) : Bool := s.slots.any (fun c => c.kind == kind)

/-- The components per pixel at the packer: the q of R203's table in a stripe with subpixel rendering, else comp (R190). -/
def StripeCfg.q (s : StripeCfg) (sprMode : Nat) : Nat :=
  if s.has 6 then (if sprMode = 2 then 2 else 3) else s.comp

/-- The pipeline depth of a stage kind in FCLK cycles (R192). -/
def kindDepth (k : Nat) : Nat :=
  match k with
  | 0 => 1 | 1 => 12 | 2 => 8 | 3 => 6 | 4 => 4 | 5 => 10 | 6 => 6 | 7 => 8 | 8 => 6 | 9 => 8 | 10 => 6 | 11 => 6 | 12 => 4
  | _ => 0

/-- The depth of a stripe: the sum of its slot depths (R219). -/
def StripeCfg.depth (s : StripeCfg) : Nat := (s.slots.map (fun c => kindDepth c.kind)).sum

/-- The units of class `c` that a set claims. -/
def PrismSet.claimed (p : PrismSet) (c : Nat) : Nat :=
  ((p.claims.filter (fun k => k.cls == c)).map (fun k => k.count)).sum

/-- The stripe clusters powered by a set: those its image claims (R23, R189). -/
def PrismSet.clusterMask (p : PrismSet) : Nat :=
  ((List.range 12).map (fun k => if (p.claimOf 1 k).isSome then 2 ^ k else 0)).sum

end Sys2Proof.Machine
end

