-- ==== Sys2Proof/Machine/Registers.lean ====
section
/-! DEFINITION. The register index of R544: offsets in BAR0, fields, access masks, write classes (R545) and reset values. Written from spec/19_register_map.md and the field tables of the owning chapters. -/

namespace Sys2Proof.Machine

/-- A field: the register's BAR0 offset and the bits `hi` down to `lo`. -/
structure Fld where
  off : Nat
  hi : Nat
  lo : Nat
deriving DecidableEq, Repr

/-- When a written value acts (R58, R545). -/
inductive WClass where
  /-- Takes effect at once. -/
  | imm
  /-- Frame-latched: takes effect at the next vertical swap point (R59). -/
  | frame
  /-- Mirror set: takes effect at the next swap (R81). -/
  | mirror
  /-- Live (R97). -/
  | live
deriving DecidableEq, Repr

/-- One row of the register index: `n1` instances at stride `s1` of `n2` instances at stride `s2`, the bits of each access type of R7 (a bit in no mask is reserved, R8), the write class and the reset value. -/
structure RegRow where
  off : Nat
  n1 : Nat
  s1 : Nat
  n2 : Nat
  s2 : Nat
  /-- RW, LV, MS and LK bits. -/
  rw : Nat
  w1c : Nat
  rc : Nat
  wo : Nat
  ro : Nat
  cls : WClass
  reset : Nat
deriving DecidableEq, Repr

/-! ## GLB -/

abbrev GLB_ID : Nat := 0x0
abbrev GLB_ID_family : Fld := ⟨GLB_ID, 31, 16⟩
abbrev GLB_ID_device : Fld := ⟨GLB_ID, 15, 0⟩
abbrev GLB_REV : Nat := 0x4
abbrev GLB_REV_rom : Fld := ⟨GLB_REV, 15, 8⟩
abbrev GLB_REV_metal : Fld := ⟨GLB_REV, 7, 4⟩
abbrev GLB_REV_step : Fld := ⟨GLB_REV, 3, 0⟩
abbrev GLB_MODE : Nat := 0x10
abbrev GLB_MODE_state : Fld := ⟨GLB_MODE, 2, 0⟩
abbrev GLB_MODE_STAT : Nat := 0x18
abbrev GLB_MODE_STAT_aborted : Fld := ⟨GLB_MODE_STAT, 15, 8⟩
abbrev GLB_MODE_STAT_busy : Fld := ⟨GLB_MODE_STAT, 3, 3⟩
abbrev GLB_MODE_STAT_target : Fld := ⟨GLB_MODE_STAT, 2, 0⟩
abbrev GLB_MODE_CAUSE : Nat := 0x1c
abbrev GLB_MODE_CAUSE_prev : Fld := ⟨GLB_MODE_CAUSE, 6, 4⟩
abbrev GLB_MODE_CAUSE_cause : Fld := ⟨GLB_MODE_CAUSE, 3, 0⟩
abbrev GLB_BOOT_STAT : Nat := 0x2c
abbrev GLB_BOOT_STAT_prism_slot : Fld := ⟨GLB_BOOT_STAT, 25, 25⟩
abbrev GLB_BOOT_STAT_boot_slot : Fld := ⟨GLB_BOOT_STAT, 24, 24⟩
abbrev GLB_BOOT_STAT_err : Fld := ⟨GLB_BOOT_STAT, 23, 16⟩
abbrev GLB_BOOT_STAT_done : Fld := ⟨GLB_BOOT_STAT, 9, 9⟩
abbrev GLB_BOOT_STAT_halted : Fld := ⟨GLB_BOOT_STAT, 8, 8⟩
abbrev GLB_BOOT_STAT_code : Fld := ⟨GLB_BOOT_STAT, 7, 0⟩
abbrev GLB_BOOT_STEPS : Nat := 0x30
abbrev GLB_BOOT_STEPS_step : Fld := ⟨GLB_BOOT_STEPS, 11, 1⟩
abbrev GLB_BOOT_TIME : Nat := 0x34
abbrev GLB_BOOT_TIME_us : Fld := ⟨GLB_BOOT_TIME, 31, 0⟩
abbrev GLB_MODE_REQ : Nat := 0x14
abbrev GLB_MODE_REQ_target : Fld := ⟨GLB_MODE_REQ, 2, 0⟩
abbrev GLB_WAKE_CFG : Nat := 0x20
abbrev GLB_WAKE_CFG_filter : Fld := ⟨GLB_WAKE_CFG, 10, 8⟩
abbrev GLB_WAKE_CFG_supply_en : Fld := ⟨GLB_WAKE_CFG, 3, 3⟩
abbrev GLB_WAKE_CFG_alarm_en : Fld := ⟨GLB_WAKE_CFG, 2, 2⟩
abbrev GLB_WAKE_CFG_pin1_en : Fld := ⟨GLB_WAKE_CFG, 1, 1⟩
abbrev GLB_WAKE_CFG_pin0_en : Fld := ⟨GLB_WAKE_CFG, 0, 0⟩
abbrev GLB_WAKE_ALARM : Nat := 0x24
abbrev GLB_WAKE_ALARM_seconds : Fld := ⟨GLB_WAKE_ALARM, 31, 0⟩
abbrev GLB_BOOT_CFG : Nat := 0x28
abbrev GLB_BOOT_CFG_slot : Fld := ⟨GLB_BOOT_CFG, 1, 1⟩
abbrev GLB_BOOT_CFG_hold : Fld := ⟨GLB_BOOT_CFG, 0, 0⟩

/-- The rows of the GLB block. -/
def glbRows : List RegRow :=
  [ ⟨0x0, 1, 0x4, 1, 0x4, 0x0, 0x0, 0x0, 0x0, 0xffffffff, .imm, 0x18120⟩,
    ⟨0x4, 1, 0x4, 1, 0x4, 0x0, 0x0, 0x0, 0x0, 0xffff, .imm, 0x102⟩,
    ⟨0x10, 1, 0x4, 1, 0x4, 0x0, 0x0, 0x0, 0x0, 0x7, .imm, 0x1⟩,
    ⟨0x18, 1, 0x4, 1, 0x4, 0x0, 0x0, 0x0, 0x0, 0xff0f, .imm, 0x1⟩,
    ⟨0x1c, 1, 0x4, 1, 0x4, 0x0, 0x0, 0x0, 0x0, 0x7f, .imm, 0x0⟩,
    ⟨0x2c, 1, 0x4, 1, 0x4, 0x0, 0x0, 0x0, 0x0, 0x3ff03ff, .imm, 0x2⟩,
    ⟨0x30, 1, 0x4, 1, 0x4, 0x0, 0x0, 0x0, 0x0, 0xffe, .imm, 0x2⟩,
    ⟨0x34, 1, 0x4, 1, 0x4, 0x0, 0x0, 0x0, 0x0, 0xffffffff, .imm, 0x0⟩,
    ⟨0x14, 1, 0x4, 1, 0x4, 0x7, 0x0, 0x0, 0x0, 0x0, .imm, 0x1⟩,
    ⟨0x20, 1, 0x4, 1, 0x4, 0x70f, 0x0, 0x0, 0x0, 0x0, .imm, 0x501⟩,
    ⟨0x24, 1, 0x4, 1, 0x4, 0xffffffff, 0x0, 0x0, 0x0, 0x0, .imm, 0x0⟩,
    ⟨0x28, 1, 0x4, 1, 0x4, 0x3, 0x0, 0x0, 0x0, 0x0, .imm, 0x0⟩ ]

/-! ## ERR -/

abbrev ERR_CODE : Nat := 0x10000
abbrev ERR_CODE_space : Fld := ⟨ERR_CODE, 13, 12⟩
abbrev ERR_CODE_ovf : Fld := ⟨ERR_CODE, 8, 8⟩
abbrev ERR_CODE_code : Fld := ⟨ERR_CODE, 7, 0⟩
abbrev ERR_ADDR : Nat := 0x10004
abbrev ERR_ADDR_addr : Fld := ⟨ERR_ADDR, 31, 0⟩
abbrev ERR_VIEW_CODE (i : Nat) : Nat := 0x10100 + 0x8 * i
abbrev ERR_VIEW_CODE_code (i : Nat) : Fld := ⟨(ERR_VIEW_CODE i), 7, 0⟩
abbrev ERR_VIEW_CODE_ovf (i : Nat) : Fld := ⟨(ERR_VIEW_CODE i), 8, 8⟩
abbrev ERR_VIEW_CODE_space (i : Nat) : Fld := ⟨(ERR_VIEW_CODE i), 13, 12⟩
abbrev ERR_VIEW_ADDR (i : Nat) : Nat := 0x10104 + 0x8 * i
abbrev ERR_VIEW_ADDR_val (i : Nat) : Fld := ⟨(ERR_VIEW_ADDR i), 31, 0⟩
abbrev ERR_CLR : Nat := 0x10008
abbrev ERR_CLR_clr : Fld := ⟨ERR_CLR, 0, 0⟩
abbrev ERR_CTRL : Nat := 0x1000c
abbrev ERR_CTRL_irq : Fld := ⟨ERR_CTRL, 0, 0⟩
abbrev ERR_CNT (i : Nat) : Nat := 0x10200 + 0x4 * i
abbrev ERR_CNT_cnt (i : Nat) : Fld := ⟨(ERR_CNT i), 15, 0⟩

/-- The rows of the ERR block. -/
def errRows : List RegRow :=
  [ ⟨0x10000, 1, 0x4, 1, 0x4, 0x0, 0x0, 0x0, 0x0, 0x31ff, .imm, 0x0⟩,
    ⟨0x10004, 1, 0x4, 1, 0x4, 0x0, 0x0, 0x0, 0x0, 0xffffffff, .imm, 0x0⟩,
    ⟨0x10100, 15, 0x8, 1, 0x4, 0x0, 0x0, 0x0, 0x0, 0x31ff, .imm, 0x0⟩,
    ⟨0x10104, 15, 0x8, 1, 0x4, 0x0, 0x0, 0x0, 0x0, 0xffffffff, .imm, 0x0⟩,
    ⟨0x10008, 1, 0x4, 1, 0x4, 0x0, 0x0, 0x0, 0x1, 0x0, .imm, 0x0⟩,
    ⟨0x1000c, 1, 0x4, 1, 0x4, 0x1, 0x0, 0x0, 0x0, 0x0, .imm, 0x0⟩,
    ⟨0x10200, 15, 0x4, 1, 0x4, 0x0, 0x0, 0xffff, 0x0, 0x0, .imm, 0x0⟩ ]

/-! ## DPRX -/

abbrev DPRX_CTRL (i : Nat) : Nat := 0x20000 + 0x4000 * i
abbrev DPRX_CTRL_hpd_en (i : Nat) : Fld := ⟨(DPRX_CTRL i), 16, 16⟩
abbrev DPRX_CTRL_su_cap (i : Nat) : Fld := ⟨(DPRX_CTRL i), 10, 10⟩
abbrev DPRX_CTRL_pr_cap (i : Nat) : Fld := ⟨(DPRX_CTRL i), 9, 9⟩
abbrev DPRX_CTRL_as_cap (i : Nat) : Fld := ⟨(DPRX_CTRL i), 8, 8⟩
abbrev DPRX_CTRL_max_lanes (i : Nat) : Fld := ⟨(DPRX_CTRL i), 5, 4⟩
abbrev DPRX_CTRL_max_rate (i : Nat) : Fld := ⟨(DPRX_CTRL i), 3, 0⟩
abbrev DPRX_LOCK_TO (i : Nat) : Nat := 0x20020 + 0x4000 * i
abbrev DPRX_LOCK_TO_ms (i : Nat) : Fld := ⟨(DPRX_LOCK_TO i), 7, 0⟩
abbrev DPRX_IRQ_EN (i : Nat) : Nat := 0x20034 + 0x4000 * i
abbrev DPRX_IRQ_EN_late (i : Nat) : Fld := ⟨(DPRX_IRQ_EN i), 5, 5⟩
abbrev DPRX_IRQ_EN_edid (i : Nat) : Fld := ⟨(DPRX_IRQ_EN i), 4, 4⟩
abbrev DPRX_IRQ_EN_pr_exit (i : Nat) : Fld := ⟨(DPRX_IRQ_EN i), 3, 3⟩
abbrev DPRX_IRQ_EN_pr_entry (i : Nat) : Fld := ⟨(DPRX_IRQ_EN i), 2, 2⟩
abbrev DPRX_IRQ_EN_lost (i : Nat) : Fld := ⟨(DPRX_IRQ_EN i), 1, 1⟩
abbrev DPRX_IRQ_EN_valid (i : Nat) : Fld := ⟨(DPRX_IRQ_EN i), 0, 0⟩
abbrev DPRX_EDID_LEN (i : Nat) : Nat := 0x20040 + 0x4000 * i
abbrev DPRX_EDID_LEN_len (i : Nat) : Fld := ⟨(DPRX_EDID_LEN i), 10, 0⟩
abbrev DPRX_EDID (i : Nat) (j : Nat) : Nat := 0x20400 + 0x4000 * i + 0x4 * j
abbrev DPRX_EDID_data (i : Nat) (j : Nat) : Fld := ⟨(DPRX_EDID i j), 31, 0⟩
abbrev DPRX_STAT (i : Nat) : Nat := 0x20004 + 0x4000 * i
abbrev DPRX_STAT_lanes (i : Nat) : Fld := ⟨(DPRX_STAT i), 18, 16⟩
abbrev DPRX_STAT_rate (i : Nat) : Fld := ⟨(DPRX_STAT i), 11, 8⟩
abbrev DPRX_STAT_pr (i : Nat) : Fld := ⟨(DPRX_STAT i), 5, 5⟩
abbrev DPRX_STAT_lost (i : Nat) : Fld := ⟨(DPRX_STAT i), 4, 4⟩
abbrev DPRX_STAT_valid (i : Nat) : Fld := ⟨(DPRX_STAT i), 3, 3⟩
abbrev DPRX_STAT_stream (i : Nat) : Fld := ⟨(DPRX_STAT i), 2, 2⟩
abbrev DPRX_STAT_trained (i : Nat) : Fld := ⟨(DPRX_STAT i), 1, 1⟩
abbrev DPRX_STAT_hpd (i : Nat) : Fld := ⟨(DPRX_STAT i), 0, 0⟩
abbrev DPRX_STREAM (i : Nat) : Nat := 0x20008 + 0x4000 * i
abbrev DPRX_STREAM_colorimetry (i : Nat) : Fld := ⟨(DPRX_STREAM i), 31, 24⟩
abbrev DPRX_STREAM_supported (i : Nat) : Fld := ⟨(DPRX_STREAM i), 16, 16⟩
abbrev DPRX_STREAM_bpc (i : Nat) : Fld := ⟨(DPRX_STREAM i), 5, 4⟩
abbrev DPRX_STREAM_colour (i : Nat) : Fld := ⟨(DPRX_STREAM i), 1, 0⟩
abbrev DPRX_SIZE (i : Nat) : Nat := 0x2000c + 0x4000 * i
abbrev DPRX_SIZE_width (i : Nat) : Fld := ⟨(DPRX_SIZE i), 15, 0⟩
abbrev DPRX_SIZE_height (i : Nat) : Fld := ⟨(DPRX_SIZE i), 31, 16⟩
abbrev DPRX_FPERIOD (i : Nat) : Nat := 0x20010 + 0x4000 * i
abbrev DPRX_FPERIOD_val (i : Nat) : Fld := ⟨(DPRX_FPERIOD i), 31, 0⟩
abbrev DPRX_SKEW (i : Nat) : Nat := 0x20014 + 0x4000 * i
abbrev DPRX_SKEW_val (i : Nat) : Fld := ⟨(DPRX_SKEW i), 31, 0⟩
abbrev DPRX_SU_CNT (i : Nat) : Nat := 0x20028 + 0x4000 * i
abbrev DPRX_SU_CNT_val (i : Nat) : Fld := ⟨(DPRX_SU_CNT i), 31, 0⟩
abbrev DPRX_EDID_STAT (i : Nat) : Nat := 0x20048 + 0x4000 * i
abbrev DPRX_EDID_STAT_err (i : Nat) : Fld := ⟨(DPRX_EDID_STAT i), 15, 8⟩
abbrev DPRX_EDID_STAT_done (i : Nat) : Fld := ⟨(DPRX_EDID_STAT i), 1, 1⟩
abbrev DPRX_EDID_STAT_busy (i : Nat) : Fld := ⟨(DPRX_EDID_STAT i), 0, 0⟩
abbrev DPRX_LINK_EVT (i : Nat) : Nat := 0x20018 + 0x4000 * i
abbrev DPRX_LINK_EVT_losses (i : Nat) : Fld := ⟨(DPRX_LINK_EVT i), 31, 24⟩
abbrev DPRX_LINK_EVT_timeouts (i : Nat) : Fld := ⟨(DPRX_LINK_EVT i), 23, 16⟩
abbrev DPRX_LINK_EVT_early (i : Nat) : Fld := ⟨(DPRX_LINK_EVT i), 15, 8⟩
abbrev DPRX_LINK_EVT_retrains (i : Nat) : Fld := ⟨(DPRX_LINK_EVT i), 7, 0⟩
abbrev DPRX_FEC_CNT (i : Nat) : Nat := 0x2001c + 0x4000 * i
abbrev DPRX_FEC_CNT_corr (i : Nat) : Fld := ⟨(DPRX_FEC_CNT i), 15, 0⟩
abbrev DPRX_FEC_CNT_uncorr (i : Nat) : Fld := ⟨(DPRX_FEC_CNT i), 31, 16⟩
abbrev DPRX_LATE (i : Nat) : Nat := 0x20024 + 0x4000 * i
abbrev DPRX_LATE_lock (i : Nat) : Fld := ⟨(DPRX_LATE i), 0, 0⟩
abbrev DPRX_IRQ (i : Nat) : Nat := 0x20030 + 0x4000 * i
abbrev DPRX_IRQ_late (i : Nat) : Fld := ⟨(DPRX_IRQ i), 5, 5⟩
abbrev DPRX_IRQ_edid (i : Nat) : Fld := ⟨(DPRX_IRQ i), 4, 4⟩
abbrev DPRX_IRQ_pr_exit (i : Nat) : Fld := ⟨(DPRX_IRQ i), 3, 3⟩
abbrev DPRX_IRQ_pr_entry (i : Nat) : Fld := ⟨(DPRX_IRQ i), 2, 2⟩
abbrev DPRX_IRQ_lost (i : Nat) : Fld := ⟨(DPRX_IRQ i), 1, 1⟩
abbrev DPRX_IRQ_valid (i : Nat) : Fld := ⟨(DPRX_IRQ i), 0, 0⟩
abbrev DPRX_EDID_CMD (i : Nat) : Nat := 0x20044 + 0x4000 * i
abbrev DPRX_EDID_CMD_commit (i : Nat) : Fld := ⟨(DPRX_EDID_CMD i), 0, 0⟩
abbrev DPRX_TOPO : Nat := 0x23000
abbrev DPRX_TOPO_ref : Fld := ⟨DPRX_TOPO, 9, 8⟩
abbrev DPRX_TOPO_port : Fld := ⟨DPRX_TOPO, 5, 4⟩
abbrev DPRX_TOPO_layout : Fld := ⟨DPRX_TOPO, 2, 0⟩
abbrev DPRX_VRR : Nat := 0x23004
abbrev DPRX_VRR_max_hz : Fld := ⟨DPRX_VRR, 23, 16⟩
abbrev DPRX_VRR_min_hz : Fld := ⟨DPRX_VRR, 15, 8⟩
abbrev DPRX_VRR_en : Fld := ⟨DPRX_VRR, 0, 0⟩
abbrev DPRX_VALID : Nat := 0x23008
abbrev DPRX_VALID_ports : Fld := ⟨DPRX_VALID, 3, 0⟩
abbrev DPRX_VALID_all : Fld := ⟨DPRX_VALID, 8, 8⟩
abbrev DPRX_NOIN_CNT : Nat := 0x2300c
abbrev DPRX_NOIN_CNT_val : Fld := ⟨DPRX_NOIN_CNT, 31, 0⟩

/-- The rows of the DPRX block. -/
def dprxRows : List RegRow :=
  [ ⟨0x20000, 4, 0x4000, 1, 0x4, 0x1073f, 0x0, 0x0, 0x0, 0x0, .imm, 0x10124⟩,
    ⟨0x20020, 4, 0x4000, 1, 0x4, 0xff, 0x0, 0x0, 0x0, 0x0, .imm, 0x32⟩,
    ⟨0x20034, 4, 0x4000, 1, 0x4, 0x3f, 0x0, 0x0, 0x0, 0x0, .imm, 0x0⟩,
    ⟨0x20040, 4, 0x4000, 1, 0x4, 0x7ff, 0x0, 0x0, 0x0, 0x0, .imm, 0x0⟩,
    ⟨0x20400, 4, 0x4000, 256, 0x4, 0xffffffff, 0x0, 0x0, 0x0, 0x0, .imm, 0x0⟩,
    ⟨0x20004, 4, 0x4000, 1, 0x4, 0x0, 0x0, 0x0, 0x0, 0x70f3f, .imm, 0x0⟩,
    ⟨0x20008, 4, 0x4000, 1, 0x4, 0x0, 0x0, 0x0, 0x0, 0xff010033, .imm, 0x0⟩,
    ⟨0x2000c, 4, 0x4000, 1, 0x4, 0x0, 0x0, 0x0, 0x0, 0xffffffff, .imm, 0x0⟩,
    ⟨0x20010, 4, 0x4000, 1, 0x4, 0x0, 0x0, 0x0, 0x0, 0xffffffff, .imm, 0x0⟩,
    ⟨0x20014, 4, 0x4000, 1, 0x4, 0x0, 0x0, 0x0, 0x0, 0xffffffff, .imm, 0x0⟩,
    ⟨0x20028, 4, 0x4000, 1, 0x4, 0x0, 0x0, 0x0, 0x0, 0xffffffff, .imm, 0x0⟩,
    ⟨0x20048, 4, 0x4000, 1, 0x4, 0x0, 0x0, 0x0, 0x0, 0xff03, .imm, 0x0⟩,
    ⟨0x20018, 4, 0x4000, 1, 0x4, 0x0, 0x0, 0xffffffff, 0x0, 0x0, .imm, 0x0⟩,
    ⟨0x2001c, 4, 0x4000, 1, 0x4, 0x0, 0x0, 0xffffffff, 0x0, 0x0, .imm, 0x0⟩,
    ⟨0x20024, 4, 0x4000, 1, 0x4, 0x0, 0x1, 0x0, 0x0, 0x0, .imm, 0x0⟩,
    ⟨0x20030, 4, 0x4000, 1, 0x4, 0x0, 0x3f, 0x0, 0x0, 0x0, .imm, 0x0⟩,
    ⟨0x20044, 4, 0x4000, 1, 0x4, 0x0, 0x0, 0x0, 0x1, 0x0, .imm, 0x0⟩,
    ⟨0x23000, 1, 0x4, 1, 0x4, 0x337, 0x0, 0x0, 0x0, 0x0, .mirror, 0x0⟩,
    ⟨0x23004, 1, 0x4, 1, 0x4, 0xffff01, 0x0, 0x0, 0x0, 0x0, .mirror, 0x781800⟩,
    ⟨0x23008, 1, 0x4, 1, 0x4, 0x0, 0x0, 0x0, 0x0, 0x10f, .imm, 0x0⟩,
    ⟨0x2300c, 1, 0x4, 1, 0x4, 0x0, 0x0, 0x0, 0x0, 0xffffffff, .imm, 0x0⟩ ]

/-! ## TAP -/

abbrev TAP_CTRL : Nat := 0x40000
abbrev TAP_CTRL_max_lanes : Fld := ⟨TAP_CTRL, 21, 20⟩
abbrev TAP_CTRL_max_rate : Fld := ⟨TAP_CTRL, 19, 16⟩
abbrev TAP_CTRL_ssc : Fld := ⟨TAP_CTRL, 8, 8⟩
abbrev TAP_CTRL_src : Fld := ⟨TAP_CTRL, 5, 4⟩
abbrev TAP_CTRL_en : Fld := ⟨TAP_CTRL, 0, 0⟩
abbrev TAP_AUX_DATA (i : Nat) : Nat := 0x40020 + 0x4 * i
abbrev TAP_AUX_DATA_data (i : Nat) : Fld := ⟨(TAP_AUX_DATA i), 31, 0⟩
abbrev TAP_LOOP : Nat := 0x40030
abbrev TAP_LOOP_run : Fld := ⟨TAP_LOOP, 0, 0⟩
abbrev TAP_LOOP_rate : Fld := ⟨TAP_LOOP, 7, 4⟩
abbrev TAP_IRQ_EN : Nat := 0x4003c
abbrev TAP_IRQ_EN_hpd : Fld := ⟨TAP_IRQ_EN, 0, 0⟩
abbrev TAP_IRQ_EN_loss : Fld := ⟨TAP_IRQ_EN, 1, 1⟩
abbrev TAP_IRQ_EN_bw : Fld := ⟨TAP_IRQ_EN, 2, 2⟩
abbrev TAP_IRQ_EN_aux_done : Fld := ⟨TAP_IRQ_EN, 3, 3⟩
abbrev TAP_STAT : Nat := 0x40004
abbrev TAP_STAT_lanes : Fld := ⟨TAP_STAT, 18, 16⟩
abbrev TAP_STAT_rate : Fld := ⟨TAP_STAT, 11, 8⟩
abbrev TAP_STAT_pr : Fld := ⟨TAP_STAT, 4, 4⟩
abbrev TAP_STAT_bw : Fld := ⟨TAP_STAT, 3, 3⟩
abbrev TAP_STAT_video : Fld := ⟨TAP_STAT, 2, 2⟩
abbrev TAP_STAT_trained : Fld := ⟨TAP_STAT, 1, 1⟩
abbrev TAP_STAT_hpd : Fld := ⟨TAP_STAT, 0, 0⟩
abbrev TAP_LAT : Nat := 0x40008
abbrev TAP_LAT_val : Fld := ⟨TAP_LAT, 31, 0⟩
abbrev TAP_AUX_STAT : Nat := 0x40014
abbrev TAP_AUX_STAT_busy : Fld := ⟨TAP_AUX_STAT, 0, 0⟩
abbrev TAP_AUX_STAT_done : Fld := ⟨TAP_AUX_STAT, 1, 1⟩
abbrev TAP_AUX_STAT_reply : Fld := ⟨TAP_AUX_STAT, 3, 2⟩
abbrev TAP_LOOP_STAT : Nat := 0x40034
abbrev TAP_LOOP_STAT_errs : Fld := ⟨TAP_LOOP_STAT, 31, 0⟩
abbrev TAP_EVT : Nat := 0x4000c
abbrev TAP_EVT_losses : Fld := ⟨TAP_EVT, 31, 24⟩
abbrev TAP_EVT_retrains : Fld := ⟨TAP_EVT, 23, 16⟩
abbrev TAP_EVT_srcs : Fld := ⟨TAP_EVT, 15, 8⟩
abbrev TAP_EVT_withheld : Fld := ⟨TAP_EVT, 7, 0⟩
abbrev TAP_AUX_CMD : Nat := 0x40010
abbrev TAP_AUX_CMD_val : Fld := ⟨TAP_AUX_CMD, 25, 0⟩
abbrev TAP_IRQ : Nat := 0x40038
abbrev TAP_IRQ_hpd : Fld := ⟨TAP_IRQ, 0, 0⟩
abbrev TAP_IRQ_loss : Fld := ⟨TAP_IRQ, 1, 1⟩
abbrev TAP_IRQ_bw : Fld := ⟨TAP_IRQ, 2, 2⟩
abbrev TAP_IRQ_aux_done : Fld := ⟨TAP_IRQ, 3, 3⟩

/-- The rows of the TAP block. -/
def tapRows : List RegRow :=
  [ ⟨0x40000, 1, 0x4, 1, 0x4, 0x3f0131, 0x0, 0x0, 0x0, 0x0, .imm, 0x40000⟩,
    ⟨0x40020, 4, 0x4, 1, 0x4, 0xffffffff, 0x0, 0x0, 0x0, 0x0, .imm, 0x0⟩,
    ⟨0x40030, 1, 0x4, 1, 0x4, 0xf1, 0x0, 0x0, 0x0, 0x0, .imm, 0x0⟩,
    ⟨0x4003c, 1, 0x4, 1, 0x4, 0xf, 0x0, 0x0, 0x0, 0x0, .imm, 0x0⟩,
    ⟨0x40004, 1, 0x4, 1, 0x4, 0x0, 0x0, 0x0, 0x0, 0x70f1f, .imm, 0x0⟩,
    ⟨0x40008, 1, 0x4, 1, 0x4, 0x0, 0x0, 0x0, 0x0, 0xffffffff, .imm, 0x0⟩,
    ⟨0x40014, 1, 0x4, 1, 0x4, 0x0, 0x0, 0x0, 0x0, 0xf, .imm, 0x0⟩,
    ⟨0x40034, 1, 0x4, 1, 0x4, 0x0, 0x0, 0x0, 0x0, 0xffffffff, .imm, 0x0⟩,
    ⟨0x4000c, 1, 0x4, 1, 0x4, 0x0, 0x0, 0xffffffff, 0x0, 0x0, .imm, 0x0⟩,
    ⟨0x40010, 1, 0x4, 1, 0x4, 0x0, 0x0, 0x0, 0x3ffffff, 0x0, .imm, 0x0⟩,
    ⟨0x40038, 1, 0x4, 1, 0x4, 0x0, 0xf, 0x0, 0x0, 0x0, .imm, 0x0⟩ ]

/-! ## TMG -/

abbrev TMG_CTRL : Nat := 0x50000
abbrev TMG_CTRL_split : Fld := ⟨TMG_CTRL, 1, 1⟩
abbrev TMG_CTRL_src : Fld := ⟨TMG_CTRL, 0, 0⟩
abbrev TMG_PCLK : Nat := 0x50004
abbrev TMG_PCLK_rate : Fld := ⟨TMG_PCLK, 19, 0⟩
abbrev TMG_HACT : Nat := 0x50008
abbrev TMG_HACT_width : Fld := ⟨TMG_HACT, 13, 0⟩
abbrev TMG_VACT : Nat := 0x5000c
abbrev TMG_VACT_height : Fld := ⟨TMG_VACT, 12, 0⟩
abbrev TMG_HFP : Nat := 0x50010
abbrev TMG_HFP_width : Fld := ⟨TMG_HFP, 11, 0⟩
abbrev TMG_HSYNC : Nat := 0x50014
abbrev TMG_HSYNC_width : Fld := ⟨TMG_HSYNC, 9, 0⟩
abbrev TMG_HTOTAL : Nat := 0x50018
abbrev TMG_HTOTAL_width : Fld := ⟨TMG_HTOTAL, 13, 0⟩
abbrev TMG_VFP : Nat := 0x5001c
abbrev TMG_VFP_lines : Fld := ⟨TMG_VFP, 12, 0⟩
abbrev TMG_VSYNC : Nat := 0x50020
abbrev TMG_VSYNC_lines : Fld := ⟨TMG_VSYNC, 7, 0⟩
abbrev TMG_VTOTAL : Nat := 0x50024
abbrev TMG_VTOTAL_lines : Fld := ⟨TMG_VTOTAL, 15, 0⟩
abbrev TMG_LAG : Nat := 0x50028
abbrev TMG_LAG_lines : Fld := ⟨TMG_LAG, 15, 0⟩
abbrev TMG_GECKO : Nat := 0x5002c
abbrev TMG_GECKO_lines : Fld := ⟨TMG_GECKO, 15, 0⟩
abbrev TMG_NOIN : Nat := 0x50030
abbrev TMG_NOIN_frames : Fld := ⟨TMG_NOIN, 7, 0⟩
abbrev TMG_FILL0 : Nat := 0x50034
abbrev TMG_FILL0_r : Fld := ⟨TMG_FILL0, 11, 0⟩
abbrev TMG_FILL0_g : Fld := ⟨TMG_FILL0, 27, 16⟩
abbrev TMG_FILL1 : Nat := 0x50038
abbrev TMG_FILL1_b : Fld := ⟨TMG_FILL1, 11, 0⟩
abbrev TMG_TEST : Nat := 0x5003c
abbrev TMG_TEST_level : Fld := ⟨TMG_TEST, 27, 16⟩
abbrev TMG_TEST_pattern : Fld := ⟨TMG_TEST, 7, 4⟩
abbrev TMG_TEST_raw : Fld := ⟨TMG_TEST, 1, 1⟩
abbrev TMG_TEST_en : Fld := ⟨TMG_TEST, 0, 0⟩
abbrev TMG_SCAN : Nat := 0x50040
abbrev TMG_SCAN_run : Fld := ⟨TMG_SCAN, 0, 0⟩
abbrev TMG_HOLD_LIM : Nat := 0x50044
abbrev TMG_HOLD_LIM_lines : Fld := ⟨TMG_HOLD_LIM, 7, 0⟩
abbrev TMG_HOLD_LIM_frames : Fld := ⟨TMG_HOLD_LIM, 11, 8⟩
abbrev TMG_IRQ_EN : Nat := 0x50070
abbrev TMG_IRQ_EN_relock : Fld := ⟨TMG_IRQ_EN, 5, 5⟩
abbrev TMG_IRQ_EN_holdover : Fld := ⟨TMG_IRQ_EN, 4, 4⟩
abbrev TMG_IRQ_EN_hold_lim : Fld := ⟨TMG_IRQ_EN, 3, 3⟩
abbrev TMG_IRQ_EN_skip : Fld := ⟨TMG_IRQ_EN, 2, 2⟩
abbrev TMG_IRQ_EN_late : Fld := ⟨TMG_IRQ_EN, 1, 1⟩
abbrev TMG_IRQ_EN_vsp : Fld := ⟨TMG_IRQ_EN, 0, 0⟩
abbrev TMG_STAT : Nat := 0x50050
abbrev TMG_STAT_lag : Fld := ⟨TMG_STAT, 31, 16⟩
abbrev TMG_STAT_gecko : Fld := ⟨TMG_STAT, 6, 6⟩
abbrev TMG_STAT_dflt : Fld := ⟨TMG_STAT, 5, 5⟩
abbrev TMG_STAT_replay : Fld := ⟨TMG_STAT, 4, 4⟩
abbrev TMG_STAT_lagged : Fld := ⟨TMG_STAT, 3, 3⟩
abbrev TMG_STAT_path : Fld := ⟨TMG_STAT, 2, 2⟩
abbrev TMG_STAT_raster : Fld := ⟨TMG_STAT, 1, 0⟩
abbrev TMG_POS : Nat := 0x50054
abbrev TMG_POS_line : Fld := ⟨TMG_POS, 15, 0⟩
abbrev TMG_POS_vblank : Fld := ⟨TMG_POS, 16, 16⟩
abbrev TMG_FRAME_CNT : Nat := 0x50058
abbrev TMG_FRAME_CNT_val : Fld := ⟨TMG_FRAME_CNT, 31, 0⟩
abbrev TMG_GECKO_STAT : Nat := 0x50074
abbrev TMG_GECKO_STAT_tiles : Fld := ⟨TMG_GECKO_STAT, 15, 0⟩
abbrev TMG_GECKO_STAT_rows : Fld := ⟨TMG_GECKO_STAT, 31, 16⟩
abbrev TMG_FRC_EVT : Nat := 0x5005c
abbrev TMG_FRC_EVT_repeats : Fld := ⟨TMG_FRC_EVT, 15, 0⟩
abbrev TMG_FRC_EVT_skips : Fld := ⟨TMG_FRC_EVT, 31, 16⟩
abbrev TMG_LAG_EVT : Nat := 0x50060
abbrev TMG_LAG_EVT_lagged : Fld := ⟨TMG_LAG_EVT, 15, 0⟩
abbrev TMG_LAG_EVT_largest : Fld := ⟨TMG_LAG_EVT, 31, 16⟩
abbrev TMG_LOCK_EVT : Nat := 0x50064
abbrev TMG_LOCK_EVT_holdovers : Fld := ⟨TMG_LOCK_EVT, 15, 0⟩
abbrev TMG_LOCK_EVT_refusals : Fld := ⟨TMG_LOCK_EVT, 31, 16⟩
abbrev TMG_HOLD_TOT : Nat := 0x50080
abbrev TMG_HOLD_TOT_val : Fld := ⟨TMG_HOLD_TOT, 31, 0⟩
abbrev TMG_HOLD_CNT (i : Nat) : Nat := 0x50100 + 0x4 * i
abbrev TMG_HOLD_CNT_val (i : Nat) : Fld := ⟨(TMG_HOLD_CNT i), 31, 0⟩
abbrev TMG_LATE : Nat := 0x50068
abbrev TMG_LATE_frame : Fld := ⟨TMG_LATE, 0, 0⟩
abbrev TMG_IRQ : Nat := 0x5006c
abbrev TMG_IRQ_relock : Fld := ⟨TMG_IRQ, 5, 5⟩
abbrev TMG_IRQ_holdover : Fld := ⟨TMG_IRQ, 4, 4⟩
abbrev TMG_IRQ_hold_lim : Fld := ⟨TMG_IRQ, 3, 3⟩
abbrev TMG_IRQ_skip : Fld := ⟨TMG_IRQ, 2, 2⟩
abbrev TMG_IRQ_late : Fld := ⟨TMG_IRQ, 1, 1⟩
abbrev TMG_IRQ_vsp : Fld := ⟨TMG_IRQ, 0, 0⟩

/-- The rows of the TMG block. -/
def tmgRows : List RegRow :=
  [ ⟨0x50000, 1, 0x4, 1, 0x4, 0x3, 0x0, 0x0, 0x0, 0x0, .mirror, 0x0⟩,
    ⟨0x50004, 1, 0x4, 1, 0x4, 0xfffff, 0x0, 0x0, 0x0, 0x0, .mirror, 0x0⟩,
    ⟨0x50008, 1, 0x4, 1, 0x4, 0x3fff, 0x0, 0x0, 0x0, 0x0, .mirror, 0x0⟩,
    ⟨0x5000c, 1, 0x4, 1, 0x4, 0x1fff, 0x0, 0x0, 0x0, 0x0, .mirror, 0x0⟩,
    ⟨0x50010, 1, 0x4, 1, 0x4, 0xfff, 0x0, 0x0, 0x0, 0x0, .live, 0x10⟩,
    ⟨0x50014, 1, 0x4, 1, 0x4, 0x3ff, 0x0, 0x0, 0x0, 0x0, .live, 0x10⟩,
    ⟨0x50018, 1, 0x4, 1, 0x4, 0x3fff, 0x0, 0x0, 0x0, 0x0, .live, 0x40⟩,
    ⟨0x5001c, 1, 0x4, 1, 0x4, 0x1fff, 0x0, 0x0, 0x0, 0x0, .live, 0x2⟩,
    ⟨0x50020, 1, 0x4, 1, 0x4, 0xff, 0x0, 0x0, 0x0, 0x0, .live, 0x2⟩,
    ⟨0x50024, 1, 0x4, 1, 0x4, 0xffff, 0x0, 0x0, 0x0, 0x0, .live, 0x8⟩,
    ⟨0x50028, 1, 0x4, 1, 0x4, 0xffff, 0x0, 0x0, 0x0, 0x0, .frame, 0x200⟩,
    ⟨0x5002c, 1, 0x4, 1, 0x4, 0xffff, 0x0, 0x0, 0x0, 0x0, .frame, 0x0⟩,
    ⟨0x50030, 1, 0x4, 1, 0x4, 0xff, 0x0, 0x0, 0x0, 0x0, .frame, 0x10⟩,
    ⟨0x50034, 1, 0x4, 1, 0x4, 0xfff0fff, 0x0, 0x0, 0x0, 0x0, .frame, 0x0⟩,
    ⟨0x50038, 1, 0x4, 1, 0x4, 0xfff, 0x0, 0x0, 0x0, 0x0, .frame, 0x0⟩,
    ⟨0x5003c, 1, 0x4, 1, 0x4, 0xfff00f3, 0x0, 0x0, 0x0, 0x0, .frame, 0x0⟩,
    ⟨0x50040, 1, 0x4, 1, 0x4, 0x1, 0x0, 0x0, 0x0, 0x0, .imm, 0x0⟩,
    ⟨0x50044, 1, 0x4, 1, 0x4, 0xfff, 0x0, 0x0, 0x0, 0x0, .frame, 0x610⟩,
    ⟨0x50070, 1, 0x4, 1, 0x4, 0x3f, 0x0, 0x0, 0x0, 0x0, .frame, 0x0⟩,
    ⟨0x50050, 1, 0x4, 1, 0x4, 0x0, 0x0, 0x0, 0x0, 0xffff007f, .imm, 0x0⟩,
    ⟨0x50054, 1, 0x4, 1, 0x4, 0x0, 0x0, 0x0, 0x0, 0x1ffff, .imm, 0x0⟩,
    ⟨0x50058, 1, 0x4, 1, 0x4, 0x0, 0x0, 0x0, 0x0, 0xffffffff, .imm, 0x0⟩,
    ⟨0x50074, 1, 0x4, 1, 0x4, 0x0, 0x0, 0x0, 0x0, 0xffffffff, .imm, 0x0⟩,
    ⟨0x5005c, 1, 0x4, 1, 0x4, 0x0, 0x0, 0xffffffff, 0x0, 0x0, .imm, 0x0⟩,
    ⟨0x50060, 1, 0x4, 1, 0x4, 0x0, 0x0, 0xffffffff, 0x0, 0x0, .imm, 0x0⟩,
    ⟨0x50064, 1, 0x4, 1, 0x4, 0x0, 0x0, 0xffffffff, 0x0, 0x0, .imm, 0x0⟩,
    ⟨0x50080, 1, 0x4, 1, 0x4, 0x0, 0x0, 0xffffffff, 0x0, 0x0, .imm, 0x0⟩,
    ⟨0x50100, 96, 0x4, 1, 0x4, 0x0, 0x0, 0xffffffff, 0x0, 0x0, .imm, 0x0⟩,
    ⟨0x50068, 1, 0x4, 1, 0x4, 0x0, 0x1, 0x0, 0x0, 0x0, .imm, 0x0⟩,
    ⟨0x5006c, 1, 0x4, 1, 0x4, 0x0, 0x3f, 0x0, 0x0, 0x0, .imm, 0x0⟩ ]

/-! ## LAY -/

abbrev LAY_EN : Nat := 0x60000
abbrev LAY_EN_en : Fld := ⟨LAY_EN, 15, 0⟩
abbrev LAY_ZORDER_LO : Nat := 0x60004
abbrev LAY_ZORDER_LO_order : Fld := ⟨LAY_ZORDER_LO, 31, 0⟩
abbrev LAY_ZORDER_HI : Nat := 0x60008
abbrev LAY_ZORDER_HI_order : Fld := ⟨LAY_ZORDER_HI, 31, 0⟩
abbrev LAY_PAL_IDX : Nat := 0x6000c
abbrev LAY_PAL_IDX_inc : Fld := ⟨LAY_PAL_IDX, 16, 16⟩
abbrev LAY_PAL_IDX_layer : Fld := ⟨LAY_PAL_IDX, 11, 8⟩
abbrev LAY_PAL_IDX_entry : Fld := ⟨LAY_PAL_IDX, 7, 0⟩
abbrev LAY_PAL_DATA0 : Nat := 0x60010
abbrev LAY_PAL_DATA0_r : Fld := ⟨LAY_PAL_DATA0, 11, 0⟩
abbrev LAY_PAL_DATA0_g : Fld := ⟨LAY_PAL_DATA0, 27, 16⟩
abbrev LAY_PAL_DATA1 : Nat := 0x60014
abbrev LAY_PAL_DATA1_b : Fld := ⟨LAY_PAL_DATA1, 11, 0⟩
abbrev LAY_PAL_DATA1_a : Fld := ⟨LAY_PAL_DATA1, 27, 16⟩
abbrev LAY_POS (i : Nat) : Nat := 0x60100 + 0x4 * i
abbrev LAY_POS_y (i : Nat) : Fld := ⟨(LAY_POS i), 28, 16⟩
abbrev LAY_POS_x (i : Nat) : Fld := ⟨(LAY_POS i), 13, 0⟩
abbrev LAY_SIZE (i : Nat) : Nat := 0x60140 + 0x4 * i
abbrev LAY_SIZE_height (i : Nat) : Fld := ⟨(LAY_SIZE i), 28, 16⟩
abbrev LAY_SIZE_width (i : Nat) : Fld := ⟨(LAY_SIZE i), 13, 0⟩
abbrev LAY_CFG : Nat := 0x60020
abbrev LAY_CFG_drop_lim : Fld := ⟨LAY_CFG, 11, 8⟩
abbrev LAY_CFG_rel_db : Fld := ⟨LAY_CFG, 4, 0⟩
abbrev LAY_IRQ_EN : Nat := 0x60034
abbrev LAY_IRQ_EN_drop : Fld := ⟨LAY_IRQ_EN, 0, 0⟩
abbrev LAY_IRQ_EN_fault : Fld := ⟨LAY_IRQ_EN, 1, 1⟩
abbrev LAY_IRQ_EN_rel : Fld := ⟨LAY_IRQ_EN, 2, 2⟩
abbrev LAY_SRC (i : Nat) : Nat := 0x60180 + 0x4 * i
abbrev LAY_SRC_bound (i : Nat) : Fld := ⟨(LAY_SRC i), 31, 31⟩
abbrev LAY_SRC_opq (i : Nat) : Fld := ⟨(LAY_SRC i), 30, 30⟩
abbrev LAY_SRC_stride64 (i : Nat) : Fld := ⟨(LAY_SRC i), 29, 20⟩
abbrev LAY_SRC_depth (i : Nat) : Fld := ⟨(LAY_SRC i), 17, 16⟩
abbrev LAY_SRC_loc (i : Nat) : Fld := ⟨(LAY_SRC i), 8, 8⟩
abbrev LAY_SRC_handle (i : Nat) : Fld := ⟨(LAY_SRC i), 5, 0⟩
abbrev LAY_PADDR (i : Nat) : Nat := 0x601c0 + 0x4 * i
abbrev LAY_PADDR_offset (i : Nat) : Fld := ⟨(LAY_PADDR i), 21, 0⟩
abbrev LAY_STAT : Nat := 0x60024
abbrev LAY_STAT_composed : Fld := ⟨LAY_STAT, 15, 0⟩
abbrev LAY_STAT_dropped : Fld := ⟨LAY_STAT, 31, 16⟩
abbrev LAY_FETCH_BYTES : Nat := 0x60038
abbrev LAY_FETCH_BYTES_val : Fld := ⟨LAY_FETCH_BYTES, 31, 0⟩
abbrev LAY_BUF_RES : Nat := 0x60048
abbrev LAY_BUF_RES_err : Fld := ⟨LAY_BUF_RES, 15, 8⟩
abbrev LAY_BUF_RES_valid : Fld := ⟨LAY_BUF_RES, 7, 7⟩
abbrev LAY_BUF_RES_handle : Fld := ⟨LAY_BUF_RES, 5, 0⟩
abbrev LAY_BUF_ADDR : Nat := 0x6004c
abbrev LAY_BUF_ADDR_val : Fld := ⟨LAY_BUF_ADDR, 31, 0⟩
abbrev LAY_POOL_STAT : Nat := 0x60050
abbrev LAY_POOL_STAT_free : Fld := ⟨LAY_POOL_STAT, 15, 0⟩
abbrev LAY_POOL_STAT_largest : Fld := ⟨LAY_POOL_STAT, 31, 16⟩
abbrev LAY_BUF_REF (i : Nat) : Nat := 0x60058 + 0x4 * i
abbrev LAY_BUF_REF_val (i : Nat) : Fld := ⟨(LAY_BUF_REF i), 31, 0⟩
abbrev LAY_BUF_INFO (i : Nat) : Nat := 0x60400 + 0x4 * i
abbrev LAY_BUF_INFO_alloc (i : Nat) : Fld := ⟨(LAY_BUF_INFO i), 31, 31⟩
abbrev LAY_BUF_INFO_master (i : Nat) : Fld := ⟨(LAY_BUF_INFO i), 27, 24⟩
abbrev LAY_BUF_INFO_base (i : Nat) : Fld := ⟨(LAY_BUF_INFO i), 23, 10⟩
abbrev LAY_BUF_INFO_granules (i : Nat) : Fld := ⟨(LAY_BUF_INFO i), 9, 0⟩
abbrev LAY_FAULT : Nat := 0x60028
abbrev LAY_FAULT_layers : Fld := ⟨LAY_FAULT, 15, 0⟩
abbrev LAY_IRQ : Nat := 0x60030
abbrev LAY_IRQ_drop : Fld := ⟨LAY_IRQ, 0, 0⟩
abbrev LAY_IRQ_fault : Fld := ⟨LAY_IRQ, 1, 1⟩
abbrev LAY_IRQ_rel : Fld := ⟨LAY_IRQ, 2, 2⟩
abbrev LAY_REL_PEND (i : Nat) : Nat := 0x60060 + 0x4 * i
abbrev LAY_REL_PEND_bufs (i : Nat) : Fld := ⟨(LAY_REL_PEND i), 31, 0⟩
abbrev LAY_BUF_CMD : Nat := 0x60040
abbrev LAY_BUF_CMD_granules : Fld := ⟨LAY_BUF_CMD, 25, 16⟩
abbrev LAY_BUF_CMD_handle : Fld := ⟨LAY_BUF_CMD, 13, 8⟩
abbrev LAY_BUF_CMD_op : Fld := ⟨LAY_BUF_CMD, 1, 0⟩
abbrev LAY_DROP_CNT (i : Nat) : Nat := 0x60200 + 0x4 * i
abbrev LAY_DROP_CNT_cnt (i : Nat) : Fld := ⟨(LAY_DROP_CNT i), 15, 0⟩

/-- The rows of the LAY block. -/
def layRows : List RegRow :=
  [ ⟨0x60000, 1, 0x4, 1, 0x4, 0xffff, 0x0, 0x0, 0x0, 0x0, .live, 0x0⟩,
    ⟨0x60004, 1, 0x4, 1, 0x4, 0xffffffff, 0x0, 0x0, 0x0, 0x0, .live, 0x76543210⟩,
    ⟨0x60008, 1, 0x4, 1, 0x4, 0xffffffff, 0x0, 0x0, 0x0, 0x0, .live, 0xfedcba98⟩,
    ⟨0x6000c, 1, 0x4, 1, 0x4, 0x10fff, 0x0, 0x0, 0x0, 0x0, .live, 0x0⟩,
    ⟨0x60010, 1, 0x4, 1, 0x4, 0xfff0fff, 0x0, 0x0, 0x0, 0x0, .live, 0x0⟩,
    ⟨0x60014, 1, 0x4, 1, 0x4, 0xfff0fff, 0x0, 0x0, 0x0, 0x0, .live, 0x0⟩,
    ⟨0x60100, 16, 0x4, 1, 0x4, 0x1fff3fff, 0x0, 0x0, 0x0, 0x0, .live, 0x0⟩,
    ⟨0x60140, 16, 0x4, 1, 0x4, 0x1fff3fff, 0x0, 0x0, 0x0, 0x0, .live, 0x0⟩,
    ⟨0x60020, 1, 0x4, 1, 0x4, 0xf1f, 0x0, 0x0, 0x0, 0x0, .frame, 0x418⟩,
    ⟨0x60034, 1, 0x4, 1, 0x4, 0x7, 0x0, 0x0, 0x0, 0x0, .frame, 0x0⟩,
    ⟨0x60180, 16, 0x4, 1, 0x4, 0xfff3013f, 0x0, 0x0, 0x0, 0x0, .frame, 0x0⟩,
    ⟨0x601c0, 16, 0x4, 1, 0x4, 0x3fffff, 0x0, 0x0, 0x0, 0x0, .frame, 0x0⟩,
    ⟨0x60024, 1, 0x4, 1, 0x4, 0x0, 0x0, 0x0, 0x0, 0xffffffff, .imm, 0x0⟩,
    ⟨0x60038, 1, 0x4, 1, 0x4, 0x0, 0x0, 0x0, 0x0, 0xffffffff, .imm, 0x0⟩,
    ⟨0x60048, 1, 0x4, 1, 0x4, 0x0, 0x0, 0x0, 0x0, 0xffbf, .imm, 0x0⟩,
    ⟨0x6004c, 1, 0x4, 1, 0x4, 0x0, 0x0, 0x0, 0x0, 0xffffffff, .imm, 0x0⟩,
    ⟨0x60050, 1, 0x4, 1, 0x4, 0x0, 0x0, 0x0, 0x0, 0xffffffff, .imm, 0x0⟩,
    ⟨0x60058, 2, 0x4, 1, 0x4, 0x0, 0x0, 0x0, 0x0, 0xffffffff, .imm, 0x0⟩,
    ⟨0x60400, 64, 0x4, 1, 0x4, 0x0, 0x0, 0x0, 0x0, 0x8fffffff, .imm, 0x0⟩,
    ⟨0x60028, 1, 0x4, 1, 0x4, 0x0, 0xffff, 0x0, 0x0, 0x0, .imm, 0x0⟩,
    ⟨0x60030, 1, 0x4, 1, 0x4, 0x0, 0x7, 0x0, 0x0, 0x0, .imm, 0x0⟩,
    ⟨0x60060, 2, 0x4, 1, 0x4, 0x0, 0xffffffff, 0x0, 0x0, 0x0, .imm, 0x0⟩,
    ⟨0x60040, 1, 0x4, 1, 0x4, 0x0, 0x0, 0x0, 0x3ff3f03, 0x0, .imm, 0x0⟩,
    ⟨0x60200, 16, 0x4, 1, 0x4, 0x0, 0x0, 0xffff, 0x0, 0x0, .imm, 0x0⟩ ]

/-! ## FAB -/

abbrev FAB_IMG_ADDR : Nat := 0x80000
abbrev FAB_IMG_ADDR_val : Fld := ⟨FAB_IMG_ADDR, 31, 0⟩
abbrev FAB_IMG_LEN : Nat := 0x80004
abbrev FAB_IMG_LEN_val : Fld := ⟨FAB_IMG_LEN, 31, 0⟩
abbrev FAB_SWAP_CTRL : Nat := 0x80020
abbrev FAB_SWAP_CTRL_after : Fld := ⟨FAB_SWAP_CTRL, 2, 2⟩
abbrev FAB_SWAP_CTRL_cancel : Fld := ⟨FAB_SWAP_CTRL, 1, 1⟩
abbrev FAB_SWAP_CTRL_req : Fld := ⟨FAB_SWAP_CTRL, 0, 0⟩
abbrev FAB_SWAP_ARM : Nat := 0x80028
abbrev FAB_SWAP_ARM_lead : Fld := ⟨FAB_SWAP_ARM, 5, 0⟩
abbrev FAB_ACT_ADDR : Nat := 0x80040
abbrev FAB_ACT_ADDR_offset : Fld := ⟨FAB_ACT_ADDR, 20, 2⟩
abbrev FAB_ACT_DATA : Nat := 0x80044
abbrev FAB_ACT_DATA_val : Fld := ⟨FAB_ACT_DATA, 31, 0⟩
abbrev FAB_OWN_QUERY : Nat := 0x80090
abbrev FAB_OWN_QUERY_class : Fld := ⟨FAB_OWN_QUERY, 23, 16⟩
abbrev FAB_OWN_QUERY_index : Fld := ⟨FAB_OWN_QUERY, 9, 0⟩
abbrev FAB_UNPACK_CFG : Nat := 0x80118
abbrev FAB_UNPACK_CFG_csc0 : Fld := ⟨FAB_UNPACK_CFG, 2, 0⟩
abbrev FAB_UNPACK_CFG_range0 : Fld := ⟨FAB_UNPACK_CFG, 5, 4⟩
abbrev FAB_UNPACK_CFG_csc1 : Fld := ⟨FAB_UNPACK_CFG, 10, 8⟩
abbrev FAB_UNPACK_CFG_range1 : Fld := ⟨FAB_UNPACK_CFG, 13, 12⟩
abbrev FAB_UNPACK_CFG_csc2 : Fld := ⟨FAB_UNPACK_CFG, 18, 16⟩
abbrev FAB_UNPACK_CFG_range2 : Fld := ⟨FAB_UNPACK_CFG, 21, 20⟩
abbrev FAB_UNPACK_CFG_csc3 : Fld := ⟨FAB_UNPACK_CFG, 26, 24⟩
abbrev FAB_UNPACK_CFG_range3 : Fld := ⟨FAB_UNPACK_CFG, 29, 28⟩
abbrev FAB_SPR_K (i : Nat) : Nat := 0x80120 + 0x4 * i
abbrev FAB_SPR_K_w2 (i : Nat) : Fld := ⟨(FAB_SPR_K i), 28, 20⟩
abbrev FAB_SPR_K_w1 (i : Nat) : Fld := ⟨(FAB_SPR_K i), 18, 10⟩
abbrev FAB_SPR_K_w0 (i : Nat) : Fld := ⟨(FAB_SPR_K i), 8, 0⟩
abbrev FAB_POOL_CLAIM : Nat := 0x80140
abbrev FAB_POOL_CLAIM_en : Fld := ⟨FAB_POOL_CLAIM, 31, 31⟩
abbrev FAB_POOL_CLAIM_count : Fld := ⟨FAB_POOL_CLAIM, 25, 16⟩
abbrev FAB_POOL_CLAIM_first : Fld := ⟨FAB_POOL_CLAIM, 8, 0⟩
abbrev FAB_MTX (i : Nat) (j : Nat) : Nat := 0x80300 + 0x40 * i + 0x4 * j
abbrev FAB_MTX_coef (i : Nat) (j : Nat) : Fld := ⟨(FAB_MTX i j), 17, 0⟩
abbrev FAB_MTX_offset (i : Nat) (j : Nat) : Fld := ⟨(FAB_MTX i j), 17, 0⟩
abbrev FAB_CODE : Nat := 0x80110
abbrev FAB_CODE_flip : Fld := ⟨FAB_CODE, 9, 9⟩
abbrev FAB_CODE_order : Fld := ⟨FAB_CODE, 8, 8⟩
abbrev FAB_CODE_width : Fld := ⟨FAB_CODE, 4, 0⟩
abbrev FAB_SPR_CFG : Nat := 0x80114
abbrev FAB_SPR_CFG_phase : Fld := ⟨FAB_SPR_CFG, 4, 4⟩
abbrev FAB_SPR_CFG_mode : Fld := ⟨FAB_SPR_CFG, 1, 0⟩
abbrev FAB_GAMMA : Nat := 0x8011c
abbrev FAB_GAMMA_exp_1 : Fld := ⟨FAB_GAMMA, 28, 16⟩
abbrev FAB_GAMMA_exp_0 : Fld := ⟨FAB_GAMMA, 12, 0⟩
abbrev FAB_IMG_STAT : Nat := 0x8000c
abbrev FAB_IMG_STAT_section : Fld := ⟨FAB_IMG_STAT, 31, 24⟩
abbrev FAB_IMG_STAT_err : Fld := ⟨FAB_IMG_STAT, 23, 16⟩
abbrev FAB_IMG_STAT_check : Fld := ⟨FAB_IMG_STAT, 15, 8⟩
abbrev FAB_IMG_STAT_done : Fld := ⟨FAB_IMG_STAT, 1, 1⟩
abbrev FAB_IMG_STAT_busy : Fld := ⟨FAB_IMG_STAT, 0, 0⟩
abbrev FAB_IMG_FAIL_OFF : Nat := 0x80010
abbrev FAB_IMG_FAIL_OFF_val : Fld := ⟨FAB_IMG_FAIL_OFF, 31, 0⟩
abbrev FAB_SWAP_STAT : Nat := 0x80024
abbrev FAB_SWAP_STAT_result : Fld := ⟨FAB_SWAP_STAT, 31, 24⟩
abbrev FAB_SWAP_STAT_defer : Fld := ⟨FAB_SWAP_STAT, 23, 16⟩
abbrev FAB_SWAP_STAT_refill : Fld := ⟨FAB_SWAP_STAT, 2, 2⟩
abbrev FAB_SWAP_STAT_armed : Fld := ⟨FAB_SWAP_STAT, 1, 1⟩
abbrev FAB_SWAP_STAT_pending : Fld := ⟨FAB_SWAP_STAT, 0, 0⟩
abbrev FAB_SWAP_CNT : Nat := 0x8002c
abbrev FAB_SWAP_CNT_val : Fld := ⟨FAB_SWAP_CNT, 31, 0⟩
abbrev FAB_SWAP_EVT : Nat := 0x80030
abbrev FAB_SWAP_EVT_deferrals : Fld := ⟨FAB_SWAP_EVT, 31, 16⟩
abbrev FAB_SWAP_EVT_abandoned : Fld := ⟨FAB_SWAP_EVT, 15, 8⟩
abbrev FAB_SWAP_EVT_discarded : Fld := ⟨FAB_SWAP_EVT, 7, 0⟩
abbrev FAB_SWAP_HS : Nat := 0x80034
abbrev FAB_SWAP_HS_notready : Fld := ⟨FAB_SWAP_HS, 7, 0⟩
abbrev FAB_SWAP_FRAME : Nat := 0x80038
abbrev FAB_SWAP_FRAME_val : Fld := ⟨FAB_SWAP_FRAME, 31, 0⟩
abbrev FAB_MIR_STAT : Nat := 0x8003c
abbrev FAB_MIR_STAT_src : Fld := ⟨FAB_MIR_STAT, 3, 2⟩
abbrev FAB_MIR_STAT_dirty : Fld := ⟨FAB_MIR_STAT, 1, 1⟩
abbrev FAB_MIR_STAT_valid : Fld := ⟨FAB_MIR_STAT, 0, 0⟩
abbrev FAB_ACT_VER : Nat := 0x80048
abbrev FAB_ACT_VER_val : Fld := ⟨FAB_ACT_VER, 31, 0⟩
abbrev FAB_MIR_VER : Nat := 0x8004c
abbrev FAB_MIR_VER_val : Fld := ⟨FAB_MIR_VER, 31, 0⟩
abbrev FAB_ACT_DIG (i : Nat) : Nat := 0x80050 + 0x4 * i
abbrev FAB_ACT_DIG_val (i : Nat) : Fld := ⟨(FAB_ACT_DIG i), 31, 0⟩
abbrev FAB_MIR_DIG (i : Nat) : Nat := 0x80070 + 0x4 * i
abbrev FAB_MIR_DIG_val (i : Nat) : Fld := ⟨(FAB_MIR_DIG i), 31, 0⟩
abbrev FAB_OWN_RESULT : Nat := 0x80094
abbrev FAB_OWN_RESULT_holder : Fld := ⟨FAB_OWN_RESULT, 31, 30⟩
abbrev FAB_OWN_RESULT_master : Fld := ⟨FAB_OWN_RESULT, 27, 24⟩
abbrev FAB_OWN_RESULT_feature : Fld := ⟨FAB_OWN_RESULT, 15, 0⟩
abbrev FAB_TEAR_CNT : Nat := 0x80098
abbrev FAB_TEAR_CNT_val : Fld := ⟨FAB_TEAR_CNT, 31, 0⟩
abbrev FAB_STAT : Nat := 0x80100
abbrev FAB_STAT_stripes : Fld := ⟨FAB_STAT, 22, 16⟩
abbrev FAB_STAT_clusters : Fld := ⟨FAB_STAT, 11, 0⟩
abbrev FAB_DEPTH : Nat := 0x80104
abbrev FAB_DEPTH_margin : Fld := ⟨FAB_DEPTH, 31, 16⟩
abbrev FAB_DEPTH_depth : Fld := ⟨FAB_DEPTH, 15, 0⟩
abbrev FAB_POOL_STAT : Nat := 0x80144
abbrev FAB_POOL_STAT_image : Fld := ⟨FAB_POOL_STAT, 25, 16⟩
abbrev FAB_POOL_STAT_free : Fld := ⟨FAB_POOL_STAT, 9, 0⟩
abbrev FAB_STRIPE_CFG (i : Nat) : Nat := 0x81200 + 0x4 * i
abbrev FAB_STRIPE_CFG_active (i : Nat) : Fld := ⟨(FAB_STRIPE_CFG i), 28, 28⟩
abbrev FAB_STRIPE_CFG_q (i : Nat) : Fld := ⟨(FAB_STRIPE_CFG i), 27, 25⟩
abbrev FAB_STRIPE_CFG_comp (i : Nat) : Fld := ⟨(FAB_STRIPE_CFG i), 24, 22⟩
abbrev FAB_STRIPE_CFG_width (i : Nat) : Fld := ⟨(FAB_STRIPE_CFG i), 21, 14⟩
abbrev FAB_STRIPE_CFG_first_col (i : Nat) : Fld := ⟨(FAB_STRIPE_CFG i), 13, 0⟩
abbrev FAB_IMG_CMD : Nat := 0x80008
abbrev FAB_IMG_CMD_op : Fld := ⟨FAB_IMG_CMD, 1, 0⟩
abbrev FAB_LATE : Nat := 0x80108
abbrev FAB_LATE_deadline : Fld := ⟨FAB_LATE, 0, 0⟩
abbrev FAB_STRIPE_EVT (i : Nat) : Nat := 0x81000 + 0x4 * i
abbrev FAB_STRIPE_EVT_lag (i : Nat) : Fld := ⟨(FAB_STRIPE_EVT i), 31, 16⟩
abbrev FAB_STRIPE_EVT_abandoned (i : Nat) : Fld := ⟨(FAB_STRIPE_EVT i), 15, 0⟩

/-- The rows of the FAB block. -/
def fabRows : List RegRow :=
  [ ⟨0x80000, 1, 0x4, 1, 0x4, 0xffffffff, 0x0, 0x0, 0x0, 0x0, .imm, 0x0⟩,
    ⟨0x80004, 1, 0x4, 1, 0x4, 0xffffffff, 0x0, 0x0, 0x0, 0x0, .imm, 0x0⟩,
    ⟨0x80020, 1, 0x4, 1, 0x4, 0x4, 0x0, 0x0, 0x3, 0x0, .imm, 0x0⟩,
    ⟨0x80028, 1, 0x4, 1, 0x4, 0x3f, 0x0, 0x0, 0x0, 0x0, .imm, 0x8⟩,
    ⟨0x80040, 1, 0x4, 1, 0x4, 0x1ffffc, 0x0, 0x0, 0x0, 0x0, .imm, 0x0⟩,
    ⟨0x80044, 1, 0x4, 1, 0x4, 0xffffffff, 0x0, 0x0, 0x0, 0x0, .imm, 0x0⟩,
    ⟨0x80090, 1, 0x4, 1, 0x4, 0xff03ff, 0x0, 0x0, 0x0, 0x0, .imm, 0x0⟩,
    ⟨0x80118, 1, 0x4, 1, 0x4, 0x37373737, 0x0, 0x0, 0x0, 0x0, .frame, 0x0⟩,
    ⟨0x80120, 8, 0x4, 1, 0x4, 0x1ff7fdff, 0x0, 0x0, 0x0, 0x0, .frame, 0x0⟩,
    ⟨0x80140, 1, 0x4, 1, 0x4, 0x83ff01ff, 0x0, 0x0, 0x0, 0x0, .imm, 0x0⟩,
    ⟨0x80300, 4, 0x40, 12, 0x4, 0x3ffff, 0x0, 0x0, 0x0, 0x0, .frame, 0x0⟩,
    ⟨0x80110, 1, 0x4, 1, 0x4, 0x31f, 0x0, 0x0, 0x0, 0x0, .mirror, 0xc⟩,
    ⟨0x80114, 1, 0x4, 1, 0x4, 0x13, 0x0, 0x0, 0x0, 0x0, .mirror, 0x0⟩,
    ⟨0x8011c, 1, 0x4, 1, 0x4, 0x1fff1fff, 0x0, 0x0, 0x0, 0x0, .mirror, 0x4000400⟩,
    ⟨0x8000c, 1, 0x4, 1, 0x4, 0x0, 0x0, 0x0, 0x0, 0xffffff03, .imm, 0xff000000⟩,
    ⟨0x80010, 1, 0x4, 1, 0x4, 0x0, 0x0, 0x0, 0x0, 0xffffffff, .imm, 0x0⟩,
    ⟨0x80024, 1, 0x4, 1, 0x4, 0x0, 0x0, 0x0, 0x0, 0xffff0007, .imm, 0x0⟩,
    ⟨0x8002c, 1, 0x4, 1, 0x4, 0x0, 0x0, 0x0, 0x0, 0xffffffff, .imm, 0x0⟩,
    ⟨0x80030, 1, 0x4, 1, 0x4, 0x0, 0x0, 0x0, 0x0, 0xffffffff, .imm, 0x0⟩,
    ⟨0x80034, 1, 0x4, 1, 0x4, 0x0, 0x0, 0x0, 0x0, 0xff, .imm, 0x0⟩,
    ⟨0x80038, 1, 0x4, 1, 0x4, 0x0, 0x0, 0x0, 0x0, 0xffffffff, .imm, 0x0⟩,
    ⟨0x8003c, 1, 0x4, 1, 0x4, 0x0, 0x0, 0x0, 0x0, 0xf, .imm, 0x0⟩,
    ⟨0x80048, 1, 0x4, 1, 0x4, 0x0, 0x0, 0x0, 0x0, 0xffffffff, .imm, 0x0⟩,
    ⟨0x8004c, 1, 0x4, 1, 0x4, 0x0, 0x0, 0x0, 0x0, 0xffffffff, .imm, 0x0⟩,
    ⟨0x80050, 8, 0x4, 1, 0x4, 0x0, 0x0, 0x0, 0x0, 0xffffffff, .imm, 0x0⟩,
    ⟨0x80070, 8, 0x4, 1, 0x4, 0x0, 0x0, 0x0, 0x0, 0xffffffff, .imm, 0x0⟩,
    ⟨0x80094, 1, 0x4, 1, 0x4, 0x0, 0x0, 0x0, 0x0, 0xcf00ffff, .imm, 0x0⟩,
    ⟨0x80098, 1, 0x4, 1, 0x4, 0x0, 0x0, 0x0, 0x0, 0xffffffff, .imm, 0x0⟩,
    ⟨0x80100, 1, 0x4, 1, 0x4, 0x0, 0x0, 0x0, 0x0, 0x7f0fff, .imm, 0x0⟩,
    ⟨0x80104, 1, 0x4, 1, 0x4, 0x0, 0x0, 0x0, 0x0, 0xffffffff, .imm, 0x0⟩,
    ⟨0x80144, 1, 0x4, 1, 0x4, 0x0, 0x0, 0x0, 0x0, 0x3ff03ff, .imm, 0x0⟩,
    ⟨0x81200, 96, 0x4, 1, 0x4, 0x0, 0x0, 0x0, 0x0, 0x1fffffff, .imm, 0x0⟩,
    ⟨0x80008, 1, 0x4, 1, 0x4, 0x0, 0x0, 0x0, 0x3, 0x0, .imm, 0x0⟩,
    ⟨0x80108, 1, 0x4, 1, 0x4, 0x0, 0x1, 0x0, 0x0, 0x0, .imm, 0x0⟩,
    ⟨0x81000, 96, 0x4, 1, 0x4, 0x0, 0x0, 0xffffffff, 0x0, 0x0, .imm, 0x0⟩ ]

/-! ## TRN -/

abbrev TRN_CTRL : Nat := 0xa0000
abbrev TRN_CTRL_thresh : Fld := ⟨TRN_CTRL, 25, 8⟩
abbrev TRN_CTRL_knot_sel : Fld := ⟨TRN_CTRL, 4, 4⟩
abbrev TRN_CTRL_en : Fld := ⟨TRN_CTRL, 0, 0⟩
abbrev TRN_KNOT_SEL : Nat := 0xa0014
abbrev TRN_KNOT_SEL_inc : Fld := ⟨TRN_KNOT_SEL, 28, 28⟩
abbrev TRN_KNOT_SEL_copy : Fld := ⟨TRN_KNOT_SEL, 24, 24⟩
abbrev TRN_KNOT_SEL_colour : Fld := ⟨TRN_KNOT_SEL, 21, 20⟩
abbrev TRN_KNOT_SEL_band : Fld := ⟨TRN_KNOT_SEL, 18, 16⟩
abbrev TRN_KNOT_SEL_old : Fld := ⟨TRN_KNOT_SEL, 13, 8⟩
abbrev TRN_KNOT_SEL_new : Fld := ⟨TRN_KNOT_SEL, 5, 0⟩
abbrev TRN_KNOT_DATA : Nat := 0xa0018
abbrev TRN_KNOT_DATA_d : Fld := ⟨TRN_KNOT_DATA, 27, 16⟩
abbrev TRN_KNOT_DATA_g : Fld := ⟨TRN_KNOT_DATA, 15, 0⟩
abbrev TRN_FREEZE : Nat := 0xa001c
abbrev TRN_FREEZE_hold : Fld := ⟨TRN_FREEZE, 18, 16⟩
abbrev TRN_FREEZE_limit : Fld := ⟨TRN_FREEZE, 15, 0⟩
abbrev TRN_BAND (i : Nat) : Nat := 0xa0020 + 0x4 * i
abbrev TRN_BAND_hold (i : Nat) : Fld := ⟨(TRN_BAND i), 26, 24⟩
abbrev TRN_BAND_steps (i : Nat) : Fld := ⟨(TRN_BAND i), 22, 16⟩
abbrev TRN_BAND_edge (i : Nat) : Fld := ⟨(TRN_BAND i), 15, 0⟩
abbrev TRN_TCFG : Nat := 0xa0040
abbrev TRN_TCFG_stale : Fld := ⟨TRN_TCFG, 13, 8⟩
abbrev TRN_TCFG_src : Fld := ⟨TRN_TCFG, 0, 0⟩
abbrev TRN_IRQ_EN : Nat := 0xa0050
abbrev TRN_IRQ_EN_cut : Fld := ⟨TRN_IRQ_EN, 0, 0⟩
abbrev TRN_IRQ_EN_frozen : Fld := ⟨TRN_IRQ_EN, 1, 1⟩
abbrev TRN_IRQ_EN_stale : Fld := ⟨TRN_IRQ_EN, 2, 2⟩
abbrev TRN_IRQ_EN_late : Fld := ⟨TRN_IRQ_EN, 3, 3⟩
abbrev TRN_KICK_RANGE : Nat := 0xa0060
abbrev TRN_KICK_RANGE_first : Fld := ⟨TRN_KICK_RANGE, 14, 0⟩
abbrev TRN_KICK_RANGE_last : Fld := ⟨TRN_KICK_RANGE, 30, 16⟩
abbrev TRN_TQ_SEL : Nat := 0xa0070
abbrev TRN_TQ_SEL_tile : Fld := ⟨TRN_TQ_SEL, 14, 0⟩
abbrev TRN_TGRID (i : Nat) : Nat := 0xa0100 + 0x4 * i
abbrev TRN_TGRID_temp (i : Nat) : Fld := ⟨(TRN_TGRID i), 15, 0⟩
abbrev TRN_STAT0 : Nat := 0xa0004
abbrev TRN_STAT0_running : Fld := ⟨TRN_STAT0, 15, 0⟩
abbrev TRN_STAT0_pending : Fld := ⟨TRN_STAT0, 31, 16⟩
abbrev TRN_STAT1 : Nat := 0xa0008
abbrev TRN_STAT1_frozen : Fld := ⟨TRN_STAT1, 15, 0⟩
abbrev TRN_STAT1_cold : Fld := ⟨TRN_STAT1, 31, 16⟩
abbrev TRN_TSTAT : Nat := 0xa0044
abbrev TRN_TSTAT_age : Fld := ⟨TRN_TSTAT, 15, 0⟩
abbrev TRN_TSTAT_stale : Fld := ⟨TRN_TSTAT, 16, 16⟩
abbrev TRN_TQ_DATA (i : Nat) : Nat := 0xa0074 + 0x4 * i
abbrev TRN_TQ_DATA_val (i : Nat) : Fld := ⟨(TRN_TQ_DATA i), 31, 0⟩
abbrev TRN_EVT0 : Nat := 0xa000c
abbrev TRN_EVT0_starts : Fld := ⟨TRN_EVT0, 15, 0⟩
abbrev TRN_EVT0_restarts : Fld := ⟨TRN_EVT0, 31, 16⟩
abbrev TRN_EVT1 : Nat := 0xa0010
abbrev TRN_EVT1_coalesced : Fld := ⟨TRN_EVT1, 15, 0⟩
abbrev TRN_EVT1_cuts : Fld := ⟨TRN_EVT1, 31, 16⟩
abbrev TRN_LATE : Nat := 0xa0048
abbrev TRN_LATE_grid : Fld := ⟨TRN_LATE, 0, 0⟩
abbrev TRN_IRQ : Nat := 0xa004c
abbrev TRN_IRQ_cut : Fld := ⟨TRN_IRQ, 0, 0⟩
abbrev TRN_IRQ_frozen : Fld := ⟨TRN_IRQ, 1, 1⟩
abbrev TRN_IRQ_stale : Fld := ⟨TRN_IRQ, 2, 2⟩
abbrev TRN_IRQ_late : Fld := ⟨TRN_IRQ, 3, 3⟩
abbrev TRN_KICK_CMD : Nat := 0xa0064
abbrev TRN_KICK_CMD_op : Fld := ⟨TRN_KICK_CMD, 2, 0⟩

/-- The rows of the TRN block. -/
def trnRows : List RegRow :=
  [ ⟨0xa0000, 1, 0x4, 1, 0x4, 0x3ffff11, 0x0, 0x0, 0x0, 0x0, .frame, 0x10000⟩,
    ⟨0xa0014, 1, 0x4, 1, 0x4, 0x11373f3f, 0x0, 0x0, 0x0, 0x0, .imm, 0x0⟩,
    ⟨0xa0018, 1, 0x4, 1, 0x4, 0xfffffff, 0x0, 0x0, 0x0, 0x0, .imm, 0x0⟩,
    ⟨0xa001c, 1, 0x4, 1, 0x4, 0x7ffff, 0x0, 0x0, 0x0, 0x0, .frame, 0x10000⟩,
    ⟨0xa0020, 8, 0x4, 1, 0x4, 0x77fffff, 0x0, 0x0, 0x0, 0x0, .frame, 0x0⟩,
    ⟨0xa0040, 1, 0x4, 1, 0x4, 0x3f01, 0x0, 0x0, 0x0, 0x0, .imm, 0x500⟩,
    ⟨0xa0050, 1, 0x4, 1, 0x4, 0xf, 0x0, 0x0, 0x0, 0x0, .imm, 0x0⟩,
    ⟨0xa0060, 1, 0x4, 1, 0x4, 0x7fff7fff, 0x0, 0x0, 0x0, 0x0, .imm, 0x0⟩,
    ⟨0xa0070, 1, 0x4, 1, 0x4, 0x7fff, 0x0, 0x0, 0x0, 0x0, .imm, 0x0⟩,
    ⟨0xa0100, 144, 0x4, 1, 0x4, 0xffff, 0x0, 0x0, 0x0, 0x0, .frame, 0x190⟩,
    ⟨0xa0004, 1, 0x4, 1, 0x4, 0x0, 0x0, 0x0, 0x0, 0xffffffff, .imm, 0x0⟩,
    ⟨0xa0008, 1, 0x4, 1, 0x4, 0x0, 0x0, 0x0, 0x0, 0xffffffff, .imm, 0x0⟩,
    ⟨0xa0044, 1, 0x4, 1, 0x4, 0x0, 0x0, 0x0, 0x0, 0x1ffff, .imm, 0x0⟩,
    ⟨0xa0074, 6, 0x4, 1, 0x4, 0x0, 0x0, 0x0, 0x0, 0xffffffff, .imm, 0x0⟩,
    ⟨0xa000c, 1, 0x4, 1, 0x4, 0x0, 0x0, 0xffffffff, 0x0, 0x0, .imm, 0x0⟩,
    ⟨0xa0010, 1, 0x4, 1, 0x4, 0x0, 0x0, 0xffffffff, 0x0, 0x0, .imm, 0x0⟩,
    ⟨0xa0048, 1, 0x4, 1, 0x4, 0x0, 0x1, 0x0, 0x0, 0x0, .imm, 0x0⟩,
    ⟨0xa004c, 1, 0x4, 1, 0x4, 0x0, 0xf, 0x0, 0x0, 0x0, .imm, 0x0⟩,
    ⟨0xa0064, 1, 0x4, 1, 0x4, 0x0, 0x0, 0x0, 0x7, 0x0, .imm, 0x0⟩ ]

/-! ## CMP -/

abbrev CMP_CTRL : Nat := 0xb0000
abbrev CMP_CTRL_pitch : Fld := ⟨CMP_CTRL, 9, 8⟩
abbrev CMP_CTRL_oshift : Fld := ⟨CMP_CTRL, 6, 4⟩
abbrev CMP_CTRL_line_en : Fld := ⟨CMP_CTRL, 2, 2⟩
abbrev CMP_CTRL_conceal_en : Fld := ⟨CMP_CTRL, 1, 1⟩
abbrev CMP_CTRL_comp_en : Fld := ⟨CMP_CTRL, 0, 0⟩
abbrev CMP_SCALE (i : Nat) : Nat := 0xb0010 + 0x4 * i
abbrev CMP_SCALE_b (i : Nat) : Fld := ⟨(CMP_SCALE i), 24, 16⟩
abbrev CMP_SCALE_a (i : Nat) : Fld := ⟨(CMP_SCALE i), 8, 0⟩
abbrev CMP_DEF_W (i : Nat) : Nat := 0xb0020 + 0x4 * i
abbrev CMP_DEF_W_wd (i : Nat) : Fld := ⟨(CMP_DEF_W i), 23, 16⟩
abbrev CMP_DEF_W_wr (i : Nat) : Fld := ⟨(CMP_DEF_W i), 15, 8⟩
abbrev CMP_DEF_W_wl (i : Nat) : Fld := ⟨(CMP_DEF_W i), 7, 0⟩
abbrev CMP_DITH : Nat := 0xb0040
abbrev CMP_DITH_period : Fld := ⟨CMP_DITH, 9, 8⟩
abbrev CMP_DITH_diff : Fld := ⟨CMP_DITH, 4, 4⟩
abbrev CMP_DITH_thr : Fld := ⟨CMP_DITH, 1, 0⟩
abbrev CMP_DITH_SEED : Nat := 0xb0044
abbrev CMP_DITH_SEED_val : Fld := ⟨CMP_DITH_SEED, 31, 0⟩
abbrev CMP_DITH_W0 : Nat := 0xb0048
abbrev CMP_DITH_W0_wm2 : Fld := ⟨CMP_DITH_W0, 7, 0⟩
abbrev CMP_DITH_W0_wm1 : Fld := ⟨CMP_DITH_W0, 15, 8⟩
abbrev CMP_DITH_W0_w0 : Fld := ⟨CMP_DITH_W0, 23, 16⟩
abbrev CMP_DITH_W0_wp1 : Fld := ⟨CMP_DITH_W0, 31, 24⟩
abbrev CMP_DITH_W1 : Nat := 0xb004c
abbrev CMP_DITH_W1_wp2 : Fld := ⟨CMP_DITH_W1, 7, 0⟩
abbrev CMP_DITH_PHASE : Nat := 0xb0050
abbrev CMP_DITH_PHASE_ofs : Fld := ⟨CMP_DITH_PHASE, 23, 0⟩
abbrev CMP_MAP_ADDR : Nat := 0xb008c
abbrev CMP_MAP_ADDR_val : Fld := ⟨CMP_MAP_ADDR, 31, 0⟩
abbrev CMP_STAT : Nat := 0xb0004
abbrev CMP_STAT_masks : Fld := ⟨CMP_STAT, 27, 18⟩
abbrev CMP_STAT_entries : Fld := ⟨CMP_STAT, 16, 0⟩
abbrev CMP_MAP_STAT : Nat := 0xb0084
abbrev CMP_MAP_STAT_type : Fld := ⟨CMP_MAP_STAT, 25, 24⟩
abbrev CMP_MAP_STAT_check : Fld := ⟨CMP_MAP_STAT, 19, 16⟩
abbrev CMP_MAP_STAT_err : Fld := ⟨CMP_MAP_STAT, 15, 8⟩
abbrev CMP_MAP_STAT_done : Fld := ⟨CMP_MAP_STAT, 1, 1⟩
abbrev CMP_MAP_STAT_busy : Fld := ⟨CMP_MAP_STAT, 0, 0⟩
abbrev CMP_MAP_FAIL : Nat := 0xb0088
abbrev CMP_MAP_FAIL_val : Fld := ⟨CMP_MAP_FAIL, 31, 0⟩
abbrev CMP_MAP_VER (i : Nat) : Nat := 0xb0090 + 0x4 * i
abbrev CMP_MAP_VER_val (i : Nat) : Fld := ⟨(CMP_MAP_VER i), 31, 0⟩
abbrev CMP_EVT : Nat := 0xb0008
abbrev CMP_EVT_rec : Fld := ⟨CMP_EVT, 15, 0⟩
abbrev CMP_EVT_def : Fld := ⟨CMP_EVT, 31, 16⟩
abbrev CMP_MAP_CMD : Nat := 0xb0080
abbrev CMP_MAP_CMD_type : Fld := ⟨CMP_MAP_CMD, 9, 8⟩
abbrev CMP_MAP_CMD_op : Fld := ⟨CMP_MAP_CMD, 1, 0⟩

/-- The rows of the CMP block. -/
def cmpRows : List RegRow :=
  [ ⟨0xb0000, 1, 0x4, 1, 0x4, 0x377, 0x0, 0x0, 0x0, 0x0, .frame, 0x140⟩,
    ⟨0xb0010, 4, 0x4, 1, 0x4, 0x1ff01ff, 0x0, 0x0, 0x0, 0x0, .frame, 0x1000100⟩,
    ⟨0xb0020, 4, 0x4, 1, 0x4, 0xffffff, 0x0, 0x0, 0x0, 0x0, .frame, 0x0⟩,
    ⟨0xb0040, 1, 0x4, 1, 0x4, 0x313, 0x0, 0x0, 0x0, 0x0, .frame, 0x0⟩,
    ⟨0xb0044, 1, 0x4, 1, 0x4, 0xffffffff, 0x0, 0x0, 0x0, 0x0, .frame, 0x0⟩,
    ⟨0xb0048, 1, 0x4, 1, 0x4, 0xffffffff, 0x0, 0x0, 0x0, 0x0, .frame, 0x40604010⟩,
    ⟨0xb004c, 1, 0x4, 1, 0x4, 0xff, 0x0, 0x0, 0x0, 0x0, .frame, 0x10⟩,
    ⟨0xb0050, 1, 0x4, 1, 0x4, 0xffffff, 0x0, 0x0, 0x0, 0x0, .frame, 0x804900⟩,
    ⟨0xb008c, 1, 0x4, 1, 0x4, 0xffffffff, 0x0, 0x0, 0x0, 0x0, .imm, 0x0⟩,
    ⟨0xb0004, 1, 0x4, 1, 0x4, 0x0, 0x0, 0x0, 0x0, 0xffdffff, .imm, 0x0⟩,
    ⟨0xb0084, 1, 0x4, 1, 0x4, 0x0, 0x0, 0x0, 0x0, 0x30fff03, .imm, 0x0⟩,
    ⟨0xb0088, 1, 0x4, 1, 0x4, 0x0, 0x0, 0x0, 0x0, 0xffffffff, .imm, 0x0⟩,
    ⟨0xb0090, 4, 0x4, 1, 0x4, 0x0, 0x0, 0x0, 0x0, 0xffffffff, .imm, 0x0⟩,
    ⟨0xb0008, 1, 0x4, 1, 0x4, 0x0, 0x0, 0xffffffff, 0x0, 0x0, .imm, 0x0⟩,
    ⟨0xb0080, 1, 0x4, 1, 0x4, 0x0, 0x0, 0x0, 0x303, 0x0, .imm, 0x0⟩ ]

/-! ## SRV -/

abbrev SRV_CTRL : Nat := 0xc0000
abbrev SRV_CTRL_planner : Fld := ⟨SRV_CTRL, 8, 8⟩
abbrev SRV_CTRL_apply : Fld := ⟨SRV_CTRL, 5, 4⟩
abbrev SRV_CTRL_int_en : Fld := ⟨SRV_CTRL, 1, 1⟩
abbrev SRV_CTRL_en : Fld := ⟨SRV_CTRL, 0, 0⟩
abbrev SRV_SCHED : Nat := 0xc000c
abbrev SRV_SCHED_timer : Fld := ⟨SRV_SCHED, 26, 24⟩
abbrev SRV_SCHED_per_blank : Fld := ⟨SRV_SCHED, 19, 16⟩
abbrev SRV_SCHED_period : Fld := ⟨SRV_SCHED, 15, 0⟩
abbrev SRV_SENSE : Nat := 0xc0010
abbrev SRV_SENSE_repeat : Fld := ⟨SRV_SENSE, 10, 8⟩
abbrev SRV_SENSE_levels : Fld := ⟨SRV_SENSE, 5, 4⟩
abbrev SRV_SENSE_kind : Fld := ⟨SRV_SENSE, 0, 0⟩
abbrev SRV_SENSE_T : Nat := 0xc0014
abbrev SRV_SENSE_T_ret_to : Fld := ⟨SRV_SENSE_T, 23, 16⟩
abbrev SRV_SENSE_T_conv : Fld := ⟨SRV_SENSE_T, 15, 8⟩
abbrev SRV_SENSE_T_settle : Fld := ⟨SRV_SENSE_T, 7, 0⟩
abbrev SRV_LVL (i : Nat) : Nat := 0xc0018 + 0x4 * i
abbrev SRV_LVL_code (i : Nat) : Fld := ⟨(SRV_LVL i), 15, 0⟩
abbrev SRV_LOUPE : Nat := 0xc0028
abbrev SRV_LOUPE_code : Fld := ⟨SRV_LOUPE, 15, 0⟩
abbrev SRV_RAMP : Nat := 0xc002c
abbrev SRV_RAMP_frames : Fld := ⟨SRV_RAMP, 10, 0⟩
abbrev SRV_IRQ_EN : Nat := 0xc0048
abbrev SRV_IRQ_EN_sweep : Fld := ⟨SRV_IRQ_EN, 0, 0⟩
abbrev SRV_IRQ_EN_ramp : Fld := ⟨SRV_IRQ_EN, 1, 1⟩
abbrev SRV_IRQ_EN_save : Fld := ⟨SRV_IRQ_EN, 2, 2⟩
abbrev SRV_IRQ_EN_loupe : Fld := ⟨SRV_IRQ_EN, 3, 3⟩
abbrev SRV_IRQ_EN_late : Fld := ⟨SRV_IRQ_EN, 4, 4⟩
abbrev SRV_IRQ_EN_noroom : Fld := ⟨SRV_IRQ_EN, 5, 5⟩
abbrev SRV_SLOT (i : Nat) (j : Nat) : Nat := 0xc0070 + 0x8 * i + 0x4 * j
abbrev SRV_SLOT_val (i : Nat) (j : Nat) : Fld := ⟨(SRV_SLOT i j), 31, 0⟩
abbrev SRV_SAVE_INT : Nat := 0xc0080
abbrev SRV_SAVE_INT_minutes : Fld := ⟨SRV_SAVE_INT, 10, 0⟩
abbrev SRV_TFAC (i : Nat) : Nat := 0xc0100 + 0x4 * i
abbrev SRV_TFAC_factor (i : Nat) : Fld := ⟨(SRV_TFAC i), 9, 0⟩
abbrev SRV_STRESS (i : Nat) (j : Nat) : Nat := 0xc0400 + 0x100 * i + 0x4 * j
abbrev SRV_STRESS_weight (i : Nat) (j : Nat) : Fld := ⟨(SRV_STRESS i j), 11, 0⟩
abbrev SRV_STAT : Nat := 0xc0004
abbrev SRV_STAT_ramp_j : Fld := ⟨SRV_STAT, 26, 16⟩
abbrev SRV_STAT_due : Fld := ⟨SRV_STAT, 14, 12⟩
abbrev SRV_STAT_loupe : Fld := ⟨SRV_STAT, 11, 11⟩
abbrev SRV_STAT_save : Fld := ⟨SRV_STAT, 10, 10⟩
abbrev SRV_STAT_stage_valid : Fld := ⟨SRV_STAT, 9, 9⟩
abbrev SRV_STAT_ramp : Fld := ⟨SRV_STAT, 8, 8⟩
abbrev SRV_STAT_bank : Fld := ⟨SRV_STAT, 4, 4⟩
abbrev SRV_STAT_sense : Fld := ⟨SRV_STAT, 1, 0⟩
abbrev SRV_SWEEP : Nat := 0xc0008
abbrev SRV_SWEEP_number : Fld := ⟨SRV_SWEEP, 31, 16⟩
abbrev SRV_SWEEP_next : Fld := ⟨SRV_SWEEP, 15, 0⟩
abbrev SRV_CMD_STAT : Nat := 0xc0034
abbrev SRV_CMD_STAT_busy : Fld := ⟨SRV_CMD_STAT, 0, 0⟩
abbrev SRV_CMD_STAT_done : Fld := ⟨SRV_CMD_STAT, 1, 1⟩
abbrev SRV_CMD_STAT_op : Fld := ⟨SRV_CMD_STAT, 4, 2⟩
abbrev SRV_CMD_STAT_err : Fld := ⟨SRV_CMD_STAT, 15, 8⟩
abbrev SRV_CAL_CNT_LO : Nat := 0xc0050
abbrev SRV_CAL_CNT_LO_val : Fld := ⟨SRV_CAL_CNT_LO, 31, 0⟩
abbrev SRV_CAL_CNT_HI : Nat := 0xc0054
abbrev SRV_CAL_CNT_HI_val : Fld := ⟨SRV_CAL_CNT_HI, 31, 0⟩
abbrev SRV_CAL_TIME : Nat := 0xc0058
abbrev SRV_CAL_TIME_val : Fld := ⟨SRV_CAL_TIME, 31, 0⟩
abbrev SRV_CAL_VER : Nat := 0xc005c
abbrev SRV_CAL_VER_val : Fld := ⟨SRV_CAL_VER, 31, 0⟩
abbrev SRV_CAL_FLAGS : Nat := 0xc0060
abbrev SRV_CAL_FLAGS_val : Fld := ⟨SRV_CAL_FLAGS, 31, 0⟩
abbrev SRV_STAGE_ADDR : Nat := 0xc0064
abbrev SRV_STAGE_ADDR_val : Fld := ⟨SRV_STAGE_ADDR, 31, 0⟩
abbrev SRV_SCRATCH_ADDR (i : Nat) : Nat := 0xc0068 + 0x4 * i
abbrev SRV_SCRATCH_ADDR_val (i : Nat) : Fld := ⟨(SRV_SCRATCH_ADDR i), 31, 0⟩
abbrev SRV_CMD : Nat := 0xc0030
abbrev SRV_CMD_types : Fld := ⟨SRV_CMD, 9, 8⟩
abbrev SRV_CMD_op : Fld := ⟨SRV_CMD, 2, 0⟩
abbrev SRV_EVT0 : Nat := 0xc0038
abbrev SRV_EVT0_done : Fld := ⟨SRV_EVT0, 15, 0⟩
abbrev SRV_EVT0_repeats : Fld := ⟨SRV_EVT0, 23, 16⟩
abbrev SRV_EVT0_missing : Fld := ⟨SRV_EVT0, 31, 24⟩
abbrev SRV_EVT1 : Nat := 0xc003c
abbrev SRV_EVT1_noroom : Fld := ⟨SRV_EVT1, 15, 0⟩
abbrev SRV_EVT1_ecc : Fld := ⟨SRV_EVT1, 31, 16⟩
abbrev SRV_LATE : Nat := 0xc0040
abbrev SRV_LATE_ret : Fld := ⟨SRV_LATE, 0, 0⟩
abbrev SRV_IRQ : Nat := 0xc0044
abbrev SRV_IRQ_sweep : Fld := ⟨SRV_IRQ, 0, 0⟩
abbrev SRV_IRQ_ramp : Fld := ⟨SRV_IRQ, 1, 1⟩
abbrev SRV_IRQ_save : Fld := ⟨SRV_IRQ, 2, 2⟩
abbrev SRV_IRQ_loupe : Fld := ⟨SRV_IRQ, 3, 3⟩
abbrev SRV_IRQ_late : Fld := ⟨SRV_IRQ, 4, 4⟩
abbrev SRV_IRQ_noroom : Fld := ⟨SRV_IRQ, 5, 5⟩

/-- The rows of the SRV block. -/
def srvRows : List RegRow :=
  [ ⟨0xc0000, 1, 0x4, 1, 0x4, 0x133, 0x0, 0x0, 0x0, 0x0, .frame, 0x0⟩,
    ⟨0xc000c, 1, 0x4, 1, 0x4, 0x70fffff, 0x0, 0x0, 0x0, 0x0, .imm, 0x10096⟩,
    ⟨0xc0010, 1, 0x4, 1, 0x4, 0x731, 0x0, 0x0, 0x0, 0x0, .imm, 0x310⟩,
    ⟨0xc0014, 1, 0x4, 1, 0x4, 0xffffff, 0x0, 0x0, 0x0, 0x0, .imm, 0x641828⟩,
    ⟨0xc0018, 4, 0x4, 1, 0x4, 0xffff, 0x0, 0x0, 0x0, 0x0, .imm, 0x0⟩,
    ⟨0xc0028, 1, 0x4, 1, 0x4, 0xffff, 0x0, 0x0, 0x0, 0x0, .imm, 0x0⟩,
    ⟨0xc002c, 1, 0x4, 1, 0x4, 0x7ff, 0x0, 0x0, 0x0, 0x0, .imm, 0x40⟩,
    ⟨0xc0048, 1, 0x4, 1, 0x4, 0x3f, 0x0, 0x0, 0x0, 0x0, .imm, 0x0⟩,
    ⟨0xc0070, 2, 0x8, 2, 0x4, 0xffffffff, 0x0, 0x0, 0x0, 0x0, .imm, 0x0⟩,
    ⟨0xc0080, 1, 0x4, 1, 0x4, 0x7ff, 0x0, 0x0, 0x0, 0x0, .imm, 0x3c⟩,
    ⟨0xc0100, 8, 0x4, 1, 0x4, 0x3ff, 0x0, 0x0, 0x0, 0x0, .frame, 0x100⟩,
    ⟨0xc0400, 3, 0x100, 65, 0x4, 0xfff, 0x0, 0x0, 0x0, 0x0, .frame, 0x0⟩,
    ⟨0xc0004, 1, 0x4, 1, 0x4, 0x0, 0x0, 0x0, 0x0, 0x7ff7f13, .imm, 0x0⟩,
    ⟨0xc0008, 1, 0x4, 1, 0x4, 0x0, 0x0, 0x0, 0x0, 0xffffffff, .imm, 0x0⟩,
    ⟨0xc0034, 1, 0x4, 1, 0x4, 0x0, 0x0, 0x0, 0x0, 0xff1f, .imm, 0x0⟩,
    ⟨0xc0050, 1, 0x4, 1, 0x4, 0x0, 0x0, 0x0, 0x0, 0xffffffff, .imm, 0x0⟩,
    ⟨0xc0054, 1, 0x4, 1, 0x4, 0x0, 0x0, 0x0, 0x0, 0xffffffff, .imm, 0x0⟩,
    ⟨0xc0058, 1, 0x4, 1, 0x4, 0x0, 0x0, 0x0, 0x0, 0xffffffff, .imm, 0x0⟩,
    ⟨0xc005c, 1, 0x4, 1, 0x4, 0x0, 0x0, 0x0, 0x0, 0xffffffff, .imm, 0x0⟩,
    ⟨0xc0060, 1, 0x4, 1, 0x4, 0x0, 0x0, 0x0, 0x0, 0xffffffff, .imm, 0x0⟩,
    ⟨0xc0064, 1, 0x4, 1, 0x4, 0x0, 0x0, 0x0, 0x0, 0xffffffff, .imm, 0x0⟩,
    ⟨0xc0068, 2, 0x4, 1, 0x4, 0x0, 0x0, 0x0, 0x0, 0xffffffff, .imm, 0x0⟩,
    ⟨0xc0030, 1, 0x4, 1, 0x4, 0x0, 0x0, 0x0, 0x307, 0x0, .imm, 0x0⟩,
    ⟨0xc0038, 1, 0x4, 1, 0x4, 0x0, 0x0, 0xffffffff, 0x0, 0x0, .imm, 0x0⟩,
    ⟨0xc003c, 1, 0x4, 1, 0x4, 0x0, 0x0, 0xffffffff, 0x0, 0x0, .imm, 0x0⟩,
    ⟨0xc0040, 1, 0x4, 1, 0x4, 0x0, 0x1, 0x0, 0x0, 0x0, .imm, 0x0⟩,
    ⟨0xc0044, 1, 0x4, 1, 0x4, 0x0, 0x3f, 0x0, 0x0, 0x0, .imm, 0x0⟩ ]

/-! ## ACL -/

abbrev ACL_LANE_CTRL (i : Nat) : Nat := 0xe0000 + 0x200 * i
abbrev ACL_LANE_CTRL_fen (i : Nat) : Fld := ⟨(ACL_LANE_CTRL i), 20, 20⟩
abbrev ACL_LANE_CTRL_force (i : Nat) : Fld := ⟨(ACL_LANE_CTRL i), 18, 16⟩
abbrev ACL_LANE_CTRL_inv (i : Nat) : Fld := ⟨(ACL_LANE_CTRL i), 8, 8⟩
abbrev ACL_LANE_CTRL_pmask (i : Nat) : Fld := ⟨(ACL_LANE_CTRL i), 7, 0⟩
abbrev ACL_LANE_STAT (i : Nat) : Nat := 0xe0004 + 0x200 * i
abbrev ACL_LANE_STAT_err (i : Nat) : Fld := ⟨(ACL_LANE_STAT i), 31, 24⟩
abbrev ACL_LANE_STAT_stripe (i : Nat) : Fld := ⟨(ACL_LANE_STAT i), 22, 16⟩
abbrev ACL_LANE_STAT_in_use (i : Nat) : Fld := ⟨(ACL_LANE_STAT i), 12, 12⟩
abbrev ACL_LANE_STAT_in1 (i : Nat) : Fld := ⟨(ACL_LANE_STAT i), 11, 11⟩
abbrev ACL_LANE_STAT_in0 (i : Nat) : Fld := ⟨(ACL_LANE_STAT i), 10, 10⟩
abbrev ACL_LANE_STAT_role (i : Nat) : Fld := ⟨(ACL_LANE_STAT i), 9, 8⟩
abbrev ACL_LANE_STAT_preset (i : Nat) : Fld := ⟨(ACL_LANE_STAT i), 6, 4⟩
abbrev ACL_LANE_STAT_state (i : Nat) : Fld := ⟨(ACL_LANE_STAT i), 2, 0⟩
abbrev ACL_LANE_DRV (i : Nat) : Nat := 0xe0010 + 0x200 * i
abbrev ACL_LANE_DRV_temp (i : Nat) : Fld := ⟨(ACL_LANE_DRV i), 15, 0⟩
abbrev ACL_LANE_DRV_status (i : Nat) : Fld := ⟨(ACL_LANE_DRV i), 21, 16⟩
abbrev ACL_LANE_DRV_resets (i : Nat) : Fld := ⟨(ACL_LANE_DRV i), 31, 24⟩
abbrev ACL_LANE_CAPS (i : Nat) : Nat := 0xe0014 + 0x200 * i
abbrev ACL_LANE_CAPS_channels (i : Nat) : Fld := ⟨(ACL_LANE_CAPS i), 9, 0⟩
abbrev ACL_LANE_CAPS_maxw (i : Nat) : Fld := ⟨(ACL_LANE_CAPS i), 14, 10⟩
abbrev ACL_LANE_CAPS_in1 (i : Nat) : Fld := ⟨(ACL_LANE_CAPS i), 15, 15⟩
abbrev ACL_LANE_CAPS_rates (i : Nat) : Fld := ⟨(ACL_LANE_CAPS i), 19, 16⟩
abbrev ACL_LANE_CAPS_senses (i : Nat) : Fld := ⟨(ACL_LANE_CAPS i), 21, 20⟩
abbrev ACL_LANE_CAPS_ver (i : Nat) : Fld := ⟨(ACL_LANE_CAPS i), 27, 24⟩
abbrev ACL_LANE_CAPS_tload (i : Nat) : Fld := ⟨(ACL_LANE_CAPS i), 31, 28⟩
abbrev ACL_LANE_EQ (i : Nat) : Nat := 0xe0018 + 0x200 * i
abbrev ACL_LANE_EQ_val (i : Nat) : Fld := ⟨(ACL_LANE_EQ i), 31, 0⟩
abbrev ACL_LANE_EVT (i : Nat) : Nat := 0xe0008 + 0x200 * i
abbrev ACL_LANE_EVT_losses (i : Nat) : Fld := ⟨(ACL_LANE_EVT i), 7, 0⟩
abbrev ACL_LANE_EVT_fasts (i : Nat) : Fld := ⟨(ACL_LANE_EVT i), 15, 8⟩
abbrev ACL_LANE_EVT_fulls (i : Nat) : Fld := ⟨(ACL_LANE_EVT i), 23, 16⟩
abbrev ACL_LANE_EVT_resends (i : Nat) : Fld := ⟨(ACL_LANE_EVT i), 31, 24⟩
abbrev ACL_LANE_ERR (i : Nat) : Nat := 0xe000c + 0x200 * i
abbrev ACL_LANE_ERR_crc (i : Nat) : Fld := ⟨(ACL_LANE_ERR i), 15, 0⟩
abbrev ACL_LANE_ERR_ctl (i : Nat) : Fld := ⟨(ACL_LANE_ERR i), 23, 16⟩
abbrev ACL_LANE_ERR_holds (i : Nat) : Fld := ⟨(ACL_LANE_ERR i), 31, 24⟩
abbrev ACL_LANE_LATE (i : Nat) : Nat := 0xe001c + 0x200 * i
abbrev ACL_LANE_LATE_lock (i : Nat) : Fld := ⟨(ACL_LANE_LATE i), 0, 0⟩
abbrev ACL_LANE_LATE_miss (i : Nat) : Fld := ⟨(ACL_LANE_LATE i), 1, 1⟩
abbrev ACL_LANE_LATE_ack (i : Nat) : Fld := ⟨(ACL_LANE_LATE i), 2, 2⟩
abbrev ACL_CTRL : Nat := 0xec000
abbrev ACL_CTRL_lock_to : Fld := ⟨ACL_CTRL, 23, 16⟩
abbrev ACL_CTRL_miss : Fld := ⟨ACL_CTRL, 11, 8⟩
abbrev ACL_CTRL_auto_spare : Fld := ⟨ACL_CTRL, 1, 1⟩
abbrev ACL_CTRL_auto_retrain : Fld := ⟨ACL_CTRL, 0, 0⟩
abbrev ACL_SPARE_CFG : Nat := 0xec00c
abbrev ACL_SPARE_CFG_thresh : Fld := ⟨ACL_SPARE_CFG, 15, 0⟩
abbrev ACL_SPARE_CFG_plan_en : Fld := ⟨ACL_SPARE_CFG, 16, 16⟩
abbrev ACL_IRQ_EN : Nat := 0xec028
abbrev ACL_IRQ_EN_lost : Fld := ⟨ACL_IRQ_EN, 0, 0⟩
abbrev ACL_IRQ_EN_spared : Fld := ⟨ACL_IRQ_EN, 1, 1⟩
abbrev ACL_IRQ_EN_failed : Fld := ⟨ACL_IRQ_EN, 2, 2⟩
abbrev ACL_IRQ_EN_collision : Fld := ⟨ACL_IRQ_EN, 3, 3⟩
abbrev ACL_IRQ_EN_late : Fld := ⟨ACL_IRQ_EN, 4, 4⟩
abbrev ACL_IRQ_EN_cmd_done : Fld := ⟨ACL_IRQ_EN, 5, 5⟩
abbrev ACL_CP_HDR : Nat := 0xec030
abbrev ACL_CP_HDR_target : Fld := ⟨ACL_CP_HDR, 7, 0⟩
abbrev ACL_CP_HDR_opcode : Fld := ⟨ACL_CP_HDR, 15, 8⟩
abbrev ACL_CP_HDR_blocks : Fld := ⟨ACL_CP_HDR, 18, 16⟩
abbrev ACL_CP_HDR_lane : Fld := ⟨ACL_CP_HDR, 30, 24⟩
abbrev ACL_CP_DATA (i : Nat) : Nat := 0xec040 + 0x4 * i
abbrev ACL_CP_DATA_val (i : Nat) : Fld := ⟨(ACL_CP_DATA i), 31, 0⟩
abbrev ACL_CMD : Nat := 0xec004
abbrev ACL_CMD_spare : Fld := ⟨ACL_CMD, 25, 24⟩
abbrev ACL_CMD_rlane : Fld := ⟨ACL_CMD, 20, 16⟩
abbrev ACL_CMD_lane : Fld := ⟨ACL_CMD, 14, 8⟩
abbrev ACL_CMD_op : Fld := ⟨ACL_CMD, 2, 0⟩
abbrev ACL_CP_CMD : Nat := 0xec034
abbrev ACL_CP_CMD_send : Fld := ⟨ACL_CP_CMD, 0, 0⟩
abbrev ACL_CMD_STAT : Nat := 0xec008
abbrev ACL_CMD_STAT_busy : Fld := ⟨ACL_CMD_STAT, 0, 0⟩
abbrev ACL_CMD_STAT_done : Fld := ⟨ACL_CMD_STAT, 1, 1⟩
abbrev ACL_CMD_STAT_op : Fld := ⟨ACL_CMD_STAT, 4, 2⟩
abbrev ACL_CMD_STAT_err : Fld := ⟨ACL_CMD_STAT, 15, 8⟩
abbrev ACL_SPARE (i : Nat) : Nat := 0xec010 + 0x4 * i
abbrev ACL_SPARE_lane (i : Nat) : Fld := ⟨(ACL_SPARE i), 6, 0⟩
abbrev ACL_SPARE_valid (i : Nat) : Fld := ⟨(ACL_SPARE i), 7, 7⟩
abbrev ACL_SPARE_stripe (i : Nat) : Fld := ⟨(ACL_SPARE i), 14, 8⟩
abbrev ACL_SPARE_state (i : Nat) : Fld := ⟨(ACL_SPARE i), 17, 16⟩
abbrev ACL_RET_STAT (i : Nat) : Nat := 0xed000 + 0x40 * i
abbrev ACL_RET_STAT_granted (i : Nat) : Fld := ⟨(ACL_RET_STAT i), 3, 0⟩
abbrev ACL_RET_STAT_heard (i : Nat) : Fld := ⟨(ACL_RET_STAT i), 7, 4⟩
abbrev ACL_RET_STAT_jammed (i : Nat) : Fld := ⟨(ACL_RET_STAT i), 8, 8⟩
abbrev ACL_IRQ : Nat := 0xec024
abbrev ACL_IRQ_lost : Fld := ⟨ACL_IRQ, 0, 0⟩
abbrev ACL_IRQ_spared : Fld := ⟨ACL_IRQ, 1, 1⟩
abbrev ACL_IRQ_failed : Fld := ⟨ACL_IRQ, 2, 2⟩
abbrev ACL_IRQ_collision : Fld := ⟨ACL_IRQ, 3, 3⟩
abbrev ACL_IRQ_late : Fld := ⟨ACL_IRQ, 4, 4⟩
abbrev ACL_IRQ_cmd_done : Fld := ⟨ACL_IRQ, 5, 5⟩
abbrev ACL_GRP_RATE (i : Nat) : Nat := 0xec080 + 0x4 * i
abbrev ACL_GRP_RATE_rate (i : Nat) : Fld := ⟨(ACL_GRP_RATE i), 1, 0⟩
abbrev ACL_RET_EVT (i : Nat) : Nat := 0xed004 + 0x40 * i
abbrev ACL_RET_EVT_crc (i : Nat) : Fld := ⟨(ACL_RET_EVT i), 7, 0⟩
abbrev ACL_RET_EVT_violations (i : Nat) : Fld := ⟨(ACL_RET_EVT i), 15, 8⟩
abbrev ACL_RET_EVT_collisions (i : Nat) : Fld := ⟨(ACL_RET_EVT i), 23, 16⟩
abbrev ACL_RET_EVT_missing (i : Nat) : Fld := ⟨(ACL_RET_EVT i), 31, 24⟩

/-- The rows of the ACL block. -/
def aclRows : List RegRow :=
  [ ⟨0xe0000, 96, 0x200, 1, 0x4, 0x1701ff, 0x0, 0x0, 0x0, 0x0, .imm, 0xff⟩,
    ⟨0xe0004, 96, 0x200, 1, 0x4, 0x0, 0x0, 0x0, 0x0, 0xff7f1f77, .imm, 0x0⟩,
    ⟨0xe0010, 96, 0x200, 1, 0x4, 0x0, 0x0, 0x0, 0x0, 0xff3fffff, .imm, 0x0⟩,
    ⟨0xe0014, 96, 0x200, 1, 0x4, 0x0, 0x0, 0x0, 0x0, 0xff3fffff, .imm, 0x0⟩,
    ⟨0xe0018, 96, 0x200, 1, 0x4, 0x0, 0x0, 0x0, 0x0, 0xffffffff, .imm, 0x0⟩,
    ⟨0xe0008, 96, 0x200, 1, 0x4, 0x0, 0x0, 0xffffffff, 0x0, 0x0, .imm, 0x0⟩,
    ⟨0xe000c, 96, 0x200, 1, 0x4, 0x0, 0x0, 0xffffffff, 0x0, 0x0, .imm, 0x0⟩,
    ⟨0xe001c, 96, 0x200, 1, 0x4, 0x0, 0x7, 0x0, 0x0, 0x0, .imm, 0x0⟩,
    ⟨0xec000, 1, 0x4, 1, 0x4, 0xff0f03, 0x0, 0x0, 0x0, 0x0, .imm, 0x140303⟩,
    ⟨0xec00c, 1, 0x4, 1, 0x4, 0x1ffff, 0x0, 0x0, 0x0, 0x0, .imm, 0x10⟩,
    ⟨0xec028, 1, 0x4, 1, 0x4, 0x3f, 0x0, 0x0, 0x0, 0x0, .imm, 0x0⟩,
    ⟨0xec030, 1, 0x4, 1, 0x4, 0x7f07ffff, 0x0, 0x0, 0x0, 0x0, .imm, 0x0⟩,
    ⟨0xec040, 8, 0x4, 1, 0x4, 0xffffffff, 0x0, 0x0, 0x0, 0x0, .imm, 0x0⟩,
    ⟨0xec004, 1, 0x4, 1, 0x4, 0x0, 0x0, 0x0, 0x31f7f07, 0x0, .imm, 0x0⟩,
    ⟨0xec034, 1, 0x4, 1, 0x4, 0x0, 0x0, 0x0, 0x1, 0x0, .imm, 0x0⟩,
    ⟨0xec008, 1, 0x4, 1, 0x4, 0x0, 0x0, 0x0, 0x0, 0xff1f, .imm, 0x0⟩,
    ⟨0xec010, 4, 0x4, 1, 0x4, 0x0, 0x0, 0x0, 0x0, 0x37fff, .imm, 0x0⟩,
    ⟨0xed000, 24, 0x40, 1, 0x4, 0x0, 0x0, 0x0, 0x0, 0x1ff, .imm, 0x0⟩,
    ⟨0xec024, 1, 0x4, 1, 0x4, 0x0, 0x3f, 0x0, 0x0, 0x0, .imm, 0x0⟩,
    ⟨0xec080, 12, 0x4, 1, 0x4, 0x3, 0x0, 0x0, 0x0, 0x0, .mirror, 0x0⟩,
    ⟨0xed004, 24, 0x40, 1, 0x4, 0x0, 0x0, 0xffffffff, 0x0, 0x0, .imm, 0x0⟩ ]

/-! ## HVP -/

abbrev HVP_SEQ_CFG : Nat := 0x100008
abbrev HVP_SEQ_CFG_bleed_to : Fld := ⟨HVP_SEQ_CFG, 23, 16⟩
abbrev HVP_SEQ_CFG_pg_to : Fld := ⟨HVP_SEQ_CFG, 15, 8⟩
abbrev HVP_SEQ_CFG_en : Fld := ⟨HVP_SEQ_CFG, 7, 0⟩
abbrev HVP_BO_CFG : Nat := 0x10000c
abbrev HVP_BO_CFG_warn : Fld := ⟨HVP_BO_CFG, 7, 0⟩
abbrev HVP_BO_CFG_wait : Fld := ⟨HVP_BO_CFG, 15, 8⟩
abbrev HVP_SEQ_DLY (i : Nat) : Nat := 0x100010 + 0x4 * i
abbrev HVP_SEQ_DLY_dly (i : Nat) : Fld := ⟨(HVP_SEQ_DLY i), 9, 0⟩
abbrev HVP_RAIL (i : Nat) : Nat := 0x100030 + 0x4 * i
abbrev HVP_RAIL_ilim (i : Nat) : Fld := ⟨(HVP_RAIL i), 27, 24⟩
abbrev HVP_RAIL_ramp (i : Nat) : Fld := ⟨(HVP_RAIL i), 21, 16⟩
abbrev HVP_RAIL_setpoint (i : Nat) : Fld := ⟨(HVP_RAIL i), 15, 0⟩
abbrev HVP_PSM_CFG (i : Nat) : Nat := 0x100050 + 0x4 * i
abbrev HVP_PSM_CFG_zero (i : Nat) : Fld := ⟨(HVP_PSM_CFG i), 29, 20⟩
abbrev HVP_PSM_CFG_hi (i : Nat) : Fld := ⟨(HVP_PSM_CFG i), 19, 10⟩
abbrev HVP_PSM_CFG_lo (i : Nat) : Fld := ⟨(HVP_PSM_CFG i), 9, 0⟩
abbrev HVP_DIS_CFG : Nat := 0x100070
abbrev HVP_DIS_CFG_pf_hold : Fld := ⟨HVP_DIS_CFG, 27, 24⟩
abbrev HVP_DIS_CFG_frames : Fld := ⟨HVP_DIS_CFG, 19, 16⟩
abbrev HVP_DIS_CFG_code : Fld := ⟨HVP_DIS_CFG, 15, 0⟩
abbrev HVP_CRK_CFG : Nat := 0x1000a0
abbrev HVP_CRK_CFG_en : Fld := ⟨HVP_CRK_CFG, 31, 31⟩
abbrev HVP_CRK_CFG_samples : Fld := ⟨HVP_CRK_CFG, 27, 24⟩
abbrev HVP_CRK_CFG_lo : Fld := ⟨HVP_CRK_CFG, 23, 16⟩
abbrev HVP_CRK_CFG_hi : Fld := ⟨HVP_CRK_CFG, 15, 0⟩
abbrev HVP_IRQ_EN : Nat := 0x1000c0
abbrev HVP_IRQ_EN_seq_done : Fld := ⟨HVP_IRQ_EN, 0, 0⟩
abbrev HVP_IRQ_EN_dis_done : Fld := ⟨HVP_IRQ_EN, 1, 1⟩
abbrev HVP_IRQ_EN_fault : Fld := ⟨HVP_IRQ_EN, 2, 2⟩
abbrev HVP_IRQ_EN_bo : Fld := ⟨HVP_IRQ_EN, 3, 3⟩
abbrev HVP_IRQ_EN_late : Fld := ⟨HVP_IRQ_EN, 4, 4⟩
abbrev HVP_GATE_CFG : Nat := 0x100080
abbrev HVP_GATE_CFG_slew : Fld := ⟨HVP_GATE_CFG, 21, 16⟩
abbrev HVP_GATE_CFG_phases : Fld := ⟨HVP_GATE_CFG, 12, 8⟩
abbrev HVP_GATE_CFG_on : Fld := ⟨HVP_GATE_CFG, 0, 0⟩
abbrev HVP_GCK_TIM : Nat := 0x100084
abbrev HVP_GCK_TIM_fall_adv : Fld := ⟨HVP_GCK_TIM, 31, 24⟩
abbrev HVP_GCK_TIM_rise_ofs : Fld := ⟨HVP_GCK_TIM, 15, 8⟩
abbrev HVP_GCK_TIM_pre : Fld := ⟨HVP_GCK_TIM, 2, 0⟩
abbrev HVP_GST_CFG (i : Nat) : Nat := 0x100090 + 0x4 * i
abbrev HVP_GST_CFG_width (i : Nat) : Fld := ⟨(HVP_GST_CFG i), 10, 8⟩
abbrev HVP_GST_CFG_role (i : Nat) : Fld := ⟨(HVP_GST_CFG i), 2, 0⟩
abbrev HVP_STAT : Nat := 0x100004
abbrev HVP_STAT_gate : Fld := ⟨HVP_STAT, 24, 24⟩
abbrev HVP_STAT_good : Fld := ⟨HVP_STAT, 23, 16⟩
abbrev HVP_STAT_up : Fld := ⟨HVP_STAT, 15, 8⟩
abbrev HVP_STAT_step : Fld := ⟨HVP_STAT, 6, 4⟩
abbrev HVP_STAT_state : Fld := ⟨HVP_STAT, 2, 0⟩
abbrev HVP_RAIL_MON (i : Nat) : Nat := 0x100040 + 0x4 * i
abbrev HVP_RAIL_MON_volt (i : Nat) : Fld := ⟨(HVP_RAIL_MON i), 15, 0⟩
abbrev HVP_RAIL_MON_curr (i : Nat) : Fld := ⟨(HVP_RAIL_MON i), 31, 16⟩
abbrev HVP_PSM_VAL (i : Nat) : Nat := 0x100060 + 0x4 * i
abbrev HVP_PSM_VAL_val (i : Nat) : Fld := ⟨(HVP_PSM_VAL i), 9, 0⟩
abbrev HVP_CRK_VAL : Nat := 0x1000a4
abbrev HVP_CRK_VAL_ohm : Fld := ⟨HVP_CRK_VAL, 15, 0⟩
abbrev HVP_TEMP : Nat := 0x1000c4
abbrev HVP_TEMP_temp : Fld := ⟨HVP_TEMP, 15, 0⟩
abbrev HVP_CMD : Nat := 0x100000
abbrev HVP_CMD_op : Fld := ⟨HVP_CMD, 1, 0⟩
abbrev HVP_FLT : Nat := 0x1000b0
abbrev HVP_FLT_uv : Fld := ⟨HVP_FLT, 0, 0⟩
abbrev HVP_FLT_ov : Fld := ⟨HVP_FLT, 1, 1⟩
abbrev HVP_FLT_oc : Fld := ⟨HVP_FLT, 2, 2⟩
abbrev HVP_FLT_psm : Fld := ⟨HVP_FLT, 3, 3⟩
abbrev HVP_FLT_crack : Fld := ⟨HVP_FLT, 4, 4⟩
abbrev HVP_FLT_pg_to : Fld := ⟨HVP_FLT, 5, 5⟩
abbrev HVP_FLT_bo : Fld := ⟨HVP_FLT, 6, 6⟩
abbrev HVP_FLT_temp : Fld := ⟨HVP_FLT, 7, 7⟩
abbrev HVP_FLT_bleed : Fld := ⟨HVP_FLT, 8, 8⟩
abbrev HVP_FLT_index : Fld := ⟨HVP_FLT, 15, 12⟩
abbrev HVP_LATE : Nat := 0x1000b8
abbrev HVP_LATE_pg : Fld := ⟨HVP_LATE, 0, 0⟩
abbrev HVP_LATE_bo : Fld := ⟨HVP_LATE, 1, 1⟩
abbrev HVP_LATE_bleed : Fld := ⟨HVP_LATE, 2, 2⟩
abbrev HVP_IRQ : Nat := 0x1000bc
abbrev HVP_IRQ_seq_done : Fld := ⟨HVP_IRQ, 0, 0⟩
abbrev HVP_IRQ_dis_done : Fld := ⟨HVP_IRQ, 1, 1⟩
abbrev HVP_IRQ_fault : Fld := ⟨HVP_IRQ, 2, 2⟩
abbrev HVP_IRQ_bo : Fld := ⟨HVP_IRQ, 3, 3⟩
abbrev HVP_IRQ_late : Fld := ⟨HVP_IRQ, 4, 4⟩
abbrev HVP_EVT : Nat := 0x1000b4
abbrev HVP_EVT_brownouts : Fld := ⟨HVP_EVT, 7, 0⟩
abbrev HVP_EVT_resumed : Fld := ⟨HVP_EVT, 15, 8⟩
abbrev HVP_EVT_climit : Fld := ⟨HVP_EVT, 23, 16⟩
abbrev HVP_EVT_bleeds : Fld := ⟨HVP_EVT, 31, 24⟩

/-- The rows of the HVP block. -/
def hvpRows : List RegRow :=
  [ ⟨0x100008, 1, 0x4, 1, 0x4, 0xffffff, 0x0, 0x0, 0x0, 0x0, .imm, 0x141400⟩,
    ⟨0x10000c, 1, 0x4, 1, 0x4, 0xffff, 0x0, 0x0, 0x0, 0x0, .imm, 0x146c⟩,
    ⟨0x100010, 8, 0x4, 1, 0x4, 0x3ff, 0x0, 0x0, 0x0, 0x0, .imm, 0xa⟩,
    ⟨0x100030, 4, 0x4, 1, 0x4, 0xf3fffff, 0x0, 0x0, 0x0, 0x0, .imm, 0xa0204b0⟩,
    ⟨0x100050, 4, 0x4, 1, 0x4, 0x3fffffff, 0x0, 0x0, 0x0, 0x0, .imm, 0xffc00⟩,
    ⟨0x100070, 1, 0x4, 1, 0x4, 0xf0fffff, 0x0, 0x0, 0x0, 0x0, .imm, 0x2020000⟩,
    ⟨0x1000a0, 1, 0x4, 1, 0x4, 0x8fffffff, 0x0, 0x0, 0x0, 0x0, .imm, 0x30001f4⟩,
    ⟨0x1000c0, 1, 0x4, 1, 0x4, 0x1f, 0x0, 0x0, 0x0, 0x0, .imm, 0x0⟩,
    ⟨0x100080, 1, 0x4, 1, 0x4, 0x3f1f01, 0x0, 0x0, 0x0, 0x0, .mirror, 0x0⟩,
    ⟨0x100084, 1, 0x4, 1, 0x4, 0xff00ff07, 0x0, 0x0, 0x0, 0x0, .mirror, 0x0⟩,
    ⟨0x100090, 4, 0x4, 1, 0x4, 0x707, 0x0, 0x0, 0x0, 0x0, .mirror, 0x0⟩,
    ⟨0x100004, 1, 0x4, 1, 0x4, 0x0, 0x0, 0x0, 0x0, 0x1ffff77, .imm, 0x0⟩,
    ⟨0x100040, 4, 0x4, 1, 0x4, 0x0, 0x0, 0x0, 0x0, 0xffffffff, .imm, 0x0⟩,
    ⟨0x100060, 4, 0x4, 1, 0x4, 0x0, 0x0, 0x0, 0x0, 0x3ff, .imm, 0x0⟩,
    ⟨0x1000a4, 1, 0x4, 1, 0x4, 0x0, 0x0, 0x0, 0x0, 0xffff, .imm, 0x0⟩,
    ⟨0x1000c4, 1, 0x4, 1, 0x4, 0x0, 0x0, 0x0, 0x0, 0xffff, .imm, 0x0⟩,
    ⟨0x100000, 1, 0x4, 1, 0x4, 0x0, 0x0, 0x0, 0x3, 0x0, .imm, 0x0⟩,
    ⟨0x1000b0, 1, 0x4, 1, 0x4, 0x0, 0x1ff, 0x0, 0x0, 0xf000, .imm, 0x0⟩,
    ⟨0x1000b8, 1, 0x4, 1, 0x4, 0x0, 0x7, 0x0, 0x0, 0x0, .imm, 0x0⟩,
    ⟨0x1000bc, 1, 0x4, 1, 0x4, 0x0, 0x1f, 0x0, 0x0, 0x0, .imm, 0x0⟩,
    ⟨0x1000b4, 1, 0x4, 1, 0x4, 0x0, 0x0, 0xffffffff, 0x0, 0x0, .imm, 0x0⟩ ]

/-! ## SEG -/

abbrev SEG_CTRL : Nat := 0x110000
abbrev SEG_CTRL_blink : Fld := ⟨SEG_CTRL, 1, 1⟩
abbrev SEG_CTRL_host : Fld := ⟨SEG_CTRL, 0, 0⟩
abbrev SEG_CFG : Nat := 0x110004
abbrev SEG_CFG_wide : Fld := ⟨SEG_CFG, 16, 16⟩
abbrev SEG_CFG_vlcd : Fld := ⟨SEG_CFG, 11, 4⟩
abbrev SEG_CFG_rate : Fld := ⟨SEG_CFG, 1, 0⟩
abbrev SEG_RAM (i : Nat) : Nat := 0x110010 + 0x4 * i
abbrev SEG_RAM_val (i : Nat) : Fld := ⟨(SEG_RAM i), 31, 0⟩
abbrev SEG_STAT : Nat := 0x110008
abbrev SEG_STAT_narrow : Fld := ⟨SEG_STAT, 18, 18⟩
abbrev SEG_STAT_kind : Fld := ⟨SEG_STAT, 17, 16⟩
abbrev SEG_STAT_code : Fld := ⟨SEG_STAT, 15, 8⟩
abbrev SEG_STAT_owner : Fld := ⟨SEG_STAT, 0, 0⟩
abbrev SEG_SHOWN (i : Nat) : Nat := 0x110030 + 0x4 * i
abbrev SEG_SHOWN_val (i : Nat) : Fld := ⟨(SEG_SHOWN i), 31, 0⟩

/-- The rows of the SEG block. -/
def segRows : List RegRow :=
  [ ⟨0x110000, 1, 0x4, 1, 0x4, 0x3, 0x0, 0x0, 0x0, 0x0, .imm, 0x0⟩,
    ⟨0x110004, 1, 0x4, 1, 0x4, 0x10ff3, 0x0, 0x0, 0x0, 0x0, .imm, 0x280⟩,
    ⟨0x110010, 5, 0x4, 1, 0x4, 0xffffffff, 0x0, 0x0, 0x0, 0x0, .imm, 0x0⟩,
    ⟨0x110008, 1, 0x4, 1, 0x4, 0x0, 0x0, 0x0, 0x0, 0x7ff01, .imm, 0x0⟩,
    ⟨0x110030, 5, 0x4, 1, 0x4, 0x0, 0x0, 0x0, 0x0, 0xffffffff, .imm, 0x0⟩ ]

/-! ## MEM -/

abbrev MEM_GLASS : Nat := 0x120000
abbrev MEM_GLASS_fbits : Fld := ⟨MEM_GLASS, 29, 28⟩
abbrev MEM_GLASS_height : Fld := ⟨MEM_GLASS, 24, 16⟩
abbrev MEM_GLASS_width : Fld := ⟨MEM_GLASS, 7, 0⟩
abbrev MEM_WIN_WP : Nat := 0x12000c
abbrev MEM_WIN_WP_prot : Fld := ⟨MEM_WIN_WP, 10, 0⟩
abbrev MEM_ECC_LIM : Nat := 0x120018
abbrev MEM_ECC_LIM_frame : Fld := ⟨MEM_ECC_LIM, 7, 0⟩
abbrev MEM_ECC_LIM_repeat : Fld := ⟨MEM_ECC_LIM, 11, 8⟩
abbrev MEM_SCRUB : Nat := 0x12001c
abbrev MEM_SCRUB_en : Fld := ⟨MEM_SCRUB, 0, 0⟩
abbrev MEM_SCRUB_rate : Fld := ⟨MEM_SCRUB, 15, 8⟩
abbrev MEM_IRQ_EN : Nat := 0x12002c
abbrev MEM_IRQ_EN_ue : Fld := ⟨MEM_IRQ_EN, 0, 0⟩
abbrev MEM_IRQ_EN_lim : Fld := ⟨MEM_IRQ_EN, 1, 1⟩
abbrev MEM_IRQ_EN_march_done : Fld := ⟨MEM_IRQ_EN, 2, 2⟩
abbrev MEM_IRQ_EN_march_fail : Fld := ⟨MEM_IRQ_EN, 3, 3⟩
abbrev MEM_IRQ_EN_pond_ue : Fld := ⟨MEM_IRQ_EN, 4, 4⟩
abbrev MEM_MARCH_CTRL : Nat := 0x120030
abbrev MEM_MARCH_CTRL_interval : Fld := ⟨MEM_MARCH_CTRL, 15, 8⟩
abbrev MEM_MARCH_CTRL_alg : Fld := ⟨MEM_MARCH_CTRL, 0, 0⟩
abbrev MEM_BANK_CFG (i : Nat) : Nat := 0x121000 + 0x4 * i
abbrev MEM_BANK_CFG_release (i : Nat) : Fld := ⟨(MEM_BANK_CFG i), 2, 2⟩
abbrev MEM_BANK_CFG_pin (i : Nat) : Fld := ⟨(MEM_BANK_CFG i), 1, 1⟩
abbrev MEM_BANK_CFG_ret (i : Nat) : Fld := ⟨(MEM_BANK_CFG i), 0, 0⟩
abbrev MEM_GLASS_ACT : Nat := 0x120004
abbrev MEM_GLASS_ACT_val : Fld := ⟨MEM_GLASS_ACT, 31, 0⟩
abbrev MEM_FS_STAT : Nat := 0x120008
abbrev MEM_FS_STAT_passes : Fld := ⟨MEM_FS_STAT, 31, 16⟩
abbrev MEM_FS_STAT_init : Fld := ⟨MEM_FS_STAT, 2, 2⟩
abbrev MEM_FS_STAT_cmp : Fld := ⟨MEM_FS_STAT, 1, 1⟩
abbrev MEM_FS_STAT_wbuf : Fld := ⟨MEM_FS_STAT, 0, 0⟩
abbrev MEM_ECC_ADDR : Nat := 0x120014
abbrev MEM_ECC_ADDR_val : Fld := ⟨MEM_ECC_ADDR, 31, 0⟩
abbrev MEM_POND_ECC_ADDR : Nat := 0x120024
abbrev MEM_POND_ECC_ADDR_val : Fld := ⟨MEM_POND_ECC_ADDR, 31, 0⟩
abbrev MEM_MARCH_STAT : Nat := 0x120038
abbrev MEM_MARCH_STAT_segment : Fld := ⟨MEM_MARCH_STAT, 29, 25⟩
abbrev MEM_MARCH_STAT_bank : Fld := ⟨MEM_MARCH_STAT, 24, 16⟩
abbrev MEM_MARCH_STAT_err : Fld := ⟨MEM_MARCH_STAT, 15, 8⟩
abbrev MEM_MARCH_STAT_fail : Fld := ⟨MEM_MARCH_STAT, 3, 3⟩
abbrev MEM_MARCH_STAT_mode : Fld := ⟨MEM_MARCH_STAT, 2, 2⟩
abbrev MEM_MARCH_STAT_done : Fld := ⟨MEM_MARCH_STAT, 1, 1⟩
abbrev MEM_MARCH_STAT_busy : Fld := ⟨MEM_MARCH_STAT, 0, 0⟩
abbrev MEM_MARCH_FAIL : Nat := 0x12003c
abbrev MEM_MARCH_FAIL_bank : Fld := ⟨MEM_MARCH_FAIL, 8, 0⟩
abbrev MEM_MARCH_FAIL_segment : Fld := ⟨MEM_MARCH_FAIL, 13, 9⟩
abbrev MEM_MARCH_FAIL_word : Fld := ⟨MEM_MARCH_FAIL, 22, 14⟩
abbrev MEM_MARCH_FAIL_bit : Fld := ⟨MEM_MARCH_FAIL, 29, 23⟩
abbrev MEM_RGN_BASE (i : Nat) : Nat := 0x120080 + 0x4 * i
abbrev MEM_RGN_BASE_val (i : Nat) : Fld := ⟨(MEM_RGN_BASE i), 31, 0⟩
abbrev MEM_RGN_SIZE (i : Nat) : Nat := 0x1200c0 + 0x4 * i
abbrev MEM_RGN_SIZE_val (i : Nat) : Fld := ⟨(MEM_RGN_SIZE i), 31, 0⟩
abbrev MEM_BANK_INFO (i : Nat) : Nat := 0x122000 + 0x4 * i
abbrev MEM_BANK_INFO_retired (i : Nat) : Fld := ⟨(MEM_BANK_INFO i), 31, 31⟩
abbrev MEM_BANK_INFO_failing (i : Nat) : Fld := ⟨(MEM_BANK_INFO i), 30, 30⟩
abbrev MEM_BANK_INFO_pinned (i : Nat) : Fld := ⟨(MEM_BANK_INFO i), 29, 29⟩
abbrev MEM_BANK_INFO_retained (i : Nat) : Fld := ⟨(MEM_BANK_INFO i), 28, 28⟩
abbrev MEM_BANK_INFO_released (i : Nat) : Fld := ⟨(MEM_BANK_INFO i), 27, 27⟩
abbrev MEM_BANK_INFO_test (i : Nat) : Fld := ⟨(MEM_BANK_INFO i), 26, 26⟩
abbrev MEM_BANK_INFO_patches (i : Nat) : Fld := ⟨(MEM_BANK_INFO i), 25, 20⟩
abbrev MEM_BANK_INFO_use (i : Nat) : Fld := ⟨(MEM_BANK_INFO i), 19, 16⟩
abbrev MEM_BANK_INFO_phys (i : Nat) : Fld := ⟨(MEM_BANK_INFO i), 8, 0⟩
abbrev MEM_ECC_CNT : Nat := 0x120010
abbrev MEM_ECC_CNT_corr : Fld := ⟨MEM_ECC_CNT, 15, 0⟩
abbrev MEM_ECC_CNT_uncorr : Fld := ⟨MEM_ECC_CNT, 31, 16⟩
abbrev MEM_POND_ECC : Nat := 0x120020
abbrev MEM_POND_ECC_corr : Fld := ⟨MEM_POND_ECC, 15, 0⟩
abbrev MEM_POND_ECC_uncorr : Fld := ⟨MEM_POND_ECC, 31, 16⟩
abbrev MEM_CONFLICT (i : Nat) : Nat := 0x120100 + 0x4 * i
abbrev MEM_CONFLICT_val (i : Nat) : Fld := ⟨(MEM_CONFLICT i), 31, 0⟩
abbrev MEM_IRQ : Nat := 0x120028
abbrev MEM_IRQ_ue : Fld := ⟨MEM_IRQ, 0, 0⟩
abbrev MEM_IRQ_lim : Fld := ⟨MEM_IRQ, 1, 1⟩
abbrev MEM_IRQ_march_done : Fld := ⟨MEM_IRQ, 2, 2⟩
abbrev MEM_IRQ_march_fail : Fld := ⟨MEM_IRQ, 3, 3⟩
abbrev MEM_IRQ_pond_ue : Fld := ⟨MEM_IRQ, 4, 4⟩
abbrev MEM_MARCH_CMD : Nat := 0x120034
abbrev MEM_MARCH_CMD_op : Fld := ⟨MEM_MARCH_CMD, 1, 0⟩

/-- The rows of the MEM block. -/
def memRows : List RegRow :=
  [ ⟨0x120000, 1, 0x4, 1, 0x4, 0x31ff00ff, 0x0, 0x0, 0x0, 0x0, .imm, 0x1100080⟩,
    ⟨0x12000c, 1, 0x4, 1, 0x4, 0x7ff, 0x0, 0x0, 0x0, 0x0, .imm, 0x47⟩,
    ⟨0x120018, 1, 0x4, 1, 0x4, 0xfff, 0x0, 0x0, 0x0, 0x0, .imm, 0x310⟩,
    ⟨0x12001c, 1, 0x4, 1, 0x4, 0xff01, 0x0, 0x0, 0x0, 0x0, .imm, 0x401⟩,
    ⟨0x12002c, 1, 0x4, 1, 0x4, 0x1f, 0x0, 0x0, 0x0, 0x0, .imm, 0x0⟩,
    ⟨0x120030, 1, 0x4, 1, 0x4, 0xff01, 0x0, 0x0, 0x0, 0x0, .imm, 0xa00⟩,
    ⟨0x121000, 384, 0x4, 1, 0x4, 0x7, 0x0, 0x0, 0x0, 0x0, .imm, 0x0⟩,
    ⟨0x120004, 1, 0x4, 1, 0x4, 0x0, 0x0, 0x0, 0x0, 0xffffffff, .imm, 0x0⟩,
    ⟨0x120008, 1, 0x4, 1, 0x4, 0x0, 0x0, 0x0, 0x0, 0xffff0007, .imm, 0x0⟩,
    ⟨0x120014, 1, 0x4, 1, 0x4, 0x0, 0x0, 0x0, 0x0, 0xffffffff, .imm, 0x0⟩,
    ⟨0x120024, 1, 0x4, 1, 0x4, 0x0, 0x0, 0x0, 0x0, 0xffffffff, .imm, 0x0⟩,
    ⟨0x120038, 1, 0x4, 1, 0x4, 0x0, 0x0, 0x0, 0x0, 0x3fffff0f, .imm, 0x0⟩,
    ⟨0x12003c, 1, 0x4, 1, 0x4, 0x0, 0x0, 0x0, 0x0, 0x3fffffff, .imm, 0x0⟩,
    ⟨0x120080, 11, 0x4, 1, 0x4, 0x0, 0x0, 0x0, 0x0, 0xffffffff, .imm, 0x0⟩,
    ⟨0x1200c0, 11, 0x4, 1, 0x4, 0x0, 0x0, 0x0, 0x0, 0xffffffff, .imm, 0x0⟩,
    ⟨0x122000, 384, 0x4, 1, 0x4, 0x0, 0x0, 0x0, 0x0, 0xffff01ff, .imm, 0x0⟩,
    ⟨0x120010, 1, 0x4, 1, 0x4, 0x0, 0x0, 0xffffffff, 0x0, 0x0, .imm, 0x0⟩,
    ⟨0x120020, 1, 0x4, 1, 0x4, 0x0, 0x0, 0xffffffff, 0x0, 0x0, .imm, 0x0⟩,
    ⟨0x120100, 16, 0x4, 1, 0x4, 0x0, 0x0, 0xffffffff, 0x0, 0x0, .imm, 0x0⟩,
    ⟨0x120028, 1, 0x4, 1, 0x4, 0x0, 0x1f, 0x0, 0x0, 0x0, .imm, 0x0⟩,
    ⟨0x120034, 1, 0x4, 1, 0x4, 0x0, 0x0, 0x0, 0x3, 0x0, .imm, 0x0⟩ ]

/-! ## KEEP -/

abbrev KEEP_CTRL : Nat := 0x140000
abbrev KEEP_CTRL_auto : Fld := ⟨KEEP_CTRL, 7, 0⟩
abbrev KEEP_PTR : Nat := 0x140010
abbrev KEEP_PTR_ptr : Fld := ⟨KEEP_PTR, 17, 2⟩
abbrev KEEP_PTR_end : Fld := ⟨KEEP_PTR, 18, 18⟩
abbrev KEEP_DATA : Nat := 0x140014
abbrev KEEP_DATA_val : Fld := ⟨KEEP_DATA, 31, 0⟩
abbrev KEEP_IRQ_EN : Nat := 0x140030
abbrev KEEP_IRQ_EN_store_done : Fld := ⟨KEEP_IRQ_EN, 0, 0⟩
abbrev KEEP_IRQ_EN_store_fail : Fld := ⟨KEEP_IRQ_EN, 1, 1⟩
abbrev KEEP_IRQ_EN_rec_done : Fld := ⟨KEEP_IRQ_EN, 2, 2⟩
abbrev KEEP_IRQ_EN_late : Fld := ⟨KEEP_IRQ_EN, 3, 3⟩
abbrev KEEP_REC_PG : Nat := 0x14004c
abbrev KEEP_REC_PG_copy0 : Fld := ⟨KEEP_REC_PG, 9, 0⟩
abbrev KEEP_REC_PG_copy1 : Fld := ⟨KEEP_REC_PG, 25, 16⟩
abbrev KEEP_CTR_SEL : Nat := 0x140050
abbrev KEEP_CTR_SEL_index : Fld := ⟨KEEP_CTR_SEL, 7, 0⟩
abbrev KEEP_LOG_DATA (i : Nat) : Nat := 0x140070 + 0x4 * i
abbrev KEEP_LOG_DATA_val (i : Nat) : Fld := ⟨(KEEP_LOG_DATA i), 31, 0⟩
abbrev KEEP_RGN (i : Nat) : Nat := 0x140100 + 0x4 * i
abbrev KEEP_RGN_wp (i : Nat) : Fld := ⟨(KEEP_RGN i), 31, 31⟩
abbrev KEEP_RGN_rp (i : Nat) : Fld := ⟨(KEEP_RGN i), 30, 30⟩
abbrev KEEP_RGN_pw (i : Nat) : Fld := ⟨(KEEP_RGN i), 29, 29⟩
abbrev KEEP_RGN_count (i : Nat) : Fld := ⟨(KEEP_RGN i), 25, 16⟩
abbrev KEEP_RGN_first (i : Nat) : Fld := ⟨(KEEP_RGN i), 9, 0⟩
abbrev KEEP_STAGE (i : Nat) : Nat := 0x140400 + 0x4 * i
abbrev KEEP_STAGE_val (i : Nat) : Fld := ⟨(KEEP_STAGE i), 31, 0⟩
abbrev KEEP_STAT : Nat := 0x140004
abbrev KEEP_STAT_err : Fld := ⟨KEEP_STAT, 31, 24⟩
abbrev KEEP_STAT_dirty : Fld := ⟨KEEP_STAT, 23, 13⟩
abbrev KEEP_STAT_clk_lost : Fld := ⟨KEEP_STAT, 9, 9⟩
abbrev KEEP_STAT_vol_kept : Fld := ⟨KEEP_STAT, 8, 8⟩
abbrev KEEP_STAT_vkeep_ok : Fld := ⟨KEEP_STAT, 7, 7⟩
abbrev KEEP_STAT_dep : Fld := ⟨KEEP_STAT, 6, 4⟩
abbrev KEEP_STAT_state : Fld := ⟨KEEP_STAT, 2, 0⟩
abbrev KEEP_AUTH : Nat := 0x14001c
abbrev KEEP_AUTH_val : Fld := ⟨KEEP_AUTH, 31, 0⟩
abbrev KEEP_CLK : Nat := 0x140020
abbrev KEEP_CLK_val : Fld := ⟨KEEP_CLK, 31, 0⟩
abbrev KEEP_REC_STAT : Nat := 0x140044
abbrev KEEP_REC_STAT_absent : Fld := ⟨KEEP_REC_STAT, 20, 20⟩
abbrev KEEP_REC_STAT_twin : Fld := ⟨KEEP_REC_STAT, 19, 19⟩
abbrev KEEP_REC_STAT_taken : Fld := ⟨KEEP_REC_STAT, 18, 18⟩
abbrev KEEP_REC_STAT_v1 : Fld := ⟨KEEP_REC_STAT, 17, 17⟩
abbrev KEEP_REC_STAT_v0 : Fld := ⟨KEEP_REC_STAT, 16, 16⟩
abbrev KEEP_REC_STAT_err : Fld := ⟨KEEP_REC_STAT, 15, 8⟩
abbrev KEEP_REC_STAT_done : Fld := ⟨KEEP_REC_STAT, 1, 1⟩
abbrev KEEP_REC_STAT_busy : Fld := ⟨KEEP_REC_STAT, 0, 0⟩
abbrev KEEP_REC_SEQ : Nat := 0x140048
abbrev KEEP_REC_SEQ_val : Fld := ⟨KEEP_REC_SEQ, 31, 0⟩
abbrev KEEP_CTR_LO : Nat := 0x140058
abbrev KEEP_CTR_LO_val : Fld := ⟨KEEP_CTR_LO, 31, 0⟩
abbrev KEEP_CTR_HI : Nat := 0x14005c
abbrev KEEP_CTR_HI_val : Fld := ⟨KEEP_CTR_HI, 31, 0⟩
abbrev KEEP_LOG_HEAD : Nat := 0x140064
abbrev KEEP_LOG_HEAD_head : Fld := ⟨KEEP_LOG_HEAD, 10, 0⟩
abbrev KEEP_LOG_SEQ : Nat := 0x140068
abbrev KEEP_LOG_SEQ_val : Fld := ⟨KEEP_LOG_SEQ, 31, 0⟩
abbrev KEEP_PAGE_BAD (i : Nat) : Nat := 0x140180 + 0x4 * i
abbrev KEEP_PAGE_BAD_val (i : Nat) : Fld := ⟨(KEEP_PAGE_BAD i), 31, 0⟩
abbrev KEEP_CMD : Nat := 0x140008
abbrev KEEP_CMD_op : Fld := ⟨KEEP_CMD, 2, 0⟩
abbrev KEEP_CMD_region : Fld := ⟨KEEP_CMD, 11, 8⟩
abbrev KEEP_PW : Nat := 0x140018
abbrev KEEP_PW_word : Fld := ⟨KEEP_PW, 15, 0⟩
abbrev KEEP_PW_index : Fld := ⟨KEEP_PW, 17, 16⟩
abbrev KEEP_CLK_SET : Nat := 0x140024
abbrev KEEP_CLK_SET_val : Fld := ⟨KEEP_CLK_SET, 31, 0⟩
abbrev KEEP_REC_CMD : Nat := 0x140040
abbrev KEEP_REC_CMD_length : Fld := ⟨KEEP_REC_CMD, 31, 21⟩
abbrev KEEP_REC_CMD_for_en : Fld := ⟨KEEP_REC_CMD, 20, 20⟩
abbrev KEEP_REC_CMD_for : Fld := ⟨KEEP_REC_CMD, 19, 16⟩
abbrev KEEP_REC_CMD_id : Fld := ⟨KEEP_REC_CMD, 15, 8⟩
abbrev KEEP_REC_CMD_op : Fld := ⟨KEEP_REC_CMD, 1, 0⟩
abbrev KEEP_CTR_CMD : Nat := 0x140054
abbrev KEEP_CTR_CMD_op : Fld := ⟨KEEP_CTR_CMD, 1, 0⟩
abbrev KEEP_CTR_CMD_amount : Fld := ⟨KEEP_CTR_CMD, 31, 8⟩
abbrev KEEP_LOG_CMD : Nat := 0x140060
abbrev KEEP_LOG_CMD_append : Fld := ⟨KEEP_LOG_CMD, 0, 0⟩
abbrev KEEP_EVT : Nat := 0x14000c
abbrev KEEP_EVT_twin : Fld := ⟨KEEP_EVT, 0, 0⟩
abbrev KEEP_EVT_page_bad : Fld := ⟨KEEP_EVT, 1, 1⟩
abbrev KEEP_EVT_pw_lost : Fld := ⟨KEEP_EVT, 2, 2⟩
abbrev KEEP_EVT_store_fail : Fld := ⟨KEEP_EVT, 3, 3⟩
abbrev KEEP_LATE : Nat := 0x140028
abbrev KEEP_LATE_store : Fld := ⟨KEEP_LATE, 0, 0⟩
abbrev KEEP_IRQ : Nat := 0x14002c
abbrev KEEP_IRQ_store_done : Fld := ⟨KEEP_IRQ, 0, 0⟩
abbrev KEEP_IRQ_store_fail : Fld := ⟨KEEP_IRQ, 1, 1⟩
abbrev KEEP_IRQ_rec_done : Fld := ⟨KEEP_IRQ, 2, 2⟩
abbrev KEEP_IRQ_late : Fld := ⟨KEEP_IRQ, 3, 3⟩

/-- The rows of the KEEP block. -/
def keepRows : List RegRow :=
  [ ⟨0x140000, 1, 0x4, 1, 0x4, 0xff, 0x0, 0x0, 0x0, 0x0, .imm, 0xa⟩,
    ⟨0x140010, 1, 0x4, 1, 0x4, 0x7fffc, 0x0, 0x0, 0x0, 0x0, .imm, 0x0⟩,
    ⟨0x140014, 1, 0x4, 1, 0x4, 0xffffffff, 0x0, 0x0, 0x0, 0x0, .imm, 0x0⟩,
    ⟨0x140030, 1, 0x4, 1, 0x4, 0xf, 0x0, 0x0, 0x0, 0x0, .imm, 0x0⟩,
    ⟨0x14004c, 1, 0x4, 1, 0x4, 0x3ff03ff, 0x0, 0x0, 0x0, 0x0, .imm, 0x0⟩,
    ⟨0x140050, 1, 0x4, 1, 0x4, 0xff, 0x0, 0x0, 0x0, 0x0, .imm, 0x0⟩,
    ⟨0x140070, 5, 0x4, 1, 0x4, 0xffffffff, 0x0, 0x0, 0x0, 0x0, .imm, 0x0⟩,
    ⟨0x140100, 16, 0x4, 1, 0x4, 0xc3ff03ff, 0x0, 0x0, 0x0, 0x20000000, .imm, 0x0⟩,
    ⟨0x140400, 256, 0x4, 1, 0x4, 0xffffffff, 0x0, 0x0, 0x0, 0x0, .imm, 0x0⟩,
    ⟨0x140004, 1, 0x4, 1, 0x4, 0x0, 0x0, 0x0, 0x0, 0xffffe3f7, .imm, 0x0⟩,
    ⟨0x14001c, 1, 0x4, 1, 0x4, 0x0, 0x0, 0x0, 0x0, 0xffffffff, .imm, 0x0⟩,
    ⟨0x140020, 1, 0x4, 1, 0x4, 0x0, 0x0, 0x0, 0x0, 0xffffffff, .imm, 0x0⟩,
    ⟨0x140044, 1, 0x4, 1, 0x4, 0x0, 0x0, 0x0, 0x0, 0x1fff03, .imm, 0x0⟩,
    ⟨0x140048, 1, 0x4, 1, 0x4, 0x0, 0x0, 0x0, 0x0, 0xffffffff, .imm, 0x0⟩,
    ⟨0x140058, 1, 0x4, 1, 0x4, 0x0, 0x0, 0x0, 0x0, 0xffffffff, .imm, 0x0⟩,
    ⟨0x14005c, 1, 0x4, 1, 0x4, 0x0, 0x0, 0x0, 0x0, 0xffffffff, .imm, 0x0⟩,
    ⟨0x140064, 1, 0x4, 1, 0x4, 0x0, 0x0, 0x0, 0x0, 0x7ff, .imm, 0x0⟩,
    ⟨0x140068, 1, 0x4, 1, 0x4, 0x0, 0x0, 0x0, 0x0, 0xffffffff, .imm, 0x0⟩,
    ⟨0x140180, 32, 0x4, 1, 0x4, 0x0, 0x0, 0x0, 0x0, 0xffffffff, .imm, 0x0⟩,
    ⟨0x140008, 1, 0x4, 1, 0x4, 0x0, 0x0, 0x0, 0xf07, 0x0, .imm, 0x0⟩,
    ⟨0x140018, 1, 0x4, 1, 0x4, 0x0, 0x0, 0x0, 0x3ffff, 0x0, .imm, 0x0⟩,
    ⟨0x140024, 1, 0x4, 1, 0x4, 0x0, 0x0, 0x0, 0xffffffff, 0x0, .imm, 0x0⟩,
    ⟨0x140040, 1, 0x4, 1, 0x4, 0x0, 0x0, 0x0, 0xffffff03, 0x0, .imm, 0x0⟩,
    ⟨0x140054, 1, 0x4, 1, 0x4, 0x0, 0x0, 0x0, 0xffffff03, 0x0, .imm, 0x0⟩,
    ⟨0x140060, 1, 0x4, 1, 0x4, 0x0, 0x0, 0x0, 0x1, 0x0, .imm, 0x0⟩,
    ⟨0x14000c, 1, 0x4, 1, 0x4, 0x0, 0xf, 0x0, 0x0, 0x0, .imm, 0x0⟩,
    ⟨0x140028, 1, 0x4, 1, 0x4, 0x0, 0x1, 0x0, 0x0, 0x0, .imm, 0x0⟩,
    ⟨0x14002c, 1, 0x4, 1, 0x4, 0x0, 0xf, 0x0, 0x0, 0x0, .imm, 0x0⟩ ]

/-! ## MBX -/

abbrev MB_CHAN (i : Nat) : Nat := 0x150000 + 0x4 * i
abbrev MB_CHAN_en (i : Nat) : Fld := ⟨(MB_CHAN i), 31, 31⟩
abbrev MB_CHAN_db_b (i : Nat) : Fld := ⟨(MB_CHAN i), 28, 24⟩
abbrev MB_CHAN_db_a (i : Nat) : Fld := ⟨(MB_CHAN i), 20, 16⟩
abbrev MB_CHAN_b (i : Nat) : Fld := ⟨(MB_CHAN i), 11, 8⟩
abbrev MB_CHAN_a (i : Nat) : Fld := ⟨(MB_CHAN i), 3, 0⟩
abbrev MBX_CFG : Nat := 0x150100
abbrev MBX_CFG_lock : Fld := ⟨MBX_CFG, 0, 0⟩
abbrev MB_XWAIT_TIME : Nat := 0x150104
abbrev MB_XWAIT_TIME_t : Fld := ⟨MB_XWAIT_TIME, 15, 0⟩
abbrev MB_ACK_TIME : Nat := 0x150108
abbrev MB_ACK_TIME_t : Fld := ⟨MB_ACK_TIME, 15, 0⟩
abbrev MBX_DB_MASK_SELF : Nat := 0x152008
abbrev MBX_DB_MASK_SELF_val : Fld := ⟨MBX_DB_MASK_SELF, 31, 0⟩
abbrev MBX_LOCK (i : Nat) : Nat := 0x153000 + 0x4 * i
abbrev MBX_LOCK_owner (i : Nat) : Fld := ⟨(MBX_LOCK i), 3, 0⟩
abbrev MB_TX (i : Nat) : Nat := 0x151000 + 0x20 * i
abbrev MB_TX_val (i : Nat) : Fld := ⟨(MB_TX i), 31, 0⟩
abbrev MBX_DB_RING : Nat := 0x152000
abbrev MBX_DB_RING_bit : Fld := ⟨MBX_DB_RING, 4, 0⟩
abbrev MBX_DB_RING_master : Fld := ⟨MBX_DB_RING, 11, 8⟩
abbrev MBX_LOCK_CLR : Nat := 0x153400
abbrev MBX_LOCK_CLR_lock : Fld := ⟨MBX_LOCK_CLR, 6, 0⟩
abbrev MB_RX (i : Nat) : Nat := 0x151004 + 0x20 * i
abbrev MB_RX_val (i : Nat) : Fld := ⟨(MB_RX i), 31, 0⟩
abbrev MBX_LOCK_EVT : Nat := 0x153404
abbrev MBX_LOCK_EVT_ties : Fld := ⟨MBX_LOCK_EVT, 15, 0⟩
abbrev MBX_LOCK_EVT_forced : Fld := ⟨MBX_LOCK_EVT, 31, 16⟩
abbrev MB_STAT (i : Nat) : Nat := 0x151008 + 0x20 * i
abbrev MB_STAT_xwait (i : Nat) : Fld := ⟨(MB_STAT i), 24, 24⟩
abbrev MB_STAT_full_ba (i : Nat) : Fld := ⟨(MB_STAT i), 20, 20⟩
abbrev MB_STAT_cnt_ba (i : Nat) : Fld := ⟨(MB_STAT i), 19, 16⟩
abbrev MB_STAT_full_ab (i : Nat) : Fld := ⟨(MB_STAT i), 4, 4⟩
abbrev MB_STAT_cnt_ab (i : Nat) : Fld := ⟨(MB_STAT i), 3, 0⟩
abbrev MBX_DB_STAT (i : Nat) : Nat := 0x152100 + 0x4 * i
abbrev MBX_DB_STAT_val (i : Nat) : Fld := ⟨(MBX_DB_STAT i), 31, 0⟩
abbrev MBX_DB_MASK (i : Nat) : Nat := 0x152180 + 0x4 * i
abbrev MBX_DB_MASK_val (i : Nat) : Fld := ⟨(MBX_DB_MASK i), 31, 0⟩
abbrev MBX_LOCK_PEEK (i : Nat) : Nat := 0x153200 + 0x4 * i
abbrev MBX_LOCK_PEEK_val (i : Nat) : Fld := ⟨(MBX_LOCK_PEEK i), 31, 0⟩
abbrev MB_EVT (i : Nat) : Nat := 0x15100c + 0x20 * i
abbrev MB_EVT_late_x (i : Nat) : Fld := ⟨(MB_EVT i), 10, 10⟩
abbrev MB_EVT_late_ba (i : Nat) : Fld := ⟨(MB_EVT i), 9, 9⟩
abbrev MB_EVT_late_ab (i : Nat) : Fld := ⟨(MB_EVT i), 8, 8⟩
abbrev MB_EVT_xwait (i : Nat) : Fld := ⟨(MB_EVT i), 2, 2⟩
abbrev MB_EVT_ack_ba (i : Nat) : Fld := ⟨(MB_EVT i), 1, 1⟩
abbrev MB_EVT_ack_ab (i : Nat) : Fld := ⟨(MB_EVT i), 0, 0⟩
abbrev MBX_DB_SELF : Nat := 0x152004
abbrev MBX_DB_SELF_val : Fld := ⟨MBX_DB_SELF, 31, 0⟩

/-- The rows of the MBX block. -/
def mbxRows : List RegRow :=
  [ ⟨0x150000, 64, 0x4, 1, 0x4, 0x9f1f0f0f, 0x0, 0x0, 0x0, 0x0, .imm, 0x0⟩,
    ⟨0x150100, 1, 0x4, 1, 0x4, 0x1, 0x0, 0x0, 0x0, 0x0, .imm, 0x0⟩,
    ⟨0x150104, 1, 0x4, 1, 0x4, 0xffff, 0x0, 0x0, 0x0, 0x0, .imm, 0x64⟩,
    ⟨0x150108, 1, 0x4, 1, 0x4, 0xffff, 0x0, 0x0, 0x0, 0x0, .imm, 0x1f4⟩,
    ⟨0x152008, 1, 0x4, 1, 0x4, 0xffffffff, 0x0, 0x0, 0x0, 0x0, .imm, 0x0⟩,
    ⟨0x153000, 128, 0x4, 1, 0x4, 0xf, 0x0, 0x0, 0x0, 0x0, .imm, 0x0⟩,
    ⟨0x151000, 64, 0x20, 1, 0x4, 0x0, 0x0, 0x0, 0xffffffff, 0x0, .imm, 0x0⟩,
    ⟨0x152000, 1, 0x4, 1, 0x4, 0x0, 0x0, 0x0, 0xf1f, 0x0, .imm, 0x0⟩,
    ⟨0x153400, 1, 0x4, 1, 0x4, 0x0, 0x0, 0x0, 0x7f, 0x0, .imm, 0x0⟩,
    ⟨0x151004, 64, 0x20, 1, 0x4, 0x0, 0x0, 0xffffffff, 0x0, 0x0, .imm, 0x0⟩,
    ⟨0x153404, 1, 0x4, 1, 0x4, 0x0, 0x0, 0xffffffff, 0x0, 0x0, .imm, 0x0⟩,
    ⟨0x151008, 64, 0x20, 1, 0x4, 0x0, 0x0, 0x0, 0x0, 0x11f001f, .imm, 0x0⟩,
    ⟨0x152100, 10, 0x4, 1, 0x4, 0x0, 0x0, 0x0, 0x0, 0xffffffff, .imm, 0x0⟩,
    ⟨0x152180, 10, 0x4, 1, 0x4, 0x0, 0x0, 0x0, 0x0, 0xffffffff, .imm, 0x0⟩,
    ⟨0x153200, 128, 0x4, 1, 0x4, 0x0, 0x0, 0x0, 0x0, 0xffffffff, .imm, 0x0⟩,
    ⟨0x15100c, 64, 0x20, 1, 0x4, 0x0, 0x707, 0x0, 0x0, 0x0, .imm, 0x0⟩,
    ⟨0x152004, 1, 0x4, 1, 0x4, 0x0, 0xffffffff, 0x0, 0x0, 0x0, .imm, 0x0⟩ ]

/-! ## CORE -/

abbrev CORE_CTRL (i : Nat) : Nat := 0x160000 + 0x40 * i
abbrev CORE_CTRL_halt (i : Nat) : Fld := ⟨(CORE_CTRL i), 1, 1⟩
abbrev CORE_CTRL_run (i : Nat) : Fld := ⟨(CORE_CTRL i), 0, 0⟩
abbrev CORE_BOOT (i : Nat) : Nat := 0x160008 + 0x40 * i
abbrev CORE_BOOT_val (i : Nat) : Fld := ⟨(CORE_BOOT i), 31, 0⟩
abbrev CORE_ALLOC (i : Nat) : Nat := 0x16000c + 0x40 * i
abbrev CORE_ALLOC_first (i : Nat) : Fld := ⟨(CORE_ALLOC i), 24, 16⟩
abbrev CORE_ALLOC_count (i : Nat) : Fld := ⟨(CORE_ALLOC i), 6, 0⟩
abbrev CORE_WDOG (i : Nat) : Nat := 0x160010 + 0x40 * i
abbrev CORE_WDOG_ms (i : Nat) : Fld := ⟨(CORE_WDOG i), 15, 0⟩
abbrev CORE_FSWIN (i : Nat) : Nat := 0x160018 + 0x40 * i
abbrev CORE_FSWIN_base (i : Nat) : Fld := ⟨(CORE_FSWIN i), 11, 0⟩
abbrev CORE_MTIMECMP_LO (i : Nat) : Nat := 0x160020 + 0x40 * i
abbrev CORE_MTIMECMP_LO_val (i : Nat) : Fld := ⟨(CORE_MTIMECMP_LO i), 31, 0⟩
abbrev CORE_MTIMECMP_HI (i : Nat) : Nat := 0x160024 + 0x40 * i
abbrev CORE_MTIMECMP_HI_val (i : Nat) : Fld := ⟨(CORE_MTIMECMP_HI i), 31, 0⟩
abbrev CORE_STAT (i : Nat) : Nat := 0x160004 + 0x40 * i
abbrev CORE_STAT_cause (i : Nat) : Fld := ⟨(CORE_STAT i), 23, 16⟩
abbrev CORE_STAT_load_code (i : Nat) : Fld := ⟨(CORE_STAT i), 15, 8⟩
abbrev CORE_STAT_load_err (i : Nat) : Fld := ⟨(CORE_STAT i), 3, 3⟩
abbrev CORE_STAT_wdog (i : Nat) : Fld := ⟨(CORE_STAT i), 2, 2⟩
abbrev CORE_STAT_state (i : Nat) : Fld := ⟨(CORE_STAT i), 1, 0⟩
abbrev CORE_FAULT (i : Nat) : Nat := 0x16001c + 0x40 * i
abbrev CORE_FAULT_val (i : Nat) : Fld := ⟨(CORE_FAULT i), 31, 0⟩
abbrev CORE_KICK (i : Nat) : Nat := 0x160014 + 0x40 * i
abbrev CORE_KICK_val (i : Nat) : Fld := ⟨(CORE_KICK i), 31, 0⟩
abbrev CORE_EVT (i : Nat) : Nat := 0x160028 + 0x40 * i
abbrev CORE_EVT_faults (i : Nat) : Fld := ⟨(CORE_EVT i), 15, 0⟩
abbrev CORE_EVT_expiries (i : Nat) : Fld := ⟨(CORE_EVT i), 23, 16⟩
abbrev CORE_EVT_resets (i : Nat) : Fld := ⟨(CORE_EVT i), 31, 24⟩
abbrev CORE_MTIME_LO : Nat := 0x160400
abbrev CORE_MTIME_LO_val : Fld := ⟨CORE_MTIME_LO, 31, 0⟩
abbrev CORE_MTIME_HI : Nat := 0x160404
abbrev CORE_MTIME_HI_val : Fld := ⟨CORE_MTIME_HI, 31, 0⟩
abbrev CORE_IRQ : Nat := 0x160410
abbrev CORE_IRQ_wdog : Fld := ⟨CORE_IRQ, 7, 0⟩
abbrev CORE_IRQ_load : Fld := ⟨CORE_IRQ, 15, 8⟩
abbrev CORE_LATE : Nat := 0x160418
abbrev CORE_LATE_kick : Fld := ⟨CORE_LATE, 7, 0⟩
abbrev CORE_IRQ_EN : Nat := 0x160414
abbrev CORE_IRQ_EN_wdog : Fld := ⟨CORE_IRQ_EN, 7, 0⟩
abbrev CORE_IRQ_EN_load : Fld := ⟨CORE_IRQ_EN, 15, 8⟩

/-- The rows of the CORE block. -/
def coreRows : List RegRow :=
  [ ⟨0x160000, 8, 0x40, 1, 0x4, 0x3, 0x0, 0x0, 0x0, 0x0, .imm, 0x0⟩,
    ⟨0x160008, 8, 0x40, 1, 0x4, 0xffffffff, 0x0, 0x0, 0x0, 0x0, .imm, 0x0⟩,
    ⟨0x16000c, 8, 0x40, 1, 0x4, 0x7f, 0x0, 0x0, 0x0, 0x1ff0000, .imm, 0x0⟩,
    ⟨0x160010, 8, 0x40, 1, 0x4, 0xffff, 0x0, 0x0, 0x0, 0x0, .imm, 0x0⟩,
    ⟨0x160018, 8, 0x40, 1, 0x4, 0xfff, 0x0, 0x0, 0x0, 0x0, .imm, 0x0⟩,
    ⟨0x160020, 8, 0x40, 1, 0x4, 0xffffffff, 0x0, 0x0, 0x0, 0x0, .imm, 0xffffffff⟩,
    ⟨0x160024, 8, 0x40, 1, 0x4, 0xffffffff, 0x0, 0x0, 0x0, 0x0, .imm, 0xffffffff⟩,
    ⟨0x160004, 8, 0x40, 1, 0x4, 0x0, 0x0, 0x0, 0x0, 0xffff0f, .imm, 0x0⟩,
    ⟨0x16001c, 8, 0x40, 1, 0x4, 0x0, 0x0, 0x0, 0x0, 0xffffffff, .imm, 0x0⟩,
    ⟨0x160014, 8, 0x40, 1, 0x4, 0x0, 0x0, 0x0, 0xffffffff, 0x0, .imm, 0x0⟩,
    ⟨0x160028, 8, 0x40, 1, 0x4, 0x0, 0x0, 0xffffffff, 0x0, 0x0, .imm, 0x0⟩,
    ⟨0x160400, 1, 0x4, 1, 0x4, 0x0, 0x0, 0x0, 0x0, 0xffffffff, .imm, 0x0⟩,
    ⟨0x160404, 1, 0x4, 1, 0x4, 0x0, 0x0, 0x0, 0x0, 0xffffffff, .imm, 0x0⟩,
    ⟨0x160410, 1, 0x4, 1, 0x4, 0x0, 0xffff, 0x0, 0x0, 0x0, .imm, 0x0⟩,
    ⟨0x160418, 1, 0x4, 1, 0x4, 0x0, 0xff, 0x0, 0x0, 0x0, .imm, 0x0⟩,
    ⟨0x160414, 1, 0x4, 1, 0x4, 0xffff, 0x0, 0x0, 0x0, 0x0, .imm, 0x0⟩ ]

/-! ## CHK -/

abbrev CHK_CTRL (i : Nat) : Nat := 0x170000 + 0x40 * i
abbrev CHK_CTRL_fault (i : Nat) : Fld := ⟨(CHK_CTRL i), 16, 16⟩
abbrev CHK_CTRL_period (i : Nat) : Fld := ⟨(CHK_CTRL i), 13, 12⟩
abbrev CHK_CTRL_tap (i : Nat) : Fld := ⟨(CHK_CTRL i), 9, 8⟩
abbrev CHK_CTRL_learn (i : Nat) : Fld := ⟨(CHK_CTRL i), 4, 4⟩
abbrev CHK_CTRL_en (i : Nat) : Fld := ⟨(CHK_CTRL i), 0, 0⟩
abbrev CHK_RECT_X (i : Nat) : Nat := 0x170004 + 0x40 * i
abbrev CHK_RECT_X_x (i : Nat) : Fld := ⟨(CHK_RECT_X i), 13, 0⟩
abbrev CHK_RECT_X_width (i : Nat) : Fld := ⟨(CHK_RECT_X i), 29, 16⟩
abbrev CHK_RECT_Y (i : Nat) : Nat := 0x170008 + 0x40 * i
abbrev CHK_RECT_Y_y (i : Nat) : Fld := ⟨(CHK_RECT_Y i), 12, 0⟩
abbrev CHK_RECT_Y_height (i : Nat) : Fld := ⟨(CHK_RECT_Y i), 28, 16⟩
abbrev CHK_EXP (i : Nat) (j : Nat) : Nat := 0x170020 + 0x40 * i + 0x4 * j
abbrev CHK_EXP_val (i : Nat) (j : Nat) : Fld := ⟨(CHK_EXP i j), 31, 0⟩
abbrev CHK_CRC (i : Nat) : Nat := 0x17000c + 0x40 * i
abbrev CHK_CRC_val (i : Nat) : Fld := ⟨(CHK_CRC i), 31, 0⟩
abbrev CHK_MISS (i : Nat) : Nat := 0x170010 + 0x40 * i
abbrev CHK_MISS_mismatches (i : Nat) : Fld := ⟨(CHK_MISS i), 15, 0⟩
abbrev CHK_MISS_comparisons (i : Nat) : Fld := ⟨(CHK_MISS i), 31, 16⟩
abbrev CHK_FAIL_LO : Nat := 0x171000
abbrev CHK_FAIL_LO_val : Fld := ⟨CHK_FAIL_LO, 31, 0⟩
abbrev CHK_FAIL_HI : Nat := 0x171004
abbrev CHK_FAIL_HI_val : Fld := ⟨CHK_FAIL_HI, 31, 0⟩
abbrev CHK_SKIP_LO : Nat := 0x171008
abbrev CHK_SKIP_LO_val : Fld := ⟨CHK_SKIP_LO, 31, 0⟩
abbrev CHK_SKIP_HI : Nat := 0x17100c
abbrev CHK_SKIP_HI_val : Fld := ⟨CHK_SKIP_HI, 31, 0⟩
abbrev CHK_BAD_FRAMES : Nat := 0x171010
abbrev CHK_BAD_FRAMES_val : Fld := ⟨CHK_BAD_FRAMES, 31, 0⟩
abbrev CHK_IRQ : Nat := 0x171014
abbrev CHK_IRQ_mismatch : Fld := ⟨CHK_IRQ, 0, 0⟩
abbrev CHK_IRQ_learned : Fld := ⟨CHK_IRQ, 1, 1⟩
abbrev CHK_IRQ_EN : Nat := 0x171018
abbrev CHK_IRQ_EN_mismatch : Fld := ⟨CHK_IRQ_EN, 0, 0⟩
abbrev CHK_IRQ_EN_learned : Fld := ⟨CHK_IRQ_EN, 1, 1⟩

/-- The rows of the CHK block. -/
def chkRows : List RegRow :=
  [ ⟨0x170000, 64, 0x40, 1, 0x4, 0x13311, 0x0, 0x0, 0x0, 0x0, .frame, 0x0⟩,
    ⟨0x170004, 64, 0x40, 1, 0x4, 0x3fff3fff, 0x0, 0x0, 0x0, 0x0, .frame, 0x0⟩,
    ⟨0x170008, 64, 0x40, 1, 0x4, 0x1fff1fff, 0x0, 0x0, 0x0, 0x0, .frame, 0x0⟩,
    ⟨0x170020, 64, 0x40, 4, 0x4, 0xffffffff, 0x0, 0x0, 0x0, 0x0, .frame, 0x0⟩,
    ⟨0x17000c, 64, 0x40, 1, 0x4, 0x0, 0x0, 0x0, 0x0, 0xffffffff, .imm, 0x0⟩,
    ⟨0x170010, 64, 0x40, 1, 0x4, 0x0, 0x0, 0xffffffff, 0x0, 0x0, .imm, 0x0⟩,
    ⟨0x171000, 1, 0x4, 1, 0x4, 0x0, 0x0, 0x0, 0x0, 0xffffffff, .imm, 0x0⟩,
    ⟨0x171004, 1, 0x4, 1, 0x4, 0x0, 0x0, 0x0, 0x0, 0xffffffff, .imm, 0x0⟩,
    ⟨0x171008, 1, 0x4, 1, 0x4, 0x0, 0x0, 0x0, 0x0, 0xffffffff, .imm, 0x0⟩,
    ⟨0x17100c, 1, 0x4, 1, 0x4, 0x0, 0x0, 0x0, 0x0, 0xffffffff, .imm, 0x0⟩,
    ⟨0x171010, 1, 0x4, 1, 0x4, 0x0, 0x0, 0x0, 0x0, 0xffffffff, .imm, 0x0⟩,
    ⟨0x171014, 1, 0x4, 1, 0x4, 0x0, 0x3, 0x0, 0x0, 0x0, .imm, 0x0⟩,
    ⟨0x171018, 1, 0x4, 1, 0x4, 0x3, 0x0, 0x0, 0x0, 0x0, .imm, 0x0⟩ ]

/-! ## FLT -/

abbrev FLT_STAT : Nat := 0x180004
abbrev FLT_STAT_pend : Fld := ⟨FLT_STAT, 16, 16⟩
abbrev FLT_STAT_elapsed : Fld := ⟨FLT_STAT, 14, 12⟩
abbrev FLT_STAT_count : Fld := ⟨FLT_STAT, 9, 8⟩
abbrev FLT_STAT_sev : Fld := ⟨FLT_STAT, 5, 4⟩
abbrev FLT_STAT_engine : Fld := ⟨FLT_STAT, 2, 0⟩
abbrev FLT_OPEN : Nat := 0x180008
abbrev FLT_OPEN_code : Fld := ⟨FLT_OPEN, 31, 24⟩
abbrev FLT_OPEN_inst : Fld := ⟨FLT_OPEN, 23, 16⟩
abbrev FLT_OPEN_kind : Fld := ⟨FLT_OPEN, 11, 8⟩
abbrev FLT_OPEN_sev : Fld := ⟨FLT_OPEN, 5, 4⟩
abbrev FLT_OPEN_valid : Fld := ⟨FLT_OPEN, 0, 0⟩
abbrev FLT_PEND : Nat := 0x18000c
abbrev FLT_PEND_code : Fld := ⟨FLT_PEND, 31, 24⟩
abbrev FLT_PEND_inst : Fld := ⟨FLT_PEND, 23, 16⟩
abbrev FLT_PEND_kind : Fld := ⟨FLT_PEND, 11, 8⟩
abbrev FLT_PEND_sev : Fld := ⟨FLT_PEND, 5, 4⟩
abbrev FLT_PEND_valid : Fld := ⟨FLT_PEND, 0, 0⟩
abbrev FLT_LAST : Nat := 0x180010
abbrev FLT_LAST_code : Fld := ⟨FLT_LAST, 31, 24⟩
abbrev FLT_LAST_inst : Fld := ⟨FLT_LAST, 23, 16⟩
abbrev FLT_LAST_kind : Fld := ⟨FLT_LAST, 11, 8⟩
abbrev FLT_LAST_sev : Fld := ⟨FLT_LAST, 5, 4⟩
abbrev FLT_LAST_valid : Fld := ⟨FLT_LAST, 0, 0⟩
abbrev FLT_NEWT : Nat := 0x180014
abbrev FLT_NEWT_step : Fld := ⟨FLT_NEWT, 27, 24⟩
abbrev FLT_NEWT_err : Fld := ⟨FLT_NEWT, 23, 16⟩
abbrev FLT_NEWT_prev : Fld := ⟨FLT_NEWT, 15, 13⟩
abbrev FLT_NEWT_no_regen : Fld := ⟨FLT_NEWT, 12, 12⟩
abbrev FLT_NEWT_held : Fld := ⟨FLT_NEWT, 11, 11⟩
abbrev FLT_NEWT_attempts : Fld := ⟨FLT_NEWT, 10, 8⟩
abbrev FLT_NEWT_code : Fld := ⟨FLT_NEWT, 7, 0⟩
abbrev FLT_DEGR0 : Nat := 0x180018
abbrev FLT_DEGR0_dark : Fld := ⟨FLT_DEGR0, 6, 0⟩
abbrev FLT_DEGR0_parked : Fld := ⟨FLT_DEGR0, 14, 8⟩
abbrev FLT_DEGR0_jammed : Fld := ⟨FLT_DEGR0, 20, 16⟩
abbrev FLT_DEGR0_layers : Fld := ⟨FLT_DEGR0, 28, 24⟩
abbrev FLT_DEGR0_any : Fld := ⟨FLT_DEGR0, 31, 31⟩
abbrev FLT_DEGR1 : Nat := 0x18001c
abbrev FLT_DEGR1_frozen : Fld := ⟨FLT_DEGR1, 14, 0⟩
abbrev FLT_LATE_SUM : Nat := 0x18002c
abbrev FLT_LATE_SUM_bits : Fld := ⟨FLT_LATE_SUM, 12, 0⟩
abbrev FLT_AV_FRAMES : Nat := 0x180060
abbrev FLT_AV_FRAMES_val : Fld := ⟨FLT_AV_FRAMES, 31, 0⟩
abbrev FLT_AV_BAD : Nat := 0x180064
abbrev FLT_AV_BAD_val : Fld := ⟨FLT_AV_BAD, 31, 0⟩
abbrev FLT_AV_EXCL : Nat := 0x180068
abbrev FLT_AV_EXCL_val : Fld := ⟨FLT_AV_EXCL, 31, 0⟩
abbrev FLT_HV_LAST : Nat := 0x180800
abbrev FLT_HV_LAST_code : Fld := ⟨FLT_HV_LAST, 31, 24⟩
abbrev FLT_HV_LAST_inst : Fld := ⟨FLT_HV_LAST, 23, 16⟩
abbrev FLT_HV_LAST_kind : Fld := ⟨FLT_HV_LAST, 11, 8⟩
abbrev FLT_HV_LAST_sev : Fld := ⟨FLT_HV_LAST, 5, 4⟩
abbrev FLT_HV_LAST_valid : Fld := ⟨FLT_HV_LAST, 0, 0⟩
abbrev FLT_CTRL : Nat := 0x180000
abbrev FLT_CTRL_hold_regen : Fld := ⟨FLT_CTRL, 8, 8⟩
abbrev FLT_CTRL_log_s1 : Fld := ⟨FLT_CTRL, 0, 0⟩
abbrev FLT_IRQ_EN : Nat := 0x180034
abbrev FLT_IRQ_EN_s1 : Fld := ⟨FLT_IRQ_EN, 0, 0⟩
abbrev FLT_IRQ_EN_s2 : Fld := ⟨FLT_IRQ_EN, 1, 1⟩
abbrev FLT_IRQ_EN_s3 : Fld := ⟨FLT_IRQ_EN, 2, 2⟩
abbrev FLT_IRQ_EN_esc : Fld := ⟨FLT_IRQ_EN, 3, 3⟩
abbrev FLT_IRQ_EN_done : Fld := ⟨FLT_IRQ_EN, 4, 4⟩
abbrev FLT_IRQ_EN_held : Fld := ⟨FLT_IRQ_EN, 5, 5⟩
abbrev FLT_IRQ_EN_late : Fld := ⟨FLT_IRQ_EN, 6, 6⟩
abbrev FLT_IRQ_EN_degr : Fld := ⟨FLT_IRQ_EN, 7, 7⟩
abbrev FLT_EVT : Nat := 0x180020
abbrev FLT_EVT_s1 : Fld := ⟨FLT_EVT, 7, 0⟩
abbrev FLT_EVT_s2 : Fld := ⟨FLT_EVT, 15, 8⟩
abbrev FLT_EVT_s3 : Fld := ⟨FLT_EVT, 23, 16⟩
abbrev FLT_EVT_esc : Fld := ⟨FLT_EVT, 31, 24⟩
abbrev FLT_LAT (i : Nat) : Nat := 0x180040 + 0x4 * i
abbrev FLT_LAT_val (i : Nat) : Fld := ⟨(FLT_LAT i), 31, 0⟩
abbrev FLT_AV_CAUSE : Nat := 0x18006c
abbrev FLT_AV_CAUSE_c1 : Fld := ⟨FLT_AV_CAUSE, 7, 0⟩
abbrev FLT_AV_CAUSE_c2 : Fld := ⟨FLT_AV_CAUSE, 15, 8⟩
abbrev FLT_AV_CAUSE_c3 : Fld := ⟨FLT_AV_CAUSE, 23, 16⟩
abbrev FLT_AV_CAUSE_c4 : Fld := ⟨FLT_AV_CAUSE, 31, 24⟩
abbrev FLT_RAISE : Nat := 0x180024
abbrev FLT_RAISE_sev : Fld := ⟨FLT_RAISE, 9, 8⟩
abbrev FLT_RAISE_inst : Fld := ⟨FLT_RAISE, 23, 16⟩
abbrev FLT_LATE : Nat := 0x180028
abbrev FLT_LATE_budget : Fld := ⟨FLT_LATE, 0, 0⟩
abbrev FLT_IRQ : Nat := 0x180030
abbrev FLT_IRQ_s1 : Fld := ⟨FLT_IRQ, 0, 0⟩
abbrev FLT_IRQ_s2 : Fld := ⟨FLT_IRQ, 1, 1⟩
abbrev FLT_IRQ_s3 : Fld := ⟨FLT_IRQ, 2, 2⟩
abbrev FLT_IRQ_esc : Fld := ⟨FLT_IRQ, 3, 3⟩
abbrev FLT_IRQ_done : Fld := ⟨FLT_IRQ, 4, 4⟩
abbrev FLT_IRQ_held : Fld := ⟨FLT_IRQ, 5, 5⟩
abbrev FLT_IRQ_late : Fld := ⟨FLT_IRQ, 6, 6⟩
abbrev FLT_IRQ_degr : Fld := ⟨FLT_IRQ, 7, 7⟩

/-- The rows of the FLT block. -/
def fltRows : List RegRow :=
  [ ⟨0x180004, 1, 0x4, 1, 0x4, 0x0, 0x0, 0x0, 0x0, 0x17337, .imm, 0x0⟩,
    ⟨0x180008, 1, 0x4, 1, 0x4, 0x0, 0x0, 0x0, 0x0, 0xffff0f31, .imm, 0x0⟩,
    ⟨0x18000c, 1, 0x4, 1, 0x4, 0x0, 0x0, 0x0, 0x0, 0xffff0f31, .imm, 0x0⟩,
    ⟨0x180010, 1, 0x4, 1, 0x4, 0x0, 0x0, 0x0, 0x0, 0xffff0f31, .imm, 0x0⟩,
    ⟨0x180014, 1, 0x4, 1, 0x4, 0x0, 0x0, 0x0, 0x0, 0xfffffff, .imm, 0x0⟩,
    ⟨0x180018, 1, 0x4, 1, 0x4, 0x0, 0x0, 0x0, 0x0, 0x9f1f7f7f, .imm, 0x0⟩,
    ⟨0x18001c, 1, 0x4, 1, 0x4, 0x0, 0x0, 0x0, 0x0, 0x7fff, .imm, 0x0⟩,
    ⟨0x18002c, 1, 0x4, 1, 0x4, 0x0, 0x0, 0x0, 0x0, 0x1fff, .imm, 0x0⟩,
    ⟨0x180060, 1, 0x4, 1, 0x4, 0x0, 0x0, 0x0, 0x0, 0xffffffff, .imm, 0x0⟩,
    ⟨0x180064, 1, 0x4, 1, 0x4, 0x0, 0x0, 0x0, 0x0, 0xffffffff, .imm, 0x0⟩,
    ⟨0x180068, 1, 0x4, 1, 0x4, 0x0, 0x0, 0x0, 0x0, 0xffffffff, .imm, 0x0⟩,
    ⟨0x180800, 1, 0x4, 1, 0x4, 0x0, 0x0, 0x0, 0x0, 0xffff0f31, .imm, 0x0⟩,
    ⟨0x180000, 1, 0x4, 1, 0x4, 0x101, 0x0, 0x0, 0x0, 0x0, .imm, 0x0⟩,
    ⟨0x180034, 1, 0x4, 1, 0x4, 0xff, 0x0, 0x0, 0x0, 0x0, .imm, 0x0⟩,
    ⟨0x180020, 1, 0x4, 1, 0x4, 0x0, 0x0, 0xffffffff, 0x0, 0x0, .imm, 0x0⟩,
    ⟨0x180040, 8, 0x4, 1, 0x4, 0x0, 0x0, 0xffffffff, 0x0, 0x0, .imm, 0x0⟩,
    ⟨0x18006c, 1, 0x4, 1, 0x4, 0x0, 0x0, 0xffffffff, 0x0, 0x0, .imm, 0x0⟩,
    ⟨0x180024, 1, 0x4, 1, 0x4, 0x0, 0x0, 0x0, 0xff0300, 0x0, .imm, 0x0⟩,
    ⟨0x180028, 1, 0x4, 1, 0x4, 0x0, 0x1, 0x0, 0x0, 0x0, .imm, 0x0⟩,
    ⟨0x180030, 1, 0x4, 1, 0x4, 0x0, 0xff, 0x0, 0x0, 0x0, .imm, 0x0⟩ ]

/-! ## CLK -/

abbrev CLK_SSC : Nat := 0x190004
abbrev CLK_SSC_pix : Fld := ⟨CLK_SSC, 28, 24⟩
abbrev CLK_SSC_core : Fld := ⟨CLK_SSC, 20, 16⟩
abbrev CLK_SSC_hop : Fld := ⟨CLK_SSC, 15, 15⟩
abbrev CLK_SSC_fab : Fld := ⟨CLK_SSC, 12, 8⟩
abbrev CLK_SSC_timer : Fld := ⟨CLK_SSC, 7, 5⟩
abbrev CLK_SSC_acl : Fld := ⟨CLK_SSC, 4, 0⟩
abbrev CLK_FCLK : Nat := 0x190008
abbrev CLK_FCLK_pend : Fld := ⟨CLK_FCLK, 8, 8⟩
abbrev CLK_FCLK_cur : Fld := ⟨CLK_FCLK, 5, 4⟩
abbrev CLK_FCLK_req : Fld := ⟨CLK_FCLK, 1, 0⟩
abbrev CLK_AVS : Nat := 0x190010
abbrev CLK_AVS_manual : Fld := ⟨CLK_AVS, 31, 31⟩
abbrev CLK_AVS_max : Fld := ⟨CLK_AVS, 29, 24⟩
abbrev CLK_AVS_min : Fld := ⟨CLK_AVS, 21, 16⟩
abbrev CLK_AVS_cur : Fld := ⟨CLK_AVS, 13, 8⟩
abbrev CLK_AVS_set : Fld := ⟨CLK_AVS, 5, 0⟩
abbrev CLK_AGE_CFG : Nat := 0x190018
abbrev CLK_AGE_CFG_period : Fld := ⟨CLK_AGE_CFG, 31, 24⟩
abbrev CLK_AGE_CFG_hard : Fld := ⟨CLK_AGE_CFG, 23, 16⟩
abbrev CLK_AGE_CFG_ceil : Fld := ⟨CLK_AGE_CFG, 15, 8⟩
abbrev CLK_AGE_CFG_floor : Fld := ⟨CLK_AGE_CFG, 7, 0⟩
abbrev CLK_MON_SEL : Nat := 0x190020
abbrev CLK_MON_SEL_index : Fld := ⟨CLK_MON_SEL, 7, 0⟩
abbrev CLK_EYE_SEL : Nat := 0x190028
abbrev CLK_EYE_SEL_index : Fld := ⟨CLK_EYE_SEL, 7, 0⟩
abbrev CLK_EYE_SEL_kind : Fld := ⟨CLK_EYE_SEL, 9, 8⟩
abbrev CLK_EYE_SEL_start : Fld := ⟨CLK_EYE_SEL, 16, 16⟩
abbrev CLK_LINK_CFG : Nat := 0x190030
abbrev CLK_LINK_CFG_fom_min : Fld := ⟨CLK_LINK_CFG, 7, 0⟩
abbrev CLK_LINK_CFG_en : Fld := ⟨CLK_LINK_CFG, 8, 8⟩
abbrev CLK_IO_DRV : Nat := 0x190034
abbrev CLK_IO_DRV_drv : Fld := ⟨CLK_IO_DRV, 15, 0⟩
abbrev CLK_IN_FILT : Nat := 0x190038
abbrev CLK_IN_FILT_perst : Fld := ⟨CLK_IN_FILT, 2, 0⟩
abbrev CLK_IN_FILT_hpd : Fld := ⟨CLK_IN_FILT, 6, 4⟩
abbrev CLK_IN_FILT_trst : Fld := ⟨CLK_IN_FILT, 10, 8⟩
abbrev CLK_IRQ_EN : Nat := 0x190044
abbrev CLK_IRQ_EN_replan : Fld := ⟨CLK_IRQ_EN, 0, 0⟩
abbrev CLK_IRQ_EN_floor : Fld := ⟨CLK_IRQ_EN, 1, 1⟩
abbrev CLK_IRQ_EN_rlim : Fld := ⟨CLK_IRQ_EN, 2, 2⟩
abbrev CLK_IRQ_EN_avs : Fld := ⟨CLK_IRQ_EN, 3, 3⟩
abbrev CLK_STAT : Nat := 0x190000
abbrev CLK_STAT_plls : Fld := ⟨CLK_STAT, 4, 0⟩
abbrev CLK_STAT_acl : Fld := ⟨CLK_STAT, 16, 5⟩
abbrev CLK_STAT_xtal : Fld := ⟨CLK_STAT, 24, 24⟩
abbrev CLK_STAT_avs_err : Fld := ⟨CLK_STAT, 25, 25⟩
abbrev CLK_RLIM : Nat := 0x19000c
abbrev CLK_RLIM_cur : Fld := ⟨CLK_RLIM, 15, 0⟩
abbrev CLK_RLIM_pend : Fld := ⟨CLK_RLIM, 31, 16⟩
abbrev CLK_AVS_MON : Nat := 0x190014
abbrev CLK_AVS_MON_mv : Fld := ⟨CLK_AVS_MON, 15, 0⟩
abbrev CLK_AGE_STAT : Nat := 0x19001c
abbrev CLK_AGE_STAT_slack : Fld := ⟨CLK_AGE_STAT, 15, 0⟩
abbrev CLK_AGE_STAT_index : Fld := ⟨CLK_AGE_STAT, 23, 16⟩
abbrev CLK_MON_DATA : Nat := 0x190024
abbrev CLK_MON_DATA_reading : Fld := ⟨CLK_MON_DATA, 15, 0⟩
abbrev CLK_MON_DATA_kind : Fld := ⟨CLK_MON_DATA, 16, 16⟩
abbrev CLK_EYE_DATA : Nat := 0x19002c
abbrev CLK_EYE_DATA_horiz : Fld := ⟨CLK_EYE_DATA, 7, 0⟩
abbrev CLK_EYE_DATA_vert : Fld := ⟨CLK_EYE_DATA, 15, 8⟩
abbrev CLK_EYE_DATA_fom : Fld := ⟨CLK_EYE_DATA, 23, 16⟩
abbrev CLK_EYE_DATA_valid : Fld := ⟨CLK_EYE_DATA, 30, 30⟩
abbrev CLK_EYE_DATA_busy : Fld := ⟨CLK_EYE_DATA, 31, 31⟩
abbrev CLK_HV_STAT : Nat := 0x190800
abbrev CLK_HV_STAT_dev : Fld := ⟨CLK_HV_STAT, 15, 0⟩
abbrev CLK_HV_STAT_osc : Fld := ⟨CLK_HV_STAT, 16, 16⟩
abbrev CLK_EVT : Nat := 0x19003c
abbrev CLK_EVT_replans : Fld := ⟨CLK_EVT, 7, 0⟩
abbrev CLK_EVT_vsteps : Fld := ⟨CLK_EVT, 15, 8⟩
abbrev CLK_EVT_fsteps : Fld := ⟨CLK_EVT, 23, 16⟩
abbrev CLK_EVT_presets : Fld := ⟨CLK_EVT, 31, 24⟩
abbrev CLK_IRQ : Nat := 0x190040
abbrev CLK_IRQ_replan : Fld := ⟨CLK_IRQ, 0, 0⟩
abbrev CLK_IRQ_floor : Fld := ⟨CLK_IRQ, 1, 1⟩
abbrev CLK_IRQ_rlim : Fld := ⟨CLK_IRQ, 2, 2⟩
abbrev CLK_IRQ_avs : Fld := ⟨CLK_IRQ, 3, 3⟩

/-- The rows of the CLK block. -/
def clkRows : List RegRow :=
  [ ⟨0x190004, 1, 0x4, 1, 0x4, 0x1f1f9fff, 0x0, 0x0, 0x0, 0x0, .frame, 0x50525⟩,
    ⟨0x190008, 1, 0x4, 1, 0x4, 0x3, 0x0, 0x0, 0x0, 0x130, .imm, 0x0⟩,
    ⟨0x190010, 1, 0x4, 1, 0x4, 0xbf3f003f, 0x0, 0x0, 0x0, 0x3f00, .imm, 0x3c001414⟩,
    ⟨0x190018, 1, 0x4, 1, 0x4, 0xffffffff, 0x0, 0x0, 0x0, 0x0, .imm, 0x3c031408⟩,
    ⟨0x190020, 1, 0x4, 1, 0x4, 0xff, 0x0, 0x0, 0x0, 0x0, .imm, 0x0⟩,
    ⟨0x190028, 1, 0x4, 1, 0x4, 0x103ff, 0x0, 0x0, 0x0, 0x0, .imm, 0x0⟩,
    ⟨0x190030, 1, 0x4, 1, 0x4, 0x1ff, 0x0, 0x0, 0x0, 0x0, .imm, 0x140⟩,
    ⟨0x190034, 1, 0x4, 1, 0x4, 0xffff, 0x0, 0x0, 0x0, 0x0, .imm, 0x5555⟩,
    ⟨0x190038, 1, 0x4, 1, 0x4, 0x777, 0x0, 0x0, 0x0, 0x0, .imm, 0x444⟩,
    ⟨0x190044, 1, 0x4, 1, 0x4, 0xf, 0x0, 0x0, 0x0, 0x0, .imm, 0x0⟩,
    ⟨0x190000, 1, 0x4, 1, 0x4, 0x0, 0x0, 0x0, 0x0, 0x301ffff, .imm, 0x0⟩,
    ⟨0x19000c, 1, 0x4, 1, 0x4, 0x0, 0x0, 0x0, 0x0, 0xffffffff, .imm, 0x0⟩,
    ⟨0x190014, 1, 0x4, 1, 0x4, 0x0, 0x0, 0x0, 0x0, 0xffff, .imm, 0x0⟩,
    ⟨0x19001c, 1, 0x4, 1, 0x4, 0x0, 0x0, 0x0, 0x0, 0xffffff, .imm, 0x0⟩,
    ⟨0x190024, 1, 0x4, 1, 0x4, 0x0, 0x0, 0x0, 0x0, 0x1ffff, .imm, 0x0⟩,
    ⟨0x19002c, 1, 0x4, 1, 0x4, 0x0, 0x0, 0x0, 0x0, 0xc0ffffff, .imm, 0x0⟩,
    ⟨0x190800, 1, 0x4, 1, 0x4, 0x0, 0x0, 0x0, 0x0, 0x1ffff, .imm, 0x0⟩,
    ⟨0x19003c, 1, 0x4, 1, 0x4, 0x0, 0x0, 0xffffffff, 0x0, 0x0, .imm, 0x0⟩,
    ⟨0x190040, 1, 0x4, 1, 0x4, 0x0, 0xf, 0x0, 0x0, 0x0, .imm, 0x0⟩ ]

/-! ## HIF -/

abbrev HIF_SP_CFG : Nat := 0x1a0010
abbrev HIF_SP_CFG_page : Fld := ⟨HIF_SP_CFG, 0, 0⟩
abbrev HIF_SP_IRQ_EN : Nat := 0x1a0018
abbrev HIF_SP_IRQ_EN_val : Fld := ⟨HIF_SP_IRQ_EN, 18, 0⟩
abbrev HIF_IRQ_EN : Nat := 0x1a0024
abbrev HIF_IRQ_EN_gpio : Fld := ⟨HIF_IRQ_EN, 15, 0⟩
abbrev HIF_IRQ_EN_xspi : Fld := ⟨HIF_IRQ_EN, 16, 16⟩
abbrev HIF_IRQ_EN_dma : Fld := ⟨HIF_IRQ_EN, 17, 17⟩
abbrev HIF_IRQ_EN_i2c0 : Fld := ⟨HIF_IRQ_EN, 18, 18⟩
abbrev HIF_IRQ_EN_i2c1 : Fld := ⟨HIF_IRQ_EN, 19, 19⟩
abbrev HIF_XSPI_CFG : Nat := 0x1a0040
abbrev HIF_XSPI_CFG_dummy : Fld := ⟨HIF_XSPI_CFG, 28, 24⟩
abbrev HIF_XSPI_CFG_busy_to : Fld := ⟨HIF_XSPI_CFG, 15, 8⟩
abbrev HIF_XSPI_CFG_mode : Fld := ⟨HIF_XSPI_CFG, 1, 0⟩
abbrev HIF_XSPI_ADDR : Nat := 0x1a0048
abbrev HIF_XSPI_ADDR_val : Fld := ⟨HIF_XSPI_ADDR, 31, 0⟩
abbrev HIF_XSPI_DATA (i : Nat) : Nat := 0x1a0050 + 0x4 * i
abbrev HIF_XSPI_DATA_val (i : Nat) : Fld := ⟨(HIF_XSPI_DATA i), 31, 0⟩
abbrev HIF_DMA_SRC : Nat := 0x1a0080
abbrev HIF_DMA_SRC_val : Fld := ⟨HIF_DMA_SRC, 31, 0⟩
abbrev HIF_DMA_DST : Nat := 0x1a0084
abbrev HIF_DMA_DST_val : Fld := ⟨HIF_DMA_DST, 31, 0⟩
abbrev HIF_DMA_LEN : Nat := 0x1a0088
abbrev HIF_DMA_LEN_val : Fld := ⟨HIF_DMA_LEN, 25, 0⟩
abbrev HIF_I2C_CFG (i : Nat) : Nat := 0x1a00c0 + 0x20 * i
abbrev HIF_I2C_CFG_speed (i : Nat) : Fld := ⟨(HIF_I2C_CFG i), 1, 0⟩
abbrev HIF_I2C_CFG_pec (i : Nat) : Fld := ⟨(HIF_I2C_CFG i), 4, 4⟩
abbrev HIF_I2C_CFG_timeout (i : Nat) : Fld := ⟨(HIF_I2C_CFG i), 15, 8⟩
abbrev HIF_I2C_WDATA (i : Nat) (j : Nat) : Nat := 0x1a00d0 + 0x20 * i + 0x4 * j
abbrev HIF_I2C_WDATA_val (i : Nat) (j : Nat) : Fld := ⟨(HIF_I2C_WDATA i j), 31, 0⟩
abbrev HIF_GPIO_EN : Nat := 0x1a0100
abbrev HIF_GPIO_EN_pins : Fld := ⟨HIF_GPIO_EN, 15, 0⟩
abbrev HIF_GPIO_DIR : Nat := 0x1a0104
abbrev HIF_GPIO_DIR_pins : Fld := ⟨HIF_GPIO_DIR, 15, 0⟩
abbrev HIF_GPIO_OUT : Nat := 0x1a0108
abbrev HIF_GPIO_OUT_pins : Fld := ⟨HIF_GPIO_OUT, 15, 0⟩
abbrev HIF_GPIO_FILT (i : Nat) : Nat := 0x1a0110 + 0x4 * i
abbrev HIF_GPIO_FILT_p0 (i : Nat) : Fld := ⟨(HIF_GPIO_FILT i), 2, 0⟩
abbrev HIF_GPIO_FILT_p1 (i : Nat) : Fld := ⟨(HIF_GPIO_FILT i), 6, 4⟩
abbrev HIF_GPIO_FILT_p2 (i : Nat) : Fld := ⟨(HIF_GPIO_FILT i), 10, 8⟩
abbrev HIF_GPIO_FILT_p3 (i : Nat) : Fld := ⟨(HIF_GPIO_FILT i), 14, 12⟩
abbrev HIF_GPIO_FILT_p4 (i : Nat) : Fld := ⟨(HIF_GPIO_FILT i), 18, 16⟩
abbrev HIF_GPIO_FILT_p5 (i : Nat) : Fld := ⟨(HIF_GPIO_FILT i), 22, 20⟩
abbrev HIF_GPIO_FILT_p6 (i : Nat) : Fld := ⟨(HIF_GPIO_FILT i), 26, 24⟩
abbrev HIF_GPIO_FILT_p7 (i : Nat) : Fld := ⟨(HIF_GPIO_FILT i), 30, 28⟩
abbrev HIF_GPIO_EDGE : Nat := 0x1a0118
abbrev HIF_GPIO_EDGE_val : Fld := ⟨HIF_GPIO_EDGE, 31, 0⟩
abbrev HIF_NTC_CFG (i : Nat) : Nat := 0x1a0150 + 0x4 * i
abbrev HIF_NTC_CFG_en (i : Nat) : Fld := ⟨(HIF_NTC_CFG i), 0, 0⟩
abbrev HIF_NTC_CFG_res25 (i : Nat) : Fld := ⟨(HIF_NTC_CFG i), 15, 1⟩
abbrev HIF_NTC_CFG_beta (i : Nat) : Fld := ⟨(HIF_NTC_CFG i), 31, 16⟩
abbrev HIF_PCI_STAT : Nat := 0x1a0000
abbrev HIF_PCI_STAT_speed : Fld := ⟨HIF_PCI_STAT, 3, 0⟩
abbrev HIF_PCI_STAT_width : Fld := ⟨HIF_PCI_STAT, 6, 4⟩
abbrev HIF_PCI_STAT_dstate : Fld := ⟨HIF_PCI_STAT, 9, 8⟩
abbrev HIF_PCI_STAT_up : Fld := ⟨HIF_PCI_STAT, 16, 16⟩
abbrev HIF_PCI_STAT_bme : Fld := ⟨HIF_PCI_STAT, 17, 17⟩
abbrev HIF_SP_STAT : Nat := 0x1a0014
abbrev HIF_SP_STAT_low : Fld := ⟨HIF_SP_STAT, 0, 0⟩
abbrev HIF_SP_STAT_read : Fld := ⟨HIF_SP_STAT, 1, 1⟩
abbrev HIF_SP_STAT_write : Fld := ⟨HIF_SP_STAT, 2, 2⟩
abbrev HIF_XSPI_STAT : Nat := 0x1a004c
abbrev HIF_XSPI_STAT_busy : Fld := ⟨HIF_XSPI_STAT, 0, 0⟩
abbrev HIF_XSPI_STAT_done : Fld := ⟨HIF_XSPI_STAT, 1, 1⟩
abbrev HIF_XSPI_STAT_late : Fld := ⟨HIF_XSPI_STAT, 2, 2⟩
abbrev HIF_XSPI_STAT_err : Fld := ⟨HIF_XSPI_STAT, 15, 8⟩
abbrev HIF_XSPI_STAT_status : Fld := ⟨HIF_XSPI_STAT, 23, 16⟩
abbrev HIF_DMA_STAT : Nat := 0x1a0090
abbrev HIF_DMA_STAT_busy : Fld := ⟨HIF_DMA_STAT, 0, 0⟩
abbrev HIF_DMA_STAT_done : Fld := ⟨HIF_DMA_STAT, 1, 1⟩
abbrev HIF_DMA_STAT_err : Fld := ⟨HIF_DMA_STAT, 15, 8⟩
abbrev HIF_DMA_STAT_master : Fld := ⟨HIF_DMA_STAT, 19, 16⟩
abbrev HIF_DMA_DONE : Nat := 0x1a0094
abbrev HIF_DMA_DONE_val : Fld := ⟨HIF_DMA_DONE, 31, 0⟩
abbrev HIF_I2C_STAT (i : Nat) : Nat := 0x1a00c8 + 0x20 * i
abbrev HIF_I2C_STAT_busy (i : Nat) : Fld := ⟨(HIF_I2C_STAT i), 0, 0⟩
abbrev HIF_I2C_STAT_done (i : Nat) : Fld := ⟨(HIF_I2C_STAT i), 1, 1⟩
abbrev HIF_I2C_STAT_nack (i : Nat) : Fld := ⟨(HIF_I2C_STAT i), 2, 2⟩
abbrev HIF_I2C_STAT_late (i : Nat) : Fld := ⟨(HIF_I2C_STAT i), 3, 3⟩
abbrev HIF_I2C_STAT_err (i : Nat) : Fld := ⟨(HIF_I2C_STAT i), 15, 8⟩
abbrev HIF_I2C_STAT_nackidx (i : Nat) : Fld := ⟨(HIF_I2C_STAT i), 19, 16⟩
abbrev HIF_I2C_RDATA (i : Nat) (j : Nat) : Nat := 0x1a00d8 + 0x20 * i + 0x4 * j
abbrev HIF_I2C_RDATA_val (i : Nat) (j : Nat) : Fld := ⟨(HIF_I2C_RDATA i j), 31, 0⟩
abbrev HIF_GPIO_IN : Nat := 0x1a010c
abbrev HIF_GPIO_IN_pins : Fld := ⟨HIF_GPIO_IN, 15, 0⟩
abbrev HIF_NTC (i : Nat) : Nat := 0x1a0140 + 0x4 * i
abbrev HIF_NTC_c (i : Nat) : Fld := ⟨(HIF_NTC i), 11, 0⟩
abbrev HIF_NTC_valid (i : Nat) : Fld := ⟨(HIF_NTC i), 16, 16⟩
abbrev HIF_NTC_open (i : Nat) : Fld := ⟨(HIF_NTC i), 17, 17⟩
abbrev HIF_NTC_short (i : Nat) : Fld := ⟨(HIF_NTC i), 18, 18⟩
abbrev HIF_JTAG_STAT : Nat := 0x1a0180
abbrev HIF_JTAG_STAT_instr : Fld := ⟨HIF_JTAG_STAT, 7, 0⟩
abbrev HIF_JTAG_STAT_refused : Fld := ⟨HIF_JTAG_STAT, 8, 8⟩
abbrev HIF_PCI_EVT : Nat := 0x1a0004
abbrev HIF_PCI_EVT_flrs : Fld := ⟨HIF_PCI_EVT, 7, 0⟩
abbrev HIF_PCI_EVT_downs : Fld := ⟨HIF_PCI_EVT, 15, 8⟩
abbrev HIF_PCI_EVT_poisoned : Fld := ⟨HIF_PCI_EVT, 23, 16⟩
abbrev HIF_PCI_EVT_urs : Fld := ⟨HIF_PCI_EVT, 31, 24⟩
abbrev HIF_SP_EVT : Nat := 0x1a001c
abbrev HIF_SP_EVT_busies : Fld := ⟨HIF_SP_EVT, 15, 0⟩
abbrev HIF_SP_EVT_seqs : Fld := ⟨HIF_SP_EVT, 31, 16⟩
abbrev HIF_XSPI_CMD : Nat := 0x1a0044
abbrev HIF_XSPI_CMD_len : Fld := ⟨HIF_XSPI_CMD, 11, 8⟩
abbrev HIF_XSPI_CMD_op : Fld := ⟨HIF_XSPI_CMD, 2, 0⟩
abbrev HIF_DMA_CMD : Nat := 0x1a008c
abbrev HIF_DMA_CMD_op : Fld := ⟨HIF_DMA_CMD, 1, 0⟩
abbrev HIF_DMA_CMD_src : Fld := ⟨HIF_DMA_CMD, 5, 4⟩
abbrev HIF_DMA_CMD_dst : Fld := ⟨HIF_DMA_CMD, 9, 8⟩
abbrev HIF_I2C_CMD (i : Nat) : Nat := 0x1a00c4 + 0x20 * i
abbrev HIF_I2C_CMD_addr (i : Nat) : Fld := ⟨(HIF_I2C_CMD i), 6, 0⟩
abbrev HIF_I2C_CMD_wlen (i : Nat) : Fld := ⟨(HIF_I2C_CMD i), 11, 8⟩
abbrev HIF_I2C_CMD_rlen (i : Nat) : Fld := ⟨(HIF_I2C_CMD i), 15, 12⟩
abbrev HIF_IRQ : Nat := 0x1a0020
abbrev HIF_IRQ_gpio : Fld := ⟨HIF_IRQ, 15, 0⟩
abbrev HIF_IRQ_xspi : Fld := ⟨HIF_IRQ, 16, 16⟩
abbrev HIF_IRQ_dma : Fld := ⟨HIF_IRQ, 17, 17⟩
abbrev HIF_IRQ_i2c0 : Fld := ⟨HIF_IRQ, 18, 18⟩
abbrev HIF_IRQ_i2c1 : Fld := ⟨HIF_IRQ, 19, 19⟩
abbrev MSIX_ADDR_LO (i : Nat) : Nat := 0x1a8000 + 0x10 * i
abbrev MSIX_ADDR_LO_val (i : Nat) : Fld := ⟨(MSIX_ADDR_LO i), 31, 2⟩
abbrev MSIX_ADDR_HI (i : Nat) : Nat := 0x1a8004 + 0x10 * i
abbrev MSIX_ADDR_HI_val (i : Nat) : Fld := ⟨(MSIX_ADDR_HI i), 31, 0⟩
abbrev MSIX_DATA (i : Nat) : Nat := 0x1a8008 + 0x10 * i
abbrev MSIX_DATA_val (i : Nat) : Fld := ⟨(MSIX_DATA i), 31, 0⟩
abbrev MSIX_CTRL (i : Nat) : Nat := 0x1a800c + 0x10 * i
abbrev MSIX_CTRL_mask (i : Nat) : Fld := ⟨(MSIX_CTRL i), 0, 0⟩
abbrev MSIX_PBA (i : Nat) : Nat := 0x1a9000 + 0x4 * i
abbrev MSIX_PBA_val (i : Nat) : Fld := ⟨(MSIX_PBA i), 31, 0⟩

/-- The rows of the HIF block. -/
def hifRows : List RegRow :=
  [ ⟨0x1a0010, 1, 0x4, 1, 0x4, 0x1, 0x0, 0x0, 0x0, 0x0, .imm, 0x0⟩,
    ⟨0x1a0018, 1, 0x4, 1, 0x4, 0x7ffff, 0x0, 0x0, 0x0, 0x0, .imm, 0x0⟩,
    ⟨0x1a0024, 1, 0x4, 1, 0x4, 0xfffff, 0x0, 0x0, 0x0, 0x0, .imm, 0x0⟩,
    ⟨0x1a0040, 1, 0x4, 1, 0x4, 0x1f00ff03, 0x0, 0x0, 0x0, 0x0, .imm, 0x14001e00⟩,
    ⟨0x1a0048, 1, 0x4, 1, 0x4, 0xffffffff, 0x0, 0x0, 0x0, 0x0, .imm, 0x0⟩,
    ⟨0x1a0050, 4, 0x4, 1, 0x4, 0xffffffff, 0x0, 0x0, 0x0, 0x0, .imm, 0x0⟩,
    ⟨0x1a0080, 1, 0x4, 1, 0x4, 0xffffffff, 0x0, 0x0, 0x0, 0x0, .imm, 0x0⟩,
    ⟨0x1a0084, 1, 0x4, 1, 0x4, 0xffffffff, 0x0, 0x0, 0x0, 0x0, .imm, 0x0⟩,
    ⟨0x1a0088, 1, 0x4, 1, 0x4, 0x3ffffff, 0x0, 0x0, 0x0, 0x0, .imm, 0x0⟩,
    ⟨0x1a00c0, 2, 0x20, 1, 0x4, 0xff13, 0x0, 0x0, 0x0, 0x0, .imm, 0x2301⟩,
    ⟨0x1a00d0, 2, 0x20, 2, 0x4, 0xffffffff, 0x0, 0x0, 0x0, 0x0, .imm, 0x0⟩,
    ⟨0x1a0100, 1, 0x4, 1, 0x4, 0xffff, 0x0, 0x0, 0x0, 0x0, .imm, 0x0⟩,
    ⟨0x1a0104, 1, 0x4, 1, 0x4, 0xffff, 0x0, 0x0, 0x0, 0x0, .imm, 0x0⟩,
    ⟨0x1a0108, 1, 0x4, 1, 0x4, 0xffff, 0x0, 0x0, 0x0, 0x0, .imm, 0x0⟩,
    ⟨0x1a0110, 2, 0x4, 1, 0x4, 0x77777777, 0x0, 0x0, 0x0, 0x0, .imm, 0x0⟩,
    ⟨0x1a0118, 1, 0x4, 1, 0x4, 0xffffffff, 0x0, 0x0, 0x0, 0x0, .imm, 0x0⟩,
    ⟨0x1a0150, 4, 0x4, 1, 0x4, 0xffffffff, 0x0, 0x0, 0x0, 0x0, .imm, 0xd6b00c8⟩,
    ⟨0x1a0000, 1, 0x4, 1, 0x4, 0x0, 0x0, 0x0, 0x0, 0x3037f, .imm, 0x0⟩,
    ⟨0x1a0014, 1, 0x4, 1, 0x4, 0x0, 0x0, 0x0, 0x0, 0x7, .imm, 0x0⟩,
    ⟨0x1a004c, 1, 0x4, 1, 0x4, 0x0, 0x0, 0x0, 0x0, 0xffff07, .imm, 0x0⟩,
    ⟨0x1a0090, 1, 0x4, 1, 0x4, 0x0, 0x0, 0x0, 0x0, 0xfff03, .imm, 0x0⟩,
    ⟨0x1a0094, 1, 0x4, 1, 0x4, 0x0, 0x0, 0x0, 0x0, 0xffffffff, .imm, 0x0⟩,
    ⟨0x1a00c8, 2, 0x20, 1, 0x4, 0x0, 0x0, 0x0, 0x0, 0xfff0f, .imm, 0x0⟩,
    ⟨0x1a00d8, 2, 0x20, 2, 0x4, 0x0, 0x0, 0x0, 0x0, 0xffffffff, .imm, 0x0⟩,
    ⟨0x1a010c, 1, 0x4, 1, 0x4, 0x0, 0x0, 0x0, 0x0, 0xffff, .imm, 0x0⟩,
    ⟨0x1a0140, 4, 0x4, 1, 0x4, 0x0, 0x0, 0x0, 0x0, 0x70fff, .imm, 0x0⟩,
    ⟨0x1a0180, 1, 0x4, 1, 0x4, 0x0, 0x0, 0x0, 0x0, 0x1ff, .imm, 0x0⟩,
    ⟨0x1a0004, 1, 0x4, 1, 0x4, 0x0, 0x0, 0xffffffff, 0x0, 0x0, .imm, 0x0⟩,
    ⟨0x1a001c, 1, 0x4, 1, 0x4, 0x0, 0x0, 0xffffffff, 0x0, 0x0, .imm, 0x0⟩,
    ⟨0x1a0044, 1, 0x4, 1, 0x4, 0x0, 0x0, 0x0, 0xf07, 0x0, .imm, 0x0⟩,
    ⟨0x1a008c, 1, 0x4, 1, 0x4, 0x0, 0x0, 0x0, 0x333, 0x0, .imm, 0x0⟩,
    ⟨0x1a00c4, 2, 0x20, 1, 0x4, 0x0, 0x0, 0x0, 0xff7f, 0x0, .imm, 0x0⟩,
    ⟨0x1a0020, 1, 0x4, 1, 0x4, 0x0, 0xfffff, 0x0, 0x0, 0x0, .imm, 0x0⟩,
    ⟨0x1a8000, 64, 0x10, 1, 0x4, 0xfffffffc, 0x0, 0x0, 0x0, 0x0, .imm, 0x0⟩,
    ⟨0x1a8004, 64, 0x10, 1, 0x4, 0xffffffff, 0x0, 0x0, 0x0, 0x0, .imm, 0x0⟩,
    ⟨0x1a8008, 64, 0x10, 1, 0x4, 0xffffffff, 0x0, 0x0, 0x0, 0x0, .imm, 0x0⟩,
    ⟨0x1a800c, 64, 0x10, 1, 0x4, 0x1, 0x0, 0x0, 0x0, 0x0, .imm, 0x1⟩,
    ⟨0x1a9000, 2, 0x4, 1, 0x4, 0x0, 0x0, 0x0, 0x0, 0xffffffff, .imm, 0x0⟩ ]

/-- The rows of the block that an offset lies in, by the decoding of R542 (each block spans one or two 64 KiB pages). -/
def blockRows (off : Nat) : List RegRow :=
  match off / 0x10000 with
  | 0 => glbRows
  | 1 => errRows
  | 2 => dprxRows
  | 3 => dprxRows
  | 4 => tapRows
  | 5 => tmgRows
  | 6 => layRows
  | 7 => layRows
  | 8 => fabRows
  | 9 => fabRows
  | 10 => trnRows
  | 11 => cmpRows
  | 12 => srvRows
  | 13 => srvRows
  | 14 => aclRows
  | 15 => aclRows
  | 16 => hvpRows
  | 17 => segRows
  | 18 => memRows
  | 19 => memRows
  | 20 => keepRows
  | 21 => mbxRows
  | 22 => coreRows
  | 23 => chkRows
  | 24 => fltRows
  | 25 => clkRows
  | 26 => hifRows
  | _ => []

/-- Whether the row names the offset `off`, and as which instances. -/
def RegRow.find (r : RegRow) (off : Nat) : Option (Nat × Nat) :=
  if off < r.off then none
  else
    let d := off - r.off
    let i := if r.n1 = 1 then 0 else d / r.s1
    let e := d - i * r.s1
    let j := if r.n2 = 1 then 0 else e / r.s2
    if i < r.n1 ∧ j < r.n2 ∧ e = j * r.s2 then some (i, j) else none

/-- The first row of a list that names `off`, with the instances. -/
def findRow : List RegRow → Nat → Option (RegRow × Nat × Nat)
  | [], _ => none
  | r :: rs, off => match r.find off with
    | some (i, j) => some (r, i, j)
    | none => findRow rs off

/-- The register at a BAR0 offset, or none where no register of the index lies (R10, R542). -/
def regAt (off : Nat) : Option (RegRow × Nat × Nat) := findRow (blockRows off) off

/-- Logical Pond banks that are pinned at reset by R388 (spec/13_memory.md). -/
def pinnedBank (i : Nat) : Bool :=
  i < 4 || (20 ≤ i && i < 57) || i == 63

/-- Bounds of Keep regions 0 to 7 (R405), as KEEP_RGN holds them: first page in [9:0], count in [25:16]; 0 for j ≥ 8. -/
def keepRgnReset (j : Nat) : Nat :=
  match j with
  | 0 => 2 * 0x10000 + 0
  | 1 => 2 * 0x10000 + 2
  | 2 => 4 * 0x10000 + 4
  | 3 => 32 * 0x10000 + 8
  | 4 => 88 * 0x10000 + 40
  | 5 => 32 * 0x10000 + 128
  | 6 => 256 * 0x10000 + 160
  | 7 => 96 * 0x10000 + 416
  | _ => 0

/-- Reset values that differ among the instances of one row (R544), and the end nearest 0 V of the setpoint range of each rail (R343). -/
def resetInst (off i j : Nat) : Option Nat :=
  if off = FAB_SPR_K 0 then some (if i % 2 = 1 then 0x40000 else 0)
  else if off = FAB_MTX 0 0 then some (if j = 0 ∨ j = 4 ∨ j = 8 then 0x4000 else 0)
  else if off = TRN_BAND 0 then some (if i = 0 then 0x108000 else 0x1000A0 + 0x50 * (i - 1))
  else if off = CMP_DEF_W 0 then some (if i = 0 then 0x406060 else 0)
  else if off = SRV_LVL 0 then some (if i = 0 then 0x400 else if i = 1 then 0xC00 else 0)
  else if off = SRV_STRESS 0 0 then some (4095 * j / 64)
  else if off = MEM_BANK_CFG 0 then some (if pinnedBank i then 2 else 0)
  else if off = CORE_CTRL 0 then some (if i = 0 then 1 else 0)
  else if off = HVP_RAIL 0 then
    some (if i = 0 then 0x0A0204B0 else if i = 1 then 0x0A02FE70 else if i = 2 then 0x0A020258 else 0x0A02FF38)
  else if off = KEEP_RGN 0 then some (keepRgnReset i)
  else none

/-- The value a register holds at reset (R12, R544); 0 where no register lies. -/
def resetOf (off : Nat) : Word :=
  match regAt off with
  | none => 0
  | some (r, i, j) =>
    match resetInst r.off i j with
    | some v => Word.of v
    | none => Word.of r.reset

/-- The registers on the HV die, by R542 and R543: HVP, SEG, KEEP, and the upper parts of FLT and CLK. -/
def onHvDie (off : Nat) : Bool :=
  off / 0x10000 = 16 || off / 0x10000 = 17 || off / 0x10000 = 20 ||
  (0x180800 ≤ off && off < 0x181000) || (0x190800 ≤ off && off < 0x191000)

end Sys2Proof.Machine
end

