-- ==== Sys2Proof/Machine/Sparse.lean ====
section
/-! DEFINITION. Sparse maps in ONE canonical form: keys strictly rising, and no entry equal to what an unlisted key reads as. -/

namespace Sys2Proof.Machine

/-- A sparse map from naturals: the listed entries, in canonical form with respect to a default. -/
abbrev Sparse (α : Type) := List (Nat × α)

/-- What key `k` holds: the listed value, else the default. -/
def Sparse.get {α : Type} (d : Nat → α) : Sparse α → Nat → α
  | [], k => d k
  | (a, v) :: m, k => if k = a then v else Sparse.get d m k

/-- Remove the entry of key `k`, if it is listed. -/
def Sparse.erase {α : Type} : Sparse α → Nat → Sparse α
  | [], _ => []
  | (a, v) :: m, k => if k = a then Sparse.erase m k else (a, v) :: Sparse.erase m k

/-- List `v` under key `k`. -/
def Sparse.put {α : Type} : Sparse α → Nat → α → Sparse α
  | [], k, v => [(k, v)]
  | (a, w) :: m, k, v =>
    if k = a then (k, v) :: m else if k < a then (k, v) :: (a, w) :: m else (a, w) :: Sparse.put m k v

/-- Write `v` at key `k`, keeping the canonical form: a value equal to the default removes the entry. -/
def Sparse.set {α : Type} [DecidableEq α] (d : Nat → α) (m : Sparse α) (k : Nat) (v : α) : Sparse α :=
  if v = d k then m.erase k else m.put k v

/-- Every key is above `lo` (when given), keys rise strictly, and no entry equals its default. -/
def Sparse.wfFrom {α : Type} [DecidableEq α] (d : Nat → α) : Option Nat → Sparse α → Bool
  | _, [] => true
  | lo, (a, v) :: m =>
    (match lo with | none => true | some b => decide (b < a)) && decide (v ≠ d a) && Sparse.wfFrom d (some a) m

/-- The canonical form. -/
def Sparse.wf {α : Type} [DecidableEq α] (d : Nat → α) (m : Sparse α) : Bool := Sparse.wfFrom d none m

/-- Drop every listed entry whose key satisfies `p`: those keys read their default again. -/
def Sparse.dropWhere {α : Type} (p : Nat → Bool) (m : Sparse α) : Sparse α := m.filter (fun c => !p c.1)

/-- Keep the entries of `m` outside `p` and take the entries of `m'` inside `p`: on `p` the result reads as `m'`. -/
def Sparse.overlay {α : Type} [DecidableEq α] (d : Nat → α) (p : Nat → Bool) (m m' : Sparse α) : Sparse α :=
  (m'.filter (fun c => p c.1)).foldl (fun acc c => Sparse.set d acc c.1 c.2) (m.dropWhere p)

/-- Write consecutive values from key `a` on, in one pass. -/
def Sparse.splice {α : Type} [DecidableEq α] (d : Nat → α) (m : Sparse α) (a : Nat) (vs : List α) : Sparse α :=
  m.filter (fun c => decide (c.1 < a)) ++
  ((List.range vs.length).zip vs).filterMap (fun c => if c.2 = d (a + c.1) then none else some (a + c.1, c.2)) ++
  m.filter (fun c => decide (a + vs.length ≤ c.1))

end Sys2Proof.Machine
end

