-- ==== Sys2Proof/Machine/State.lean ====
section
/-! DEFINITION. The state of the block as plain data: the registers of R544, the memories, and the state the chapters give each unit beside its registers. Every field at reset stands at its default here: the first cycle of TADPOLE after supplies with an empty Keep. -/

namespace Sys2Proof.Machine

/-! ## The HV bridge (R17-R19) -/

/-- A posted HV-die write (R18). -/
structure HvWrite where
  master : Nat
  off : Nat
  val : Nat
deriving DecidableEq, Repr

/-- An access that stalled behind 16 posted writes: a write's value, or none for a read (R18). -/
structure HvStall where
  master : Nat
  off : Nat
  val : Option Nat
deriving DecidableEq, Repr

structure Bridge where
  lost : Bool := false
  /-- Consecutive failed attempts of the transfer in progress (R19). -/
  fails : Nat := 0
  /-- Transfers that succeeded on a repeat, counted; no register of the spec shows the count (R19). -/
  repeats : Nat := 0
  posted : List HvWrite := []
  stalled : List HvStall := []
deriving DecidableEq, Repr, Inhabited

/-! ## Modes and boot (spec/02) -/

/-- What a requested transition waits for before it takes effect (R36, R40, R44, R547). -/
inductive TransPhase where
  /-- The next vertical swap point. -/
  | swapPoint
  /-- DARK or a restart: the discharge runs. -/
  | discharge
  /-- DARK or a restart: a running store has to end first (R44). -/
  | storeWait
  /-- The DARK store or the restart store runs (R44, R547). -/
  | store
deriving DecidableEq, Repr

/-- A requested mode transition in progress. -/
structure Trans where
  target : Nat
  cause : Nat
  master : Nat
  restart : Bool := false
  phase : TransPhase := .swapPoint
deriving DecidableEq, Repr

/-- Wake events latched in the always-on island (R45). -/
structure WakeLatch where
  pin0 : Bool := false
  pin1 : Bool := false
  alarm : Bool := false
  supply : Bool := false
deriving DecidableEq, Repr, Inhabited

structure Power where
  /-- The core die is powered, out of reset and not isolated. -/
  coreOn : Bool := true
  /-- VDD_CORE, VDD_SER, VDD_MEM and VDD_IO good for 100 us (R554). -/
  coreGood : Bool := true
  /-- Level of PWRUP_EN. -/
  pwrupEn : Bool := true
  /-- The 10 ms minimum low time of PWRUP_EN runs (R44). -/
  hold10 : Bool := false
  /-- SYS_RST_N is held low. -/
  sysRst : Bool := false
  wake : WakeLatch := {}
  /-- The always-on island's copies of GLB_WAKE_CFG and GLB_WAKE_ALARM (R44). -/
  aoWakeCfg : Nat := 0x501
  aoWakeAlarm : Nat := 0
  /-- Level of each port's HPD ball. -/
  hpd : Nat := 0
deriving DecidableEq, Repr, Inhabited

structure Boot where
  running : Bool := true
  /-- Version of the boot image that runs (R467). -/
  fwVersion : Nat := 0
  /-- Bit n: boot step n has started (R53). -/
  started : Nat := 4
  /-- The time of SYS_RST_N release, for GLB_BOOT_TIME. -/
  resetUs : Nat := 0
  /-- Boot step 6 has raised HPD (R110). -/
  hpdRaised : Bool := false
deriving DecidableEq, Repr, Inhabited

/-! ## Panel power and status glass (spec/12) -/

/-- The phase of the power-up sequence (R347). -/
inductive SeqPhase where
  | idle
  /-- Step i is to start when a pause ends (R350). -/
  | due (i : Nat)
  /-- Step i enabled and not yet good. -/
  | ramp (i : Nat)
  /-- The delay after step i became good. -/
  | delay (i : Nat)
deriving DecidableEq, Repr

/-- The phase of a discharge (R354, R356, R357). -/
inductive DisPhase where
  | idle
  /-- DISCH sent; the gates open at the next LIN (R354 step 1). -/
  | opening
  /-- The gates are held on (step 3, R357). -/
  | hold
  /-- The supply or rail of sequence step i is being bled (step 4): 7 to 4 are PS_EN3 to PS_EN0, then VSP, VSN, VGH, VGL. -/
  | bleed (i : Nat)
  /-- The power-fail gate hold runs (R356). -/
  | pfHold
  /-- Every converter is bled at once (R356 step 3). -/
  | pfBleed
deriving DecidableEq, Repr

/-- The level of the gate-clock and start-pulse level shifters (R347, R354, R359). -/
inductive GateLevel where
  | agnd | off | on
deriving DecidableEq, Repr

structure Hv where
  seq : SeqPhase := .idle
  /-- Who started the sequence: 0 boot step 9, 1 a command, 2 regeneration (R348). -/
  seqBy : Nat := 0
  dis : DisPhase := .idle
  /-- The discharge is the bridge-lost form (R357). -/
  disBridge : Bool := false
  gates : GateLevel := .agnd
  /-- Levels of PS_EN0 to PS_EN3. -/
  psEn : Nat := 0
  /-- Masks of GCK0 to GCK15 and of GST0 to GST3 at the on level in the glass line that runs (R360-R363). -/
  gck : Nat := 0
  gst : Nat := 0
  /-- Bleed switches on, by rail. -/
  bleedOn : Nat := 0
  /-- Sequence steps whose bleed timed out in this discharge (R355). -/
  stuck : Nat := 0
  vinLow : Bool := false
  /-- Consecutive crack-loop readings above hi and below lo (R365). -/
  crackHi : Nat := 0
  crackLo : Nat := 0
  /-- The high condition held at the latest reading. -/
  crackHigh : Bool := false
  /-- Consecutive 10 us readings of each monitor outside its window (R346). -/
  psmOut : Sparse Nat := []
  /-- The temperature limits already raised (bit 0: 140 degrees, bit 1: 150 degrees). -/
  hot : Nat := 0
  /-- A rail left 5 % of its target or a supply its window in this frame period (R519 condition 3). -/
  excursion : Bool := false
deriving DecidableEq, Repr, Inhabited

structure Glass where
  /-- The frame being shown is positive (R367). -/
  positive : Bool := false
  /-- Blink phases: lit half now. -/
  codeLit : Bool := true
  ramLit : Bool := true
  /-- The code drawn since the last positive frame: 256 times SEG_STAT.kind plus the code; 0 when SEG_RAM or nothing stands on lines 0 to 7. -/
  code : Nat := 0
  /-- SEG_RAM, SEG_CTRL.host (in the modes it acts in) and SEG_CTRL.blink as taken at the last positive frame. -/
  ram : List Nat := [0, 0, 0, 0, 0]
  host : Bool := false
  blinkOn : Bool := false
  /-- Lines 36 to 39 are driven (R371, R372). -/
  wide : Bool := false
  /-- wide was cleared: the run-time claim of lines 36 to 39 ends at the next positive frame (R371). -/
  wideRelease : Bool := false
deriving DecidableEq, Repr, Inhabited

/-! ## Faults (spec/17) -/

/-- A fault with its instance, severity and domain kind (R502, R505). -/
structure Flt where
  code : Nat := 0
  inst : Nat := 0
  sev : Nat := 0
  kind : Nat := 0
  /-- The lane, stripe, layer, tile or return lane that the containment acts on (R510). -/
  obj : Nat := 0
deriving DecidableEq, Repr, Inhabited

/-- An open recovery (R506-R511). -/
structure Recovery where
  flt : Flt
  /-- Faults combined into it, oldest first (R509). -/
  others : List Flt := []
  /-- Vertical swap points since the raise. -/
  latency : Nat := 0
  /-- Vertical swap points since the budget opened. -/
  elapsed : Nat := 0
  count : Nat := 1
  /-- An S1 recovery escalated to S2 (R508), contained under R512. -/
  overrun : Bool := false
  /-- The time up to which frame periods are counted while the raster is stopped (R506). -/
  tickUs : Nat := 0
deriving DecidableEq, Repr, Inhabited

structure Faults where
  opened : Option Recovery := none
  queued : Option Flt := none
  /-- The regeneration step running, 0 between attempts (R514). -/
  step : Nat := 0
  /-- The first attempt after NEWT entry, whose steps 2 to 4 run during the discharge. -/
  first : Bool := false
  /-- Step 1 has still to run after the discharge (first attempt). -/
  waitDis : Bool := false
  /-- Start of the running attempt, and times of failed attempts, in microseconds (R515). -/
  startUs : Nat := 0
  failUs : List Nat := []
  /-- Time of the last successful regeneration. -/
  regenUs : Option Nat := none
  /-- Dark stripes, parked stripes and jammed return lanes, by number. -/
  dark : List Nat := []
  parked : List Nat := []
  jammed : List Nat := []
  /-- Vertical swap points since a stripe was parked, until a processed frame keeps the limits (R507). -/
  park : Sparse Nat := []
  /-- Conditions 1-4 of R519 broken in this frame period (bits 0-3). -/
  broken : Nat := 0
  /-- Growth not yet added to the Keep spread counters, by counter (R520). -/
  growth : Sparse Nat := []
  /-- In the frame recorded last, every check window with fault at 1 passed or was inactive (R505, 0x68). -/
  chkGood : Bool := false
  /-- The time of the entry to NEWT from LIVE or GECKO, while its nominal frame periods count (R519). -/
  newtUs : Option Nat := none
deriving DecidableEq, Repr, Inhabited

/-! ## Memories (spec/13) -/

/-- The stage of the march on its segment (R398). -/
inductive MarchStage where
  | idle | wait | copyIn | test | copyBack
  /-- A destroying run on a whole bank (R400). -/
  | bank
deriving DecidableEq, Repr

structure March where
  stage : MarchStage := .idle
  master : Nat := 0
  /-- The copy slot taken as slot 0, and the patched segments: window segment number to reserve slot (R399). -/
  slot0 : Nat := 0
  patches : Sparse Nat := []
  aborting : Bool := false
  /-- A failing segment met no free patch slot: the pass stops after the copy-back (R399). -/
  full : Bool := false
deriving DecidableEq, Repr, Inhabited

/-- The layout in force (R373) with the unity record in the compensation planes (R380). -/
structure Layout where
  cmp0 : Nat := 0
  cmp0End : Nat := 0
  cmp1 : Nat := 0
  cmp1End : Nat := 0
deriving DecidableEq, Repr, Inhabited

structure Mem where
  /-- The frame store by byte address; an unlisted byte holds what boot step 8 wrote. -/
  fs : Sparse Byte := []
  lay : Layout := {}
  /-- 64-bit words of the frame store with an uncorrectable and a correctable error. -/
  fsUe : List Nat := []
  fsCe : List Nat := []
  /-- Uncorrectable words already counted in this frame period, and each word's consecutive frame periods (R384, R385). -/
  ueFrame : List Nat := []
  ueRuns : Sparse Nat := []
  ueCount : Nat := 0
  limRaised : Bool := false
  /-- Words with a pending correction write-back (R383). -/
  writeback : List Nat := []
  scrub : Nat := 0
  /-- Pond by byte offset in its window; an unlisted byte reads 0. -/
  pond : Sparse Byte := []
  pondUe : List Nat := []
  march : March := {}
  /-- Port-B accesses waiting for a repeat after busy: master, window offset, write value (R392). -/
  retry : List HvStall := []
  /-- Banks woken from retention and not yet awake (R395). -/
  waking : List Nat := []
  /-- The data of the last BAR2 read, and its Poisoned bit (R384). -/
  bar2 : List Nat := []
  poison : Bool := false
deriving DecidableEq, Repr, Inhabited

/-! ## Keep (spec/14) -/

/-- A departure record (R408). -/
structure Departure where
  kind : Nat
  clock : Nat
  seq : Nat
  mark : Nat
deriving DecidableEq, Repr

/-- The content of the password record: passwords of regions 0-15 (0: none) and the KEEP_RGN words. -/
structure PwRecord where
  pw : List Nat
  rgn : List Nat
deriving DecidableEq, Repr

/-- A store under way (R406-R409). -/
structure KeepStore where
  /-- 0 command, timer or password; 1 DARK; 2 power-fail. -/
  kind : Nat
  /-- The snapshot is taken. -/
  snapped : Bool := false
  /-- Mask of the pages in the snapshot, their content, and the clock and recall mark at the snapshot. -/
  pages : Nat := 0
  data : Sparse Byte := []
  pw : Option PwRecord := none
  clock : Nat := 0
  mark : Nat := 0
deriving DecidableEq, Repr

/-- A spread-counter update (R427). -/
structure CtrUpdate where
  index : Nat
  clear : Bool
  amount : Nat
deriving DecidableEq, Repr

/-- A record commit under way (R424): the copy's first byte, its length and the sequence number to write last. -/
structure RecCommit where
  master : Nat
  id : Nat
  addr : Nat
  len : Nat
  seq : Nat
deriving DecidableEq, Repr

structure Keep where
  vol : Sparse Byte := []
  shadow : Sparse Byte := []
  /-- Mask of dirty pages (R406). -/
  dirty : Nat := 0
  /-- Mask of pages written since the running store's snapshot. -/
  since : Nat := 0
  /-- Mask of pages whose shadow fails its page check (R411). -/
  badShadow : Nat := 0
  /-- The Keep clock has not been set since the always-on island last lost its supply (R432). -/
  clkLost : Bool := true
  dep : Option Departure := none
  /-- VDD_AO held since the newest valid departure record (R411, R412). -/
  aoHeld : Bool := true
  /-- Recall in progress; reset begins before boot step 3. -/
  recalling : Bool := true
  frozen : Bool := false
  store : Option KeepStore := none
  /-- Stores that wait for the running one: auto-store, password (R409). -/
  waitAuto : Bool := false
  waitPw : Bool := false
  /-- Passwords in force, by region, and the password record in the volatile store and the shadow. -/
  pw : Sparse Nat := []
  pwVol : Option PwRecord := none
  pwShadow : Option PwRecord := none
  /-- Per master: the password words entered so far, and the time of its last failed comparison (R416). -/
  pwLatch : Sparse (List Nat) := []
  pwFailUs : Sparse Nat := []
  commit : Option RecCommit := none
  stageOwner : Option Nat := none
  ctrBusy : Option CtrUpdate := none
  ctrQueue : List CtrUpdate := []
  /-- K registers written and not yet saved (R48, R374). -/
  kUnsaved : List Nat := []
deriving DecidableEq, Repr, Inhabited

/-! ## The column link (spec/11) -/

/-- A control packet sent and not yet acknowledged (R316, R318). -/
structure CtlPkt where
  target : Nat
  op : Nat
  data : List Nat
  seq : Nat
  resends : Nat := 0
  /-- An integrator-defined packet (R342). -/
  integrator : Bool := false
  /-- Mask of the stripes whose drivers have reported it. -/
  acks : Nat := 0
deriving DecidableEq, Repr

structure LaneX where
  /-- The training in progress is a full one (R331). -/
  full : Bool := false
  /-- A fast retrain has failed and its full training runs, or op 7's second training runs (R335). -/
  again : Bool := false
  /-- Started by op 7, boot step 10 or regeneration: one further full training after a failure. -/
  retry : Bool := false
  /-- The presets still to be measured, and the results so far: preset, count, figure of merit (R334). -/
  sweep : List Nat := []
  scores : List (Nat × Nat × Nat) := []
  /-- The preset is chosen and held for 8 return frames. -/
  holding : Bool := false
  /-- Sequence number of the next control packet. -/
  seq : Nat := 0
  unacked : List CtlPkt := []
  /-- Payload of the driver's last STATUS burst. -/
  status : List Nat := []
  /-- Consecutive missing bursts, and whether the driver is lost or has reset and CONFIG is being resent (R328). -/
  missing : Nat := 0
  resending : Bool := false
  /-- The scrambler's 58-bit history as seeded at the end of WAKE (R309). -/
  scram : Nat := 0
  /-- A CONFIG is out whose CAPS the controller awaits (R328). -/
  prompted : Bool := false
  /-- The preset announced, and the return frame count of its MRK (R334). -/
  presetAt : Option (Nat × Nat) := none
deriving DecidableEq, Repr, Inhabited

/-- The procedure of R329 on a return lane. -/
inductive Regrant where
  | idle
  /-- SILENCE sent; two return frames are waited. -/
  | silent
  /-- CONFIG sent to the driver of a slot; its CAPS is awaited. -/
  | grant (slot : Nat)
deriving DecidableEq, Repr

structure RetX where
  proc : Regrant := .idle
  /-- Slots whose drivers are silenced. -/
  silenced : Nat := 0
  /-- Slots with a violation in the last and in this return frame (R329). -/
  violLast : Nat := 0
  violNow : Nat := 0
  /-- Learned arrival phases by slot (R326). -/
  phase : Sparse Nat := []
  /-- Consecutive return frames with signal while silenced (R330). -/
  signal : Nat := 0
  signalNow : Bool := false
  /-- Op 5 started the procedure. -/
  byCmd : Bool := false
  /-- Slots with a valid burst in this return frame. -/
  heardNow : Nat := 0
  /-- Return frames still to wait, and whether the CAPS of the slot granted last is outstanding (R329). -/
  wait : Nat := 0
  await : Bool := false
deriving DecidableEq, Repr, Inhabited

/-- A planned move or return waiting for its swap point (R338). -/
structure PlannedMove where
  stripe : Nat
  spare : Nat
  back : Bool
deriving DecidableEq, Repr

structure Link where
  lanes : Sparse LaneX := []
  rets : Sparse RetX := []
  /-- The return frame count of the last MRK (R312). -/
  mrk : Nat := 0
  plan : Option PlannedMove := none
  /-- Lane of an ACL_CMD in progress, and its master. -/
  cmdLane : Nat := 0
  cmdMaster : Nat := 0
  /-- The lane of the integrator packet not yet acknowledged (R342). -/
  intPkt : Option Nat := none
  /-- Trainings are part of a transition or a regeneration; lanes that entered FAILED meanwhile (R335). -/
  inTrans : Bool := false
  failed : List Nat := []
deriving DecidableEq, Repr, Inhabited

/-! ## The survey (spec/10) -/

/-- A sense operation whose values are awaited (R283, R285): its identity on the link, row and level. -/
structure SenseOp where
  id : Nat
  row : Nat
  level : Nat
  /-- The operation is the repeat of one with missing drivers. -/
  again : Bool := false
  /-- Belongs to a LOUPE survey. -/
  loupe : Bool := false
  /-- Values returned so far: key stripe times 64 plus chunk (R327). -/
  got : Sparse (List Nat) := []
deriving DecidableEq, Repr

/-- A survey command running in the background (R303). -/
structure SurveyCmd where
  op : Nat
  master : Nat
  types : Nat := 0
deriving DecidableEq, Repr

structure Survey where
  /-- Operations in progress, oldest first, and the identity of the next one. -/
  ops : List SenseOp := []
  opId : Nat := 0
  /-- In-service operations to repeat, as the next ones to start: row, level, and whether drivers were missing (R285). -/
  again : List (Nat × Nat × Bool) := []
  /-- LOUPE: index of the next operation, and sums and counts of valid readings by value (R291). -/
  loupeNext : Nat := 0
  sums : Sparse (Nat × Nat) := []
  /-- Operations started in this blanking (R284). -/
  blank : Nat := 0
  noroom : Bool := false
  /-- Length of the ramp in progress; 0 without one. An accepted apply waits for its first frame. -/
  rampN : Nat := 0
  applyN : Option Nat := none
  /-- An apply has completed since the last calibration (R298 step 6). -/
  applied : Bool := false
  cmd : Option SurveyCmd := none
  /-- The master that last set planner to 1. -/
  planner : Nat := 3
  /-- The run-time claim of the survey timer: the timer and its master (R288). -/
  timer : Option (Nat × Nat) := none
  /-- Pixels counted in SRV_EVT1.int_ecc in this frame (R282). -/
  eccSeen : List Nat := []
deriving DecidableEq, Repr, Inhabited

/-! ## DisplayPort inputs and the tap (spec/04) -/

structure PortX where
  /-- The relock timer runs (R119). -/
  relock : Bool := false
  /-- An HPD low pulse runs, and the pulse of R119 has been given since the last lock. -/
  pulse : Bool := false
  pulsed : Bool := false
  /-- The stream signals the narrow range. -/
  narrow : Bool := false
  /-- An input frame of this port has started and is neither driven nor skipped (R143, R147). -/
  fresh : Bool := false
  /-- Earlier input frames of this port that were neither driven nor counted as skipped (R147). -/
  older : Nat := 0
  /-- The input frame in progress: lines received, whether it is written, and whether R117 discards it. -/
  lines : Nat := 0
  writing : Bool := false
  early : Bool := false
  /-- The master of an EDID commit in progress (R126). -/
  commit : Option Nat := none
  /-- The EDID bytes served on AUX (R126), and the reply to the last AUX read: its bytes, none for a NACK. -/
  served : List Nat := []
  aux : Option (List Nat) := none
deriving DecidableEq, Repr, Inhabited

/-- A host AUX transaction on the tap (R133). -/
structure AuxOp where
  op : Nat
  addr : Nat
  len : Nat
  /-- The bytes a write sends. -/
  data : List Nat
  /-- The byte offset of an I2C-over-AUX read has been written. -/
  wrote : Bool := false
  defers : Nat := 0
deriving DecidableEq, Repr

structure Tap where
  /-- The port cloned now (R132) and whether a change waits for the new port's frame start. -/
  src : Nat := 0
  change : Bool := false
  /-- en was cleared: the lanes go free at the end of the output frame (R128). -/
  closing : Bool := false
  /-- The downstream sink's highest rate and its lanes. -/
  capRate : Nat := 0
  capLanes : Nat := 0
  aux : Option AuxOp := none
deriving DecidableEq, Repr, Inhabited

/-! ## Scan-out (spec/05) -/

/-- What the frame being scanned out carries. -/
inductive FrameKind where
  /-- Drive code 0 in every channel (R154, R377). -/
  | code0
  /-- The pattern of TMG_TEST (R156). -/
  | test
  /-- SRV_LOUPE.bg on every row (R291). -/
  | loupe
  /-- The input picture, port by port (R143, R147, R151). -/
  | picture
  /-- A whole replay (R148). -/
  | replay
  /-- Dirty rows processed, the rest replayed (R158). -/
  | gecko
deriving DecidableEq, Repr

/-- What a port's stripes carry in a picture frame. -/
inductive PortSrc where
  /-- The input frame in progress or stored. -/
  | input
  /-- The input frame up to a tile line; later rows are replayed (R151). -/
  | cut (n : Nat)
  | replay
  /-- The fill colour (R151). -/
  | fill
deriving DecidableEq, Repr

/-- What the sequencer waits for after a frame's end (R143). -/
inductive FrameWait where
  /-- A frame runs, or its end has not been reached. -/
  | no
  /-- The next input frame start or the late limit. -/
  | input
  /-- The start time of a through-path frame. -/
  | through
deriving DecidableEq, Repr

/-- A packed line in a transmit buffer: its place in the scan order, its codes in glass order, and the transition state bytes of its columns, if a transition facet wrote them. -/
structure PackedLine where
  pos : Nat
  codes : List Nat
  bytes : List Nat := []
deriving DecidableEq, Repr

/-- One stripe in the current frame. -/
structure StripeX where
  /-- Lines of the frame processed (or passed over) and lines sent, in the scan order of R149. -/
  next : Nat := 0
  out : Nat := 0
  /-- Packed lines in the transmit buffer, at most two (R219). -/
  ready : List PackedLine := []
  /-- Credits not yet returned at each joint: joint j follows slot j, 0 to 16 each; with 16 missing at joint 13 the packer is stalled (R218, R219). -/
  owed : Sparse Nat := []
  /-- Row-above context by scan chain: the row, and each slot's line: row-above inputs, vertical shares or errors, the last two plus 2^18 (R211). -/
  ctx : Sparse (Nat × List (List (List Nat))) := []
  /-- Findings of R245, R253 and R261 for the row being processed: the row's index is lost, its entries lost by number, columns whose knot read failed. -/
  rowLost : Bool := false
  lost : List Nat := []
  knotBad : List Nat := []
  /-- LUT reads that failed: slot and column (R394). -/
  lutBad : List (Nat × Nat) := []
deriving DecidableEq, Repr, Inhabited

/-- One check window (R164-R166). -/
structure WinX where
  /-- Bytes of this frame by 96 times the row plus the stripe. -/
  rows : Sparse (List Nat) := []
  /-- Some row of the rectangle was processed, and some was replayed, in this frame. -/
  proc : Bool := false
  replay : Bool := false
  /-- A skip condition of R101 or R184 holds in this frame. -/
  skip : Bool := false
  /-- Tap and rectangle of the window's last CRC. -/
  key : Option (Nat × Nat × Nat) := none
  /-- Frames learned so far (R166). -/
  learned : Nat := 0
deriving DecidableEq, Repr, Inhabited

/-- A window's outcome in a frame (R166): its CRC, what it is compared with (its own last CRC when `own`), and its learning: 0 none, 1 under way, 2 complete. -/
structure DueWin where
  w : Nat
  crc : Nat
  own : Bool := false
  learn : Nat := 0
deriving DecidableEq, Repr

/-- The windows active in a frame that ended, with the frame's count, not yet recorded (R167). -/
structure DueFrame where
  frame : Nat
  wins : List DueWin
deriving DecidableEq, Repr

structure Raster where
  /-- Lines held in this frame and consecutive frames with a hold, by stripe (R153). -/
  holds : Sparse Nat := []
  holdRuns : Sparse Nat := []
  kind : FrameKind := .code0
  /-- The frame has not reached its vertical swap point. -/
  active : Bool := false
  /-- The latest vertical swap point has not been followed by a frame start: a requested transition may take effect (R36). -/
  vsp : Bool := false
  wait : FrameWait := .no
  ports : List PortSrc := []
  /-- Glass lines begun in this frame. -/
  lines : Nat := 0
  stop : Bool := false
  /-- The frame in progress is the further frame of a stop (R154). -/
  last : Bool := false
  /-- First frame of a set under R95 or R585, and replays send code 0 until a processed frame ends. -/
  first : Bool := false
  blank : Bool := false
  /-- Transition shaping is suspended (R102): 2 in the torn frame, 1 in the frame after it; 3 for a torn frame right after a torn frame. -/
  torn : Nat := 0
  layTorn : Bool := false
  stripes : Sparse StripeX := []
  wins : Sparse WinX := []
  due : Option DueFrame := none
  /-- Frame periods without a valid stream, by port, and 256 once the fill has begun; entry 4 is layout 0 (R151). -/
  noin : Sparse Nat := []
  /-- A frame-latched fabric field changed at this frame's start, and tiles a live LAY write touched (R158). -/
  allDirty : Bool := false
  dirty : List Nat := []
  /-- The dirty tiles of the GECKO frame in progress; `nowAll`: every tile. -/
  nowAll : Bool := false
  now : List Nat := []
  /-- Rows processed in this GECKO frame. -/
  rowsDone : List Nat := []
  /-- The last line packet sent on each lane. -/
  sent : Sparse (List Nat) := []
  /-- The last LIN block sent. -/
  lin : List Nat := []
deriving DecidableEq, Repr, Inhabited

/-! ## Layers (spec/06) -/

structure Layers where
  /-- Palette entries: red, green, blue and alpha in 12 bits each from bit 0 up; key 256 times the layer plus the entry. -/
  pal : Sparse Nat := []
  /-- Held LAY_ZORDER_LO and LAY_PAL_DATA0 values, by master (R99). -/
  heldOrder : Sparse (Option Nat) := []
  heldPal : Sparse (Option Nat) := []
  /-- Layers tail-dropped in this frame, and the column from which one is absent in the row its stripe was composing: stripe, layer, column. -/
  dropped : Nat := 0
  dropAt : Option (Nat × Nat × Nat) := none
  /-- Consecutive frames with a tail drop, by layer; layers to disable at the next swap point. -/
  dropRuns : Sparse Nat := []
  disable : Nat := 0
  /-- 64-byte granules fetched in this frame. -/
  fetched : Nat := 0
deriving DecidableEq, Repr, Inhabited

/-! ## Transition shaping (spec/08) -/

/-- The action of a tile for a frame (R227, R235). -/
inductive TileAct where
  | detect | hold | step | restart | final | frozen | off
deriving DecidableEq, Repr

/-- A tile queue (R232-R236, TRN_TQ_DATA). -/
structure TileX where
  /-- 0 idle, 1 running, 2 frozen. -/
  qstate : Nat := 0
  temp : Int := 0
  band : Nat := 0
  cold : Bool := false
  lband : Nat := 0
  lcold : Bool := false
  lsteps : Nat := 0
  lhold : Nat := 0
  step : Nat := 0
  hcnt : Nat := 0
  pend : Bool := false
  pendExp : Bool := false
  runSig : Nat := 0
  pendSig : Nat := 0
  startFrame : Nat := 0
  restarts : Nat := 0
  cuts : Nat := 0
  act : TileAct := .detect
  /-- The signature of the last sequence start is still to be recorded by the next pass. -/
  record : Bool := false
  /-- Evidence of the frame: its signature, whether a row was processed, whether a pixel passed the threshold, an explicit target. -/
  sig : Nat := 0
  seen : Bool := false
  passed : Bool := false
  explicit : Bool := false
  /-- The factor Tb of the frame being scanned out; 0 while the integrator is off (R279, R281). -/
  factor : Nat := 0
deriving DecidableEq, Repr, Inhabited

structure Trn where
  tiles : Sparse TileX := []
  /-- A TRN_KICK command awaiting its pass: operation, first and last tile (R246). -/
  kick : Option (Nat × Nat × Nat) := none
  /-- Knots: key 1089 times (24 times the copy plus 3 times the band plus the colour) plus 33 old plus new; value as TRN_KNOT_DATA. -/
  knots : Sparse Nat := []
  /-- Time of the last grid write that completed, or of reset. -/
  gridUs : Nat := 0
  /-- State bytes of region 6 as they stood before this frame changed them (R208: edge units see the neighbour's byte unchanged). -/
  before : Sparse Nat := []
deriving DecidableEq, Repr, Inhabited

/-! ## Compensation and concealment (spec/09) -/

/-- A defect entry of the working copy (R262). -/
structure Defect where
  x : Nat
  comp : Nat
  kind : Nat
  weights : Nat
  level : Nat
deriving DecidableEq, Repr, Inhabited

/-- A line mask of the working copy (R262). -/
structure LineMask where
  row : Bool
  index : Nat
  comps : Nat
  action : Nat
  weights : Nat
deriving DecidableEq, Repr, Inhabited

structure DefectMap where
  rows : Sparse (List Defect) := []
  masks : List LineMask := []
  entries : Nat := 0
deriving DecidableEq, Repr, Inhabited

/-- A CMP_MAP operation in progress (R274). -/
structure MapOp where
  master : Nat
  op : Nat
  type : Nat
deriving DecidableEq, Repr

structure Cmp where
  map : DefectMap := {}
  /-- A working copy that waits for its vertical swap point (R275). -/
  next : Option DefectMap := none
  op : Option MapOp := none
  /-- Boot step 11: types that failed (R276). -/
  failed : List Nat := []
deriving DecidableEq, Repr, Inhabited

/-! ## The swap (spec/03) -/

/-- A Prism image operation in progress (R75): its op, master, and the checked set once decoding has begun. -/
structure ImgOp where
  op : Nat
  master : Nat
  set : Option PrismSet := none
deriving DecidableEq, Repr

/-- LUT blocks placed in Pond banks (R390): the block and its banks. -/
structure LutPlace where
  ident : Nat
  banks : List Nat
deriving DecidableEq, Repr

structure Swap where
  master : Nat := 0
  /-- The targeted vertical swap point has been reached with the swap armed. -/
  window : Bool := false
  /-- Masks of islands that replied ready and done, by island number (R88). -/
  ready : Nat := 0
  done : Nat := 0
  /-- FAB_SWAP_CTRL.after of the pending swap. -/
  after : Bool := false
deriving DecidableEq, Repr, Inhabited

structure Img where
  op : Option ImgOp := none
  /-- Where the LUT blocks of the active and the mirror set lie. -/
  actLuts : List LutPlace := []
  mirLuts : List LutPlace := []
deriving DecidableEq, Repr, Inhabited

/-! ## Run-time claims (R96) -/

/-- A run-time claim: a feature, the class and index of its resource, and the master that enabled it. -/
structure RunClaim where
  feature : Nat
  cls : Nat
  idx : Nat
  master : Nat
deriving DecidableEq, Repr

/-! ## Mailboxes, locks and cores (spec/15) -/

structure Mbx where
  /-- Queues, oldest word first: key 2c is A to B of channel c, key 2c + 1 is B to A (R452). -/
  queues : Sparse (List Word) := []
  /-- Queues whose acknowledgement timer has stopped at its expiry (R455). -/
  ackStopped : List Nat := []
  /-- The winner of each lock's last tie, plus 1 (R463). -/
  lastWin : Sparse Nat := []
  /-- The COMMIT that IK0 serves: its channel and tag (R468). -/
  commitFor : Option (Nat × Nat) := none
deriving DecidableEq, Repr, Inhabited

/-- What an Ikiush core holds beside its registers of the CORE block (R436). -/
structure CoreX where
  x : Sparse Word := []
  pc : Nat := 0
  /-- mstatus.MIE, mstatus.MPIE, and the MEIE and MTIE bits of mie. -/
  mie : Bool := false
  mpie : Bool := false
  meie : Bool := false
  mtie : Bool := false
  mtvec : Nat := 0
  mepc : Nat := 0
  mcause : Nat := 0
  mtval : Nat := 0
  mscratch : Nat := 0
  mcycle : Nat := 0
  minstret : Nat := 0
  /-- Bytes fetched since the prefetch buffer was last empty, as fetched, each plus 1 (R438). -/
  prefetch : Sparse Nat := []
  /-- Halted out of the waiting state. -/
  wasWaiting : Bool := false
deriving DecidableEq, Repr, Inhabited

/-- A load of an integrator core in progress (R445, R469): the core, its entry, and the channel and tag to answer. -/
structure CoreLoad where
  core : Nat
  addr : Nat
  len : Nat
  entry : Nat
  crc : Nat
  pin : Bool
  reply : Option (Nat × Nat)
deriving DecidableEq, Repr

structure Ikiush where
  cores : Sparse CoreX := []
  load : Option CoreLoad := none
  /-- CORE_MTIME_HI as latched for each master (R440). -/
  mtimeHi : Sparse Nat := []
deriving DecidableEq, Repr, Inhabited

/-! ## Host interfaces (spec/16) -/

/-- A flash command of HIF_XSPI_CMD in progress. -/
structure FlashOp where
  master : Nat
  op : Nat
  len : Nat
  addr : Nat
  data : List Nat
deriving DecidableEq, Repr

/-- A DMA transfer in progress (R491). -/
structure Dma where
  master : Nat
  srcSpace : Nat
  dstSpace : Nat
  src : Nat
  dst : Nat
  len : Nat
  aborted : Bool := false
deriving DecidableEq, Repr

/-- An I2C transaction in progress (R493). -/
structure I2c where
  master : Nat
  addr : Nat
  wlen : Nat
  rlen : Nat
deriving DecidableEq, Repr

structure Hif where
  /-- The flash device: an erased byte reads 0xFF. -/
  flash : Sparse Byte := []
  xspi : Option FlashOp := none
  dma : Option Dma := none
  i2c : Sparse (Option I2c) := []
  /-- Vector conditions that were true at the last evaluation, bit v for vector v (R482). -/
  conds : Nat := 0
  /-- The last MSI-X message sent: address and data. -/
  msg : Option (Nat × Nat) := none
  /-- MSI-X function mask of the capability. -/
  fnMask : Bool := false
  /-- The side port (R485, R486): the held low half with its offset, the latched upper half of a read with its offset, and the data of a busy read held for its offset, and whether it is ready. -/
  lowHeld : Option (Nat × Nat) := none
  readLatch : Option (Nat × Nat) := none
  heldRead : Option (Nat × Nat × Bool) := none
  /-- What the last side-port read returned. -/
  spData : Nat := 0
  /-- BUSY_N was low in the last side-port access. -/
  spBusy : Bool := false
  /-- The data of the last BAR0 read request. -/
  bar0 : List Nat := []
  /-- The data of the last completed DBG_ACCESS read. -/
  dbgData : Nat := 0
  /-- The status of the last completed DBG_ACCESS. -/
  dbgStatus : Nat := 0
  /-- The debug register as captured last: data and status. -/
  captured : Nat × Nat := (0, 0)
  /-- A boundary-scan instruction of R498 is in force. -/
  bscan : Bool := false
  /-- AER holds a Poisoned TLP Received (R476, R477). -/
  aerPoisoned : Bool := false
deriving DecidableEq, Repr, Inhabited

/-! ## Clocks and self-ageing (spec/18) -/

structure Clk where
  /-- Index of the hop frequency 30.0, 31.0, 32.0 or 33.0 kHz; none at 31.5 kHz (R528). -/
  hop : Option Nat := none
  /-- Consecutive VDD_CORE readings more than 25 mV off the target (R533). -/
  avsBad : Nat := 0
  /-- The latest readings of the 216 monitors (R534). -/
  mon : List Nat := []
  /-- No sample has been taken since the last re-plan. -/
  fresh : Bool := true
  /-- Time of the last fault 0x70. -/
  raised : Option Nat := none
  /-- The kind and index of the lane whose eye is being measured (R537). -/
  eye : Option (Nat × Nat) := none
deriving DecidableEq, Repr, Inhabited

/-! ## The device and the machine -/

/-- Everything but the queue of commands. -/
structure Device where
  /-- What a register read returns, by BAR0 offset; the mirror copy of an MS register. -/
  regs : Sparse Word := []
  /-- The value in force of mirror-set and frame-latched registers: active copies (R82) and latched copies (R59). -/
  force : Sparse Word := []
  /-- Registers banked per master: key 16 times the offset plus the master (R545). -/
  bank : Sparse Word := []
  /-- What each master's last read returned. -/
  rdata : Sparse Word := []
  /-- Microseconds since supplies; advanced by the idle step. -/
  us : Nat := 0
  /-- The model's own counter, to which the free values are applied. -/
  free : Nat := 0
  bridge : Bridge := {}
  power : Power := {}
  boot : Boot := {}
  trans : Option Trans := none
  loupeFrom : Nat := 1
  hv : Hv := {}
  seg : Glass := {}
  flt : Faults := {}
  mem : Mem := {}
  keep : Keep := {}
  link : Link := {}
  /-- The structure halves of the active and the mirror set (R57-R71). -/
  act : PrismSet := {}
  mir : PrismSet := {}
  swap : Swap := {}
  srv : Survey := {}
  ras : Raster := {}
  img : Img := {}
  dprx : Sparse PortX := []
  tap : Tap := {}
  lay : Layers := {}
  trn : Trn := {}
  cmp : Cmp := {}
  claims : List RunClaim := []
  mbx : Mbx := {}
  ik : Ikiush := {}
  hif : Hif := {}
  clk : Clk := {}
deriving DecidableEq, Repr, Inhabited

/-- The machine: the device and the commands that wait, first in, first out. -/
structure State extends Device where
  pending : List Instr := []
deriving DecidableEq, Repr

/-- Why a step stops with a fault: for no reason. The spec gives every command an effect or an error code in a latch (R13, R14), and the block goes on; so no meaning raises a fault, and the type has no constructor. -/
inductive Fault where
deriving DecidableEq, Repr

/-- Why a step refuses. -/
inductive Refusal where
  /-- Raised by exec for a command that has no meaning yet; every command has one, so nothing raises it now. Safe. -/
  | notModelled (mnemonic : String)
deriving DecidableEq, Repr

/-- The machine on the first cycle of TADPOLE after supplies are applied to a part whose Keep holds no record (R12, R548). -/
def State.reset : State := { toDevice := {}, pending := [] }

end Sys2Proof.Machine
end

