-- ==== Sys2Proof/Machine/Ops.lean ====
section
/-! DEFINITION. The named operations over the registers: reading and writing a register or a field, the error latch (R13-R15, R479), doorbells (R461), and the counter behind the free values. -/

namespace Sys2Proof.Machine

/-- The outcome of a command. -/
abbrev Out := Host.Outcome State Fault Refusal

/-- A command that acts on the device alone: the queue stays as it is. -/
def State.run (s : State) (f : Device → Device) : Out := .next { s with toDevice := f s.toDevice }

/-! ## Bits -/

/-- `n` with bit `i` set. -/
def onBit (n i : Nat) : Nat := n ||| 2 ^ i

/-- `n` with bit `i` cleared. -/
def offBit (n i : Nat) : Nat := if n.testBit i then n - 2 ^ i else n

/-- `n` with bit `i` as given. -/
def putBit (n i : Nat) (b : Bool) : Nat := if b then onBit n i else offBit n i

/-- `n` with bits `hi` down to `lo` replaced by `v`. -/
def setBits (n hi lo v : Nat) : Nat :=
  n / 2 ^ (hi + 1) * 2 ^ (hi + 1) + (v % 2 ^ (hi + 1 - lo)) * 2 ^ lo + n % 2 ^ lo

/-- The number of set bits among the low `w` bits. -/
def popCount (w n : Nat) : Nat := ((List.range w).filter (fun i => n.testBit i)).length

/-- The bits of `n` that are 0 in `m`, over `w` bits. -/
def maskOut (w n m : Nat) : Nat := n &&& ((2 ^ w - 1) ^^^ (m % 2 ^ w))

/-- The positions of the set bits among the low `w` bits, in increasing order. -/
def bitList (w n : Nat) : List Nat := (List.range w).filter (fun i => n.testBit i)

/-! ## Registers -/

/-- What the register at `off` holds: the mirror copy of an MS register. -/
def Device.rd (d : Device) (off : Nat) : Nat := (Sparse.get resetOf d.regs off).toNat

/-- Set the register at `off`. -/
def Device.wr (d : Device) (off v : Nat) : Device := { d with regs := Sparse.set resetOf d.regs off (Word.of v) }

/-- A field of a register. -/
def Device.get (d : Device) (f : Fld) : Nat := bitsOf (d.rd f.off) f.hi f.lo

/-- Set a field of a register. -/
def Device.put (d : Device) (f : Fld) (v : Nat) : Device := d.wr f.off (setBits (d.rd f.off) f.hi f.lo v)

/-- Add to a counting field, saturating. -/
def Device.bump (d : Device) (f : Fld) (n : Nat := 1) : Device :=
  d.put f (Nat.min (d.get f + n) (2 ^ (f.hi + 1 - f.lo) - 1))

/-- The value in force of a mirror-set register (its active copy) or of a frame-latched register. -/
def Device.rdF (d : Device) (off : Nat) : Nat := (Sparse.get resetOf d.force off).toNat

/-- A field of the value in force. -/
def Device.getF (d : Device) (f : Fld) : Nat := bitsOf (d.rdF f.off) f.hi f.lo

/-- Set the value in force. -/
def Device.wrF (d : Device) (off v : Nat) : Device := { d with force := Sparse.set resetOf d.force off (Word.of v) }

/-- The default of a banked register: the reset value of its offset. -/
def bankDef (k : Nat) : Word := resetOf (k / 16)

/-- Master `m`'s copy of a banked register. -/
def Device.rdB (d : Device) (m off : Nat) : Nat := (Sparse.get bankDef d.bank (off * 16 + m)).toNat

/-- Set master `m`'s copy of a banked register. -/
def Device.wrB (d : Device) (m off v : Nat) : Device :=
  { d with bank := Sparse.set bankDef d.bank (off * 16 + m) (Word.of v) }

/-- The class of a register offset; an offset outside the index is immediate. -/
def classOf (off : Nat) : WClass :=
  match regAt off with
  | some (r, _, _) => r.cls
  | none => .imm

/-- Whether an offset names a mirror-set register. -/
def isMirror (off : Nat) : Bool := classOf off == .mirror

/-- Whether an offset names a frame-latched register. -/
def isFrame (off : Nat) : Bool := classOf off == .frame

/-- What a read by master `m` returned last. -/
def Device.answer (d : Device) (m : Nat) : Nat := (Sparse.get (fun _ => 0) d.rdata m).toNat

/-- Return `v` to master `m`. -/
def Device.reply (d : Device) (m v : Nat) : Device :=
  { d with rdata := Sparse.set (fun _ => 0) d.rdata m (Word.of v) }

/-! ## Error codes (R13) -/

abbrev eOk : Nat := 0
abbrev eRange : Nat := 1
abbrev eAlign : Nat := 2
abbrev eState : Nat := 3
abbrev eLocked : Nat := 4
abbrev eBusy : Nat := 5
abbrev eConflict : Nat := 6
abbrev eAuth : Nat := 7
abbrev ePerm : Nat := 8
abbrev eFull : Nat := 9
abbrev eSeq : Nat := 10
abbrev eUnimpl : Nat := 11

/-- The place of a code in the order of R14; the first failing check is the one of least rank. -/
def errRank (c : Nat) : Nat :=
  if c = eAlign then 1 else if c = eUnimpl then 2 else if c = ePerm then 3 else if c = eLocked then 4
  else if c = eAuth then 5 else if c = eState then 6 else if c = eRange then 7 else if c = eConflict then 8
  else if c = eBusy then 9 else if c = eFull then 10 else if c = eSeq then 11 else 12

/-- The first code, in the order of R14, whose check fails; none when every check passes. -/
def firstFail (l : List (Bool × Nat)) : Option Nat :=
  (l.filter (fun c => c.1)).foldl
    (fun acc c => match acc with
      | none => some c.2
      | some e => if errRank c.2 < errRank e then some c.2 else acc) none

/-- Latch an error for master `m` (R15): the first is held with its address and space (R479), a later one sets ovf. -/
def Device.latch (d : Device) (m space addr code : Nat) : Device :=
  if d.get (ERR_VIEW_CODE_code m) = 0 then
    (d.wr (ERR_VIEW_CODE m) (code + space * 0x1000)).wr (ERR_VIEW_ADDR m) addr
  else d.put (ERR_VIEW_CODE_ovf m) 1

/-- Reject an access of master `m`: the error is latched and the access counted in ERR_CNT. -/
def Device.rejectAt (d : Device) (m space addr code : Nat) : Device :=
  (d.latch m space addr code).bump (ERR_CNT_cnt m)

/-- Reject a register access at BAR0 offset `off`. -/
def Device.reject (d : Device) (m off code : Nat) : Device := d.rejectAt m 0 off code

/-- Run `f` unless a check of the list fails; then reject with the code R14 chooses. Without the core die nothing reaches a register. -/
def Device.guarded (d : Device) (m off : Nat) (checks : List (Bool × Nat)) (f : Device → Device) : Device :=
  if !d.power.coreOn then d else
    match firstFail checks with
    | some c => d.reject m off c
    | none => f d

/-- The same for a register on the HV die: while the bridge is lost the access is rejected with E_STATE (R19). -/
def Device.hvGuarded (d : Device) (m off : Nat) (checks : List (Bool × Nat)) (f : Device → Device) : Device :=
  if !d.power.coreOn then d else if d.bridge.lost then d.reject m off eState else d.guarded m off checks f

/-- Whether master `m` is in a mask of masters. -/
def among (m mask : Nat) : Bool := mask.testBit m

/-- The mask of masters 7 to 9 (integrator firmware). -/
abbrev mIntegrator : Nat := 0x380

/-- The mask of masters 2 to 6 (Walern firmware). -/
abbrev mWalern : Nat := 0x7C

/-! ## Doorbells (R459-R461) -/

/-- Ring doorbell bit `b` of master `m`; only masters 0 to 9 own doorbells. -/
def Device.ring (d : Device) (m b : Nat) : Device :=
  if m < 10 then d.wr (MBX_DB_STAT m) (onBit (d.rd (MBX_DB_STAT m)) b) else d

/-! ## Free values -/

/-- Use up one free value: the counter moves on. -/
def Device.drawn (d : Device) : Device := { d with free := d.free + 1 }

/-- The free word at the present count. -/
def Device.freeWord (d : Device) (tag : Nat) : Nat := (Config.freeWord d.free tag).toNat

/-! ## Modes -/

/-- GLB_MODE.state (R3). -/
def Device.mode (d : Device) : Nat := d.get GLB_MODE_state

/-- Whether the mode is one of a mask of modes. -/
def Device.modeIn (d : Device) (mask : Nat) : Bool := mask.testBit d.mode

/-- Apply `f` to each element in turn. -/
def eachOf {α : Type} (l : List α) (f : α → Device → Device) (d : Device) : Device := l.foldl (fun d a => f a d) d

end Sys2Proof.Machine
end

