-- ==== Sys2Proof/Machine/KeepOps.lean ====
section
/-! DEFINITION. The arrays, records, counters and log of Keep (spec/14_keep.md): the operations that its commands and the other chapters share. -/

namespace Sys2Proof.Machine

/-- CRC-16 of R314. -/
def crc16 (bs : List Nat) : Nat := crcRun 16 0x1021 0xFFFF bs

/-- A byte of Keep that nothing has written reads 0. -/
def keepDef (_ : Nat) : Byte := 0

/-- A byte of the volatile store. -/
def Device.kRd (d : Device) (a : Nat) : Nat := (Sparse.get keepDef d.keep.vol a).toNat

/-- `n` bytes of the volatile store from `a`. -/
def Device.kBytes (d : Device) (a n : Nat) : List Nat := (List.range n).map (fun i => d.kRd (a + i))

/-- Set KEEP_STAT.dirty from the mask of dirty pages. -/
def Device.kSync (d : Device) : Device := d.put KEEP_STAT_dirty (popCount 1024 d.keep.dirty)

/-- Mark a page dirty, and as written since a running store's snapshot (R406); page 417 is never programmed. -/
def Device.kDirty (d : Device) (page : Nat) : Device :=
  if page = 417 then d else
    ({ d with keep := { d.keep with dirty := onBit d.keep.dirty page,
                                    since := onBit d.keep.since page } }).kSync

/-- Store bytes at a Keep address. -/
def Device.kWr (d : Device) (a : Nat) (bs : List Nat) : Device :=
  let v := (List.range bs.length).foldl
    (fun m i => Sparse.set keepDef m (a + i) (Byte.of (bs.getD i 0))) d.keep.vol
  let d := { d with keep := { d.keep with vol := v } }
  eachOf ((List.range bs.length).map (fun i => (a + i) / 256)).eraseDups (fun p d => d.kDirty p) d

/-- Writes to Keep are refused while it recalls or is frozen (R407, R411). -/
def Device.kClosed (d : Device) : Bool := d.keep.recalling || d.keep.frozen

/-! ## Regions and passwords (R414-R418) -/

/-- The region that a page lies in (R405). -/
def Device.kRegion (d : Device) (page : Nat) : Option Nat :=
  (List.range 16).find? (fun j =>
    let f := d.get (KEEP_RGN_first j)
    let c := d.get (KEEP_RGN_count j)
    decide (f ≤ page ∧ page < f + c))

/-- The password of a region; 0 means none. -/
def Device.kPw (d : Device) (j : Nat) : Nat := Sparse.get (fun _ => 0) d.keep.pw j

/-- Master `m` has unlocked region `j`. -/
def Device.kUnlocked (d : Device) (m j : Nat) : Bool := (d.rdB m KEEP_AUTH).testBit j

/-- Masters 2 to 6 are exempt from the passwords of regions 0 to 7 (R414). -/
def kExempt (m j : Nat) : Bool := among m mWalern && decide (j < 8)

/-- Region `j` refuses reads to `m` (R415). -/
def Device.kReadShut (d : Device) (m j : Nat) : Bool :=
  d.kPw j ≠ 0 && d.get (KEEP_RGN_rp j) = 1 && !d.kUnlocked m j && !kExempt m j

/-- Region `j` refuses writes and commits to `m` (R415). -/
def Device.kWriteShut (d : Device) (m j : Nat) : Bool :=
  d.kPw j ≠ 0 && d.get (KEEP_RGN_wp j) = 1 && !d.kUnlocked m j && !kExempt m j

/-- Whether a K register is protected against `m` (R419). -/
def Device.kRegShut (d : Device) (m : Nat) : Bool :=
  d.kPw 1 ≠ 0 && d.get (KEEP_RGN_wp 1) = 1 && !d.kUnlocked m 1

/-! ## Stores (R406-R409) -/

/-- Start a store of the given kind; it waits for its snapshot. -/
def Device.kStart (d : Device) (kind : Nat) : Device :=
  ({ d with keep := { d.keep with store := some { kind := kind } } }).put KEEP_STAT_state (if kind = 2 then 3 else 2)

/-- The recall mark and count base in bytes 8 to 11 of page 417 (R584). -/
def Device.kBase (d : Device) : Nat := leNat (d.kBytes (417 * 256 + 8) 4)

/-- The snapshot of every dirty page (R407); a DARK or power-fail snapshot freezes Keep. It waits for a counter update. -/
def Device.kSnapshot (d : Device) : Device :=
  match d.keep.store with
  | none => d
  | some st =>
    if st.snapped || d.keep.ctrBusy.isSome then d else
      { d with keep := { d.keep with
          store := some { st with snapped := true, pages := d.keep.dirty, data := d.keep.vol, pw := d.keep.pwVol,
                                  clock := d.rd KEEP_CLK, mark := d.kBase },
          since := 0,
          frozen := d.keep.frozen || decide (st.kind ≠ 0),
          commit := if st.kind = 0 then d.keep.commit else none } }

/-- Whether an address lies in a page of a mask. -/
def inPages (pages a : Nat) : Bool := pages.testBit (a / 256)

/-- The store completes: its pages and then page 416 are programmed (R408). -/
def Device.kComplete (d : Device) : Device :=
  match d.keep.store with
  | none => d
  | some st =>
    let k := d.keep
    let seq := match k.dep with
      | some p => (p.seq + 1) % 2 ^ 32
      | none => 1
    let dirty := (maskOut 1024 k.dirty st.pages) ||| k.since
    let k' := { k with
      shadow := Sparse.overlay keepDef (inPages st.pages) k.shadow st.data,
      pwShadow := if st.pages.testBit 418 then st.pw else k.pwShadow,
      badShadow := maskOut 1024 k.badShadow st.pages,
      dep := some { kind := st.kind, clock := st.clock, seq := seq, mark := st.mark },
      aoHeld := true, dirty := dirty, store := none }
    ((({ d with keep := k' }).kSync.put KEEP_STAT_err 0).put KEEP_IRQ_store_done 1).put KEEP_STAT_state
      (if k.frozen then 4 else 0)

/-- The store fails 10 ms after its snapshot: its pages stay dirty (R409). -/
def Device.kFail (d : Device) : Device :=
  match d.keep.store with
  | none => d
  | some _ =>
    (((({ d with keep := { d.keep with store := none } }).put KEEP_STAT_err eState).put KEEP_EVT_store_fail 1).put
      KEEP_IRQ_store_fail 1).put KEEP_STAT_state (if d.keep.frozen then 4 else 0)

/-! ## Resolving two copies (R423) -/

/-- `a` is newer than `b` modulo 2^32. -/
def seqNewer (a b : Nat) : Bool :=
  let x := (a + 2 ^ 32 - b % 2 ^ 32) % 2 ^ 32
  decide (1 ≤ x ∧ x < 2 ^ 31)

/-- The outcome of resolving two copies: the copy taken, whether KEEP_EVT.twin is set, whether counter 8 counts. -/
structure Resolved where
  taken : Option Nat
  twin : Bool := false
  count : Bool := false
deriving DecidableEq, Repr

/-- The table of R423. -/
def resolveCopies (v0 v1 : Bool) (s0 s1 : Nat) (same : Bool) : Resolved :=
  match v0, v1 with
  | false, false => { taken := none }
  | true, false => { taken := some 0 }
  | false, true => { taken := some 1 }
  | true, true =>
    if s0 = s1 then
      if same then { taken := some 0 } else { taken := some 0, twin := true, count := true }
    else if (s0 + 2 ^ 32 - s1) % 2 ^ 32 = 2 ^ 31 then { taken := some 0, twin := true }
    else if seqNewer s0 s1 then { taken := some 0 } else { taken := some 1 }

/-! ## Spread counters (R426-R428) -/

/-- Byte address of copy `k` of counter `c`. -/
def ctrAddr (c k : Nat) : Nat := 128 * 256 + 32 * c + 16 * k

/-- A counter copy's sequence number and value, when its CRC matches. -/
def Device.ctrCopy (d : Device) (c k : Nat) : Option (Nat × Nat) :=
  let b := d.kBytes (ctrAddr c k) 14
  if crc16 (b.take 12) = leNat (b.drop 12) then some (leNat ((b.drop 8).take 4), leNat (b.take 8)) else none

/-- The resolution of a counter. -/
def Device.ctrResolve (d : Device) (c : Nat) : Resolved :=
  let a := d.ctrCopy c 0
  let b := d.ctrCopy c 1
  resolveCopies a.isSome b.isSome (a.getD (0, 0)).1 (b.getD (0, 0)).1 (decide ((a.getD (0, 0)).2 = (b.getD (0, 0)).2))

/-- The value of a counter; an absent counter stands at 0. -/
def Device.ctrVal (d : Device) (c : Nat) : Nat :=
  match (d.ctrResolve c).taken with
  | some k => ((d.ctrCopy c k).getD (0, 0)).2
  | none => 0

/-- The copy an update writes, and its new sequence number. -/
def Device.ctrTarget (d : Device) (c : Nat) : Nat × Nat :=
  match (d.ctrResolve c).taken with
  | some k => (1 - k, (((d.ctrCopy c k).getD (0, 0)).1 + 1) % 2 ^ 32)
  | none => (0, 1)

/-- Queue a counter update; updates are served in order of arrival (R427). -/
def Device.ctrEnqueue (d : Device) (u : CtrUpdate) : Device :=
  match d.keep.ctrBusy with
  | none => { d with keep := { d.keep with ctrBusy := some u } }
  | some _ => { d with keep := { d.keep with ctrQueue := d.keep.ctrQueue ++ [u] } }

/-- Perform an update in whole: the cells and the CRC of the other copy, then its sequence number (R427). -/
def Device.ctrApply (d : Device) (u : CtrUpdate) : Device :=
  let r := d.ctrResolve u.index
  let v := if u.clear then 0 else Nat.min (d.ctrVal u.index + u.amount) (2 ^ 64 - 1)
  let t := d.ctrTarget u.index
  let body := leBytes 8 v ++ leBytes 4 t.2
  let d := d.kWr (ctrAddr u.index t.1) (body ++ leBytes 2 (crc16 body))
  let d := if r.twin then d.put KEEP_EVT_twin 1 else d
  if r.count && u.index ≠ 8 then d.ctrEnqueue { index := 8, clear := false, amount := 1 } else d

/-- The running update completes and the next starts. -/
def Device.ctrDone (d : Device) : Device :=
  match d.keep.ctrBusy with
  | none => d
  | some u =>
    let d := { d with keep := { d.keep with ctrBusy := none } }
    let d := d.ctrApply u
    match d.keep.ctrBusy, d.keep.ctrQueue with
    | none, n :: q => { d with keep := { d.keep with ctrBusy := some n, ctrQueue := q } }
    | _, _ => d

/-- The controller adds to a counter; a frozen Keep refuses it. -/
def Device.ctrAdd (d : Device) (index amount : Nat) : Device :=
  if d.kClosed || amount = 0 then d else d.ctrEnqueue { index := index, clear := false, amount := amount }

/-! ## The fault log (R429-R431) -/

/-- Byte address of log entry `s`. -/
def logAddr (s : Nat) : Nat := 40960 + 32 * s

/-- Append bytes 8 to 27 as an entry at the head. -/
def Device.logAppend (d : Device) (body : List Nat) : Device :=
  if d.kClosed then d else
    let h := d.get KEEP_LOG_HEAD_head
    let e := leBytes 4 (d.rd KEEP_LOG_SEQ) ++ leBytes 4 (d.rd KEEP_CLK) ++ (body ++ List.replicate 20 0).take 20 ++ [0, 0]
    ((d.kWr (logAddr h) (e ++ leBytes 2 (crc16 e))).put KEEP_LOG_HEAD_head ((h + 1) % 2048)).wr KEEP_LOG_SEQ
      ((d.rd KEEP_LOG_SEQ + 1) % 2 ^ 32)

/-- An entry of the controller: code, instance, kind, severity and data (R429, R513). -/
def Device.logEntry (d : Device) (code inst kind sev : Nat) (data : List Nat) : Device :=
  d.logAppend ([code % 256, inst % 256, kind, d.mode + 16 * sev] ++ data)

/-! ## Records (R420-R425) -/

/-- Where the two copies of a record lie, in pages, and the limit of its body (R422). -/
structure RecPlace where
  page0 : Nat
  page1 : Nat
  limit : Nat
  edid : Bool := false
deriving DecidableEq, Repr

/-- The table of R422; the pages of identities 9 to 31 are the model's choice within 42 to 127. -/
def Device.recPlace (d : Device) (m id : Nat) : Option RecPlace :=
  if id = 0 then some ⟨0, 1, 64, false⟩
  else if id = 1 then some ⟨2, 3, 160, false⟩
  else if id = 2 then some ⟨4, 5, 144, false⟩
  else if id = 3 then some ⟨6, 7, 24, false⟩
  else if id < 8 then some ⟨8 + 8 * (id - 4), 12 + 8 * (id - 4), 1024, true⟩
  else if id = 8 then some ⟨40, 41, 36, false⟩
  else if id < 32 then some ⟨42 + 2 * (id - 9), 43 + 2 * (id - 9), 244, false⟩
  else if id = 255 then
    some ⟨bitsOf (d.rdB m KEEP_REC_PG) 9 0, bitsOf (d.rdB m KEEP_REC_PG) 25 16, 1012, false⟩
  else none

/-- Bytes 0 to 7 of an EDID as the port serves them (R421). -/
def edidHead : List Nat := [0x00, 0xFF, 0xFF, 0xFF, 0xFF, 0xFF, 0xFF, 0x00]

/-- A copy's sequence number and body, when it is valid (R420, R421). -/
def Device.recCopy (d : Device) (p : RecPlace) (id page : Nat) : Option (Nat × List Nat) :=
  let a := page * 256
  if p.edid then
    let blocks := d.kRd (a + 126)
    if 7 < blocks then none else
      let n := 128 * (blocks + 1)
      let b := d.kBytes a n
      if crc32 (b.drop 8 ++ b.take 4) = leNat ((b.drop 4).take 4) then some (leNat (b.take 4), edidHead ++ b.drop 8)
      else none
  else
    let n := leNat (d.kBytes (a + 4) 2)
    if p.limit < n || d.kRd (a + 6) ≠ id then none else
      let b := d.kBytes a (8 + n)
      if crc32 b = leNat (d.kBytes (a + 8 + n) 4) then some (leNat (b.take 4), b.drop 8) else none

/-- The resolution of a record: both copies, and which is taken. -/
def Device.recResolve (d : Device) (p : RecPlace) (id : Nat) :
    Option (Nat × List Nat) × Option (Nat × List Nat) × Resolved :=
  let a := d.recCopy p id p.page0
  let b := d.recCopy p id p.page1
  (a, b, resolveCopies a.isSome b.isSome (a.getD (0, [])).1 (b.getD (0, [])).1
    (decide ((a.getD (0, [])).2 = (b.getD (0, [])).2)))

/-- The body and sequence number of the copy taken. -/
def Device.recTaken (d : Device) (p : RecPlace) (id : Nat) : Option (Nat × List Nat) :=
  let r := d.recResolve p id
  match r.2.2.taken with
  | some 0 => r.1
  | some _ => r.2.1
  | none => none

/-- The body of a fixed record, if one is valid. -/
def Device.recBody (d : Device) (id : Nat) : Option (List Nat) :=
  match d.recPlace 2 id with
  | some p => (d.recTaken p id).map (·.2)
  | none => none

/-- The bytes of a copy that a commit writes, sequence number included (R420, R421). -/
def recBytes (p : RecPlace) (id seq : Nat) (body : List Nat) : List Nat :=
  if p.edid then leBytes 4 seq ++ leBytes 4 (crc32 (body.drop 8 ++ leBytes 4 seq)) ++ body.drop 8
  else
    let h := leBytes 4 seq ++ leBytes 2 body.length ++ [id % 256, 1] ++ body
    h ++ leBytes 4 (crc32 h)

/-- The copy a commit writes and its sequence number (R424). -/
def Device.recTarget (d : Device) (p : RecPlace) (id : Nat) : Nat × Nat :=
  let r := d.recResolve p id
  let page := match r.2.2.taken with
    | none => p.page0
    | some k => if r.2.2.twin then p.page1 else if k = 0 then p.page1 else p.page0
  match d.recTaken p id with
  | some c => (page * 256, (c.1 + 1) % 2 ^ 32)
  | none => (page * 256, 1)

/-- Note a twin found at a resolve (R423). -/
def Device.recTwin (d : Device) (r : Resolved) : Device :=
  let d := if r.twin then d.put KEEP_EVT_twin 1 else d
  if r.count then d.ctrAdd 8 1 else d

/-- Commit a body in one piece, as Walern firmware does for its own saves (R48, R374). -/
def Device.recSave (d : Device) (id : Nat) (body : List Nat) : Device :=
  if d.kClosed then d else
    match d.recPlace 2 id with
    | none => d
    | some p =>
      let t := d.recTarget p id
      d.kWr t.1 (recBytes p id t.2 body)

/-- The registers of the register record, in increasing offset order (R546). -/
def recordRegs : List Nat :=
  [GLB_WAKE_CFG, GLB_WAKE_ALARM, DPRX_CTRL 0, DPRX_CTRL 1, DPRX_CTRL 2, DPRX_CTRL 3, TMG_HFP, TMG_HSYNC, TMG_HTOTAL,
   TMG_VFP, TMG_VSYNC, TMG_VTOTAL] ++
  [SRV_SLOT 0 0, SRV_SLOT 0 1, SRV_SLOT 1 0, SRV_SLOT 1 1, SRV_SAVE_INT, HVP_SEQ_CFG, HVP_BO_CFG] ++
  (List.range 8).map HVP_SEQ_DLY ++ (List.range 4).map HVP_RAIL ++ (List.range 4).map HVP_PSM_CFG ++
  [HVP_DIS_CFG, HVP_CRK_CFG, SEG_CFG, MEM_GLASS, KEEP_CTRL]

/-- Save every unsaved K register: the register record as a whole, and GLB_BOOT_CFG in the boot record (R48, R582). -/
def Device.kSaveRegs (d : Device) : Device :=
  if d.kClosed || d.keep.kUnsaved.isEmpty then d else
    let d := if d.keep.kUnsaved.any (fun o => o ≠ GLB_BOOT_CFG)
      then d.recSave 1 (recordRegs.flatMap (fun o => leBytes 4 (d.rd o))) else d
    let d := if d.keep.kUnsaved.contains GLB_BOOT_CFG then
        match d.recBody 0 with
        | some b => d.recSave 0 (b.take 28 ++ leBytes 4 (d.rd GLB_BOOT_CFG) ++ b.drop 32)
        | none => d
      else d
    { d with keep := { d.keep with kUnsaved := [] } }

end Sys2Proof.Machine
end

