-- ==== Sys2Proof/Machine/LinkOps.lean ====
section
/-! DEFINITION. The lanes, drivers and control packets of the Aethex column link (spec/11): the operations that its events share. -/

namespace Sys2Proof.Machine

/-! ## Blocks and packets (R308-R317) -/

/-- CRC-8 of R311. -/
def crc8 (bs : List Nat) : Nat := crcRun 8 0x07 0x00 bs

/-- A control block: type, bytes 1 to 6 and the CRC-8 (R311). -/
def ctlBlock (ty : Nat) (b : List Nat) : List Nat :=
  let p := ty :: (b ++ List.replicate 6 0).take 6
  p ++ [crc8 p]

/-- The LIN block of a glass line (R311, R313). -/
def linBlock (line row region : Nat) (load : Bool) (frame : Nat) (first : Bool) : List Nat :=
  ctlBlock 0x33 (leBytes 2 line ++ leBytes 2 (row % 0x2000 + region * 0x2000 + b2n load * 0x8000) ++
    [frame % 256, b2n first])

/-- The MRK block (R311). -/
def mrkBlock (count : Nat) : List Nat := ctlBlock 0x2D [count % 256]

/-- CRC-16 of R314 over payload bytes. -/
def linkCrc16 (bs : List Nat) : Nat := crcRun 16 0x1021 0xFFFF bs

/-- Pack codes of `w` bits, channel 0 lowest, into whole 64-bit data blocks (R314). -/
def packCodes (w : Nat) (codes : List Nat) : List Nat :=
  let n := (codes.reverse).foldl (fun acc c => acc * 2 ^ w + c % 2 ^ w) 0
  leBytes (8 * ((codes.length * w + 63) / 64)) n

/-- A line packet: its LPH block and its payload (R314). -/
def linePacket (stripe row : Nat) (hold zero : Bool) (w : Nat) (codes : List Nat) : List Nat :=
  let p := packCodes w codes
  ctlBlock 0x4B ([stripe] ++ leBytes 2 (row % 0x2000 + b2n hold * 0x4000 + b2n zero * 0x8000) ++
    [p.length / 8] ++ leBytes 2 (linkCrc16 p)) ++ p

/-- A control packet: its CPH block and its data, padded to whole blocks (R316). -/
def ctlPacket (k : CtlPkt) : List Nat :=
  let n := (k.data.length + 7) / 8
  let data := (k.data ++ List.replicate (8 * n) 0).take (8 * n)
  ctlBlock 0x55 ([k.target, k.op, n, k.seq] ++ leBytes 2 (linkCrc16 data)) ++ data

/-- One scrambled bit: the new history and the sent bit (R309). -/
def scrambleBit (h : Nat) (d : Bool) : Nat × Bool :=
  let s := Bool.xor d (Bool.xor (h.testBit 38) (h.testBit 57))
  ((2 * h + b2n s) % 2 ^ 58, s)

/-! ## Lanes, stripes and drivers -/

/-- The hidden state of lane `n`. -/
def Device.lane (d : Device) (n : Nat) : LaneX := Sparse.get (fun _ => {}) d.link.lanes n

/-- Set the hidden state of lane `n`. -/
def Device.setLane (d : Device) (n : Nat) (x : LaneX) : Device :=
  { d with link := { d.link with lanes := Sparse.set (fun _ => {}) d.link.lanes n x } }

/-- The hidden state of return lane `m`. -/
def Device.ret (d : Device) (m : Nat) : RetX := Sparse.get (fun _ => {}) d.link.rets m

/-- Set the hidden state of return lane `m`. -/
def Device.setRet (d : Device) (m : Nat) (x : RetX) : Device :=
  { d with link := { d.link with rets := Sparse.set (fun _ => {}) d.link.rets m x } }

/-- The stripe whose primary lane is `n` in the active set. -/
def Device.laneStripe (d : Device) (n : Nat) : Option Nat :=
  (List.range d.act.lanes.length).find? (fun s => decide ((d.act.lanes.getD s {}).lane = n))

/-- The index of the spare whose lane is `n` in the active set. -/
def Device.laneSpare (d : Device) (n : Nat) : Option Nat :=
  (List.range d.act.spares.length).find? (fun k => decide ((d.act.spares.getD k {}).lane = n))

/-- The active image claims lane `n` as a stripe lane or a spare (R341). -/
def Device.laneClaimed (d : Device) (n : Nat) : Bool := (d.laneStripe n).isSome || (d.laneSpare n).isSome

/-- The claimed lanes in increasing order. -/
def Device.claimedLanes (d : Device) : List Nat := (List.range 96).filter (fun n => d.laneClaimed n)

/-- The spare that serves stripe `s`, if one does. -/
def Device.spareOf (d : Device) (s : Nat) : Option Nat :=
  (List.range d.act.spares.length).find? (fun k => d.get (ACL_SPARE_state k) = 3 && d.get (ACL_SPARE_stripe k) = s)

/-- The lane that carries stripe `s` now: the spare that serves it, else its primary lane. -/
def Device.stripeLane (d : Device) (s : Nat) : Nat :=
  match d.spareOf s with
  | some k => (d.act.spares.getD k {}).lane
  | none => (d.act.lanes.getD s {}).lane

/-- The stripe of the driver that owns a slot of a return lane. -/
def Device.slotStripe (d : Device) (m j : Nat) : Option Nat :=
  (List.range d.act.lanes.length).find? (fun s =>
    let e := d.act.lanes.getD s {}
    decide (e.ret = m ∧ e.slot = j))

/-- The driver's channels: q times the stripe's width (R307). -/
def Device.channels (d : Device) (s : Nat) : Nat :=
  let c := d.act.stripes.getD s {}
  c.q (d.getF FAB_SPR_CFG_mode) * c.width

/-- The state of a lane (R331). -/
def Device.laneState (d : Device) (n : Nat) : Nat := d.get (ACL_LANE_STAT_state n)

/-- Lane `n` is trained for check 6 of R86 and for R154 (R332). -/
def Device.laneTrained (d : Device) (n : Nat) : Bool := decide (4 ≤ d.laneState n)

/-- The lane sends blocks: it is past OFF and WAKE, and not FAILED. -/
def Device.laneRuns (d : Device) (n : Nat) : Bool := decide (2 ≤ d.laneState n ∧ d.laneState n ≤ 5)

/-- Send a control packet on lane `n`; it counts as unacknowledged until a STATUS burst reports it (R318). -/
def Device.sendCtl (d : Device) (n target op : Nat) (data : List Nat) (integrator : Bool := false) : Device :=
  let x := d.lane n
  d.setLane n { x with seq := (x.seq + 1) % 256,
                       unacked := x.unacked ++ [{ target := target, op := op, data := data, seq := x.seq,
                                                  integrator := integrator }] }

/-- Broadcast a control packet on every claimed forward lane that runs (R347, R354). -/
def Device.broadcastCtl (d : Device) (op : Nat) (data : List Nat) : Device :=
  eachOf (d.claimedLanes.filter (fun n => d.laneRuns n)) (fun n d => d.sendCtl n 0xFF op data) d

/-- The data of a CONFIG packet for stripe `s` (R317). -/
def Device.configData (d : Device) (s : Nat) (atFrame : Bool) : List Nat :=
  let e := d.act.lanes.getD s {}
  [s] ++ leBytes 2 (d.channels s) ++ [d.getF FAB_CODE_width, e.slot, e.ret, b2n atFrame]

/-- Send CONFIG to the driver of stripe `s`: its slot is granted (R317, R322). -/
def Device.sendConfig (d : Device) (s : Nat) : Device :=
  let e := d.act.lanes.getD s {}
  let d := d.sendCtl (d.stripeLane s) s 0x01 (d.configData s false)
  let d := d.setLane e.lane { d.lane e.lane with prompted := true }
  let x := d.ret e.ret
  (d.setRet e.ret { x with silenced := offBit x.silenced e.slot }).put (ACL_RET_STAT_granted e.ret)
    (onBit (d.get (ACL_RET_STAT_granted e.ret)) e.slot)

/-- Give each lane its role and stripe, and each spare its entry, from the active set (R69, ACL_LANE_STAT, ACL_SPARE). -/
def Device.linkAdopt (d : Device) : Device :=
  let d := eachOf (List.range 96) (fun n d =>
    match d.laneStripe n, d.laneSpare n with
    | some s, _ => (d.put (ACL_LANE_STAT_role n) 1).put (ACL_LANE_STAT_stripe n) s
    | none, some _ => if d.get (ACL_LANE_STAT_role n) = 3 then d else (d.put (ACL_LANE_STAT_role n) 2).put (ACL_LANE_STAT_stripe n) 0
    | none, none => (d.put (ACL_LANE_STAT_role n) 0).put (ACL_LANE_STAT_stripe n) 0) d
  eachOf (List.range 4) (fun k d =>
    match d.act.spares[k]? with
    | none => d.wr (ACL_SPARE k) 0
    | some e =>
      let st := if d.get (ACL_SPARE_state k) = 3 then 3 else if d.laneState e.lane = 5 then 2 else 1
      ((d.put (ACL_SPARE_lane k) e.lane).put (ACL_SPARE_valid k) 1).put (ACL_SPARE_state k) st) d

/-- Start a training: WAKE, with the 1010 pattern (R331). A full one sweeps the presets of pmask. -/
def Device.trainStart (d : Device) (n : Nat) (full again retry : Bool) : Device :=
  let x := d.lane n
  let d := d.setLane n { x with full := full, again := again, retry := retry, sweep := [], scores := [], holding := false,
                                resending := false, missing := 0, unacked := [], presetAt := none }
  let d := d.put (ACL_LANE_STAT_state n) 1
  let d := match d.laneSpare n with
    | some k => if d.get (ACL_SPARE_state k) = 3 then d else d.put (ACL_SPARE_state k) 1
    | none => d
  if full then d.bump (ACL_LANE_EVT_fulls n) else d.bump (ACL_LANE_EVT_fasts n)

/-- Train every claimed lane in parallel (op 7, boot step 10, step 6 of R514). -/
def Device.trainAll (d : Device) : Device :=
  eachOf d.claimedLanes (fun n d => d.trainStart n true false true) d

/-- Stop sending on a lane (op 6). -/
def Device.laneOff (d : Device) (n : Nat) : Device :=
  let d := d.setLane n { seq := (d.lane n).seq }
  let d := d.put (ACL_LANE_STAT_state n) 0
  match d.laneSpare n with
  | some k => if d.get (ACL_SPARE_state k) = 3 then d else d.put (ACL_SPARE_state k) 1
  | none => d

/-- Move the traffic of stripe `s` to spare `k` (R336, R338). -/
def Device.moveToSpare (d : Device) (s k : Nat) : Device :=
  let n := (d.act.spares.getD k {}).lane
  ((((d.put (ACL_SPARE_stripe k) s).put (ACL_SPARE_state k) 3).put (ACL_LANE_STAT_role n) 3).put
    (ACL_LANE_STAT_stripe n) s).put ACL_IRQ_spared 1

/-- Return the traffic of the stripe that spare `k` serves to its primary lane (R338). -/
def Device.moveBack (d : Device) (k : Nat) : Device :=
  let n := (d.act.spares.getD k {}).lane
  ((d.put (ACL_SPARE_stripe k) 0).put (ACL_SPARE_state k) (if d.laneState n = 5 then 2 else 1)).put
    (ACL_LANE_STAT_role n) 2 |>.put (ACL_LANE_STAT_stripe n) 0

/-- The lowest spare that may take stripe `s` at once (R336). -/
def Device.freeSpare (d : Device) (s : Nat) : Option Nat :=
  (List.range d.act.spares.length).find? (fun k =>
    let e := d.act.spares.getD k {}
    e.mask.testBit s && d.laneState e.lane = 5 && d.get (ACL_SPARE_state k) = 2)

/-- The driver of stripe `s` reports IN1 lock in its last STATUS. -/
def Device.drvIn1 (d : Device) (s : Nat) : Bool :=
  (((d.lane (d.act.lanes.getD s {}).lane).status).getD 0 0).testBit 1

/-- A lane enters FAILED (R331, R335); a stripe it serves goes dark. -/
def Device.laneFail (d : Device) (n err : Nat) : Device :=
  let d := d.setLane n { d.lane n with resending := false, holding := false, sweep := [], unacked := [] }
  let d := ((d.put (ACL_LANE_STAT_state n) 6).put (ACL_LANE_STAT_err n) err).put ACL_IRQ_failed 1
  match d.laneSpare n with
  | some k => if d.get (ACL_SPARE_state k) = 3 then d else d.put (ACL_SPARE_state k) 1
  | none => d

/-- Begin silence and re-grant of return lane `m` (R329 step 1). -/
def Device.silence (d : Device) (m : Nat) (byCmd : Bool) : Device :=
  let granted := bitList 4 (d.get (ACL_RET_STAT_granted m))
  let d := eachOf granted (fun j d =>
    match d.slotStripe m j with
    | some s => d.sendCtl (d.stripeLane s) s 0x02 []
    | none => d) d
  let x := d.ret m
  d.setRet m { x with proc := .silent, silenced := 15, violNow := 0, violLast := 0, signal := 0, signalNow := false,
                      byCmd := byCmd, wait := 2, await := false } |>.put (ACL_RET_STAT_granted m) 0

/-! ## The raster's state (R142, R154, R155) -/

/-- The raster is stopped. -/
def Device.rasterStopped (d : Device) : Bool := d.get TMG_STAT_raster = 0

/-- The raster enters holdover (R142). -/
def Device.holdover (d : Device) : Device :=
  if d.get TMG_STAT_raster = 3 then d else ((d.put TMG_STAT_raster 3).bump TMG_LOCK_EVT_holdovers).put TMG_IRQ_holdover 1

/-- A register as it is in force. -/
def Device.inForce (d : Device) (o : Nat) : Nat := if isMirror o || isFrame o then d.rdF o else d.rd o

/-- The frequency of a fabric clock step in Hz (R531). -/
def fclkHz (step : Nat) : Nat := 137500000 - 6250000 * step

/-- FAB_DEPTH: the deepest stripe's depth and the margin of the deadlines, half a glass line period in FCLK cycles, as a swap and a start of scan-out set them (R219). -/
def Device.depthSync (d : Device) : Device :=
  let depth := d.act.stripes.foldl (fun m s => Nat.max m s.depth) 0
  let p := bitsOf (d.inForce TMG_PCLK) TMG_PCLK_rate.hi TMG_PCLK_rate.lo
  let total := bitsOf (d.inForce TMG_HTOTAL) TMG_HTOTAL_width.hi TMG_HTOTAL_width.lo
  let margin := if p = 0 then 0 else fclkHz (d.get CLK_FCLK_cur) * total / (2 * p * 10000)
  d.wr FAB_DEPTH (Nat.min depth 0xFFFF + Nat.min margin 0xFFFF * 0x10000)

/-- A running raster follows TMG_CTRL.src; a test raster is local, and GECKO keeps its own (R142, R156, R157). -/
def Device.rasterSrc (d : Device) : Device :=
  let r := d.get TMG_STAT_raster
  let test := d.mode = 1 && d.getF TMG_TEST_en = 1
  if r = 0 ∨ d.mode = 3 then d
  else if test ∨ d.getF TMG_CTRL_src = 0 then
    (if r = 1 then d else ({ d with ras := { d.ras with wait := .no } }).put TMG_STAT_raster 1)
  else if r = 1 then d.holdover
  else d

/-- Scan-out starts: a local raster, or holdover until the reference port locks (R142); the deadlines are set anew (R219). -/
def Device.rasterStart (d : Device) : Device :=
  let d : Device := { d with ras := { d.ras with stop := false, last := false } }
  if !d.rasterStopped then d
  else
    let d : Device := { d with ras := { d.ras with active := false, vsp := false, wait := .no, lines := 0 } }
    (d.put TMG_STAT_raster 1).depthSync.rasterSrc

/-- Every claimed lane has finished training. -/
def Device.lanesSettled (d : Device) : Bool := d.claimedLanes.all (fun n => decide (4 ≤ d.laneState n))

/-- Every lane that a transition trains has settled: the transition starts scan-out (R155). -/
def Device.scanJoin (d : Device) : Device :=
  if d.link.inTrans && d.mode = 1 && !d.boot.running && d.trans.any (fun t => t.target = 2 || t.target = 4) && d.lanesSettled
  then (d.put TMG_SCAN_run 1).rasterStart else d

end Sys2Proof.Machine
end

