-- ==== Sys2Proof/Machine/Power.lean ====
section
/-! DEFINITION. The power-up sequence and the discharges of the panel rails (spec/12_panel_power.md): the operations that faults, modes, boot and the HVP commands share. -/

namespace Sys2Proof.Machine

/-- An active set is loaded and its raster is defined (R354, R506). -/
def Device.rasterKnown (d : Device) : Bool :=
  !d.act.stripes.isEmpty && d.getF TMG_PCLK_rate ≠ 0 && d.get TMG_HTOTAL_width ≠ 0 && d.get TMG_VTOTAL_lines ≠ 0

/-- The rail of sequence step `i`: VGL, VGH, VSN, VSP are steps 0 to 3 and rails 1, 0, 3, 2 (R343, R347). -/
def stepRail (i : Nat) : Nat := if i = 0 then 1 else if i = 1 then 0 else if i = 2 then 3 else 2

/-- The fault instance of sequence step `i`: rail r, or 4 + k for pixel supply k (R502). -/
def stepInst (i : Nat) : Nat := if i < 4 then stepRail i else i

/-- Some converter or pixel supply is not discharged (R353). -/
def Device.railsUp (d : Device) : Bool := d.get HVP_STAT_up ≠ 0

/-! ## Power-up (R347-R350) -/

/-- Start sequence step `i`, or pause at it when VIN_HV is below warn. -/
def Device.seqStep (d : Device) (i : Nat) : Device :=
  if d.hv.vinLow then
    ({ d with hv := { d.hv with seq := .due i } }).put HVP_STAT_state 2
  else
    let d := { d with hv := { d.hv with seq := .ramp i, psEn := if 4 ≤ i then onBit d.hv.psEn (i - 4) else d.hv.psEn,
                                        bleedOn := if i < 4 then offBit d.hv.bleedOn (stepRail i) else d.hv.bleedOn } }
    ((d.put HVP_STAT_up (onBit (d.get HVP_STAT_up) i)).put HVP_STAT_step i).put HVP_STAT_state 1

/-- The sequence completes: RESUME goes to every driver and the gate drive may start (R347 step 4). With no enabled step every rail is off. -/
def Device.seqComplete (d : Device) : Device :=
  let d := { d with hv := { d.hv with seq := .idle } }
  (((d.broadcastCtl 0x07 []).put HVP_STAT_state (if d.railsUp then 3 else 0)).put HVP_STAT_step 0).put HVP_IRQ_seq_done 1

/-- The last sequence is complete: the rails are up, or no step is enabled (R347). -/
def Device.seqDone (d : Device) : Bool :=
  d.get HVP_STAT_state = 3 || (d.get HVP_STAT_state = 0 && d.hv.seq == .idle && d.get HVP_SEQ_CFG_en = 0)

/-- The first enabled step at or above `i`. -/
def Device.seqNext (d : Device) (i : Nat) : Option Nat :=
  (List.range 8).find? (fun j => decide (i ≤ j) && (d.get HVP_SEQ_CFG_en).testBit j)

/-- Go on with the first enabled step at or above `i`, or complete. -/
def Device.seqFrom (d : Device) (i : Nat) : Device :=
  match d.seqNext i with
  | some j => d.seqStep j
  | none => d.seqComplete

/-- Start a power-up sequence: 0 at boot step 9, 1 by command, 2 by regeneration (R348). -/
def Device.seqStart (d : Device) (by' : Nat) : Device :=
  let d := { d with hv := { d.hv with seqBy := by', gates := .agnd, stuck := 0, dis := .idle } }
  (d.put HVP_STAT_good 0).seqFrom 0

/-- Step `i` is good (R345): its delay begins; with VGL and VGH good the level shifters leave AGND_HV. -/
def Device.seqGood (d : Device) (i : Nat) : Device :=
  let good := onBit (d.get HVP_STAT_good) i
  let d := d.put HVP_STAT_good good
  { d with hv := { d.hv with seq := .delay i,
                             gates := if good.testBit 0 && good.testBit 1 && d.hv.gates == .agnd then .off else d.hv.gates } }

/-! ## Discharge (R353-R358) -/

/-- The data of DISCH: HVP_DIS_CFG.code clamped to 2^w - 1 (R354). -/
def Device.dischData (d : Device) : List Nat :=
  leBytes 2 (Nat.min (d.get HVP_DIS_CFG_code) (2 ^ d.getF FAB_CODE_width - 1))

/-- The discharge is over: outputs at AGND_HV, state down, dis_done (R354 step 5). -/
def Device.disFinish (d : Device) : Device :=
  let d := { d with hv := { d.hv with dis := .idle, disBridge := false, gates := .agnd, seq := .idle } }
  (((d.put HVP_STAT_state 0).put HVP_STAT_step 0).put HVP_STAT_good 0).put HVP_IRQ_dis_done 1

/-- The next step to bleed, from 7 down: up and not timed out. -/
def Device.bleedNext (d : Device) : Option Nat :=
  ((List.range 8).reverse).find? (fun i => (d.get HVP_STAT_up).testBit i && !d.hv.stuck.testBit i)

/-- Bleed the next step, or finish (R354 step 4). -/
def Device.bleedGo (d : Device) : Device :=
  match d.bleedNext with
  | none => d.disFinish
  | some i =>
    let d := { d with hv := { d.hv with dis := .bleed i, psEn := if 4 ≤ i then offBit d.hv.psEn (i - 4) else d.hv.psEn,
                                        bleedOn := if i < 4 then onBit d.hv.bleedOn (stepRail i) else d.hv.bleedOn } }
    d.put HVP_STAT_good (offBit (d.get HVP_STAT_good) i)

/-- Sense operations in progress end with the gates at the on level; in service they are due again (R290, R354). -/
def Device.senseCut (d : Device) : Device :=
  if d.srv.ops.isEmpty then d else
    let n := (d.srv.ops.filter (fun o => !o.loupe)).length
    let d : Device := { d with srv := { d.srv with ops := [], again := (d.srv.ops.filter (fun (o : SenseOp) => !o.loupe)).map (fun (o : SenseOp) => (o.row, o.level, o.again)) ++ d.srv.again } }
    (d.put SRV_STAT_due (Nat.min 4 (d.get SRV_STAT_due + n))).put SRV_STAT_sense (if n = 0 then 1 else 3)

/-- Every gate output goes to the on level and the hold begins (R354 steps 2 and 3). -/
def Device.disOpen (d : Device) : Device :=
  let d := d.senseCut
  { d with hv := { d.hv with dis := .hold, gates := .on } }

/-- Start the full discharge, if anything is up and none runs; the bridge-lost form has no step 1 (R353, R354, R357). -/
def Device.disStart (d : Device) (bridge : Bool) : Device :=
  if !d.railsUp then
    (match d.hv.seq with
      | .idle => d
      | _ => (({ d with hv := { d.hv with seq := .idle, gates := .agnd } }).put HVP_STAT_state 0).put HVP_STAT_step 0)
  else if d.hv.dis ≠ .idle then d
  else
    let d := { d with hv := { d.hv with seq := .idle, dis := .opening, disBridge := bridge, stuck := 0 } }
    let d := ((d.put HVP_STAT_state 4).put HVP_STAT_step 0).put HVP_STAT_gate 0
    if bridge then d.disOpen
    else
      let d := d.broadcastCtl 0x06 d.dischData
      if d.rasterKnown then d else d.disOpen

/-- The power-fail form (R356): gates on at once; a full discharge in progress changes to it at its step. -/
def Device.disPowerFail (d : Device) : Device :=
  let d := if d.power.coreOn then d.broadcastCtl 0x06 d.dischData else d
  let bleeding := match d.hv.dis with
    | .bleed _ => true
    | _ => false
  let d := { d with hv := { d.hv with seq := .idle } }
  let d := ((d.put HVP_STAT_state 5).put HVP_STAT_step 0).put HVP_STAT_gate 0
  if bleeding then
    { d with hv := { d.hv with dis := .pfBleed, psEn := 0, bleedOn := 15, gates := .on } } |>.put HVP_STAT_good 0
  else { d with hv := { d.hv with dis := .pfHold, gates := .on } }

/-! ## Status glass codes (R369, SEG_STAT) -/

/-- Show a code: kind 0 none, 1 progress, 2 halt, 3 fault. -/
def Device.segCode (d : Device) (kind code : Nat) : Device := (d.put SEG_STAT_kind kind).put SEG_STAT_code code

end Sys2Proof.Machine
end

