-- ==== Sys2Proof/Machine/Fault.lean ====
section
/-! DEFINITION. Faults, recoveries and the entry to NEWT (spec/17_faults.md): grading, queuing, combining and escalating. -/

namespace Sys2Proof.Machine

/-! ## The catalogue (R505) -/

/-- The domain kind of a fault code (R502, R505). -/
def fltKind (c : Nat) : Nat :=
  if c < 0x20 then 1 else if c < 0x28 then 2 else if c < 0x30 then 3 else if c < 0x38 then 4 else if c < 0x40 then 5
  else if c < 0x44 then 6 else if c < 0x48 then 7 else if c < 0x50 then 8 else if c < 0x58 then 9 else if c < 0x60 then 10
  else if c < 0x68 then 11 else if c < 0x70 then 12 else if c < 0x74 then 13 else if c < 0x7A then 14 else 0

/-- The severity of a catalogue row; 0x7A is raised at its own (R505). -/
def fltSev (c : Nat) : Nat :=
  if c ∈ [0x17, 0x18, 0x1A, 0x20, 0x21, 0x28, 0x30, 0x41, 0x44, 0x48, 0x50, 0x51, 0x59, 0x70, 0x74] then 1
  else if c ∈ [0x22, 0x23, 0x29, 0x31, 0x38, 0x39, 0x40, 0x49, 0x52, 0x68] then 2
  else 3

/-- An at-once fault opens no recovery (R501, R505). -/
def fltAtOnce (c sev : Nat) : Bool :=
  c ∈ [0x17, 0x18, 0x1A, 0x30, 0x38, 0x41, 0x44, 0x48, 0x50, 0x51, 0x52, 0x59, 0x70, 0x74] || (c = 0x7A && sev < 3)

/-- A fault of the catalogue with its instance and the object its containment acts on. -/
def catalogue (code inst : Nat) (obj : Nat := 0) : Flt :=
  { code := code, inst := inst, sev := fltSev code, kind := fltKind code, obj := obj }

/-- The layout of FLT_OPEN, FLT_PEND, FLT_LAST and FLT_HV_LAST. -/
def fltWord (f : Flt) : Nat := f.code * 0x1000000 + f.inst % 256 * 0x10000 + f.kind * 0x100 + f.sev * 0x10 + 1

/-! ## Accounting (R513, R519, R520) -/

/-- Growth of a Keep spread counter, to be added at the next flush (R520). -/
def Device.grow (d : Device) (c n : Nat) : Device :=
  let g := Sparse.get (fun _ => 0) d.flt.growth c
  { d with flt := { d.flt with growth := Sparse.set (fun _ => 0) d.flt.growth c (g + n) } }

/-- Condition `c` (1 to 4) of R519 is broken in this frame period. -/
def Device.spoil (d : Device) (c : Nat) : Device := { d with flt := { d.flt with broken := onBit d.flt.broken (c - 1) } }

/-- Add the growth of every count to the Keep spread counters (R520). -/
def Device.accountFlush (d : Device) : Device :=
  let d' := d.flt.growth.foldl (fun d c => d.ctrAdd c.1 c.2) d
  if d.kClosed then d else { d' with flt := { d'.flt with growth := [] } }

/-- A fault-log entry of the fault engine (R513). -/
def Device.fltLog (d : Device) (f : Flt) (entry lat otherCode otherInst detail : Nat) : Device :=
  d.logEntry f.code f.inst entry f.sev
    (leBytes 4 (d.rd TMG_FRAME_CNT) ++ [f.kind, lat % 256, otherCode, otherInst] ++ leBytes 4 detail ++ [0, 0, 0, 0])

/-- A nominal frame period of the active set in microseconds (R506). -/
def Device.nominalUs (d : Device) : Nat :=
  if d.rasterKnown then Nat.max 1 (d.get TMG_HTOTAL_width * d.get TMG_VTOTAL_lines * 100 / d.getF TMG_PCLK_rate) else 10000

/-- The nominal frame periods of a stay in NEWT entered from LIVE or GECKO enter the accounts, all failed under condition 4 (R519). -/
def Device.newtAccount (d : Device) : Device :=
  match d.flt.newtUs with
  | none => d
  | some t =>
    let n := (d.us - t) / d.nominalUs
    let d : Device := { d with flt := { d.flt with newtUs := none } }
    let d := ((d.bump FLT_AV_FRAMES_val n).bump FLT_AV_BAD_val n).bump FLT_AV_CAUSE_c4 n
    if n = 0 then d else ((d.grow 16 n).grow 17 n).grow 22 n

/-- While the raster is stopped, nominal frame periods stand for vertical swap points (R506). -/
def Device.recTick (d : Device) (r : Recovery) : Recovery :=
  if d.get TMG_STAT_raster ≠ 0 then r else
    let n := (d.us - r.tickUs) / d.nominalUs
    { r with latency := r.latency + n, elapsed := r.elapsed + n, tickUs := r.tickUs + n * d.nominalUs }

/-- FLT_DEGR0 and FLT_DEGR1 follow the standing degradations; a change sets FLT_IRQ.degr. -/
def Device.degrSync (d : Device) : Device :=
  let f := d.flt
  let dark := Nat.min f.dark.length 127
  let parked := Nat.min f.parked.length 127
  let jam := Nat.min f.jammed.length 31
  let lay := Nat.min (popCount 16 (d.rd LAY_FAULT)) 31
  let frozen := Nat.min (d.get TRN_STAT1_frozen) 0x7FFF
  let any := b2n (dark + parked + jam + lay + frozen ≠ 0)
  let w := dark + parked * 0x100 + jam * 0x10000 + lay * 0x1000000 + any * 0x80000000
  if d.rd FLT_DEGR0 = w ∧ d.rd FLT_DEGR1 = frozen then d
  else ((d.wr FLT_DEGR0 w).wr FLT_DEGR1 frozen).put FLT_IRQ_degr 1

/-! ## The engine's registers -/

/-- FLT_STAT, FLT_OPEN and FLT_PEND follow the engine. -/
def Device.fltSync (d : Device) : Device :=
  let d := match d.flt.opened with
    | none => (((d.wr FLT_OPEN 0).put FLT_STAT_sev 0).put FLT_STAT_count 0).put FLT_STAT_elapsed 0
    | some r =>
      (((d.wr FLT_OPEN (fltWord r.flt)).put FLT_STAT_sev r.flt.sev).put FLT_STAT_count (Nat.min r.count 3)).put
        FLT_STAT_elapsed (Nat.min r.elapsed 6)
  let d := match d.flt.queued with
    | none => (d.wr FLT_PEND 0).put FLT_STAT_pend 0
    | some f => (d.wr FLT_PEND (fltWord f)).put FLT_STAT_pend 1
  if d.mode = 5 then d
  else d.put FLT_STAT_engine (if d.flt.opened.isSome then 1 else 0)

/-- Set the open recovery. -/
def Device.fltOpen (d : Device) (r : Option Recovery) : Device := ({ d with flt := { d.flt with opened := r } }).fltSync

/-- What the block does while no command waits: a microsecond passes; with the raster stopped a nominal frame period may end for the open recovery (R506). -/
def Device.tick (d : Device) : Device :=
  let d : Device := { d with us := d.us + 1 }
  match d.flt.opened with
  | some r => if d.get TMG_STAT_raster = 0 ∧ d.nominalUs ≤ d.us - r.tickUs then d.fltOpen (some (d.recTick r)) else d
  | none => d

/-! ## Resources (R510) -/

/-- The resources a fault's recovery holds: class 0 forward lanes, 1 return slots, 2 stripes, 3 layers, 4 tiles, 5 frame-store regions. -/
def Device.fltHolds (d : Device) (f : Flt) : List (Nat × Nat) :=
  if f.code = 0x20 ∨ f.code = 0x21 then
    let e := d.act.lanes.getD ((d.laneStripe f.obj).getD 0) {}
    [(0, f.obj), (1, e.ret * 4 + e.slot)]
  else if f.code = 0x22 then [(0, d.stripeLane f.obj), (0, (d.act.lanes.getD f.obj {}).lane)]
  else if f.code = 0x23 then [(0, f.obj)]
  else if f.code = 0x28 then (List.range 4).map (fun j => (1, f.obj * 4 + j))
  else if f.code = 0x31 then [(2, f.obj)]
  else if f.code = 0x39 then [(3, f.obj)]
  else if f.code = 0x40 then [(4, f.obj)]
  else if f.code = 0x49 then [(5, 0)]
  else if f.code = 0x68 then
    let wins := (List.range 64).filter (fun w => d.getF (CHK_CTRL_fault w) = 1)
    ((List.range d.act.stripes.length).filter (fun s =>
      let c := d.act.stripes.getD s {}
      wins.any (fun w =>
        let x := d.getF (CHK_RECT_X_x w)
        let n := d.getF (CHK_RECT_X_width w)
        decide (x < c.firstCol + c.width ∧ c.firstCol < x + n)))).map (fun s => (2, s))
  else []

/-- Two faults meet in a resource: the newcomer needs one that the open recovery holds. -/
def Device.fltMeets (d : Device) (r : Recovery) (f : Flt) : Bool :=
  let held := (r.flt :: r.others).flatMap d.fltHolds
  (d.fltHolds f).any (fun x => held.contains x)

/-! ## Containment (R505, R507, R512) -/

/-- The containment of a recovering fault at its own severity. -/
def Device.contain (d : Device) (f : Flt) : Device :=
  if f.code = 0x20 ∨ f.code = 0x21 then d.setLane f.obj { d.lane f.obj with resending := true }
  else if f.code = 0x23 then
    (match d.laneStripe f.obj with
      | some s => if (d.spareOf s).isSome then d else
          { d with flt := { d.flt with dark := if d.flt.dark.contains s then d.flt.dark else d.flt.dark ++ [s] } }
      | none => d).degrSync
  else if f.code = 0x28 then d.silence f.obj false
  else if f.code = 0x29 then
    (({ d with flt := { d.flt with jammed := if d.flt.jammed.contains f.obj then d.flt.jammed else d.flt.jammed ++ [f.obj] } }).put
      (ACL_RET_STAT_jammed f.obj) 1).degrSync
  else if f.code = 0x31 then
    ({ d with flt := { d.flt with parked := if d.flt.parked.contains f.obj then d.flt.parked else d.flt.parked ++ [f.obj],
                                  park := Sparse.put d.flt.park f.obj 0 } }).degrSync
  else d

/-- The containment of an S1 recovery escalated to S2 (R512). -/
def Device.containS2 (d : Device) (f : Flt) : Device :=
  if f.kind = 2 then
    match d.laneStripe f.obj with
    | some s =>
      (match d.freeSpare s, d.drvIn1 s with
        | some k, true => d.moveToSpare s k
        | _, _ => ((if d.laneState f.obj = 6 then d else d.laneFail f.obj eState).contain { f with code := 0x23 }))
    | none => d.laneFail f.obj eState
  else if f.kind = 3 then (d.silence f.obj false).contain { f with code := 0x29 }
  else d

/-! ## NEWT (R37, R38, R42, R515, R516, R549) -/

/-- The compensation planes exchange: the staging plane is in force, and an apply has completed (R294, R379). -/
def Device.planesExchange (d : Device) : Device :=
  let cmp := 1 - d.get MEM_FS_STAT_cmp
  let d := ((((d.put MEM_FS_STAT_cmp cmp).wr SRV_STAGE_ADDR (d.rd (MEM_RGN_BASE (4 - cmp)))).put SRV_STAT_ramp 0).put
    SRV_STAT_ramp_j 0).put SRV_IRQ_ramp 1
  { d with srv := { d.srv with rampN := 0, applyN := none, applied := true } }

/-- A ramp in progress, or an accepted apply, completes at once (R294, R296). -/
def Device.rampEnd (d : Device) : Device :=
  if d.get SRV_STAT_ramp = 0 && d.srv.applyN.isNone then d else d.planesExchange

/-- The survey leaves LIVE, GECKO or LOUPE for NEWT or by a host request: a LOUPE survey is abandoned (R41, R290, R291). -/
def Device.surveyAbandon (d : Device) : Device :=
  if d.get SRV_STAT_loupe = 0 then d else
    let bank := 1 - d.get SRV_STAT_bank
    let d := ((d.put SRV_STAT_loupe 0).put SRV_STAT_bank bank).put SRV_SWEEP_next 0
    ({ d with srv := { d.srv with loupeNext := 0, sums := [], ops := [], again := [] } }).put SRV_STAT_sense (b2n (d.get SRV_STAT_due ≠ 0))

/-- A pending swap is discarded: E_STATE, counted; the mirror set stays (R38, R94). -/
def Device.swapDiscard (d : Device) : Device :=
  if d.get FAB_SWAP_STAT_pending = 0 then d else
    ({ ((((d.put FAB_SWAP_STAT_pending 0).put FAB_SWAP_STAT_armed 0).put FAB_SWAP_STAT_result eState).bump
      FAB_SWAP_EVT_discarded) with swap := {} })

/-- The values R549 sets at a transition out of TADPOLE other than to DARK. -/
def Device.leaveTadpole (d : Device) : Device :=
  if d.mode = 1 then
    let d := (d.put MBX_CFG_lock 1).put TMG_TEST_en 0
    d.wrF TMG_TEST (offBit (d.rdF TMG_TEST) TMG_TEST_en.lo)
  else d

/-- Write the mode registers at the moment a transition takes effect (R36, R549). -/
def Device.setMode (d : Device) (mode cause : Nat) : Device :=
  let prev := d.mode
  let d := if 2 ≤ mode ∧ mode ≤ 4 then d.segCode 0 0 else d
  ((((d.wr GLB_MODE_CAUSE (prev * 0x10 + cause)).put GLB_MODE_state mode).put GLB_MODE_STAT_busy 0).put
    GLB_MODE_STAT_target mode)

/-- Failed attempts within the last 60 s (R515). -/
def Device.recentFails (d : Device) : List Nat := d.flt.failUs.filter (fun t => decide (d.us < t + 60000000))

/-- Hold NEWT: no further attempt (R515, R516). -/
def Device.newtHold (d : Device) : Device :=
  (({ d with flt := { d.flt with step := 0, waitDis := false } }.put FLT_NEWT_held 1).put FLT_IRQ_held 1).grow 34 1

/-- The engine's state in NEWT after a discharge: held, or regenerating. -/
def Device.newtAfterDis (d : Device) : Device :=
  d.put FLT_STAT_engine (if d.get FLT_NEWT_held = 1 then 5 else if d.flt.step = 0 then 4 else 3)

/-- The discharge of an S3 recovery has completed: the recovery completes (R507). -/
def Device.recoveryDone (d : Device) (late : Bool) : Device :=
  match d.flt.opened with
  | none => d
  | some r =>
    let r := d.recTick r
    let tooLate := r.elapsed > 6 ∨ r.latency > 6 ∨ (r.flt.sev < 3 ∧ r.overrun)
    let d := d.bump (FLT_LAT_val (if tooLate then 7 else r.latency))
    let d := ((d.grow 30 1).grow 31 r.latency).put FLT_IRQ_done 1
    let d := if late then (d.put FLT_LATE_budget 1).put FLT_IRQ_late 1 else d
    let d := d.fltLog r.flt 1 r.latency 0 0 0
    match d.flt.queued with
    | none => d.fltOpen none
    | some f =>
      let d := { d with flt := { d.flt with queued := none } }
      (d.fltOpen (some { flt := f, tickUs := d.us })).contain f

/-- Enter NEWT on an S3 fault or an escalation (R37, R42, R514-R517). -/
def Device.newtEntry (d : Device) (f : Flt) (code : Nat) : Device :=
  let prev := d.mode
  let d := d.leaveTadpole
  let d := d.swapDiscard
  let d := d.surveyAbandon.rampEnd
  let aborted := d.trans.isSome
  let d : Device := { d with trans := none, link := { d.link with inTrans := false, failed := [] } }
  let d := if aborted then d.put GLB_MODE_STAT_aborted eState else d
  let d := d.setMode 5 0xA
  let recent := d.flt.regenUs.any (fun t => decide (d.us < t + 60000000))
  let fails := if recent then d.recentFails ++ [d.flt.regenUs.getD 0] else d.recentFails
  let noRegen : Bool := prev = 1 || code = 0x58 || d.get FLT_CTRL_hold_regen = 1
  let d := { d with flt := { d.flt with failUs := fails, regenUs := none, queued := none, startUs := d.us,
                                        step := if noRegen || 3 ≤ fails.length then 0 else 2,
                                        first := !noRegen && fails.length < 3, waitDis := true },
                    boot := { d.boot with running := false } }
  let d : Device := { d with flt := { d.flt with newtUs := if prev = 2 ∨ prev = 3 then some d.us else none } }
  let d := d.wr FLT_NEWT (code + Nat.min fails.length 3 * 0x100 + b2n noRegen * 0x1000 + prev * 0x2000)
  let d := d.ctrAdd 6 1
  let d := if noRegen || 3 ≤ fails.length then d.newtHold else d
  let d := d.segCode 3 code
  let up := d.railsUp
  let d := (d.spoil 4).disStart false
  let d := d.fltOpen (some { flt := { f with code := code, sev := 3 }, tickUs := d.us })
  if up then d.put FLT_STAT_engine 2 else (d.recoveryDone false).newtAfterDis

/-- The running attempt of a regeneration fails (R514, R515). -/
def Device.attemptFail (d : Device) (err : Nat) : Device :=
  if d.flt.step = 0 then d else
    let step := d.flt.step
    let n := d.recentFails.length + 1
    let d : Device := { d with flt := { d.flt with failUs := d.recentFails ++ [d.us], step := 0, first := false } }
    let d : Device := if d.trans.any (fun t => t.cause = 0xC) then
        (({ d with trans := none }).put GLB_MODE_STAT_busy 0).put GLB_MODE_STAT_target 5 else d
    let d : Device := { d with link := { d.link with inTrans := false, failed := [] } }
    let d : Device := ((d.put FLT_NEWT_step step).put FLT_NEWT_err err).put FLT_NEWT_attempts (Nat.min n 3)
    let d : Device := (d.grow 33 1).disStart false
    if 3 ≤ n then
      let d : Device := d.newtHold
      if d.hv.dis == .idle then d.put FLT_STAT_engine 5 else d
    else d.put FLT_STAT_engine (if d.hv.dis == .idle then 4 else 2)

/-! ## Raising (R501, R509, R511, R513) -/

/-- What every raise does: FLT_LAST, FLT_EVT, FLT_IRQ, the log and the accounts (R513). -/
def Device.fltRecord (d : Device) (f : Flt) (detail : Nat) : Device :=
  let d := d.wr FLT_LAST (fltWord f)
  let d := if f.sev = 1 then (d.bump FLT_EVT_s1).put FLT_IRQ_s1 1
    else if f.sev = 2 then (d.bump FLT_EVT_s2).put FLT_IRQ_s2 1
    else (d.bump FLT_EVT_s3).put FLT_IRQ_s3 1
  let d := (d.grow (23 + f.sev) 1).grow (48 + f.kind) 1
  let d := if 2 ≤ f.sev then d.spoil 4 else d
  let d := if f.kind = 1 ∧ f.sev = 3 then d.wr FLT_HV_LAST (fltWord f) else d
  if 2 ≤ f.sev ∨ !fltAtOnce f.code f.sev ∨ d.get FLT_CTRL_log_s1 = 1 then d.fltLog f 0 0 0 0 detail else d

/-- An escalation is counted, logged and flagged (R508, R511, R513): counter 27 combination, 28 overrun, 29 three faults. -/
def Device.escalated (d : Device) (f : Flt) (other : Flt) (ctr : Nat) : Device :=
  (((d.bump FLT_EVT_esc).put FLT_IRQ_esc 1).grow ctr 1).fltLog f 2 0 other.code other.inst 0

/-- A recovering S1 or S2 fault while no NEWT is in force (R509, R511). -/
def Device.fltRecover (d : Device) (f : Flt) : Device :=
  match d.flt.opened with
  | none => (d.fltOpen (some { flt := f, tickUs := d.us })).contain f
  | some r =>
    if 3 ≤ r.count + 1 then (d.escalated f r.flt 29).newtEntry f 0x7F
    else if (f.kind ≠ r.flt.kind ∨ f.inst ≠ r.flt.inst) ∧ f.sev ≤ r.flt.sev ∧ !d.fltMeets r f then
      ({ d with flt := { d.flt with queued := some f } }).fltOpen (some { r with count := r.count + 1 })
    else
      let level := Nat.max f.sev r.flt.sev + 1
      if 3 ≤ level then (d.escalated f r.flt 27).newtEntry f 0x7E
      else
        let d := (d.escalated f r.flt 27).fltOpen
          (some { flt := { f with sev := level }, others := r.flt :: r.others, count := 2, tickUs := d.us })
        (d.containS2 r.flt).containS2 f

/-- Raise a fault (R501, R509, R513, R515, R517); under a boundary-scan instruction link losses and lane failures raise none (R498). -/
def Device.raise (d : Device) (f : Flt) (detail : Nat := 0) : Device :=
  if !d.power.coreOn then (if f.kind = 1 ∧ f.sev = 3 then d.wr FLT_HV_LAST (fltWord f) else d)
  else if d.hif.bscan ∧ (f.kind = 2 ∨ f.kind = 3) then d
  else
    let d := d.fltRecord f detail
    if d.mode = 5 then
      if f.sev = 3 ∨ !fltAtOnce f.code f.sev then
        let d := if f.sev = 3 then d else d.contain f
        d.attemptFail eState
      else d
    else if f.sev = 3 then
      match d.flt.opened with
      | none => d.newtEntry f f.code
      | some r =>
        if 3 ≤ r.count + 1 then (d.escalated f r.flt 29).newtEntry f 0x7F
        else (d.escalated f r.flt 27).newtEntry f 0x7E
    else if fltAtOnce f.code f.sev then d
    else d.fltRecover f

/-- Raise a fault of the catalogue. -/
def Device.raiseCode (d : Device) (code inst : Nat) (obj : Nat := 0) (detail : Nat := 0) : Device :=
  d.raise (catalogue code inst obj) detail

/-- The budget of the open recovery ends uncompleted (R508). -/
def Device.budgetEnd (d : Device) : Device :=
  match d.flt.opened with
  | none => d
  | some r =>
    let r := d.recTick r
    if r.elapsed < 6 ∨ r.flt.sev = 3 then d
    else if r.flt.sev = 1 then
      let d := (d.escalated r.flt r.flt 28).fltOpen
        (some { r with flt := { r.flt with sev := 2 }, elapsed := 0, overrun := true })
      d.containS2 r.flt
    else (d.escalated r.flt r.flt 28).newtEntry r.flt 0x7C

/-- A request for DARK or a restart abandons an open recovery; it counts as completed with its latency so far (R522). -/
def Device.recoveryAbandon (d : Device) : Device :=
  match d.flt.opened with
  | none => d
  | some r =>
    let r := d.recTick r
    let d := (d.bump (FLT_LAT_val (Nat.min r.latency 7))).fltOpen none
    ({ d with flt := { d.flt with queued := none } }).fltSync

end Sys2Proof.Machine
end

