-- ==== Sys2Proof/Machine/Memory.lean ====
section
/-! DEFINITION. The frame store and Pond (spec/13_memory.md): layout, ECC, the windows, retention and the march. -/

namespace Sys2Proof.Machine

/-! ## The layout (R373, R374, R380) -/

/-- W, H and fb of a glass word (R373). -/
def glassW (g : Nat) : Nat := bitsOf g 7 0 * 64
def glassH (g : Nat) : Nat := bitsOf g 24 16 * 16
def glassFb (g : Nat) : Nat :=
  match bitsOf g 29 28 with
  | 0 => 36
  | 1 => 48
  | _ => 64

/-- The row pitch of a frame of `b` bits per pixel. -/
def pitch (w b : Nat) : Nat := (w * b + 511) / 512 * 64

/-- Granules of 64 KiB that hold `n` bytes. -/
def granules (n : Nat) : Nat := (n + 65535) / 65536

/-- The sizes of regions 0 to 9 in granules (R373). -/
def rgnGranules (g : Nat) : List Nat :=
  let w := glassW g
  let h := glassH g
  let pd := granules (h * pitch w (glassFb g))
  let c := granules (h * 3 * w)
  let s := granules (278528 + 24 * h * w)
  [pd, pd, granules (h * pitch w 36), c, c, granules (h * 4 * w), granules (h * w), s, s, 16384]

/-- The base of region `i`, in granules. -/
def rgnBaseG (g i : Nat) : Nat := ((rgnGranules g).take i).sum

/-- The compensation regions of a glass word. -/
def layoutOf (g : Nat) : Layout :=
  { cmp0 := rgnBaseG g 3 * 65536, cmp0End := rgnBaseG g 4 * 65536,
    cmp1 := rgnBaseG g 4 * 65536, cmp1End := rgnBaseG g 5 * 65536 }

/-- What boot step 8 leaves at a frame-store address: the unity record 00 08 00 in regions 3 and 4, else 0 (R255, R380). -/
def fsDef (l : Layout) (a : Nat) : Byte :=
  if l.cmp0 ≤ a ∧ a < l.cmp0End then (if (a - l.cmp0) % 3 = 1 then 8 else 0)
  else if l.cmp1 ≤ a ∧ a < l.cmp1End then (if (a - l.cmp1) % 3 = 1 then 8 else 0)
  else 0

/-- The start of boot step 8: MEM_GLASS is copied and the regions are laid out (R374). -/
def Device.layOut (d : Device) : Device :=
  let g := d.rd MEM_GLASS
  let d := d.wr MEM_GLASS_ACT g
  eachOf (List.range 11) (fun i d =>
    let b := rgnBaseG g i
    let n := if i = 10 then 65536 - b else (rgnGranules g).getD i 0
    (d.wr (MEM_RGN_BASE i) (b * 65536)).wr (MEM_RGN_SIZE i) (n * 65536)) d

/-- The end of boot step 8: every region holds its initial content (R380). -/
def Device.fsInit (d : Device) : Device :=
  let l := layoutOf (d.rd MEM_GLASS_ACT)
  let d := { d with mem := { d.mem with fs := [], lay := l, fsUe := [], fsCe := [], writeback := [] } }
  let d := ((d.put MEM_FS_STAT_wbuf 0).put MEM_FS_STAT_cmp 0).put MEM_FS_STAT_init 1
  eachOf [0, 1] (fun k d => d.wr (SRV_SCRATCH_ADDR k) (d.rd (MEM_RGN_BASE (7 + k)))) (d.wr SRV_STAGE_ADDR (d.rd (MEM_RGN_BASE 4)))

/-- The base of region `i`. -/
def Device.rgnBase (d : Device) (i : Nat) : Nat := d.rd (MEM_RGN_BASE i)

/-- The region an address lies in. -/
def Device.rgnOf (d : Device) (a : Nat) : Option Nat :=
  (List.range 11).find? (fun i => decide (d.rgnBase i ≤ a ∧ a < d.rgnBase i + d.rd (MEM_RGN_SIZE i)))

/-- The address of a record-plane element of `s` bytes in region `i` (R376). -/
def Device.planeAddr (d : Device) (i s x y : Nat) : Nat :=
  let w := glassW (d.rd MEM_GLASS_ACT)
  d.rgnBase i + y * s * w + s * x

/-! ## Bytes of the frame store -/

/-- A byte of the frame store. -/
def Device.fsRd (d : Device) (a : Nat) : Nat := (Sparse.get (fsDef d.mem.lay) d.mem.fs a).toNat

/-- `n` bytes of the frame store. -/
def Device.fsBytes (d : Device) (a n : Nat) : List Nat := (List.range n).map (fun i => d.fsRd (a + i))

/-- Store bytes by address, without a check. -/
def Device.fsPut (d : Device) (bs : List (Nat × Nat)) : Device :=
  { d with mem := { d.mem with fs := bs.foldl (fun m b => Sparse.set (fsDef d.mem.lay) m b.1 (Byte.of b.2)) d.mem.fs } }

/-- Consecutive bytes with their addresses. -/
def atAddr (a : Nat) (bs : List Nat) : List (Nat × Nat) := (List.range bs.length).map (fun i => (a + i, bs.getD i 0))

/-! ## ECC (R383-R387) -/

/-- Note ECC findings of this access in words of the frame store. -/
def Device.fsFound (d : Device) (l : List (Nat × Ecc)) : Device :=
  eachOf l (fun f d =>
    match f.2 with
    | .ok => d
    | .corr => if d.mem.fsUe.contains f.1 || d.mem.fsCe.contains f.1 then d
        else { d with mem := { d.mem with fsCe := d.mem.fsCe ++ [f.1] } }
    | .uncorr => if d.mem.fsUe.contains f.1 then d
        else { d with mem := { d.mem with fsUe := d.mem.fsUe ++ [f.1], fsCe := d.mem.fsCe.filter (fun w => w != f.1),
                                          writeback := d.mem.writeback.filter (fun w => w != f.1) } }) d

/-- A read of word `w` found a correctable error: it is counted and its write-back is due (R383). -/
def Device.fsCorrected (d : Device) (w : Nat) : Device :=
  let d := d.bump MEM_ECC_CNT_corr
  if d.mem.writeback.contains w then d else { d with mem := { d.mem with writeback := d.mem.writeback ++ [w] } }

/-- The frame-store limit of R385. -/
def Device.fsLimit (d : Device) (w : Nat) : Device :=
  if !d.mem.limRaised && (d.mem.ueCount > d.get MEM_ECC_LIM_frame
      || Sparse.get (fun _ => 0) d.mem.ueRuns w ≥ d.get MEM_ECC_LIM_repeat) then
    (({ d with mem := { d.mem with limRaised := true } }).put MEM_IRQ_lim 1).raiseCode 0x49 0
  else d

/-- A read of word `w` found an uncorrectable error. `own`: every such read counts (BAR2, DMA, survey, cores, scrubber); else once per word and frame. `s1`: it raises fault 0x48 (R384, R387). -/
def Device.fsUncorrectable (d : Device) (w : Nat) (own s1 : Bool) : Device :=
  if !own && d.mem.ueFrame.contains w then d else
    let d := if d.get MEM_ECC_CNT_uncorr = 0 then d.wr MEM_ECC_ADDR (8 * w) else d
    let d := (d.bump MEM_ECC_CNT_uncorr).put MEM_IRQ_ue 1
    let m := d.mem
    let m := { m with ueCount := m.ueCount + 1 }
    let m := if m.ueFrame.contains w then m
      else { m with ueFrame := m.ueFrame ++ [w],
                    ueRuns := Sparse.set (fun _ => 0) m.ueRuns w (Sparse.get (fun _ => 0) m.ueRuns w + 1) }
    let d := { d with mem := m }
    (if s1 then d.raiseCode 0x48 0 0 (8 * w) else d).fsLimit w

/-- The words that a byte range meets. -/
def wordsOf (a n : Nat) : List Nat := if n = 0 then [] else (List.range ((a + n - 1) / 8 + 1 - a / 8)).map (fun i => a / 8 + i)

/-- A read of `n` bytes by a reader: its ECC consequences. -/
def Device.fsReadCheck (d : Device) (a n : Nat) (own : Bool) : Device :=
  eachOf (wordsOf a n) (fun w d =>
    if d.mem.fsUe.contains w then d.fsUncorrectable w own true
    else if d.mem.fsCe.contains w then d.fsCorrected w else d) d

/-- A range holds an uncorrectable word. -/
def Device.fsBad (d : Device) (a n : Nat) : Bool := (wordsOf a n).any (fun w => d.mem.fsUe.contains w)

/-- Write the bytes of one word for master `m`: a partial write is a read-modify-write (R386); a whole one ends an error (R384). -/
def Device.fsWord (d : Device) (m : Nat) (w : Nat) (bs : List (Nat × Nat)) : Device :=
  if bs.length = 8 then
    ({ d with mem := { d.mem with fsUe := d.mem.fsUe.filter (fun x => x != w), fsCe := d.mem.fsCe.filter (fun x => x != w),
                                  writeback := d.mem.writeback.filter (fun x => x != w) } }).fsPut bs
  else if d.mem.fsUe.contains w then
    (d.fsUncorrectable w true true).rejectAt m 1 ((bs.headD (0, 0)).1) eState
  else
    let d := if d.mem.fsCe.contains w then d.fsCorrected w else d
    ({ d with mem := { d.mem with fsCe := d.mem.fsCe.filter (fun x => x != w),
                                  writeback := d.mem.writeback.filter (fun x => x != w) } }).fsPut bs

/-- Write bytes for master `m`, word by word in increasing address order. -/
def Device.fsWrite (d : Device) (m : Nat) (bs : List (Nat × Nat)) : Device :=
  eachOf (bs.map (fun b => b.1 / 8)).eraseDups (fun w d => d.fsWord m w (bs.filter (fun b => b.1 / 8 == w))) d

/-- The ECC bookkeeping of a frame period ends (R384, R385). -/
def Device.fsFrame (d : Device) : Device :=
  { d with mem := { d.mem with ueRuns := d.mem.ueRuns.filter (fun e => d.mem.ueFrame.contains e.1), ueFrame := [],
                               ueCount := 0, limRaised := false } }

/-- Bytes of a write that MEM_WIN_WP drops (R382). -/
def Device.wpDrops (d : Device) (a : Nat) : Bool :=
  match d.rgnOf a with
  | some i => (d.get MEM_WIN_WP_prot).testBit i
  | none => false

/-- A windowed write by master `m`: protected bytes are dropped with E_PERM, the others are written (R382). -/
def Device.winWrite (d : Device) (m : Nat) (bs : List (Nat × Nat)) : Device :=
  let d := match bs.find? (fun b => d.wpDrops b.1) with
    | some b => d.rejectAt m 1 b.1 ePerm
    | none => d
  d.fsWrite m (bs.filter (fun b => !d.wpDrops b.1))

/-! ## BAR2 (R382, R384, R476) -/

/-- BAR requests of the host reach the function: link up and D0 (R471, R478). -/
def Device.barOpen (d : Device) : Bool := d.power.coreOn && d.get HIF_PCI_STAT_up = 1 && d.get HIF_PCI_STAT_dstate = 0

/-- Bytes whose byte enable is 1, with their addresses. -/
def enabled (a : Nat) (bs : List (Option Nat)) : List (Nat × Nat) :=
  (List.range bs.length).filterMap (fun i => (bs.getD i none).map (fun b => (a + i, b)))

/-- A BAR2 write; one that ends beyond the BAR is an Unsupported Request. -/
def Device.bar2Write (d : Device) (a : Nat) (bs : List (Option Nat)) : Device :=
  if !d.barOpen then d
  else if 2 ^ 32 < a + bs.length then d.bump HIF_PCI_EVT_urs
  else d.winWrite 0 (enabled a bs)

/-- A BAR2 read with the ECC findings of its words. -/
def Device.bar2Read (d : Device) (a n : Nat) (ecc : List (Nat × Ecc)) : Device :=
  if !d.barOpen then d
  else if 2 ^ 32 < a + n then d.bump HIF_PCI_EVT_urs
  else
    let d := d.fsFound (ecc.filter (fun f => (wordsOf a n).contains f.1))
    let d := d.fsReadCheck a n true
    { d with mem := { d.mem with bar2 := d.fsBytes a n, poison := d.fsBad a n } }

/-- BAR2_WRITE. -/
def execBar2Write (a : Nat) (bs : List (Option Nat)) (s : State) : Out := s.run (fun d => d.bar2Write a bs)

/-- BAR2_READ. -/
def execBar2Read (a n : Nat) (ecc : List (Nat × Ecc)) (s : State) : Out := s.run (fun d => d.bar2Read a n ecc)

/-- ECC_WRITEBACK: the corrected word is written back, unless a write has dropped it (R383). -/
def execEccWriteback (w : Nat) (s : State) : Out :=
  s.run (fun d =>
    if d.mem.writeback.contains w then
      { d with mem := { d.mem with writeback := d.mem.writeback.filter (fun x => x != w),
                                   fsCe := d.mem.fsCe.filter (fun x => x != w) } }
    else d)

/-- The scrubber may read: enabled, in a mode with the frame store initialised (R387). -/
def Device.scrubOn (d : Device) : Bool := d.power.coreOn && d.get MEM_SCRUB_en = 1 && d.get MEM_FS_STAT_init = 1

/-- SCRUB_READ: the next word in increasing address order (R387). -/
def execScrubRead (found : Ecc) (s : State) : Out :=
  s.run (fun d =>
    if !d.scrubOn then d else
      let w := d.mem.scrub
      let d := d.fsFound [(w, found)]
      let d := if d.mem.fsUe.contains w then d.fsUncorrectable w true false
        else if d.mem.fsCe.contains w then d.fsCorrected w else d
      let next := (w + 1) % 2 ^ 29
      let d := { d with mem := { d.mem with scrub := next } }
      if next = 0 then d.put MEM_FS_STAT_passes ((d.get MEM_FS_STAT_passes + 1) % 65536) else d)

/-! ## Pond (R388-R396) -/

/-- A byte of Pond that nothing has written reads 0: boot step 4 leaves every bank holding 0 (R397, R400). -/
def pondDef (_ : Nat) : Byte := 0

/-- The window offset at which an access to window offset `a` lands: a segment under test, or patched, is served by a slot of bank 63 (R398, R399). -/
def Device.pondMap (d : Device) (a : Nat) : Nat :=
  let seg := a / 4096
  let m := d.mem.march
  let under := d.get MEM_MARCH_STAT_bank * 32 + d.get MEM_MARCH_STAT_segment
  if m.stage == .test && seg = under then 63 * 131072 + m.slot0 * 4096 + a % 4096
  else match m.patches.find? (fun e => e.1 == seg) with
    | some e => 63 * 131072 + e.2 * 4096 + a % 4096
    | none => a

/-- A byte of Pond. -/
def Device.pondRd (d : Device) (a : Nat) : Nat := (Sparse.get pondDef d.mem.pond (d.pondMap a)).toNat

/-- `n` bytes of Pond. -/
def Device.pondBytes (d : Device) (a n : Nat) : List Nat := (List.range n).map (fun i => d.pondRd (a + i))

/-- Store bytes in Pond, each where its address lands; a store that covers a whole 64-bit word ends an uncorrectable error. -/
def Device.pondWr (d : Device) (a : Nat) (bs : List Nat) : Device :=
  let whole := ((wordsOf a bs.length).filter (fun w => decide (a ≤ 8 * w ∧ 8 * w + 8 ≤ a + bs.length))).map (fun w => d.pondMap (8 * w) / 8)
  { d with mem := { d.mem with
      pond := (List.range bs.length).foldl (fun m i => Sparse.set pondDef m (d.pondMap (a + i)) (Byte.of (bs.getD i 0))) d.mem.pond,
      pondUe := d.mem.pondUe.filter (fun w => !whole.contains w) } }

/-- The integrator core's master that holds bank `i` (R441). -/
def Device.bankMaster (d : Device) (i : Nat) : Option Nat :=
  ([5, 6, 7].find? (fun k =>
    let f := d.get (CORE_ALLOC_first k)
    let n := d.get (CORE_ALLOC_count k)
    decide (f ≤ i ∧ i < f + n))).map (fun k => k + 2)

/-- Count a busy of master `m` (R393). -/
def Device.busyCount (d : Device) (m : Nat) (write : Bool) : Device :=
  if write then d.bump ⟨MEM_CONFLICT m, 31, 16⟩ else d.bump ⟨MEM_CONFLICT m, 15, 0⟩

/-- The window offset lies in the copy window of the segment under test (R398). -/
def Device.inCopyWindow (d : Device) (a : Nat) : Bool :=
  (d.mem.march.stage == .copyIn || d.mem.march.stage == .copyBack) &&
    a / 4096 = d.get MEM_MARCH_STAT_bank * 32 + d.get MEM_MARCH_STAT_segment

/-- The bank runs a destroying test now (R400). -/
def Device.underDestroy (d : Device) (i : Nat) : Bool := d.mem.march.stage == .bank && d.get MEM_MARCH_STAT_bank = i

/-- Note what the ECC of a Pond word showed: a correctable error is corrected and counted, an uncorrectable one counted, latched and, unless its reader raises a fault of its own, raised as fault 0x50 (R394, R505). -/
def Device.pondEcc (d : Device) (a : Nat) (found : Ecc) (raises : Bool := true) : Device :=
  let w := d.pondMap a / 8
  let bad := found == .uncorr || d.mem.pondUe.contains w
  let d := if found == .uncorr && !d.mem.pondUe.contains w then
      { d with mem := { d.mem with pondUe := d.mem.pondUe ++ [w] } } else d
  if bad then
    let d := if d.get MEM_POND_ECC_uncorr = 0 then d.wr MEM_POND_ECC_ADDR (0x1000000 + a / 8 * 8) else d
    let d := (d.bump MEM_POND_ECC_uncorr).put MEM_IRQ_pond_ue 1
    if raises then d.raiseCode 0x50 (a / 131072 / 48) 0 (0x1000000 + a / 8 * 8) else d
  else if found == .corr then d.bump MEM_POND_ECC_corr else d

/-- How a Pond access ended. -/
inductive PondEnd where
  | done
  /-- Busy or stalled: to be repeated. -/
  | again
  | failed (code : Nat)
  /-- The word read is uncorrectable. -/
  | ecc
deriving DecidableEq, Repr

/-- One port-B access of `n` bytes within a 64-bit word by master `m`, at window offset `a`: none reads, some writes (R392-R395, R398, R400). -/
def Device.pondAccess (d : Device) (m a n : Nat) (val : Option (List Nat)) (pa : PortA) (found : Ecc) : Device × PondEnd :=
  let i := a / 131072
  if d.underDestroy i then (d, .failed eBusy)
  else if d.get (MEM_BANK_INFO_retained i) = 1 then
    ({ d with mem := { d.mem with waking := if d.mem.waking.contains i then d.mem.waking else d.mem.waking ++ [i] } }, .again)
  else if d.inCopyWindow a then (d, .again)
  else
    match val, pa with
    | none, .write bs => (((d.pondWr (a / 8 * 8) bs)).busyCount m false, .again)
    | none, _ =>
      let d := d.pondEcc a found
      if d.mem.pondUe.contains (d.pondMap a / 8) then (d, .ecc) else (d.reply m (leNat (d.pondBytes a n)), .done)
    | some v, .none => (d.pondWr a v, .done)
    | some v, .read => ((d.pondWr a v).busyCount 11 false, .done)
    | some v, .write bs =>
      let same := (bs.drop (a % 8)).take v.length == v
      let d := d.pondWr (a / 8 * 8) bs
      if same then (d, .done) else (d.busyCount m true, .again)

/-- Rights of masters 0 and 14 in the Pond window (R475). -/
def Device.pondRight (d : Device) (a : Nat) (write : Bool) : Option Nat :=
  let i := a / 131072
  let use := d.get (MEM_BANK_INFO_use i)
  if !write then none
  else if i < 64 then some ePerm
  else if 9 ≤ use ∧ use ≤ 12 then some eBusy
  else none

/-- A windowed access of master 0 or 14, or its repeat. -/
def Device.pondWindow (d : Device) (m a : Nat) (val : Option Nat) (pa : PortA) (found : Ecc) : Device :=
  let off := 0x1000000 + a
  match d.pondRight a val.isSome with
  | some c => d.reject m off c
  | none =>
    let r := d.pondAccess m a 4 (val.map (leBytes 4)) pa found
    match r.2 with
    | .done => r.1
    | .again => { r.1 with mem := { r.1.mem with retry := r.1.mem.retry ++ [{ master := m, off := a, val := val }] } }
    | .failed c => (if val.isNone then r.1.reply m 0 else r.1).reject m off c
    | .ecc => (r.1.reply m (r.1.freeWord 0x394)).drawn

/-- An access to the Pond window at a BAR0 offset (R9, R475). -/
def Device.pondAt (d : Device) (m off : Nat) (val : Option Nat) (pa : PortA) (found : Ecc) : Device :=
  if !d.power.coreOn || off < 0x1000000 || 0x4000000 ≤ off then d
  else if off % 4 ≠ 0 then (if val.isNone then d.reply m 0xFFFFFFFF else d).reject m off eAlign
  else if m ≠ 0 ∧ m ≠ 14 then (if val.isNone then d.reply m 0 else d).reject m off ePerm
  else d.pondWindow m (off - 0x1000000) val pa found

/-- POND_WINDOW_ACCESS: `off` is the BAR0 offset (R475). -/
def execPondWindowAccess (m : Master) (off : Nat) (val : Option Nat) (pa : PortA) (found : Ecc) (s : State) : Out :=
  s.run (fun d => d.pondAt m off val pa found)

/-- POND_RETRY: the oldest access that can proceed is repeated (R392, R395, R398). -/
def execPondRetry (pa : PortA) (s : State) : Out :=
  s.run (fun d =>
    match d.mem.retry.find? (fun e => !d.mem.waking.contains (e.off / 131072) && !d.inCopyWindow e.off) with
    | none => d
    | some e => ({ d with mem := { d.mem with retry := d.mem.retry.erase e } }).pondWindow e.master e.off e.val pa .ok)

/-- BANK_RETENTION_ENTER: 1 ms without an access passed (R395, R402). -/
def execBankRetentionEnter (i : Fin 384) (s : State) : Out :=
  s.run (fun d =>
    if d.power.coreOn && d.get (MEM_BANK_CFG_ret i) = 1 && d.get (MEM_BANK_INFO_test i) = 0 && !d.mem.waking.contains i.val then
      d.put (MEM_BANK_INFO_retained i) 1
    else d)

/-- BANK_WAKE_DONE: the woken bank serves its accesses (R395). -/
def execBankWakeDone (i : Fin 384) (s : State) : Out :=
  s.run (fun d =>
    if d.mem.waking.contains i.val then
      ({ d with mem := { d.mem with waking := d.mem.waking.filter (fun b => b != i.val) } }).put (MEM_BANK_INFO_retained i) 0
    else d)

/-! ## The march (R397-R402) -/

/-- A preserving pass tests the bank. -/
def Device.marchable (d : Device) (i : Nat) : Bool :=
  d.get (MEM_BANK_CFG_pin i) = 0 && d.get (MEM_BANK_INFO_retained i) = 0 && d.get (MEM_BANK_INFO_retired i) = 0 &&
    d.get (MEM_BANK_CFG_release i) = 0

/-- The first segment to test at or above a segment number; a patched segment stays redirected and is passed over. -/
def Device.marchNext (d : Device) (from' : Nat) : Option Nat :=
  (List.range 12288).find? (fun n => decide (from' ≤ n) && d.marchable (n / 32) &&
    !(d.mem.march.patches.any (fun e => e.1 == n)))

/-- The march ends, in whatever way (R401). -/
def Device.marchEnd (d : Device) (err : Nat) : Device :=
  let i := d.get MEM_MARCH_STAT_bank
  let d := { d with mem := { d.mem with march := { d.mem.march with stage := .idle, aborting := false, full := false } } }
  ((((d.put (MEM_BANK_INFO_test i) 0).put MEM_MARCH_STAT_busy 0).put MEM_MARCH_STAT_done 1).put MEM_MARCH_STAT_err err).put
    MEM_IRQ_march_done 1

/-- Copy-in of segment `n` begins. -/
def Device.marchSegment (d : Device) (n : Nat) : Device :=
  let d := { d with mem := { d.mem with march := { d.mem.march with stage := .copyIn } } }
  ((d.put MEM_MARCH_STAT_bank (n / 32)).put MEM_MARCH_STAT_segment (n % 32)).put (MEM_BANK_INFO_test (n / 32)) 1

/-- A segment is finished: abort, stop, wait for the next, or end. -/
def Device.marchStepOn (d : Device) : Device :=
  let i := d.get MEM_MARCH_STAT_bank
  let n := i * 32 + d.get MEM_MARCH_STAT_segment
  let d := d.put (MEM_BANK_INFO_test i) 0
  if d.mem.march.full then d.marchEnd eFull
  else if d.mem.march.aborting then d.marchEnd eOk
  else match d.marchNext (n + 1) with
    | none => d.marchEnd eOk
    | some _ => { d with mem := { d.mem with march := { d.mem.march with stage := .wait } } }

/-- Checks common to ops 1 and 2 (R401). -/
def Device.marchChecks (d : Device) (m : Nat) : List (Bool × Nat) :=
  [(!among m 0x385, ePerm), (d.get MEM_MARCH_STAT_busy = 1, eBusy), (!d.modeIn 0x1E, eState)]

/-- MARCH_PRESERVING (R398). -/
def execMarchPreserving (m : Master) (s : State) : Out :=
  s.run (fun d => d.guarded m MEM_MARCH_CMD (d.marchChecks m) (fun d =>
    let d : Device := { d with mem := { d.mem with march := { d.mem.march with master := m } } }
    let d := ((((d.put MEM_MARCH_STAT_busy 1).put MEM_MARCH_STAT_done 0).put MEM_MARCH_STAT_mode 0).put MEM_MARCH_STAT_fail 0).put
      MEM_MARCH_STAT_err 0
    match d.marchNext 0 with
    | some n => d.marchSegment n
    | none => d.marchEnd eOk))

/-- The released banks in increasing order from `i`. -/
def Device.released (d : Device) (i : Nat) : Option Nat :=
  (List.range 384).find? (fun b => decide (i ≤ b) && d.get (MEM_BANK_CFG_release b) = 1)

/-- A destroying test of bank `i` begins. -/
def Device.destroyBank (d : Device) (i : Nat) : Device :=
  let d := { d with mem := { d.mem with march := { d.mem.march with stage := .bank } } }
  ((d.put MEM_MARCH_STAT_bank i).put MEM_MARCH_STAT_segment 0).put (MEM_BANK_INFO_test i) 1

/-- MARCH_DESTROYING (R400, R401). -/
def execMarchDestroying (m : Master) (s : State) : Out :=
  s.run (fun d =>
    let other := among m mIntegrator && (List.range 384).any (fun b =>
      d.get (MEM_BANK_CFG_release b) = 1 && (match d.bankMaster b with | some o => o != m.val | none => false))
    d.guarded m MEM_MARCH_CMD (d.marchChecks m ++ [((d.released 0).isNone || other, eState)]) (fun d =>
      let d : Device := { d with mem := { d.mem with march := { d.mem.march with master := m } } }
      let d := ((((d.put MEM_MARCH_STAT_busy 1).put MEM_MARCH_STAT_done 0).put MEM_MARCH_STAT_mode 1).put
        MEM_MARCH_STAT_fail 0).put MEM_MARCH_STAT_err 0
      match d.released 0 with
      | some i => d.destroyBank i
      | none => d.marchEnd eOk))

/-- MARCH_ABORT (R401): a wait between segments ends at once. -/
def execMarchAbort (m : Master) (s : State) : Out :=
  s.run (fun d => d.guarded m MEM_MARCH_CMD [(!among m 0x385, ePerm), (d.get MEM_MARCH_STAT_busy = 0, eState)] (fun d =>
    if d.mem.march.stage == .wait then d.marchEnd eOk
    else { d with mem := { d.mem with march := { d.mem.march with aborting := true } } }))

/-- MARCH_INTERVAL_EXPIRE (R398). -/
def execMarchIntervalExpire (s : State) : Out :=
  s.run (fun d =>
    if d.mem.march.stage == .wait then
      match d.marchNext (d.get MEM_MARCH_STAT_bank * 32 + d.get MEM_MARCH_STAT_segment + 1) with
      | some n => d.marchSegment n
      | none => d.marchEnd eOk
    else d)

/-- Copy a Pond segment, bytes and uncorrectable words, from one place to another. -/
def Device.segCopy (d : Device) (src dst : Nat) : Device :=
  let moved := (d.mem.pond.filter (fun e => decide (src ≤ e.1 ∧ e.1 < src + 4096))).map (fun e => (e.1 - src + dst, e.2))
  let kept := d.mem.pond.dropWhere (fun a => decide (dst ≤ a ∧ a < dst + 4096))
  let bad := (d.mem.pondUe.filter (fun w => decide (src ≤ 8 * w ∧ 8 * w < src + 4096))).map (fun w => w - src / 8 + dst / 8)
  { d with mem := { d.mem with
      pond := moved.foldl (fun m e => Sparse.set pondDef m e.1 e.2) kept,
      pondUe := d.mem.pondUe.filter (fun w => !decide (dst ≤ 8 * w ∧ 8 * w < dst + 4096)) ++ bad } }

/-- The segment under test, as a window offset, and its slot. -/
def Device.marchSeg (d : Device) : Nat := (d.get MEM_MARCH_STAT_bank * 32 + d.get MEM_MARCH_STAT_segment) * 4096
def Device.marchSlot (d : Device) : Nat := 63 * 131072 + d.mem.march.slot0 * 4096

/-- MARCH_COPYIN_DONE with the ECC findings of the read, by word of the segment (R398, R402). -/
def execMarchCopyinDone (ecc : List (Nat × Ecc)) (s : State) : Out :=
  s.run (fun d =>
    if d.mem.march.stage == .copyIn then
      let a := d.marchSeg
      let d := eachOf (ecc.filter (fun f => decide (f.1 < 512))) (fun f d => d.pondEcc (a + 8 * f.1) f.2) d
      let d := d.segCopy a d.marchSlot
      { d with mem := { d.mem with march := { d.mem.march with stage := .test } } }
    else d)

/-- A failing bit is recorded: MEM_BANK_INFO, MEM_MARCH_FAIL, the Keep log (R399). -/
def Device.marchFail (d : Device) (bank seg word bit : Nat) : Device :=
  let d := ((d.put (MEM_BANK_INFO_failing bank) 1).put MEM_MARCH_STAT_fail 1).put MEM_IRQ_march_fail 1
  let w := bank + seg * 0x200 + word * 0x4000 + bit * 0x800000
  (d.wr MEM_MARCH_FAIL w).logEntry 0x51 (bank / 48) 4 1 (leBytes 4 w)

/-- A free slot of the reserve bank, besides slot 0. -/
def Device.marchFree (d : Device) : Option Nat :=
  (List.range 32).find? (fun k => k ≠ d.mem.march.slot0 && !(d.mem.march.patches.any (fun e => e.2 == k)))

/-- MARCH_TEST_DONE: the failing word (0 to 511) and bit (0 to 71) of the segment, or none (R398, R399). -/
def execMarchTestDone (fail : Option (Nat × Nat)) (s : State) : Out :=
  s.run (fun d =>
    if d.mem.march.stage == .test then
      match fail with
      | none => { d with mem := { d.mem with march := { d.mem.march with stage := .copyBack } } }
      | some f =>
        let bank := d.get MEM_MARCH_STAT_bank
        let seg := d.get MEM_MARCH_STAT_segment
        let d := d.marchFail bank seg (f.1 % 512) (f.2 % 72)
        match d.marchFree with
        | none =>
          let d : Device := { d with mem := { d.mem with march := { d.mem.march with stage := .copyBack, full := true } } }
          d.raiseCode 0x52 (bank / 48)
        | some k =>
          let mm := d.mem.march
          let d : Device := { d with mem := { d.mem with march := { mm with
            patches := Sparse.put mm.patches (bank * 32 + seg) mm.slot0, slot0 := k } } }
          let d := d.bump (MEM_BANK_INFO_patches bank)
          (d.raiseCode 0x51 (bank / 48)).marchStepOn
    else d)

/-- MARCH_COPYBACK_DONE (R398). -/
def execMarchCopybackDone (s : State) : Out :=
  s.run (fun d =>
    if d.mem.march.stage == .copyBack then (d.segCopy d.marchSlot d.marchSeg).marchStepOn else d)

/-- MARCH_BANK_DONE: the bank holds 0; the failing segment, word and bit, or none (R400). -/
def execMarchBankDone (fail : Option (Nat × Nat × Nat)) (s : State) : Out :=
  s.run (fun d =>
    if d.mem.march.stage == .bank then
      let i := d.get MEM_MARCH_STAT_bank
      let lo := i * 131072
      let inBank : Nat → Bool := fun a => decide (lo ≤ a ∧ a < lo + 131072)
      let d := { d with mem := { d.mem with pond := d.mem.pond.dropWhere inBank,
                                            pondUe := d.mem.pondUe.filter (fun w => !inBank (8 * w)) } }
      let d := match fail with
        | none => d
        | some f => (d.marchFail i (f.1 % 32) (f.2.1 % 512) (f.2.2 % 72)).raiseCode 0x51 (i / 48)
      let d := d.put (MEM_BANK_INFO_test i) 0
      if d.mem.march.aborting then d.marchEnd eOk
      else match d.released (i + 1) with
        | some j => d.destroyBank j
        | none => d.marchEnd eOk
    else d)

end Sys2Proof.Machine
end

