-- ==== Sys2Proof/Machine/ModeOps.lean ====
section
/-! DEFINITION. Resets, DARK, restarts and the follow-ups of a discharge or a store (spec/02_modes.md, spec/19_register_map.md R547 to R549): the operations that modes, Keep and panel power share. -/

namespace Sys2Proof.Machine

/-! ## Losing and resetting the core die (R20, R548) -/

/-- HV-die registers that keep their values over a TADPOLE restart (R548). -/
def keptOverRestart : List Nat :=
  [HVP_FLT, HVP_EVT, HVP_LATE, HVP_IRQ, HVP_IRQ_EN, HVP_CRK_VAL, HVP_TEMP, FLT_HV_LAST, CLK_HV_STAT, KEEP_CLK] ++
  (List.range 4).map HVP_RAIL_MON ++ (List.range 4).map HVP_PSM_VAL

/-- The device with the core-die state lost and only the listed registers kept. -/
def Device.coreLost (d : Device) (kept : Nat → Bool) : Device :=
  { regs := d.regs.filter (fun e => kept e.1), rdata := d.rdata, us := d.us, free := d.free,
    power := d.power, hv := d.hv, hif := { flash := d.hif.flash }, keep := { d.keep with
      pwLatch := [], commit := none, stageOwner := none, ctrBusy := none, ctrQueue := [], kUnsaved := [],
      store := none, waitAuto := false, waitPw := false, badShadow := d.keep.badShadow } }

/-- The core die leaves reset into TADPOLE (R12, R548): after supplies or a wake, or for a restart. -/
def Device.tadpole (d : Device) (restart : Bool) (cause : Nat) : Device :=
  let m := d.mem
  let d' := d.coreLost (fun o => if restart then keptOverRestart.contains o else o == KEEP_CLK)
  let d' : Device := { d' with
    power := { d.power with coreOn := true, coreGood := true, pwrupEn := true, hold10 := false, wake := {}, hpd := 0 },
    hv := if restart then { d.hv with seq := .idle, dis := .idle } else {},
    bridge := if restart then { lost := d.bridge.lost } else {},
    mem := if restart then { fs := m.fs, lay := m.lay, fsUe := m.fsUe, fsCe := m.fsCe, pond := m.pond, pondUe := m.pondUe } else {},
    keep := { d'.keep with recalling := true, frozen := false },
    trn := { gridUs := d.us },
    boot := { running := true, started := 4, resetUs := d.us } }
  d'.wr GLB_MODE_CAUSE cause

/-! ## DARK (R44, R45) -/

/-- Steps 4 to 6 of R44: the wake settings are copied, PWRUP_EN goes low, the core die is isolated. An alarm time already reached counts as latched. -/
def Device.darkOff (d : Device) : Device :=
  let cfg := d.rd GLB_WAKE_CFG
  let alarm := d.rd GLB_WAKE_ALARM
  let due := cfg.testBit 2 && decide (alarm ≤ d.rd KEEP_CLK)
  let cause := d.rd GLB_MODE_CAUSE
  let d' := d.coreLost (fun o => onHvDie o && !(o / 0x10000 == 17 && o != SEG_CFG))
  let d' : Device := { d' with power := { d.power with
    coreOn := false, coreGood := false, pwrupEn := false, hold10 := true, hpd := 0, aoWakeCfg := cfg, aoWakeAlarm := alarm,
    wake := { d.power.wake with alarm := d.power.wake.alarm || due } } }
  ((d'.put GLB_MODE_state 0).put GLB_MODE_STAT_target 0).wr GLB_MODE_CAUSE cause

/-- The supply of the core die returns: page 417 takes the cause and the clock (R412), PWRUP_EN goes high (R554). -/
def Device.wakeUp (d : Device) (cause : Nat) : Device :=
  let bs := atAddr (417 * 256) (leBytes 4 cause ++ leBytes 4 (d.rd KEEP_CLK))
  { d with keep := { d.keep with vol := bs.foldl (fun m b => Sparse.set keepDef m b.1 (Byte.of b.2)) d.keep.vol },
           power := { d.power with pwrupEn := true, hold10 := false, coreGood := false, wake := {} } }

/-- The lowest cause among the latched wake events (R49, R45). -/
def WakeLatch.cause (w : WakeLatch) : Option Nat :=
  if w.pin0 then some 1 else if w.pin1 then some 2 else if w.alarm then some 3 else if w.supply then some 4 else none

/-! ## Restart and DARK in their order (R44, R547) -/

/-- GLB_MODE_CAUSE of a request by master `m` (R32, R548). -/
def reqCause (m : Nat) : Nat := if m < 2 then 5 else 6

/-- The discharge is over: HPD goes low for DARK, then the store starts, or waits for the running one or for the recall (R44, R547). -/
def Device.storeBegin (d : Device) (t : Trans) : Device :=
  if d.keep.store.isSome || d.keep.recalling then { d with trans := some { t with phase := .storeWait } }
  else let d := d.kSaveRegs
  if t.restart then
    let bs := atAddr (417 * 256) (leBytes 4 (d.mode * 16 + t.cause) ++ leBytes 4 (d.rd KEEP_CLK))
    let d : Device := { d with keep := { d.keep with vol := bs.foldl (fun m b => Sparse.set keepDef m b.1 (Byte.of b.2)) d.keep.vol },
                               trans := some { t with phase := .store } }
    d.kStart 0
  else
    let d : Device := { d with power := { d.power with hpd := 0 }, trans := some { t with phase := .store } }
    (d.accountFlush.setMode 0 t.cause).kStart 1

/-- A transition to DARK or a restart: the discharge first, if any rail is up (R33, R44). -/
def Device.downStart (d : Device) (t : Trans) : Device :=
  let d := ((d.surveyAbandon.recoveryAbandon).newtAccount).disStart false
  let d : Device := { d with boot := { d.boot with running := false } }
  let d := (d.put GLB_MODE_STAT_busy 1).put GLB_MODE_STAT_target t.target
  if d.hv.dis == .idle then d.storeBegin t else { d with trans := some { t with phase := .discharge } }

/-- What follows the end of a store (R406, R409, R44, R547): the transition that waits for it, else the stores that wait. -/
def Device.afterStore (d : Device) : Device :=
  match d.trans with
  | some t =>
    match t.phase with
    | .storeWait => d.storeBegin t
    | .store => if t.restart then d.tadpole true (d.mode * 16 + t.cause) else d.darkOff
    | _ => d
  | none =>
    if d.mode = 0 then (if d.power.coreOn then d.darkOff else d)
    else if d.keep.waitPw || d.keep.waitAuto then
      ({ d with keep := { d.keep with waitPw := false, waitAuto := false } }).kStart 0
    else d

/-- What follows the end of a discharge: the transition that waits for it; in NEWT the S3 recovery, unless the bridge of fault 0x1B is still lost (R507), and the attempts (R514). -/
def Device.afterDischarge (d : Device) : Device :=
  if d.hv.dis ≠ .idle then d else
    match d.trans with
    | some t => if t.phase == .discharge then d.storeBegin t else d
    | none =>
      if d.mode = 5 ∧ d.power.coreOn then
        let waits : Bool := match d.flt.opened with
          | some r => r.flt.code = 0x1B && d.bridge.lost
          | none => false
        let d := if waits then d else d.recoveryDone false
        let d : Device := { d with flt := { d.flt with waitDis := false } }
        d.newtAfterDis
      else d

/-- A power-fail (R46, R410, R435, R556): the power-fail discharge, the store from an armed VKEEP, DARK with cause 0xB. -/
def Device.powerFail (d : Device) (vkeep : Bool) : Device :=
  let d := d.surveyAbandon.newtAccount
  let d := d.put KEEP_STAT_vkeep_ok (b2n vkeep)
  let d := (if d.railsUp then d.disPowerFail else d)
  let d : Device := { d with trans := none }
  let d := d.setMode 0 0xB
  if !vkeep || d.keep.recalling then
    ({ d with keep := { d.keep with store := none, frozen := true } }).darkOff
  else match d.keep.store with
    | some st =>
      ({ d with keep := { d.keep with store := some { st with kind := 2 }, frozen := d.keep.frozen || st.snapped } }).put KEEP_STAT_state 3
    | none => d.kStart 2

end Sys2Proof.Machine
end

