-- ==== Sys2Proof/Machine/HvCmds.lean ====
section
/-! DEFINITION. Panel power and the status glass (spec/12_panel_power.md): the events of the sequence, the discharges, the monitors and the segment display. -/

namespace Sys2Proof.Machine

/-- Masters 0, 2, 5, 6 and 7 to 9 (R366). -/
abbrev mHv : Nat := 0x3E5

/-- A register of the register record has been written and is to be saved (R48, R374). -/
def Device.kNote (d : Device) (off : Nat) : Device :=
  if d.keep.kUnsaved.contains off then d else { d with keep := { d.keep with kUnsaved := d.keep.kUnsaved ++ [off] } }

/-- The active set gives one GST output the SSEL role and one the SEN role (R364). -/
def Device.senseRoles (d : Device) : Bool :=
  (List.range 4).any (fun k => d.getF (HVP_GST_CFG_role k) = 3) && (List.range 4).any (fun k => d.getF (HVP_GST_CFG_role k) = 4)

/-! ## Commands (R348, R353, R364, R366) -/

/-- POWER_UP: HVP_CMD op 1. -/
def execPowerUp (m : Master) (s : State) : Out :=
  s.run (fun d => d.hvGuarded m HVP_CMD
    [(!among m mHv, ePerm),
     (!d.modeIn 0x22 || d.get HVP_FLT_crack = 1 || (d.get SRV_CTRL_en = 1 && !d.senseRoles), eState),
     (d.get HVP_STAT_state ≠ 0, eBusy)] (fun d => d.seqStart 1))

/-- DISCHARGE: HVP_CMD op 2. -/
def execDischarge (m : Master) (s : State) : Out :=
  s.run (fun d => d.hvGuarded m HVP_CMD
    [(!among m mHv, ePerm), (!d.modeIn 0x22 || d.get HVP_STAT_state = 0, eState),
     (decide (4 ≤ d.get HVP_STAT_state), eBusy)] (fun d => d.disStart false))

/-! ## Faults of panel power (R346) -/

/-- A panel-safe fault: cause, interrupt, discharge on the HV die, and the report to the core die. `bit` is its bit of HVP_FLT. -/
def Device.hvFault (d : Device) (bit idx code inst : Nat) : Device :=
  let d := ((d.wr HVP_FLT (onBit (d.rd HVP_FLT) bit)).put HVP_FLT_index idx).put HVP_IRQ_fault 1
  let d := d.disStart d.bridge.lost
  d.raiseCode code inst 0 (d.rd HVP_FLT)

/-- An S1 fault of panel power. -/
def Device.hvEvent (d : Device) (code inst : Nat) : Device := (d.put HVP_IRQ_fault 1).raiseCode code inst 0 (d.rd HVP_FLT)

/-- RAIL_GOOD: step `i` is good, with the reading of a converter's monitor; `tie`: in the cycle its timeout expires (R345, R349). -/
def execRailGood (i : Fin 8) (mon : Nat) (tie : Bool) (s : State) : Out :=
  s.run (fun d =>
    if d.hv.seq = .ramp i ∧ d.get HVP_STAT_state = 1 then
      let d := if i.val < 4 then d.wr (HVP_RAIL_MON (stepRail i)) (mon % 2 ^ 32) else d
      let d := if tie then (d.put HVP_LATE_pg 1).put HVP_IRQ_late 1 else d
      d.seqGood i
    else d)

/-- SEQ_DELAY_EXPIRE (R347). -/
def execSeqDelayExpire (s : State) : Out :=
  s.run (fun d =>
    match d.hv.seq with
    | .delay i => d.seqFrom (i + 1)
    | _ => d)

/-- PG_TIMEOUT: it stands still during a pause (R349, R350). -/
def execPgTimeout (s : State) : Out :=
  s.run (fun d =>
    match d.hv.seq with
    | .ramp i => if d.get HVP_STAT_state = 1 then (d.hvFault 5 i 0x13 (stepInst i)).afterDischarge else d
    | _ => d)

/-- VIN_BELOW_WARN (R350, R351). -/
def execVinBelowWarn (s : State) : Out :=
  s.run (fun d =>
    if d.hv.vinLow then d else
      let d : Device := { d with hv := { d.hv with vinLow := true } }
      match d.hv.seq with
      | .ramp _ => d.put HVP_STAT_state 2
      | .idle => (d.bump HVP_EVT_brownouts).put HVP_IRQ_bo 1
      | _ => d)

/-- VIN_RECOVER: VIN_HV is above warn + 0.2 V; `tie`: in the cycle wait expires (R350). -/
def execVinRecover (tie : Bool) (s : State) : Out :=
  s.run (fun d =>
    if !d.hv.vinLow then d else
      let d : Device := { d with hv := { d.hv with vinLow := false } }
      if d.get HVP_STAT_state ≠ 2 then d else
        let d := (d.put HVP_STAT_state 1).bump HVP_EVT_resumed
        let d := if tie then (d.put HVP_LATE_bo 1).put HVP_IRQ_late 1 else d
        match d.hv.seq with
        | .due i => d.seqStep i
        | _ => d)

/-- BROWNOUT_WAIT_EXPIRE (R350). -/
def execBrownoutWaitExpire (s : State) : Out :=
  s.run (fun d =>
    if d.get HVP_STAT_state ≠ 2 then d else
      match d.hv.seq with
      | .due i => (d.hvFault 6 i 0x15 (stepInst i)).afterDischarge
      | .ramp i => (d.hvFault 6 i 0x15 (stepInst i)).afterDischarge
      | _ => d)

/-- The sequence step of an instance: rail 0 to 3, or 4 + k for supply k. -/
def instStep (i : Nat) : Nat := if i = 0 then 1 else if i = 1 then 0 else if i = 2 then 3 else if i = 3 then 2 else i

/-- RAIL_FAULT_DETECT on a rail or supply that is good (R346). -/
def execRailFaultDetect (k : RailFault) (i : Fin 8) (s : State) : Out :=
  s.run (fun d =>
    if !(d.get HVP_STAT_good).testBit (instStep i) then d else
      match k with
      | .uv => if i.val < 4 then (d.hvFault 0 i 0x10 i).afterDischarge else d
      | .ov => if i.val < 4 then (d.hvFault 1 i 0x11 i).afterDischarge else d
      | .oc => if i.val < 4 then (d.hvFault 2 i 0x12 i).afterDischarge else d
      | .psm => if 4 ≤ i.val then (d.hvFault 3 i 0x14 i).afterDischarge else d
      | .climit => if i.val < 4 then d.bump HVP_EVT_climit else d)

/-- HV_OVERTEMP: the HV die temperature in units of 1/16 degree, two's complement (R346). -/
def execHvOvertemp (temp : Nat) (s : State) : Out :=
  s.run (fun d =>
    let t := signedOf 16 temp
    let d := d.wr HVP_TEMP (temp % 65536)
    let was := d.hv.hot
    let now := b2n (decide (2240 < t)) + 2 * b2n (decide (2400 < t))
    let d : Device := { d with hv := { d.hv with hot := now } }
    if now = 3 ∧ was ≠ 3 then (d.hvFault 7 0 0x19 0).afterDischarge
    else if now = 1 ∧ was = 0 then (d.put HVP_FLT_temp 1).hvEvent 0x18 0
    else d)

/-- PSM_SAMPLE: a reading of monitor `k`; outside the window for 100 us, eleven readings in a row, is a fault while the supply is good (R345, R346, R519). -/
def execPsmSample (k : Fin 4) (v : Nat) (s : State) : Out :=
  s.run (fun d =>
    let v := v % 1024
    let d := d.wr (HVP_PSM_VAL k) v
    let out := decide (v < d.get (HVP_PSM_CFG_lo k) ∨ d.get (HVP_PSM_CFG_hi k) < v)
    let n := if out then Nat.min (Sparse.get (fun _ => 0) d.hv.psmOut k + 1) 11 else 0
    let d : Device := { d with hv := { d.hv with psmOut := Sparse.set (fun _ => 0) d.hv.psmOut k n } }
    if out && (d.get HVP_STAT_good).testBit (4 + k) then
      let d : Device := { d with hv := { d.hv with excursion := true } }
      if n = 11 then (d.hvFault 3 (4 + k) 0x14 (4 + k)).afterDischarge else d
    else d)

/-! ## Discharge events (R354-R357) -/

/-- DISCHARGE_HOLD_END: step 3 is over. -/
def execDischargeHoldEnd (s : State) : Out :=
  s.run (fun d => if d.hv.dis = .hold then d.bleedGo.afterDischarge else d)

/-- RAIL_DISCHARGED: step `i` is discharged, with the reading of a converter's monitor; `tie`: in the cycle its bleed timeout expires (R354, R355, R356). -/
def execRailDischarged (i : Fin 8) (mon : Nat) (tie : Bool) (s : State) : Out :=
  s.run (fun d =>
    let cur := d.hv.dis = .bleed i
    if cur ∨ d.hv.dis = .pfBleed ∨ d.hv.stuck.testBit i then
      let d := if i.val < 4 then d.wr (HVP_RAIL_MON (stepRail i)) (mon % 2 ^ 32) else d
      let d := d.put HVP_STAT_up (offBit (d.get HVP_STAT_up) i)
      if cur then
        let d := if tie then (d.put HVP_LATE_bleed 1).put HVP_IRQ_late 1 else d
        d.bleedGo.afterDischarge
      else if d.hv.dis = .pfBleed ∧ d.get HVP_STAT_up = 0 then d.disFinish.afterDischarge
      else d
    else d)

/-- BLEED_TIMEOUT: logged; the bleed moves on (R355). -/
def execBleedTimeout (s : State) : Out :=
  s.run (fun d =>
    match d.hv.dis with
    | .bleed i =>
      let d : Device := { d with hv := { d.hv with stuck := onBit d.hv.stuck i } }
      let d := ((d.bump HVP_EVT_bleeds).put HVP_FLT_bleed 1).put HVP_FLT_index i
      let d := if d.power.coreOn && d.get FLT_CTRL_log_s1 = 1 then d else d.logEntry 0x1A (stepInst i) 0 1 []
      ((d.hvEvent 0x1A (stepInst i)).bleedGo).afterDischarge
    | _ => d)

/-- PF_HOLD_EXPIRE: every PS_EN goes low and every converter stops with its bleed on (R356). -/
def execPfHoldExpire (s : State) : Out :=
  s.run (fun d =>
    if d.hv.dis = .pfHold then
      let d : Device := { d with hv := { d.hv with dis := .pfBleed, psEn := 0, bleedOn := 15 } }
      let d := d.put HVP_STAT_good 0
      if d.get HVP_STAT_up = 0 then d.disFinish.afterDischarge else d
    else d)

/-! ## The crack loop (R365) -/

/-- CRACK_MEASURE: the loop in units of 10 ohms; above 20 kilohms it reads 0xFFFF. -/
def execCrackMeasure (ohm : Nat) (s : State) : Out :=
  s.run (fun d =>
    if d.get HVP_CRK_CFG_en = 0 ∨ d.mode = 0 then d else
      let v := if 2000 < ohm then 0xFFFF else ohm
      let d := d.put HVP_CRK_VAL_ohm v
      let high := decide (d.get HVP_CRK_CFG_hi < v)
      let low := decide (v < d.get HVP_CRK_CFG_lo)
      let n := d.get HVP_CRK_CFG_samples
      let nh := if high then Nat.min (d.hv.crackHi + 1) 16 else 0
      let nl := if low then Nat.min (d.hv.crackLo + 1) 16 else 0
      let d : Device := { d with hv := { d.hv with crackHi := nh, crackLo := nl, crackHigh := high } }
      let d := if nl = n && low then d.hvEvent 0x17 0 else d
      if nh = n && high then
        let d := d.put HVP_FLT_crack 1
        let seqOn := match d.hv.seq with
          | .idle => false
          | _ => true
        if d.railsUp || seqOn then (d.hvFault 4 0 0x16 0).afterDischarge else d.logEntry 0x16 0 0 0 []
      else if decide (n ≤ nh) && high then d.put HVP_FLT_crack 1
      else d)

/-! ## The status glass (R367-R371) -/

/-- The segments a glyph lights, of a b c d e f g, from bit 0. -/
def glyphSegs (c : Nat) : Nat :=
  match c with
  | 0 => 0x3F | 1 => 0x06 | 2 => 0x5B | 3 => 0x4F | 4 => 0x66 | 5 => 0x6D | 6 => 0x7D | 7 => 0x07
  | 8 => 0x7F | 9 => 0x6F | 10 => 0x77 | 11 => 0x7C | 12 => 0x39 | 13 => 0x5E | 14 => 0x79 | 15 => 0x71
  | 16 => 0x73 | 17 => 0x76
  | _ => 0

/-- A digit on its two segment lines: a f e d on the first, b g c dp on the second (R370). -/
def digitBits (g : Nat) : Nat :=
  let s := glyphSegs g
  let b : Nat → Nat := fun i => s / 2 ^ i % 2
  b 0 + b 5 * 2 + b 4 * 4 + b 3 * 8 + b 1 * 16 + b 6 * 32 + b 2 * 64

/-- The segments of lines 0 to 7 for a code of a kind: P, H or F, a blank, two hexadecimal digits. -/
def codeBits (kind code : Nat) : Nat :=
  if kind = 0 then 0 else
    digitBits (if kind = 1 then 16 else if kind = 2 then 17 else 15) + digitBits (code / 16 % 16) * 0x10000 +
      digitBits (code % 16) * 0x1000000

/-- SEG_SHOWN from what was taken at the last positive frame and the blink phases (R369, R370). -/
def Device.segShow (d : Device) : Device :=
  let g := d.seg
  let ramOn := !g.blinkOn || g.ramLit
  let codeOn := g.code / 256 < 2 || g.codeLit
  let w0 := if g.host then (if ramOn then g.ram.getD 0 0 else 0) else if codeOn then codeBits (g.code / 256) (g.code % 256) else 0
  let d := d.wr (SEG_SHOWN 0) w0
  eachOf [1, 2, 3, 4] (fun i d =>
    let v := if ramOn then g.ram.getD i 0 else 0
    d.wr (SEG_SHOWN i) (if i = 4 && !g.wide then v % 65536 else v)) d

end Sys2Proof.Machine
end

