-- ==== Sys2Proof/Machine/LinkCmds.lean ====
section
/-! DEFINITION. The events and commands of the column link (spec/11_aethex_link.md). -/

namespace Sys2Proof.Machine

/-- Masters 0, 2, 4 and 7 to 9 (R341). -/
abbrev mLink : Nat := 0x395

/-! ## Held lines (R153, R337) -/

/-- Stripe `s` holds `n` lines: counted, S1 each, and S2 past the limits of TMG_HOLD_LIM. -/
def Device.holdLine (d : Device) (s : Nat) : Device :=
  let before := Sparse.get (fun _ => 0) d.ras.holds s
  let runs := Sparse.get (fun _ => 0) d.ras.holdRuns s + (if before = 0 then 1 else 0)
  let d := if d.ras.holds.isEmpty then d.bump TMG_HOLD_TOT_val else d
  let d : Device := { d with ras := { d.ras with holds := Sparse.set (fun _ => 0) d.ras.holds s (before + 1),
                                                 holdRuns := Sparse.set (fun _ => 0) d.ras.holdRuns s runs } }
  let d := ((d.bump (TMG_HOLD_CNT_val s)).spoil 2).raiseCode 0x30 (s / 8) s
  if before = d.get TMG_HOLD_LIM_lines || (before = 0 && runs > d.get TMG_HOLD_LIM_frames) then
    (d.put TMG_IRQ_hold_lim 1).raiseCode 0x31 (s / 8) s
  else d

/-- `n` holds in turn. -/
def Device.holdLines (d : Device) (s n : Nat) : Device := eachOf (List.range n) (fun _ d => d.holdLine s) d

/-! ## Ends of trainings (R331, R335) -/

/-- The command of ACL_CMD ends. -/
def Device.aclEnd (d : Device) (err : Nat) : Device :=
  if d.get ACL_CMD_STAT_busy = 0 then d else
    let d := (((d.put ACL_CMD_STAT_busy 0).put ACL_CMD_STAT_done 1).put ACL_CMD_STAT_err err).put ACL_IRQ_cmd_done 1
    if err = 0 then d else d.latch d.link.cmdMaster 0 ACL_CMD err

/-- A lane of a running command has finished its training. -/
def Device.aclLaneEnd (d : Device) (n err : Nat) : Device :=
  let op := d.get ACL_CMD_STAT_op
  if d.get ACL_CMD_STAT_busy = 0 then d
  else if (op = 1 ∨ op = 2) ∧ d.link.cmdLane = n then d.aclEnd err
  else if op = 7 ∧ d.claimedLanes.all (fun k => d.laneState k = 0 || d.laneTrained k) then
    d.aclEnd (if d.claimedLanes.any (fun k => d.laneState k = 6) then eState else eOk)
  else d

/-- The lane is trained: ACTIVE, or STANDBY for a spare; a dark stripe is lit again. -/
def Device.laneUp (d : Device) (n : Nat) : Device :=
  let x := d.lane n
  let d := d.setLane n { x with holding := false, sweep := [], full := false, again := false, retry := false, missing := 0 }
  let d := d.put (ACL_LANE_STAT_err n) 0
  match d.laneSpare n with
  | some k =>
    let d := d.put (ACL_LANE_STAT_state n) 5
    let d := if d.get (ACL_SPARE_state k) = 3 then d else d.put (ACL_SPARE_state k) 2
    (d.aclLaneEnd n 0).scanJoin
  | none =>
    let d := d.put (ACL_LANE_STAT_state n) 4
    let d := match d.laneStripe n with
      | some s => ({ d with flt := { d.flt with dark := d.flt.dark.filter (fun t => t != s) } }).degrSync
      | none => d
    (d.aclLaneEnd n 0).scanJoin

/-- A lane enters FAILED: fault 0x23 at once, within the transition, or not at all inside an open recovery of its own (R335). -/
def Device.laneDead (d : Device) (n err : Nat) : Device :=
  let d := (d.laneFail n err).aclLaneEnd n err
  let own : Bool := match d.flt.opened with
    | some r => (r.flt.code = 0x20 || r.flt.code = 0x21) && r.flt.obj = n
    | none => false
  if own then d
  else if d.link.inTrans then ({ d with link := { d.link with failed := d.link.failed ++ [n] } } : Device).scanJoin
  else d.raiseCode 0x23 (n / 8) n

/-- A training did not succeed in LOCK: a fast retrain is followed by a full one, op 7 allows one further full one (R335). -/
def Device.lockLost (d : Device) (n : Nat) : Device :=
  let x := d.lane n
  if !x.full then d.trainStart n true true x.retry
  else if x.retry && !x.again then d.trainStart n true true true
  else d.laneDead n eState

/-! ## Presets (R334) -/

/-- Announce preset `p` to the lane's drivers: it changes two return frames on. -/
def Device.announce (d : Device) (n p : Nat) : Device :=
  let f := (d.link.mrk + 2) % 256
  let target := match d.laneStripe n with
    | some s => s
    | none => 0xFF
  let d := d.sendCtl n target 0x05 [p, f]
  d.setLane n { d.lane n with presetAt := some (p, f) }

/-- LOCK ends: the sweep of a full training, else the lane is up. -/
def Device.lockDone (d : Device) (n : Nat) : Device :=
  let x := d.lane n
  if x.full && d.get (ACL_LANE_CTRL_fen n) = 0 then
    let l := bitList 8 (d.get (ACL_LANE_CTRL_pmask n))
    let d := d.setLane n { x with sweep := l, scores := [] }
    let d := (d.put (ACL_LANE_STAT_state n) 3).wr (ACL_LANE_EQ n) 0
    match l with
    | p :: _ => d.announce n p
    | [] => d.laneUp n
  else
    let d := if d.get (ACL_LANE_CTRL_fen n) = 1 then d.put (ACL_LANE_STAT_preset n) (d.get (ACL_LANE_CTRL_force n)) else d
    d.laneUp n

/-- `a` is the better result of a sweep: lowest count, then highest figure of merit, then lowest preset. -/
def presetBetter (a b : Nat × Nat × Nat) : Bool :=
  if a.2.1 ≠ b.2.1 then decide (a.2.1 < b.2.1)
  else if a.2.2 ≠ b.2.2 then decide (b.2.2 < a.2.2)
  else decide (a.1 < b.1)

/-- The chosen preset of a sweep. -/
def presetBest (l : List (Nat × Nat × Nat)) : Nat :=
  match l with
  | [] => 0
  | a :: t => (t.foldl (fun acc b => if presetBetter b acc then b else acc) a).1

/-! ## Commands of ACL_CMD (R341) -/

/-- A command begins. -/
def Device.aclBegin (d : Device) (m op n : Nat) : Device :=
  let d : Device := { d with link := { d.link with cmdLane := n, cmdMaster := m } }
  (((d.put ACL_CMD_STAT_busy 1).put ACL_CMD_STAT_done 0).put ACL_CMD_STAT_op op).put ACL_CMD_STAT_err 0

/-- Checks common to every op. -/
def Device.aclChecks (d : Device) (m : Nat) : List (Bool × Nat) :=
  [(!among m mLink, ePerm), (d.get ACL_CMD_STAT_busy = 1, eBusy)]

/-- LANE_FULL_TRAIN: op 1. -/
def execLaneFullTrain (m : Master) (n : Lane) (s : State) : Out :=
  s.run (fun d => d.guarded m ACL_CMD (d.aclChecks m ++ [(!d.laneClaimed n, eState)])
    (fun d => (d.aclBegin m 1 n).trainStart n true false false))

/-- LANE_FAST_RETRAIN: op 2. -/
def execLaneFastRetrain (m : Master) (n : Lane) (s : State) : Out :=
  s.run (fun d => d.guarded m ACL_CMD (d.aclChecks m ++ [(!d.laneClaimed n, eState)])
    (fun d => (d.aclBegin m 2 n).trainStart n false false false))

/-- The spare's mask names the stripe. -/
def Device.spareNames (d : Device) (k s : Nat) : Bool :=
  decide (k < d.act.spares.length) && ((d.act.spares.getD k {}).mask).testBit s

/-- SPARE_PLANNED_MOVE: op 3 with the stripe's forward lane; SELECT goes out on both lanes (R338). -/
def execSparePlannedMove (m : Master) (n : Lane) (k : Fin 4) (s : State) : Out :=
  s.run (fun d =>
    let st := d.laneStripe n
    let sp := (d.act.spares.getD k {}).lane
    let other : Bool := d.get (ACL_SPARE_state k) = 3 && some (d.get (ACL_SPARE_stripe k)) ≠ st
    let bad : Bool := match st with
      | some t => !d.spareNames k t || d.laneState sp ≠ 5
      | none => true
    d.guarded m ACL_CMD (d.aclChecks m ++ [(bad, eState), (other, eBusy)]) (fun d =>
      let t := st.getD 0
      let f := (d.rd TMG_FRAME_CNT + 1) % 256
      let d := ((d.aclBegin m 3 n).sendCtl n t 0x04 [1, f]).sendCtl sp t 0x04 [1, f]
      { d with link := { d.link with plan := some { stripe := t, spare := k, back := false } } }))

/-- SPARE_PLANNED_RETURN: op 4 (R338). -/
def execSparePlannedReturn (m : Master) (n : Lane) (s : State) : Out :=
  s.run (fun d =>
    let st := d.laneStripe n
    let sp := st.bind d.spareOf
    let bad : Bool := sp.isNone || !d.laneTrained n || d.laneState n = 6 || d.get (ACL_LANE_STAT_in0 n) = 0
    d.guarded m ACL_CMD (d.aclChecks m ++ [(bad, eState)]) (fun d =>
      let t := st.getD 0
      let k := sp.getD 0
      let f := (d.rd TMG_FRAME_CNT + 1) % 256
      let d := ((d.aclBegin m 4 n).sendCtl n t 0x04 [0, f]).sendCtl ((d.act.spares.getD k {}).lane) t 0x04 [0, f]
      { d with link := { d.link with plan := some { stripe := t, spare := k, back := true } } }))

/-- A planned move takes effect at the vertical swap point (R338). -/
def Device.planApply (d : Device) : Device :=
  match d.link.plan with
  | none => d
  | some p =>
    let d : Device := { d with link := { d.link with plan := none } }
    let d := if p.back then d.moveBack p.spare else d.moveToSpare p.stripe p.spare
    d.aclEnd 0

/-- RETURN_LANE_REGRANT: op 5 (R329). -/
def execReturnLaneRegrant (m : Master) (r : RetLane) (s : State) : Out :=
  s.run (fun d => d.guarded m ACL_CMD (d.aclChecks m) (fun d => (d.aclBegin m 5 r).silence r true))

/-- LANE_OFF: op 6. -/
def execLaneOff (m : Master) (n : Lane) (s : State) : Out :=
  s.run (fun d =>
    let serving : Bool := match d.laneStripe n, d.laneSpare n with
      | some t, _ => (d.spareOf t).isNone
      | none, some k => d.get (ACL_SPARE_state k) = 3
      | none, none => false
    d.guarded m ACL_CMD (d.aclChecks m ++ [(!d.laneClaimed n, eState), (serving && decide (d.mode ≠ 1), eBusy)])
      (fun d => ((d.aclBegin m 6 n).laneOff n).aclEnd 0))

/-- TRAIN_ALL_LANES: op 7 (R335). -/
def execTrainAllLanes (m : Master) (s : State) : Out :=
  s.run (fun d => d.guarded m ACL_CMD (d.aclChecks m ++ [(decide (d.mode ≠ 1), eState)]) (fun d =>
    let d := (d.aclBegin m 7 0).trainAll
    if d.claimedLanes.isEmpty then d.aclEnd 0 else d))

/-! ## Phases of a training (R331) -/

/-- LANE_WAKE_DONE: 20 us; the scrambler is seeded and CONFIG goes out. -/
def execLaneWakeDone (n : Lane) (s : State) : Out :=
  s.run (fun d =>
    if d.laneState n = 1 then
      let d := d.setLane n { d.lane n with scram := 2 ^ 58 - 1 }
      let d := d.put (ACL_LANE_STAT_state n) 2
      match d.laneStripe n with
      | some t =>
        let e := d.act.lanes.getD t {}
        let x := d.ret e.ret
        (d.setRet e.ret { x with phase := Sparse.erase x.phase e.slot }).sendConfig t
      | none => d
    else d)

/-- LANE_LOCK_TIMEOUT: ACL_CTRL.lock_to expires in LOCK, or while CONFIG is resent to a lost or reset driver (R328, R331, R335). -/
def execLaneLockTimeout (n : Lane) (s : State) : Out :=
  s.run (fun d =>
    if d.laneState n = 2 then d.lockLost n
    else if d.laneState n = 4 && (d.lane n).resending then
      if d.get ACL_CTRL_auto_retrain = 1 then d.trainStart n false false false else d.laneDead n eState
    else d)

/-- EQ_PRESET_DONE: growth of the invalid sync headers, figure of merit, and whether the bursts ceased (R334). -/
def execEqPresetDone (n : Lane) (growth fom : Nat) (ceased : Bool) (s : State) : Out :=
  s.run (fun d =>
    let x := d.lane n
    match x.sweep with
    | [] => d
    | p :: rest =>
      if d.laneState n ≠ 3 then d else
        let g := if ceased then 2 ^ 32 else growth
        let d := d.put ⟨ACL_LANE_EQ n, 4 * p + 3, 4 * p⟩ (Nat.min g 15)
        let scores := x.scores ++ [(p, g, fom)]
        match rest with
        | q :: _ => (d.setLane n { x with sweep := rest, scores := scores }).announce n q
        | [] => (d.setLane n { x with sweep := [], scores := scores, holding := true }).announce n (presetBest scores))

/-- EQ_HOLD_DONE: the 8-return-frame hold ends (R334). -/
def execEqHoldDone (n : Lane) (s : State) : Out :=
  s.run (fun d =>
    if d.laneState n = 3 && (d.lane n).holding then
      let d := d.put (ACL_LANE_STAT_preset n) (presetBest (d.lane n).scores)
      (d.setLane n { d.lane n with presetAt := none }).laneUp n
    else d)

/-! ## Return frames (R312, R326, R329, R330) -/

/-- The slots of a return lane whose drivers are to be granted: their forward lanes carry traffic (R340). -/
def Device.grantable (d : Device) (r j : Nat) : Bool :=
  match d.slotStripe r j with
  | some s => decide (2 ≤ d.laneState (d.stripeLane s) ∧ d.laneState (d.stripeLane s) ≤ 5) &&
      !(d.lane ((d.act.lanes.getD s {}).lane)).resending
  | none => false

/-- Grant the next slot at or above `j`, or end the procedure. -/
def Device.regrantFrom (d : Device) (r j : Nat) : Device :=
  match (List.range 4).find? (fun k => decide (j ≤ k) && d.grantable r k) with
  | some k =>
    let s := (d.slotStripe r k).getD 0
    let d := d.sendConfig s
    d.setRet r { d.ret r with proc := .grant k, wait := 2, await := true }
  | none =>
    let x := d.ret r
    let d := d.setRet r { x with proc := .idle, await := false, byCmd := false, silenced := 0 }
    let d := ({ d with flt := { d.flt with jammed := d.flt.jammed.filter (fun t => t != r) } }).degrSync
    let d := d.put (ACL_RET_STAT_jammed r) 0
    if x.byCmd then d.aclEnd 0 else d

/-- The driver of stripe `s` is lost (R328). -/
def Device.driverLost (d : Device) (s : Nat) : Device :=
  let n := (d.act.lanes.getD s {}).lane
  let d := (d.bump (ACL_LANE_EVT_losses n)).put ACL_IRQ_lost 1
  let d := d.setLane n { d.lane n with resending := true, missing := 0 }
  (d.raiseCode 0x21 (n / 8) n)

/-- A jam: the drivers stay silenced, and an S2 fault is raised (R330). -/
def Device.jam (d : Device) (r : Nat) : Device :=
  let x := d.ret r
  let d := d.setRet r { x with proc := .idle, byCmd := false, await := false, signal := 0 }
  let d := if x.byCmd then d.aclEnd eState else d
  if d.flt.jammed.contains r then d else d.raiseCode 0x29 r r

/-- A return frame of lane `r` ends. -/
def Device.retFrame (d : Device) (r : Nat) : Device :=
  let x := d.ret r
  let signal := if x.signalNow then x.signal + 1 else 0
  let d := d.put (ACL_RET_STAT_heard r) x.heardNow
  let x := { x with violLast := x.violNow, violNow := 0, heardNow := 0, signal := signal, signalNow := false, wait := x.wait - 1 }
  let d := d.setRet r x
  match x.proc with
  | .idle => d
  | .silent => if x.wait ≠ 0 then d else if 2 ≤ signal then d.jam r else d.regrantFrom r 0
  | .grant j =>
    if x.wait ≠ 0 then d else
      let d := if x.await then (match d.slotStripe r j with | some s => d.driverLost s | none => d) else d
      d.regrantFrom r (j + 1)

/-- MRK_SEND: a return frame begins on every powered lane (R312); presets announced for this count change (R334). -/
def execMrkSend (s : State) : Out :=
  s.run (fun d =>
    if !d.power.coreOn then d else
      let d : Device := { d with link := { d.link with mrk := (d.link.mrk + 1) % 256 } }
      let d := eachOf (List.range 96) (fun n d =>
        match (d.lane n).presetAt with
        | some (p, f) => if f = d.link.mrk then
            (d.setLane n { d.lane n with presetAt := none }).put (ACL_LANE_STAT_preset n) p else d
        | none => d) d
      eachOf (List.range 24) (fun r d => d.retFrame r) d)

/-- A slot violation (R326); the second in consecutive return frames is a collision (R329). -/
def Device.violation (d : Device) (r j : Nat) (crcBad : Bool) : Device :=
  let d := d.bump (ACL_RET_EVT_violations r)
  let d := if crcBad then d.bump (ACL_RET_EVT_crc r) else d
  let x := d.ret r
  let again := x.violLast.testBit j
  let d := d.setRet r { x with violNow := onBit x.violNow j }
  if again && x.proc == .idle && x.silenced ≠ 15 then
    let d := (d.bump (ACL_RET_EVT_collisions r)).put ACL_IRQ_collision 1
    d.raiseCode 0x28 r r
  else d

/-- A burst arrives in a slot: none when it is discarded, else its stripe and its 46 payload bytes (R326). -/
def Device.burstIn (d : Device) (b : Burst) : Device × Option (Nat × List Nat) :=
  let r := b.ret.val
  let j := b.slot.val
  let x := d.ret r
  let d := if x.silenced.testBit j then d.setRet r { x with signalNow := true } else d
  let learned := x.phase.find? (fun e => e.1 == j)
  let offPhase : Bool := match learned with
    | some e => decide (e.2 + 1 < b.phase ∨ b.phase + 1 < e.2)
    | none => false
  let crcBad := b.crc != linkCrc16 b.body
  if offPhase || b.codeErr || b.guard || crcBad then (d.violation r j crcBad, none)
  else if x.silenced.testBit j then (d, none)
  else match d.slotStripe r j with
    | none => (d, none)
    | some s =>
      let x := d.ret r
      (d.setRet r { x with heardNow := onBit x.heardNow j,
                           phase := if learned.isSome then x.phase else Sparse.put x.phase j b.phase },
       some (s, b.body.drop 2))

/-- A valid burst ends a run of missing ones; one in the cycle of the last is in time (R340). -/
def Device.burstHeard (d : Device) (n : Nat) (tie : Bool) : Device :=
  let x := d.lane n
  let d := d.setLane n { x with missing := 0 }
  if tie then
    let d := if d.laneState n = 2 then d.put (ACL_LANE_LATE_lock n) 1 else d.put (ACL_LANE_LATE_miss n) 1
    d.put ACL_IRQ_late 1
  else d

/-- The driver of stripe `s` has reset (R328). -/
def Device.driverReset (d : Device) (s : Nat) : Device :=
  let n := (d.act.lanes.getD s {}).lane
  let d := d.setLane n { d.lane n with resending := true }
  d.raiseCode 0x20 (n / 8) n

/-- A driver's limits are met (R331). -/
def Device.capsFit (d : Device) (s : Nat) (p : List Nat) : Bool :=
  let n := (d.act.lanes.getD s {}).lane
  let inSpare := d.act.spares.any (fun k => k.mask.testBit s)
  p.getD 6 0 = 1 && decide (d.channels s ≤ leNat (p.take 2)) && decide (d.getF FAB_CODE_width ≤ p.getD 2 0) &&
    (p.getD 3 0).testBit (d.getF (ACL_GRP_RATE_rate (n / 8))) && (!inSpare || (p.getD 5 0).testBit 0)

/-- ACL_LANE_CAPS from a CAPS payload. -/
def capsWord (p : List Nat) : Nat :=
  leNat (p.take 2) % 0x400 + p.getD 2 0 % 0x20 * 0x400 + p.getD 5 0 % 2 * 0x8000 + p.getD 3 0 % 16 * 0x10000 +
    p.getD 4 0 % 4 * 0x100000 + p.getD 6 0 % 16 * 0x1000000 + Nat.min (p.getD 7 0 / 16) 15 * 0x10000000

/-- CAPS_BURST; `tie`: in the cycle in which a timeout expires (R340). -/
def execCapsBurst (b : Burst) (tie : Bool) (s : State) : Out :=
  s.run (fun d =>
    match d.burstIn b with
    | (d, none) => d
    | (d, some (st, p)) =>
      let n := (d.act.lanes.getD st {}).lane
      let d := d.burstHeard n tie
      let d := d.wr (ACL_LANE_CAPS n) (capsWord p)
      let x := d.lane n
      let prompted := x.prompted || x.resending
      let r := b.ret.val
      let d := match (d.ret r).proc with
        | .grant j => if j = b.slot.val then d.setRet r { d.ret r with await := false } else d
        | _ => d
      let d := d.setLane n { d.lane n with prompted := false, resending := false }
      if d.laneState n = 2 then
        if d.capsFit st p then d.lockDone n else d.laneDead n eUnimpl
      else if !prompted && (d.ret r).proc == .idle && d.laneState n = 4 then d.driverReset st
      else d)

/-- Take the acknowledgement of a driver: sequences up to `seq` on the lane it uses (R318). -/
def Device.ackTaken (d : Device) (n st seq : Nat) : Device :=
  let x := d.lane n
  let covered : CtlPkt → Bool := fun k => decide ((seq + 256 - k.seq) % 256 < 128) && (k.target = st || k.target = 0xFF)
  let need := (List.range 96).filter (fun t => d.stripeLane t = n && decide (t < d.act.lanes.length))
  let marked := x.unacked.map (fun k => if covered k then { k with acks := onBit k.acks st } else k)
  let left := marked.filter (fun k => if k.target = 0xFF then !need.all (fun t => k.acks.testBit t) else !k.acks.testBit st)
  let done : Bool := marked.any (fun k => k.integrator) && !left.any (fun k => k.integrator)
  let d := d.setLane n { x with unacked := left }
  if done && d.link.intPkt = some n then { d with link := { d.link with intPkt := none } } else d

/-- The growth of a wrapping counter. -/
def wrapGrowth (w new old : Nat) : Nat := (new + 2 ^ w - old) % 2 ^ w

/-- The driver reports IN0 lost on an ACTIVE lane (R336, R335). -/
def Device.in0Lost (d : Device) (st : Nat) : Device :=
  let n := (d.act.lanes.getD st {}).lane
  let d := (d.bump (ACL_LANE_EVT_losses n)).put ACL_IRQ_lost 1
  let planned := d.link.plan.bind (fun p => if p.stripe = st ∧ p.back = false then some p.spare else none)
  let d := if planned.isSome then ({ d with link := { d.link with plan := none } }).aclEnd eState else d
  let spare := if d.get ACL_CTRL_auto_spare = 1 && d.get (ACL_LANE_STAT_in1 n) = 1 then
      (if planned.isSome then planned else d.freeSpare st) else none
  match spare with
  | some k =>
    let d := (d.moveToSpare st k).raiseCode 0x22 (n / 8) st
    d.trainStart n true false false
  | none =>
    let d := d.raiseCode 0x21 (n / 8) n
    if d.get ACL_CTRL_auto_retrain = 1 then d.trainStart n false false false
    else d.setLane n { d.lane n with resending := true }

/-- Every granted driver of a spare's mask reports IN1 lock. -/
def Device.maskLocked (d : Device) (k : Nat) : Bool :=
  let e := d.act.spares.getD k {}
  (List.range d.act.lanes.length).all (fun t => !e.mask.testBit t || d.drvIn1 t)

/-- STATUS_BURST (R324, R326, R328, R331, R336, R337); `tie`: in the cycle the missing count or a lock timeout ends; `ackTie`: in the cycle the resend timer expires (R340). -/
def execStatusBurst (b : Burst) (tie ackTie : Bool) (s : State) : Out :=
  s.run (fun d =>
    match d.burstIn b with
    | (d, none) => d
    | (d, some (st, p)) =>
      let n := (d.act.lanes.getD st {}).lane
      let old := (d.lane n).status
      let had := !old.isEmpty
      let d := d.burstHeard n tie
      let b0 := p.getD 0 0
      let d := d.wr (ACL_LANE_DRV n) (leNat ((p.drop 1).take 2) + b0 % 64 * 0x10000 + p.getD 3 0 * 0x1000000)
      let d := ((d.put (ACL_LANE_STAT_in0 n) (b0 % 2)).put (ACL_LANE_STAT_in1 n) (b0 / 2 % 2)).put (ACL_LANE_STAT_in_use n) (b0 / 4 % 2)
      let d := d.setLane n { d.lane n with status := p }
      let u := d.stripeLane st
      let d := d.ackTaken u st (p.getD 4 0)
      let d := if ackTie then (d.put (ACL_LANE_LATE_ack u) 1).put ACL_IRQ_late 1 else d
      let at2 : Nat → List Nat → Nat := fun i l => leNat ((l.drop i).take 2)
      let holds := if had then wrapGrowth 8 (p.getD 8 0) (old.getD 8 0) else 0
      let d := if had then ((d.bump (ACL_LANE_ERR_crc n) (wrapGrowth 16 (at2 5 p) (at2 5 old))).bump (ACL_LANE_ERR_ctl n)
          (wrapGrowth 8 (p.getD 7 0) (old.getD 7 0))).bump (ACL_LANE_ERR_holds n) holds else d
      let d := d.holdLines st holds
      let d := if had && p.getD 3 0 ≠ old.getD 3 0 && !(d.lane n).resending && d.laneState n = 4 then d.driverReset st else d
      -- LOCK of a lane whose driver is in use on IN1, and loss of IN0
      let d := if d.laneState n = 2 && b0.testBit 2 && b0.testBit 0 then d.lockDone n
        else if d.laneState n = 4 && !b0.testBit 0 && (d.spareOf st).isNone then d.in0Lost st
        else d
      -- spares whose mask names the driver
      eachOf (List.range d.act.spares.length) (fun k d =>
        let e := d.act.spares.getD k {}
        if !e.mask.testBit st then d
        else if d.laneState e.lane = 2 && d.maskLocked k then d.lockDone e.lane
        else if d.laneState e.lane = 5 && !b0.testBit 1 then
          let d := if d.get (ACL_SPARE_state k) = 3 then d.raiseCode 0x21 (e.lane / 8) e.lane else d
          d.trainStart e.lane false false false
        else d) d)

/-- RETURN_SLOT_END: a slot of a granted driver without a valid burst is a missing burst (R326, R328); `guard`: signal in a guard interval without a burst. -/
def execReturnSlotEnd (r : RetLane) (j : Fin 4) (guard : Bool) (s : State) : Out :=
  s.run (fun d =>
    if !d.power.coreOn then d else
    let x := d.ret r
    let d := if guard then
        let d := if x.silenced.testBit j then d.setRet r { x with signalNow := true } else d
        d.violation r j false
      else d
    let x := d.ret r
    if (d.get (ACL_RET_STAT_granted r)).testBit j && !x.heardNow.testBit j && !x.silenced.testBit j then
      let d := d.bump (ACL_RET_EVT_missing r)
      match d.slotStripe r j with
      | none => d
      | some st =>
        let n := (d.act.lanes.getD st {}).lane
        let y := d.lane n
        if y.resending || d.laneState n ≠ 4 then d
        else if d.get ACL_CTRL_miss ≤ y.missing + 1 then d.driverLost st
        else d.setLane n { y with missing := y.missing + 1 }
    else d)

/-- JAM_RETRY_TIMER: every 100 ms (R330). -/
def execJamRetryTimer (r : RetLane) (s : State) : Out :=
  s.run (fun d => if d.flt.jammed.contains r.val && (d.ret r).proc == .idle then d.silence r false else d)

/-- CONFIG_RESEND_TIMER: every 8 return frames, in LOCK or to a lost or reset driver (R328, R331). -/
def execConfigResendTimer (n : Lane) (s : State) : Out :=
  s.run (fun d =>
    match d.laneStripe n with
    | some st => if d.laneState n = 2 || (d.laneState n = 4 && (d.lane n).resending) then d.sendConfig st else d
    | none => d)

/-- CONTROL_PACKET_RESEND: the oldest packet of the lane is unacknowledged after 4 return frames (R318, R342). -/
def execControlPacketResend (n : Lane) (s : State) : Out :=
  s.run (fun d =>
    let x := d.lane n
    match x.unacked with
    | [] => d
    | k :: rest =>
      if !d.laneRuns n then d
      else if k.resends < 3 then
        (d.setLane n { x with unacked := { k with resends := k.resends + 1 } :: rest }).bump (ACL_LANE_EVT_resends n)
      else if k.integrator then
        let d : Device := { d with link := { d.link with intPkt := none } }
        (d.setLane n { x with unacked := rest }).bump (ACL_LANE_EVT_resends n)
      else d.trainStart n false false false)

/-- INTEGRATOR_PACKET_SEND: ACL_CP_CMD bit 0 (R342). -/
def execIntegratorPacketSend (m : Master) (s : State) : Out :=
  s.run (fun d =>
    let op := d.get ACL_CP_HDR_opcode
    let n := d.get ACL_CP_HDR_lane
    let serves := (d.laneStripe n).isSome || (d.laneSpare n).isSome
    d.guarded m ACL_CP_CMD
      [(!among m mLink || op < 0x10 || 0x1F < op, ePerm), (!serves, eState), (d.link.intPkt.isSome, eBusy)] (fun d =>
        let data := (List.range (2 * d.get ACL_CP_HDR_blocks)).flatMap (fun i => leBytes 4 (d.rd (ACL_CP_DATA i)))
        let d := d.sendCtl n (d.get ACL_CP_HDR_target) op data true
        { d with link := { d.link with intPkt := some n } }))

end Sys2Proof.Machine
end

