-- ==== Sys2Proof/Machine/PrismImage.lean ====
section
/-! DEFINITION. Reading and checking a Prism image (R60 to R77, R193, R194, R201): checks 1 to 19 in the order of R77, and the decoded set. Checks 20 to 22 need the register file and stand with the image commands. -/

namespace Sys2Proof.Machine

/-- The first failing item of an image check (R77): check number, error code, section index (0xFF: not in a section), image offset. -/
structure ImgFail where
  check : Nat
  code : Nat
  section_ : Nat
  off : Nat
deriving DecidableEq, Repr

/-- What Keep and the staging registers say about the image under check. -/
structure ImgCtx where
  /-- FAB_IMG_LEN, or none at boot (R51). -/
  len : Option Nat
  /-- Signing is enforced in Keep. -/
  enforced : Bool
  /-- The key hash held in Keep. -/
  keyHash : List Nat
  /-- The Prism minimum version held in Keep. -/
  minVersion : Nat

/-- One section table entry (R62), with its index. -/
structure SecEntry where
  idx : Nat
  ty : Nat
  skip : Bool
  flags : Nat
  off : Nat
  len : Nat
  crc : Nat
deriving DecidableEq, Repr

/-- The image's bytes, as a function of the offset. -/
abbrev ImgBytes := Nat → Nat

/-- `n` bytes from offset `o`. -/
def imgSlice (b : ImgBytes) (o n : Nat) : List Nat := (List.range n).map (fun i => b (o + i))

/-- A little-endian field. -/
def imgLe (b : ImgBytes) (o n : Nat) : Nat := leNat (imgSlice b o n)

/-- Whether the bytes of a range are all 0. -/
def imgZero (b : ImgBytes) (o n : Nat) : Bool := (imgSlice b o n).all (· == 0)

/-- The first element of a list of conditions that fails: the offset that goes with it. -/
def firstBad : List (Bool × Nat) → Option Nat
  | [] => none
  | (ok, o) :: r => if ok then firstBad r else some o

/-- Turn the first failing condition into a failure of one check. -/
def checkAll (check code : Nat) (conds : List (Bool × Nat)) (sec : Nat := 0xFF) : Except ImgFail Unit :=
  match firstBad conds with
  | none => .ok ()
  | some o => .error ⟨check, code, sec, o⟩

/-- The first failing condition among several sections' lists. -/
def checkSecs (check code : Nat) : List (Bool × Nat × Nat) → Except ImgFail Unit
  | [] => .ok ()
  | (ok, sec, o) :: r => if ok then checkSecs check code r else .error ⟨check, code, sec, o⟩

/-- Length of the trailer (R73). -/
def trailerLen (b : ImgBytes) : Nat := if b 0x13 % 2 = 1 then 160 else 32

/-- The entry of the section table at an index (R62). -/
def secEntry (b : ImgBytes) (i : Nat) : SecEntry :=
  let o := 64 + 16 * i
  { idx := i, ty := imgLe b o 2, skip := imgLe b (o + 2) 2 % 2 = 1, flags := imgLe b (o + 2) 2,
    off := imgLe b (o + 4) 4, len := imgLe b (o + 8) 4, crc := imgLe b (o + 12) 4 }

/-- The section table. -/
def secTable (b : ImgBytes) : List SecEntry := (List.range (imgLe b 0x14 2)).map (secEntry b)

/-- The section of a type, if present. -/
def secOf (t : List SecEntry) (ty : Nat) : Option SecEntry := t.find? (fun e => e.ty == ty)

/-- Checks 1 to 7 of R77: header, identity, length, digest, signature, key hash, version. -/
def imgCheckHead (b : ImgBytes) (x : ImgCtx) : Except ImgFail Unit := do
  checkAll 1 0x01 [ (imgSlice b 0 4 == [0x50, 0x52, 0x53, 0x4D], 0x00), (imgLe b 4 2 == 1, 0x04), (imgLe b 6 2 == 64, 0x06),
    (decide (b 0x13 % 256 ≤ 1), 0x13), (decide (1 ≤ imgLe b 0x16 2 ∧ imgLe b 0x16 2 ≤ 96), 0x16), (imgZero b 0x18 8, 0x18),
    (imgLe b 0x30 4 == 64, 0x30), (imgZero b 0x34 8, 0x34), (imgLe b 0x3C 4 == crc32 (imgSlice b 0 0x3C), 0x3C) ]
  checkAll 2 0x0B [ (imgLe b 0x10 2 == 0x8120, 0x10), (decide (b 0x12 % 256 ≤ 2), 0x12) ]
  let n := imgLe b 8 4
  checkAll 3 0x01 [ (match x.len with | none => true | some l => n == l, 0x08),
    (decide (n % 16 = 0 ∧ 256 ≤ n ∧ n ≤ 6291456), 0x08) ]
  let tr := n - trailerLen b
  let digest := sha256 (imgSlice b 0 tr)
  checkAll 4 0x07 [ (imgSlice b tr 32 == digest, tr) ]
  let signed := decide (b 0x13 % 2 = 1)
  checkAll 5 0x07 [ (!x.enforced || signed, 0x13),
    (!signed || ecdsaVerify (beNat digest) (beNat (imgSlice b (tr + 32) 32)) (beNat (imgSlice b (tr + 64) 32))
        (beNat (imgSlice b (tr + 96) 32)) (beNat (imgSlice b (tr + 128) 32)), tr + 32) ]
  checkAll 6 0x07 [ (!x.enforced || sha256 (imgSlice b (tr + 96) 64) == x.keyHash, tr + 96) ]
  checkAll 7 0x0A [ (decide (x.minVersion ≤ imgLe b 0x0C 4), 0x0C) ]

/-- Pairs of neighbouring elements. -/
def neighbours {α : Type} (l : List α) : List (α × α) := l.zip (l.drop 1)

/-- Check 8: the section table under R60 and R62, padding 0, a PRESET length a multiple of 8. -/
def imgCheckTable (b : ImgBytes) : Except ImgFail Unit := do
  let n := imgLe b 8 4
  let cnt := imgLe b 0x14 2
  checkAll 8 0x01 [ (decide (3 ≤ cnt ∧ cnt ≤ 16), 0x14) ]
  let t := secTable b
  let tr := n - trailerLen b
  let tend := 64 + 16 * cnt
  checkSecs 8 0x01 (t.map (fun e =>
    (decide (e.off % 16 = 0 ∧ tend ≤ e.off ∧ e.off + e.len ≤ tr ∧ e.len % 4 = 0 ∧ 0 < e.len ∧ e.flags ≤ 1 ∧
        (e.ty = 6 → e.len % 8 = 0)), e.idx, 64 + 16 * e.idx)))
  checkSecs 8 0x01 ((neighbours t).map (fun p => (decide (p.1.off + p.1.len ≤ p.2.off), p.2.idx, 64 + 16 * p.2.idx)))
  let gaps := (neighbours ((tend, tend) :: t.map (fun e => (e.off, e.off + e.len)) ++ [(tr, tr)])).map
    (fun p => (p.1.2, p.2.1 - p.1.2))
  checkAll 8 0x01 (gaps.map (fun g => (imgZero b g.1 g.2, g.1)))

/-- Whether a type stands earlier in the table. -/
def dupType (t : List SecEntry) (e : SecEntry) : Bool := t.any (fun f => f.ty == e.ty && decide (f.idx < e.idx))

/-- Checks 9 to 11: types of R63, reserved types, section CRCs. -/
def imgCheckTypes (b : ImgBytes) : Except ImgFail Unit := do
  let t := secTable b
  checkSecs 9 0x01 (t.map (fun e => (!dupType t e && (e.ty != 7 || decide (e.len ≤ 4096)), e.idx, 64 + 16 * e.idx)))
  checkAll 9 0x01 [ ((secOf t 1).isSome && (secOf t 4).isSome && (secOf t 5).isSome, 64) ]
  checkSecs 10 0x0B (t.map (fun e => (decide (1 ≤ e.ty ∧ e.ty ≤ 7) || e.skip, e.idx, 64 + 16 * e.idx)))
  checkSecs 11 0x01 (t.map (fun e => (e.crc == crc32 (imgSlice b e.off e.len), e.idx, e.off)))

/-- The stripe record at a position of the FACET section (R64). -/
def facetStripe (b : ImgBytes) (o : Nat) : StripeCfg :=
  { comp := b (o + 1) % 256, firstCol := imgLe b (o + 4) 2, width := imgLe b (o + 6) 2,
    slots := (List.range 14).map (fun k =>
      { kind := b (o + 16 + 8 * k) % 256, lut := imgLe b (o + 18 + 8 * k) 2, pool := imgLe b (o + 20 + 8 * k) 2 }) }

/-- The LUT section's blocks with their offsets (LUT section), with fuel. -/
def lutBlocks (b : ImgBytes) : Nat → Nat → Nat → List (Nat × LutBlock × Nat × Nat)
  | 0, _, _ => []
  | f + 1, o, e =>
    if e ≤ o then []
    else
      let esz := b (o + 3) % 256
      let cnt := imgLe b (o + 4) 4
      let blk : LutBlock := LutBlock.mk (imgLe b o 2) (b (o + 2) % 256) (b (o + 8) % 2 == 1)
        ((List.range cnt).map (fun k => imgLe b (o + 16 + esz * k) esz))
      (o, blk, esz, cnt) :: lutBlocks b f ((o + 16 + esz * cnt + 15) / 16 * 16) e

/-- The pool field a slot kind may hold (R193). -/
def poolOk (c : SlotCfg) : Bool :=
  if c.kind = 6 ∨ c.kind = 7 then decide (c.pool = 1 ∨ c.pool = 2)
  else if c.kind = 9 then c.pool == 1
  else if c.kind = 10 then decide (c.pool ≤ 2)
  else c.pool == 0

/-- R66 and R193 for one stripe's chain. -/
def chainOk (s : StripeCfg) : Bool :=
  let ks := s.slots.map (fun c => c.kind)
  let cnt := fun k => (ks.filter (· == k)).length
  let afterPack := (ks.dropWhile (· != 12)).drop 1
  let between := ((ks.dropWhile (· != 10)).drop 1).takeWhile (· != 12)
  let shaped := ((ks.dropWhile (· != 9)).drop 1).takeWhile (· != 12)
  ks.headD 0 == 1 && cnt 12 == 1 && afterPack.all (· == 0) && decide (cnt 2 ≤ 1 ∧ cnt 7 ≤ 1 ∧ cnt 8 ≤ 1 ∧ cnt 9 ≤ 1) &&
  decide (cnt 3 ≤ 4 ∧ cnt 11 ≤ 2 ∧ cnt 5 ≤ 1 ∧ cnt 6 ≤ 1 ∧ cnt 10 ≤ 1) && between.all (· == 0) &&
  shaped.all (fun k => k == 0 || k == 8 || k == 10) &&
  s.slots.all (fun c => poolOk c && decide (c.kind ≤ 12) && (c.kind == 4 || c.kind == 5 || c.lut == 0xFFFF))

/-- The distinct LUT identifiers of one kind of slot in a stripe. -/
def lutIds (s : StripeCfg) (kind : Nat) : List Nat := ((s.slotsOf kind).map (fun c => c.lut)).eraseDups

/-- Check 12: FACET under R64, R65, R66 and R193, given the LUT blocks of the image. -/
def facetConds (b : ImgBytes) (e : SecEntry) (stripes : Nat) (ss : List StripeCfg) (luts : List LutBlock) : List (Bool × Nat × Nat) :=
  (decide (e.len = 128 * stripes), e.idx, e.off) ::
  (((List.range stripes).zip ss).map (fun p =>
    let o := e.off + 128 * p.1
    let s := p.2
    let prevEnd := match p.1 with
      | 0 => 0
      | k + 1 => (ss.getD k {}).firstCol + (ss.getD k {}).width
    let lutKind := fun (id kind : Nat) => luts.any (fun l => l.ident == id && l.kind == kind)
    let oneD : List Nat := (lutIds s 4).map (fun id => match luts.find? (fun l => l.ident == id) with | some l => l.entries.length | none => 0)
    (b o % 256 == p.1 && decide (1 ≤ s.comp ∧ s.comp ≤ 4) && imgZero b (o + 2) 2 && decide (16 ≤ s.width ∧ s.width ≤ 128) &&
      imgZero b (o + 8) 8 && (List.range 14).all (fun k => b (o + 17 + 8 * k) % 256 == 0 && imgZero b (o + 22 + 8 * k) 2) &&
      s.firstCol == prevEnd && chainOk s && (lutIds s 4).all (fun id => lutKind id 1) && (lutIds s 5).all (fun id => lutKind id 2) &&
      decide (oneD.sum ≤ 16384), e.idx, o))) ++
  [ (decide ((luts.filter (fun l => l.kind == 2)).length ≤ 1), e.idx, e.off) ]

/-- Whether a 1D or 3D block's counts, sizes and bits are those of R201 and R202; `comps` are the comp values of the stripes that name it. -/
def lutOk (l : LutBlock) (esz cnt : Nat) (comps : List Nat) : Bool :=
  if l.kind = 1 then
    esz == 4 && l.entries.all (fun v => decide (v < 2 ^ 18)) &&
    (if l.split then comps.all (fun c => decide (2 ≤ c) && [256, 1024, 4096].any (fun n => cnt == n * c)) &&
        (comps != [] || [256, 1024, 4096].any (fun n => [2, 3, 4].any (fun c => cnt == n * c)))
     else [256, 1024, 4096].any (fun n => cnt == n))
  else if l.kind = 2 then
    esz == 8 && cnt == 274625 && !l.split &&
    l.entries.all (fun v => bitsOf v 20 18 == 0 && bitsOf v 41 39 == 0 && decide (v < 2 ^ 60))
  else false

/-- Joined neighbours (R67): the right width of s or the left width of s + 1 is above 0. -/
def joined (ws : List WireCfg) (s : Nat) : Bool :=
  ws.any (fun w => (w.stripe == s && decide (0 < w.right)) || (w.stripe == s + 1 && decide (0 < w.left)))

/-- The highest set bit of a mask below 14, plus one. -/
def maskTop (m : Nat) : Nat := ((List.range 14).filter (fun k => m.testBit k)).foldl (fun a k => Nat.max a (k + 1)) 0

/-- The rules of R67 and R194 for a joined pair. -/
def joinOk (ws : List WireCfg) (ss : List StripeCfg) (s : Nat) : Bool :=
  if joined ws s then
    match ws.find? (fun w => w.stripe == s), ws.find? (fun w => w.stripe == s + 1) with
    | some u, some v =>
      u.right == v.left && u.mask == v.mask &&
      (List.range (maskTop u.mask)).all (fun k =>
        let a := (ss.getD s {}).slots.getD k {}
        let c := (ss.getD (s + 1) {}).slots.getD k {}
        a.kind == c.kind && a.lut == c.lut)
    | _, _ => false
  else true

/-- A stripe has at most one entry in the WIRING list before position `i`. -/
def wireDup (ws : List WireCfg) (i : Nat) : Bool := ((ws.take i).any (fun w => w.stripe == (ws.getD i {}).stripe))

/-- Check 13: WIRING under R67 and LUT under R68, with R194 and R201. -/
def wireLutConds (b : ImgBytes) (we le : Option SecEntry) (ws : List WireCfg) (ss : List StripeCfg)
    (lb : List (Nat × LutBlock × Nat × Nat)) : List (Bool × Nat × Nat) :=
  (match we with
   | none => []
   | some e =>
     (decide (e.len % 8 = 0), e.idx, e.off) ::
     ((List.range ws.length).map (fun i =>
       let w := ws.getD i {}
       let o := e.off + 8 * i
       (decide (w.stripe < ss.length ∧ w.left ≤ 8 ∧ w.right ≤ 8) && b (o + 3) % 256 == 0 && imgZero b (o + 6) 2 &&
         decide (w.mask < 2 ^ 14) && !wireDup ws i && (w.stripe != 0 || w.left == 0) && (w.stripe + 1 != ss.length || w.right == 0) &&
         joinOk ws ss w.stripe && (w.stripe == 0 || joinOk ws ss (w.stripe - 1)), e.idx, o)))) ++
  (match le with
   | none => []
   | some e =>
     (lb.map (fun p =>
       let comps := ((ss.filter (fun s => s.slots.any (fun c => (c.kind == 4 || c.kind == 5) && c.lut == p.2.1.ident))).map
         (fun s => s.comp)).eraseDups
       (lutOk p.2.1 p.2.2.1 p.2.2.2 comps && decide (p.1 + 16 + p.2.2.1 * p.2.2.2 ≤ e.off + e.len) &&
         decide (b (p.1 + 8) % 256 ≤ 1) && imgZero b (p.1 + 9) 7 &&
         !lb.any (fun r => decide (r.1 < p.1) && r.2.1.ident == p.2.1.ident), e.idx, p.1))))

/-- Whether a list holds a value before position `i`. -/
def seenBefore {α : Type} [DecidableEq α] (l : List α) (i : Nat) : Bool :=
  match l[i]? with
  | none => false
  | some v => (l.take i).contains v

/-- The class sizes of R70. -/
def classSize (c : Nat) : Nat :=
  match c with
  | 1 => 12 | 2 => 96 | 3 => 24 | 4 => 512 | 5 => 384 | 6 => 8 | 7 => 16 | 8 => 40 | 9 => 4 | 10 => 1
  | _ => 0

/-- Whether two claims cover one resource; lines 36 to 39 of class 0x08 and pins 12 to 15 of class 0x07 are the same balls (R371). -/
def claimsMeet (a c : Claim) : Bool :=
  (a.cls == c.cls && decide (a.first < c.first + c.count) && decide (c.first < a.first + a.count)) ||
  (List.range 4).any (fun j => (a.covers 7 (12 + j) && c.covers 8 (36 + j)) || (a.covers 8 (36 + j) && c.covers 7 (12 + j)))

/-- The pool fields of slots of the kinds that `p` picks, added together. -/
def poolSum (ss : List StripeCfg) (p : Nat → Bool) : Nat :=
  ((ss.flatMap (fun s => (s.slots.filter (fun c => p c.kind)).map (fun c => c.pool))).sum)

/-- Units of class 0x04 claimed under a feature. -/
def poolClaimed (cs : List Claim) (feature : Nat) : Nat :=
  (((cs.filter (fun c => c.cls == 4 && c.feature == feature)).map (fun c => c.count)).sum)

/-- The lane map of an image (LANEMAP section). -/
def parseLanes (b : ImgBytes) (o n : Nat) : List LaneEntry :=
  (List.range n).map (fun i => { lane := b (o + 17 + 4 * i) % 256, ret := b (o + 18 + 4 * i) % 256, slot := b (o + 19 + 4 * i) % 256 })

/-- The spare entries of an image. -/
def parseSpares (b : ImgBytes) (o n k : Nat) : List SpareEntry :=
  (List.range k).map (fun i => { lane := b (o + 16 + 4 * n + 16 * i) % 256, mask := imgLe b (o + 20 + 4 * n + 16 * i) 12 })

/-- The claims of an image (CLAIMS section). -/
def parseClaims (b : ImgBytes) (o : Nat) : List Claim :=
  (List.range (imgLe b o 2)).map (fun i =>
    let p := o + 16 + 8 * i
    { cls := b p % 256, feature := imgLe b (p + 2) 2, first := imgLe b (p + 4) 2, count := imgLe b (p + 6) 2 })

/-- The decoded set of an image whose checks have passed, with the PRESET entries. -/
def parseImage (b : ImgBytes) : PrismSet :=
  let t := secTable b
  let n := imgLe b 0x16 2
  let so := fun ty => match secOf t ty with | some e => e.off | none => 0
  let sl := fun ty => match secOf t ty with | some e => e.len | none => 0
  { stripes := (List.range n).map (fun i => facetStripe b (so 1 + 128 * i)),
    wires := (List.range (sl 2 / 8)).map (fun i =>
      let o := so 2 + 8 * i
      { stripe := b o % 256, left := b (o + 1) % 256, right := b (o + 2) % 256, mask := imgLe b (o + 4) 2 }),
    luts := (lutBlocks b (sl 3) (so 3) (so 3 + sl 3)).map (fun p => p.2.1),
    lanes := parseLanes b (so 4) n,
    spares := parseSpares b (so 4) n (b (so 4 + 1) % 256),
    claims := parseClaims b (so 5),
    presets := (List.range (sl 6 / 8)).map (fun i => (imgLe b (so 6 + 8 * i) 4, imgLe b (so 6 + 8 * i + 4) 4)),
    version := imgLe b 0x0C 4,
    digest := imgSlice b (imgLe b 8 4 - trailerLen b) 32 }

/-- Checks 12 to 19 of R77 over the sections. -/
def imgCheckSections (b : ImgBytes) : Except ImgFail Unit := do
  let t := secTable b
  let p := parseImage b
  let n := imgLe b 0x16 2
  let at_ := fun ty => secOf t ty
  let idx := fun ty => match secOf t ty with | some e => e.idx | none => 0xFF
  let off := fun ty => match secOf t ty with | some e => e.off | none => 0
  let len := fun ty => match secOf t ty with | some e => e.len | none => 0
  let lb := lutBlocks b (len 3) (off 3) (off 3 + len 3)
  match at_ 1 with
  | none => pure ()
  | some e => checkSecs 12 0x01 (facetConds b e n p.stripes p.luts)
  checkSecs 13 0x01 (wireLutConds b (at_ 2) (at_ 3) p.wires p.stripes lb)
  let lo := off 4
  let spareCnt := b (lo + 1) % 256
  checkSecs 14 0x01 ([ (b lo % 256 == n && decide (spareCnt ≤ 4) && imgZero b (lo + 2) 14 && len 4 == 16 + 4 * n + 16 * spareCnt, idx 4, lo) ] ++
    ((List.range n).map (fun i =>
      let e := p.lanes.getD i {}
      (b (lo + 16 + 4 * i) % 256 == i && decide (e.lane < 96 ∧ e.ret < 24 ∧ e.slot < 4), idx 4, lo + 16 + 4 * i))) ++
    ((List.range spareCnt).map (fun i =>
      let e := p.spares.getD i {}
      let o := lo + 16 + 4 * n + 16 * i
      (decide (e.lane < 96) && imgZero b (o + 1) 3 && decide (0 < e.mask ∧ e.mask < 2 ^ n), idx 4, o))))
  let allLanes := p.lanes.map (fun e => e.lane) ++ p.spares.map (fun e => e.lane)
  let rets := p.lanes.map (fun e => (e.ret, e.slot))
  checkSecs 15 0x06 (((List.range n).map (fun i => (!seenBefore allLanes i && !seenBefore rets i, idx 4, lo + 16 + 4 * i))) ++
    ((List.range spareCnt).map (fun i => (!seenBefore allLanes (n + i), idx 4, lo + 16 + 4 * n + 16 * i))))
  let co := off 5
  checkSecs 16 0x01 ([ (len 5 == 16 + 8 * imgLe b co 2 && imgZero b (co + 2) 14, idx 5, co) ] ++
    ((List.range p.claims.length).map (fun i =>
      let c := p.claims.getD i {}
      (decide (1 ≤ c.cls ∧ c.cls ≤ 10) && b (co + 17 + 8 * i) % 256 == 0 && decide (1 ≤ c.feature ∧ c.feature ≤ 11) &&
        decide (1 ≤ c.count ∧ c.first + c.count ≤ classSize c.cls), idx 5, co + 16 + 8 * i))))
  checkSecs 17 0x06 ((List.range p.claims.length).map (fun i =>
      (!(p.claims.take i).any (fun a => claimsMeet a (p.claims.getD i {})), idx 5, co + 16 + 8 * i)))
  let cover := fun cls i => (p.claimOf cls i).isSome
  checkSecs 18 0x01 (((List.range n).map (fun s => (cover 1 (s / 8), idx 1, off 1 + 128 * s))) ++
    ((List.range n).map (fun i =>
      let e := p.lanes.getD i {}
      (cover 2 e.lane && cover 3 e.ret, idx 4, lo + 16 + 4 * i))) ++
    ((List.range spareCnt).map (fun i =>
      ((p.claimOf 2 (p.spares.getD i {}).lane).any (fun c => c.feature == 0x0B), idx 4, lo + 16 + 4 * n + 16 * i))))
  checkSecs 19 0x09 [ (decide (poolSum p.stripes (· == 9) ≤ poolClaimed p.claims 2), idx 1, off 1),
    (decide (poolSum p.stripes (· == 7) ≤ poolClaimed p.claims 3), idx 1, off 1),
    (decide (poolSum p.stripes (fun k => k != 9 && k != 7) ≤ poolClaimed p.claims 1), idx 1, off 1) ]

/-- Checks 1 to 19 of R77, in order. -/
def imgCheck19 (b : ImgBytes) (x : ImgCtx) : Except ImgFail Unit := do
  imgCheckHead b x
  imgCheckTable b
  imgCheckTypes b
  imgCheckSections b

end Sys2Proof.Machine
end

