-- ==== Sys2Proof/Machine/Claims.lean ====
section
/-! DEFINITION. Ownership of shared resources (R96): the active image, run-time claimants, the pending set. -/

namespace Sys2Proof.Machine

/-- Status-glass lines 36 to 39 are GPIO12 to GPIO15 (R371, R70). -/
def canonRes (cls idx : Nat) : Nat × Nat := if cls = 8 ∧ 36 ≤ idx then (7, idx - 24) else (cls, idx)

/-- The claim of a set on a resource, under either of its names. -/
def PrismSet.claimOn (p : PrismSet) (cls idx : Nat) : Option Claim :=
  let r := canonRes cls idx
  match p.claimOf r.1 r.2 with
  | some k => some k
  | none => if r.1 = 7 ∧ 12 ≤ r.2 then p.claimOf 8 (r.2 + 24) else none

/-- An owner as FAB_OWN_RESULT reports it: holder 1 the active image, 2 a run-time claimant, 3 the pending set. -/
structure Owner where
  holder : Nat
  feature : Nat
  master : Nat
deriving DecidableEq, Repr

/-- The run-time claim on a resource. -/
def Device.runClaim (d : Device) (cls idx : Nat) : Option RunClaim :=
  let r := canonRes cls idx
  d.claims.find? (fun c => decide (canonRes c.cls c.idx = r))

/-- The owner of a resource (R96). -/
def Device.owner (d : Device) (cls idx : Nat) : Option Owner :=
  match d.act.claimOn cls idx with
  | some k => some ⟨1, k.feature, 0⟩
  | none => match d.runClaim cls idx with
    | some c => some ⟨2, c.feature, c.master⟩
    | none =>
      if d.get FAB_SWAP_STAT_pending = 1 then (d.mir.claimOn cls idx).map (fun k => ⟨3, k.feature, 0⟩) else none

/-- FAB_OWN_RESULT for a query word. -/
def Device.ownResult (d : Device) (q : Nat) : Nat :=
  match d.owner (bitsOf q 23 16) (bitsOf q 9 0) with
  | none => 0
  | some o => o.holder * 0x40000000 + o.master * 0x1000000 + o.feature

/-- Make a run-time claim. -/
def Device.claim (d : Device) (feature cls idx master : Nat) : Device :=
  { d with claims := d.claims ++ [{ feature := feature, cls := cls, idx := idx, master := master }] }

/-- Release the run-time claims of a feature that satisfy `p`. -/
def Device.unclaim (d : Device) (feature : Nat) (p : RunClaim → Bool) : Device :=
  { d with claims := d.claims.filter (fun c => !(c.feature == feature && p c)) }

/-- The image serves a feature's resource: no run-time claim is made then (R288, R494, R528). -/
def Device.imageServes (d : Device) (feature cls idx : Nat) : Bool :=
  match d.act.claimOn cls idx with
  | some k => k.feature == feature
  | none => false

/-- A swap's incoming set claims what a run-time claimant holds (check 7 of R86). -/
def Device.claimClash (d : Device) (p : PrismSet) : Bool := d.claims.any (fun c => (p.claimOn c.cls c.idx).isSome)

end Sys2Proof.Machine
end

