-- ==== Sys2Proof/Machine/Mbx.lean ====
section
/-! DEFINITION. Mailboxes, doorbells and lock registers (R450 to R464). -/

namespace Sys2Proof.Machine

/-! ## Channels (R450, R451) -/

/-- A queue of a channel: `ab` names the direction A to B. -/
def qKey (c : Nat) (ab : Bool) : Nat := 2 * c + b2n (!ab)

/-- The words of a queue, oldest first. -/
def Device.mbQueue (d : Device) (c : Nat) (ab : Bool) : List Word := Sparse.get (fun _ => []) d.mbx.queues (qKey c ab)

/-- MB_STAT follows the queues (R454). -/
def Device.mbSync (d : Device) (c : Nat) : Device :=
  let a := (d.mbQueue c true).length
  let b := (d.mbQueue c false).length
  (((d.put (MB_STAT_cnt_ab c) a).put (MB_STAT_full_ab c) (b2n (8 ≤ a))).put (MB_STAT_cnt_ba c) b).put (MB_STAT_full_ba c) (b2n (8 ≤ b))

/-- Set a queue. -/
def Device.mbPut (d : Device) (c : Nat) (ab : Bool) (q : List Word) : Device :=
  ({ d with mbx := { d.mbx with queues := Sparse.set (fun _ => []) d.mbx.queues (qKey c ab) q } }).mbSync c

/-- Let the acknowledgement timer of a queue run afresh. -/
def Device.ackRestart (d : Device) (c : Nat) (ab : Bool) : Device :=
  { d with mbx := { d.mbx with ackStopped := d.mbx.ackStopped.filter (fun k => k != qKey c ab) } }

/-- Empty both queues of a channel. -/
def Device.mbEmpty (d : Device) (c : Nat) : Device :=
  ((((d.mbPut c true []).mbPut c false []).ackRestart c true).ackRestart c false).put (MB_STAT_xwait c) 0

/-- Bind a channel: its word is written, its queues are emptied, its MB_EVT is cleared. -/
def Device.mbBind (d : Device) (c v : Nat) : Device := ((d.wr (MB_CHAN c) v).mbEmpty c).wr (MB_EVT c) 0

/-- A binding that R450 refuses with E_RANGE: a reserved bit, or an enabled one with bad ends or doorbells. -/
def chanBad (v : Nat) : Bool :=
  v &&& 0x60E0F0F0 ≠ 0 ||
  (v.testBit 31 && (bitsOf v 3 0 = bitsOf v 11 8 || 9 < bitsOf v 3 0 || 9 < bitsOf v 11 8 ||
    bitsOf v 20 16 = 31 || bitsOf v 28 24 = 31))

/-- CHANNEL_BIND (R450); channels 16 to 63 are not written before IK0 has written the table at firmware start (R451). -/
def execChannelBind (m : Master) (c : Fin 64) (val : Nat) (s : State) : Out :=
  s.run (fun d =>
    let v := val % 2 ^ 32
    d.guarded m (MB_CHAN c)
      [(if c.val < 16 then m.val ≠ 2 else m.val ≠ 0 && m.val ≠ 2, ePerm), (d.get MBX_CFG_lock = 1, eLocked),
       (d.mode ≠ 1 || (m.val ≠ 2 && !(d.rd GLB_BOOT_STEPS).testBit 6), eState), (chanBad v, eRange)]
      (fun d => d.mbBind c v))

/-- CHANNEL_TABLE_LOCK (R451). -/
def execChannelTableLock (m : Master) (s : State) : Out :=
  s.run (fun d => d.guarded m MBX_CFG [(!among m 5, ePerm)] (fun d => d.put MBX_CFG_lock 1))

/-- The Walern channel table: MB0 to MB9 (R466). -/
def walernTable : List Nat :=
  let bind (a dbA b dbB : Nat) := 0x80000000 + dbB * 0x1000000 + dbA * 0x10000 + b * 0x100 + a
  [bind 0 0 2 0, bind 0 1 3 0, bind 0 2 4 0, bind 0 3 5 0, bind 0 4 6 0, bind 1 0 2 1,
   bind 2 2 3 1, bind 2 3 4 1, bind 2 4 5 1, bind 2 5 6 1] ++ List.replicate 6 0

/-- What IK0 writes at firmware start: the Walern table, then record 10 for channels 16 to 63 (R451, R466). A binding of the record that R450 refuses leaves its channel disabled. -/
def Device.channelTable (d : Device) : Device :=
  let d := eachOf (List.range 16) (fun c d => d.mbBind c (walernTable.getD c 0)) d
  match d.recBody 10 with
  | none => d
  | some b => eachOf (List.range 48) (fun i d =>
      let v := leNat ((b.drop (4 * i)).take 4)
      d.mbBind (16 + i) (if chanBad v then 0 else v)) d

/-! ## Sending and receiving (R452-R456) -/

/-- The end of a channel that master `m` is: true for A. A master at both ends of an unbound word counts as A. -/
def Device.mbEnd (d : Device) (c m : Nat) : Option Bool :=
  if d.get (MB_CHAN_a c) = m then some true else if d.get (MB_CHAN_b c) = m then some false else none

/-- Append a word and ring the receiver's doorbell (R453). -/
def Device.mbPush (d : Device) (c : Nat) (ab : Bool) (w : Nat) : Device :=
  let q := d.mbQueue c ab
  let d := if q.isEmpty then d.ackRestart c ab else d
  let d := d.mbPut c ab (q ++ [Word.of w])
  if ab then d.ring (d.get (MB_CHAN_b c)) (d.get (MB_CHAN_db_b c)) else d.ring (d.get (MB_CHAN_a c)) (d.get (MB_CHAN_db_a c))

/-- A write of MB_TX. -/
def Device.mbSend (d : Device) (m c val : Nat) : Device :=
  let e := d.mbEnd c m
  d.guarded m (MB_TX c)
    [(e.isNone, ePerm), (d.get (MB_CHAN_en c) = 0, eState), (decide (8 ≤ (d.mbQueue c (e.getD true)).length), eFull)]
    (fun d => d.mbPush c (e.getD true) (val % 2 ^ 32))

/-- A read of MB_RX: what stops it. -/
def Device.mbRecvFail (d : Device) (m c : Nat) : Option Nat :=
  let e := d.mbEnd c m
  firstFail [(e.isNone, ePerm), (d.get (MB_CHAN_en c) = 0 || (d.mbQueue c (!(e.getD true))).isEmpty, eState)]

/-- The oldest word is removed: the timers of the queue and of the channel restart (R455, R456). -/
def Device.mbPop (d : Device) (c : Nat) (ab : Bool) : Device :=
  ((d.mbPut c ab ((d.mbQueue c ab).drop 1)).ackRestart c ab).put (MB_STAT_xwait c) 0

/-- A read of MB_RX. -/
def Device.mbRecv (d : Device) (m c : Nat) : Device :=
  if !d.power.coreOn then d else
    match d.mbRecvFail m c with
    | some e => (d.reply m 0).reject m (MB_RX c) e
    | none =>
      let ab := !((d.mbEnd c m).getD true)
      (d.reply m ((d.mbQueue c ab).headD 0).toNat).mbPop c ab

/-- MAILBOX_SEND. -/
def execMailboxSend (m : Master) (c : Fin 64) (val : Nat) (s : State) : Out := s.run (fun d => d.mbSend m c val)

/-- MAILBOX_RECEIVE. -/
def execMailboxReceive (m : Master) (c : Fin 64) (s : State) : Out := s.run (fun d => d.mbRecv m c)

/-- MAILBOX_ACK_TIMEOUT; `tie`: a read of the queue came in the cycle of the expiry (R455). -/
def execMailboxAckTimeout (c : Fin 64) (ab tie : Bool) (s : State) : Out :=
  s.run (fun d =>
    if !d.power.coreOn || (d.mbQueue c ab).isEmpty || d.get MB_ACK_TIME_t = 0 || d.mbx.ackStopped.contains (qKey c ab) then d
    else if tie then d.put (if ab then MB_EVT_late_ab c else MB_EVT_late_ba c) 1
    else
      let d := d.put (if ab then MB_EVT_ack_ab c else MB_EVT_ack_ba c) 1
      let d := if ab then d.ring (d.get (MB_CHAN_a c)) (d.get (MB_CHAN_db_a c)) else d.ring (d.get (MB_CHAN_b c)) (d.get (MB_CHAN_db_b c))
      { d with mbx := { d.mbx with ackStopped := d.mbx.ackStopped ++ [qKey c ab] } })

/-- MAILBOX_XWAIT; `tie`: a read of either queue came in the cycle of the expiry (R456). -/
def execMailboxXwait (c : Fin 64) (tie : Bool) (s : State) : Out :=
  s.run (fun d =>
    if !d.power.coreOn || (d.mbQueue c true).isEmpty || (d.mbQueue c false).isEmpty || d.get (MB_STAT_xwait c) = 1 then d
    else if tie then d.put (MB_EVT_late_x c) 1
    else ((((d.put (MB_STAT_xwait c) 1).put (MB_EVT_xwait c) 1).ring (d.get (MB_CHAN_a c)) 31).ring (d.get (MB_CHAN_b c)) 31))

/-! ## Doorbells (R459-R461) -/

/-- A write of MBX_DB_RING. -/
def Device.dbRing (d : Device) (m val : Nat) : Device :=
  d.guarded m MBX_DB_RING
    [(!among m 0x43FF, ePerm), (val &&& 0xFFFFF0E0 ≠ 0 || 9 < bitsOf val 11 8 || bitsOf val 4 0 = 31, eRange)]
    (fun d => d.ring (bitsOf val 11 8) (bitsOf val 4 0))

/-- DOORBELL_RING. -/
def execDoorbellRing (m : Master) (val : Nat) (s : State) : Out := s.run (fun d => d.dbRing m (val % 2 ^ 32))

/-- Unmasked doorbell bits of a master (R460). -/
def Device.dbPending (d : Device) (m : Nat) : Nat := maskOut 32 (d.rd (MBX_DB_STAT m)) (d.rd (MBX_DB_MASK m))

/-! ## Locks (R462-R464) -/

/-- What lock `n` holds: 0, or its owner plus 1. -/
def Device.lockVal (d : Device) (n : Nat) : Nat := d.get (MBX_LOCK_owner n)

/-- Set a lock; MBX_LOCK_PEEK shows the same value. -/
def Device.lockPut (d : Device) (n v : Nat) : Device := (d.wr (MBX_LOCK n) v).wr (MBX_LOCK_PEEK n) v

/-- The winner among masters whose reads of a free lock meet (R463): any but the winner of the last tie, by a free choice. -/
def Device.lockWinner (d : Device) (n : Nat) (ms : List Nat) : Nat :=
  let last := Sparse.get (fun _ => 0) d.mbx.lastWin n
  let open' := ms.filter (fun m => m + 1 ≠ last)
  open'.getD (Config.freeNat d.free (open'.length - 1) % open'.length) (ms.headD 0)

/-- Acquiring reads of lock `n` that reach the semaphore block together. -/
def Device.lockRead (d : Device) (n : Nat) (ms : List Nat) : Device :=
  if !d.power.coreOn then d else
    let barred := ms.filter (fun m => decide (9 < m))
    let d := eachOf barred (fun m d => (d.reply m 0).reject m (MBX_LOCK n) ePerm) d
    let ms := (ms.filter (fun m => decide (m ≤ 9))).eraseDups
    let v := d.lockVal n
    match ms with
    | [] => d
    | [m] => if v = 0 then (d.reply m 0).lockPut n (m + 1) else d.reply m v
    | _ =>
      if v ≠ 0 then eachOf ms (fun m d => d.reply m v) d
      else
        let w := d.lockWinner n ms
        let d := eachOf ms (fun m d => d.reply m (if m = w then 0 else w + 1)) d.drawn
        let d : Device := { d with mbx := { d.mbx with lastWin := Sparse.put d.mbx.lastWin n (w + 1) } }
        (d.lockPut n (w + 1)).bump MBX_LOCK_EVT_ties

/-- LOCK_ACQUIRE_READ: `m` reads, and the masters of `tied` read in the same cycle. -/
def execLockAcquireRead (m : Master) (n : Fin 128) (tied : List Master) (s : State) : Out :=
  s.run (fun d => d.lockRead n (m.val :: tied.map (fun t => t.val)))

/-- A write of MBX_LOCK. -/
def Device.lockWrite (d : Device) (m n val : Nat) : Device :=
  let v := d.lockVal n
  d.guarded m (MBX_LOCK n)
    [(9 < m || (v ≠ 0 && v ≠ m + 1 && val = 0), ePerm), (v = 0 && val = 0, eState), (val ≠ 0, eRange)]
    (fun d => d.lockPut n 0)

/-- LOCK_RELEASE. -/
def execLockRelease (m : Master) (n : Fin 128) (val : Nat) (s : State) : Out := s.run (fun d => d.lockWrite m n (val % 2 ^ 32))

/-- Release a held lock by force, and count it (R464). -/
def Device.lockForce (d : Device) (n : Nat) : Device :=
  if d.lockVal n = 0 then d else (d.lockPut n 0).bump MBX_LOCK_EVT_forced

/-- A write of MBX_LOCK_CLR. -/
def Device.lockClear (d : Device) (m val : Nat) : Device :=
  d.guarded m MBX_LOCK_CLR [(!among m 0x45, ePerm), (128 ≤ val, eRange)] (fun d => d.lockForce val)

/-- LOCK_FORCE_CLEAR. -/
def execLockForceClear (m : Master) (val : Nat) (s : State) : Out := s.run (fun d => d.lockClear m (val % 2 ^ 32))

/-- Release every lock that master `m` holds, each counted as forced (R447, R478). -/
def Device.locksDrop (d : Device) (m : Nat) : Device :=
  eachOf (List.range 128) (fun n d => if d.lockVal n = m + 1 then d.lockForce n else d) d

end Sys2Proof.Machine
end

