-- ==== Sys2Proof/Machine/Flash.lean ====
section
/-! DEFINITION. The flash device behind the xSPI controller, and what of it is in use (R488 to R490). -/

namespace Sys2Proof.Machine

/-- A flash byte that nothing has programmed reads 0xFF. -/
def flashDef (_ : Nat) : Byte := 0xFF

/-- A byte of the flash. -/
def Device.flashRd (d : Device) (a : Nat) : Nat := (Sparse.get flashDef d.hif.flash a).toNat

/-- `n` bytes of the flash: one pass over the listed bytes. -/
def Device.flashBytes (d : Device) (a n : Nat) : List Nat :=
  let near := d.hif.flash.filter (fun c => decide (a ≤ c.1 ∧ c.1 < a + n))
  (List.range n).map (fun i => (Sparse.get flashDef near (a + i)).toNat)

/-- Program bytes: a program clears bits and sets none. -/
def Device.flashProgram (d : Device) (a : Nat) (bs : List Nat) : Device :=
  let old := d.flashBytes a bs.length
  let new := (List.range bs.length).map (fun i => Byte.of (old.getD i 0 &&& bs.getD i 0))
  { d with hif := { d.hif with flash := Sparse.splice flashDef d.hif.flash a new } }

/-- Erase `n` bytes from `a`. -/
def Device.flashErase (d : Device) (a n : Nat) : Device :=
  { d with hif := { d.hif with flash := d.hif.flash.filter (fun c => !(decide (a ≤ c.1 ∧ c.1 < a + n))) } }

/-- Bytes that a cut-off program or erase leaves in an unstated state. -/
def Device.flashSpoil (d : Device) (a n : Nat) : Device :=
  let vs := (List.range n).map (fun i => Config.freeByte d.free (a + i))
  ({ d with hif := { d.hif with flash := Sparse.splice flashDef d.hif.flash a vs } }).drawn

/-- Two ranges of bytes overlap. -/
def meets (a n b k : Nat) : Bool := decide (a < b + k) && decide (b < a + n)

/-- A word of the boot record in Keep; 0 when the record is absent. -/
def Device.bootWord (d : Device) (at' : Nat) : Nat :=
  match d.recBody 0 with
  | some b => leNat ((b.drop at').take 4)
  | none => 0

/-- The flash addresses of the boot slot and the Prism slot in use (GLB_BOOT_STAT; boot record of R421). -/
def Device.bootSlotAddr (d : Device) : Nat := d.bootWord (4 + 4 * d.get GLB_BOOT_STAT_boot_slot)
def Device.prismSlotAddr (d : Device) : Nat := d.bootWord (12 + 4 * d.get GLB_BOOT_STAT_prism_slot)

/-- One entry of the map index (R272). -/
structure MapEntry where
  addr : Nat
  length : Nat
  version : Nat
  crc : Nat
  width : Nat
  height : Nat
  valid : Bool
deriving DecidableEq, Repr

/-- Entry `t` of the map index, if the index is present. -/
def Device.mapEntry (d : Device) (t : Nat) : Option MapEntry :=
  (d.recBody 2).map (fun b =>
    let e := (b.drop (16 + 32 * t)).take 32
    let w (at' n : Nat) := leNat ((e.drop at').take n)
    ⟨w 0 4, w 4 4, w 8 4, w 12 4, w 16 2, w 18 2, (w 20 4).testBit 0⟩)

/-- A write or an erase of the range meets what check 4 of R489 protects. -/
def Device.flashInUse (d : Device) (a n : Nat) : Bool :=
  meets a n d.bootSlotAddr 0x100000 || meets a n d.prismSlotAddr 0x600000 ||
  (List.range 4).any (fun t => match d.mapEntry t with
    | some e => e.valid && meets a n e.addr e.length
    | none => false)

end Sys2Proof.Machine
end

