-- ==== Sys2Proof/Machine/KeepCmds.lean ====
section
/-! DEFINITION. The commands of Keep (spec/14_keep.md): stores, passwords, words, records, counters, log and clock. -/

namespace Sys2Proof.Machine

/-- Masters of R414 that may read Keep: 0 to 9 and 14. -/
abbrev mKeepRead : Nat := 0x43FF

/-- Masters 0 and 2 to 9, which may command a store (R433). -/
abbrev mKeepStore : Nat := 0x3FD

/-- Masters 0, 2 and 7 to 9, which may change passwords and regions (R417, R418). -/
abbrev mKeepOwner : Nat := 0x385

/-! ## Stores (R406-R409) -/

/-- KEEP_STORE_CMD: KEEP_CMD op 1. -/
def execKeepStoreCmd (m : Master) (s : State) : Out :=
  s.run (fun d => d.hvGuarded m KEEP_CMD
    [(!among m mKeepStore, ePerm), (d.kClosed, eState), (d.keep.store.isSome, eBusy)] (fun d => d.kStart 0))

/-- KEEP_AUTO_STORE: the timer of KEEP_CTRL.auto; it waits for a running store (R406, R409). -/
def execKeepAutoStore (s : State) : Out :=
  s.run (fun d =>
    if d.power.coreOn && d.modeIn 0x3E && !d.kClosed && d.get KEEP_CTRL_auto ≠ 0 && d.keep.dirty ≠ 0 then
      if d.keep.store.isSome then { d with keep := { d.keep with waitAuto := true } } else d.kStart 0
    else d)

/-- KEEP_SNAPSHOT (R407). -/
def execKeepSnapshot (s : State) : Out := s.run (fun d => d.kSnapshot)

/-- KEEP_STORE_COMPLETE; `tie`: in the cycle in which its 10 ms expire (R409). -/
def execKeepStoreComplete (tie : Bool) (s : State) : Out :=
  s.run (fun d =>
    match d.keep.store with
    | some st =>
      if st.snapped then
        let d := d.kComplete
        let d := if tie then (d.put KEEP_LATE_store 1).put KEEP_IRQ_late 1 else d
        d.afterStore
      else d
    | none => d)

/-- KEEP_STORE_TIMEOUT (R409). -/
def execKeepStoreTimeout (s : State) : Out :=
  s.run (fun d =>
    match d.keep.store with
    | some st =>
      if st.snapped then
        let d := (d.kFail).logEntry 0x74 0 6 1 []
        (d.raiseCode 0x74 0).afterStore
      else d
    | none => d)

/-! ## Passwords and regions (R415-R418) -/

/-- The words entered so far by master `m`. -/
def Device.pwWords (d : Device) (m : Nat) : List Nat := Sparse.get (fun _ => []) d.keep.pwLatch m

/-- Set the words entered by master `m`. -/
def Device.setPwWords (d : Device) (m : Nat) (l : List Nat) : Device :=
  { d with keep := { d.keep with pwLatch := Sparse.set (fun _ => []) d.keep.pwLatch m l } }

/-- The password that a latch spells, word 0 in bits [15:0]. -/
def pwValue (l : List Nat) : Nat := (l.reverse).foldl (fun acc w => acc * 65536 + w) 0

/-- The latch is complete. -/
def Device.pwReady (d : Device) (m : Nat) : Bool := (d.pwWords m).length == 4

/-- Within 1 s of the master's last failed comparison (R416). -/
def Device.pwHeld (d : Device) (m : Nat) : Bool :=
  let t := Sparse.get (fun _ => 0) d.keep.pwFailUs m
  t != 0 && decide (d.us < t - 1 + 1000000)

/-- Checks of every KEEP_CMD op but 1 and 4 (R433). -/
def Device.keepCmdChecks (d : Device) (m : Nat) : List (Bool × Nat) := [(!among m mKeepRead, ePerm), (d.kClosed, eState)]

/-- Set or clear master `m`'s unlock of region `j`. -/
def Device.setUnlock (d : Device) (m j : Nat) (b : Bool) : Device := d.wrB m KEEP_AUTH (putBit (d.rdB m KEEP_AUTH) j b)

/-- KEEP_UNLOCK: KEEP_CMD op 2 (R416). -/
def execKeepUnlock (m : Master) (j : Fin 16) (s : State) : Out :=
  s.run (fun d => d.hvGuarded m KEEP_CMD
    (d.keepCmdChecks m ++ [(d.pwHeld m, eBusy), (!d.pwReady m, eSeq)]) (fun d =>
      let p := pwValue (d.pwWords m)
      let d := d.setPwWords m []
      if d.kPw j = 0 ∨ d.kPw j = p then d.setUnlock m j true
      else
        let d : Device := { d with keep := { d.keep with pwFailUs := Sparse.set (fun _ => 0) d.keep.pwFailUs m (d.us + 1) } }
        (d.ctrAdd 7 1).reject m KEEP_CMD eAuth))

/-- KEEP_LOCK: KEEP_CMD op 3. -/
def execKeepLock (m : Master) (j : Fin 16) (s : State) : Out :=
  s.run (fun d => d.hvGuarded m KEEP_CMD (d.keepCmdChecks m) (fun d => d.setUnlock m j false))

/-- KEEP_LOCK_ALL: KEEP_CMD op 5. -/
def execKeepLockAll (m : Master) (s : State) : Out :=
  s.run (fun d => d.hvGuarded m KEEP_CMD (d.keepCmdChecks m) (fun d => d.wrB m KEEP_AUTH 0))

/-- KEEP_STAGE_RELEASE: KEEP_CMD op 6; it acts on the stage only when the master owns it. -/
def execKeepStageRelease (m : Master) (s : State) : Out :=
  s.run (fun d => d.hvGuarded m KEEP_CMD (d.keepCmdChecks m) (fun d =>
    if d.keep.stageOwner = some m.val then { d with keep := { d.keep with stageOwner := none } } else d))

/-- Commit the password record and start its store, or let it wait (R409, R418). -/
def Device.pwCommit (d : Device) : Device :=
  let r : PwRecord := { pw := (List.range 16).map d.kPw, rgn := (List.range 16).map (fun j => d.rd (KEEP_RGN j)) }
  let d : Device := { d with keep := { d.keep with pwVol := some r } }
  let d := d.kDirty 418
  if d.keep.store.isSome then { d with keep := { d.keep with waitPw := true } } else d.kStart 0

/-- The master is authorised to change region `j` (R417). -/
def Device.pwAuthorised (d : Device) (m j : Nat) : Bool := d.kPw j == 0 || d.kUnlocked m j

/-- KEEP_SET_PASSWORD: KEEP_CMD op 4 (R417, R418). -/
def execKeepSetPassword (m : Master) (j : Fin 16) (s : State) : Out :=
  s.run (fun d => d.hvGuarded m KEEP_CMD
    [(!among m mKeepOwner, ePerm), (!d.pwAuthorised m j, eAuth), (d.kClosed, eState), (!d.pwReady m, eSeq)] (fun d =>
      let p := pwValue (d.pwWords m)
      let d : Device := { d with keep := { d.keep with pw := Sparse.set (fun _ => 0) d.keep.pw j p } }
      (d.put (KEEP_RGN_pw j) (b2n (p ≠ 0))).pwCommit))

/-- KEEP_PASSWORD_WORD: the next word with its index, or E_SEQ and an empty latch (R416). -/
def execKeepPasswordWord (m : Master) (val : Nat) (s : State) : Out :=
  s.run (fun d => d.hvGuarded m KEEP_PW
    [(!among m mKeepRead, ePerm), (bitsOf val 31 18 ≠ 0, eRange)] (fun d =>
      let l := if d.pwReady m then [] else d.pwWords m
      if bitsOf val 17 16 = l.length then d.setPwWords m (l ++ [bitsOf val 15 0])
      else (d.setPwWords m []).reject m KEEP_PW eSeq))

/-- Two page ranges overlap. -/
def rangesMeet (a n b k : Nat) : Bool := decide (n ≠ 0 ∧ k ≠ 0 ∧ a < b + k ∧ b < a + n)

/-- KEEP_REGION_WRITE (R418, R419, R433). -/
def execKeepRegionWrite (m : Master) (j : Fin 16) (val : Nat) (s : State) : Out :=
  s.run (fun d =>
    let off := KEEP_RGN j
    let first := bitsOf val 9 0
    let count := bitsOf val 25 16
    let old := d.rd off
    let fixed : Bool := decide (j.val < 8) && (bitsOf old 9 0 ≠ first || bitsOf old 25 16 ≠ count)
    let reserved : Bool := bitsOf val 28 26 ≠ 0 || bitsOf val 15 10 ≠ 0
    let outside : Bool := decide (8 ≤ j.val) && decide (count ≠ 0) && decide (first < 512 ∨ 1024 < first + count)
    let meets : Bool := decide (8 ≤ j.val) && (List.range 16).any (fun i => i != j.val &&
      rangesMeet first count (d.get (KEEP_RGN_first i)) (d.get (KEEP_RGN_count i)))
    d.hvGuarded m off
      [(!among m mKeepOwner || fixed || bitsOf old 29 29 ≠ bitsOf val 29 29, ePerm), (!d.pwAuthorised m j || d.kRegShut m, eAuth),
       (d.kClosed, eState), (reserved || outside, eRange), (meets, eConflict)] (fun d => (d.wr off val).pwCommit))

/-! ## Words (R413-R415) -/

/-- What stops an access of master `m` to the word at its pointer, in the order of R14. -/
def Device.keepWordChecks (d : Device) (m : Nat) (write : Bool) : List (Bool × Nat) :=
  let p := d.rdB m KEEP_PTR
  let page := p / 256
  let rgn := d.kRegion page
  let shut := match rgn with
    | some j => if write then d.kWriteShut m j else d.kReadShut m j
    | none => false
  [(!among m mKeepRead, ePerm),
   (write && (if page < 128 then !among m mWalern else page < 512 || 9 < m), ePerm),
   (shut, eAuth),
   (d.keep.recalling || (write && d.keep.frozen) || (decide (512 ≤ page ∧ page < 1024) && rgn.isNone), eState),
   (decide (1024 ≤ page), eRange)]

/-- The pointer after an access that succeeded (R413). -/
def keepAdvance (p : Nat) : Nat := p + 4

/-- The Keep address a rejected access reports (R479): with KEEP_PTR.end set the pointer stands on the last word (R413). -/
def keepErrAddr (p : Nat) : Nat := if p < 0x40000 then p else 0x3FFFC

/-- KEEP_DATA_READ (R413, R414): pages 418 to 511 read 0. -/
def execKeepDataRead (m : Master) (s : State) : Out :=
  s.run (fun d =>
    if !d.power.coreOn then d else if d.bridge.lost then (d.reply m 0xFFFFFFFF).reject m KEEP_DATA eState else
      let p := d.rdB m KEEP_PTR
      match firstFail (d.keepWordChecks m false) with
      | some c => (d.reply m 0).rejectAt m 2 (keepErrAddr p) c
      | none =>
        let v := if 418 ≤ p / 256 ∧ p / 256 < 512 then 0 else leNat (d.kBytes p 4)
        (d.reply m v).wrB m KEEP_PTR (keepAdvance p))

/-- KEEP_DATA_WRITE (R413, R414). -/
def execKeepDataWrite (m : Master) (val : Nat) (s : State) : Out :=
  s.run (fun d =>
    if !d.power.coreOn then d else if d.bridge.lost then d.reject m KEEP_DATA eState else
      let p := d.rdB m KEEP_PTR
      match firstFail (d.keepWordChecks m true) with
      | some c => d.rejectAt m 2 (keepErrAddr p) c
      | none => (d.kWr p (leBytes 4 (val % 2 ^ 32))).wrB m KEEP_PTR (keepAdvance p))

/-! ## Records (R420-R425) -/

/-- The first `n` bytes of KEEP_STAGE. -/
def Device.stageBytes (d : Device) (n : Nat) : List Nat :=
  ((List.range ((n + 3) / 4)).flatMap (fun i => leBytes 4 (d.rd (KEEP_STAGE i)))).take n

/-- Place a body into KEEP_STAGE; a last word that the body fills in part keeps its other bytes. -/
def Device.stagePut (d : Device) (b : List Nat) : Device :=
  eachOf (List.range ((b.length + 3) / 4)) (fun i d =>
    let old := leBytes 4 (d.rd (KEEP_STAGE i))
    let new := (List.range 4).map (fun k => (b[4 * i + k]?).getD (old.getD k 0))
    d.wr (KEEP_STAGE i) (leNat new)) d

/-- A master may commit an identity (R422); an identity that is not listed is left to the range check. -/
def Device.mayCommit (d : Device) (m id : Nat) : Bool :=
  if id = 0 then m = 2 || (m = 0 && (d.recBody 0).isNone)
  else if id = 2 then m = 0 || among m mWalern || m = 12
  else if id = 3 then among m mWalern || m = 12
  else if id = 8 then m = 2
  else if id = 255 then decide (m < 10)
  else if id < 32 then among m mWalern
  else decide (m < 10 ∨ m = 12)

/-- Every page of a copy lies in one of regions 8 to 15. -/
def Device.pagesFree (d : Device) (page n : Nat) : Bool :=
  (List.range n).all (fun i => match d.kRegion (page + i) with
    | some j => decide (8 ≤ j)
    | none => false)

/-- The checks of R425, in its order, for a command by `m`, on behalf of `who`. -/
def Device.recChecks (d : Device) (m op id len : Nat) (forEn : Bool) (who : Nat) : List (Bool × Nat) :=
  let place := d.recPlace m id
  let p := place.getD ⟨0, 0, 0, false⟩
  let span := (len + 12 + 255) / 256
  let n := if op = 2 then span else 1
  let act := if forEn then who else m
  let perm : Bool :=
    if op = 2 then d.mayCommit m id || (forEn && d.mayCommit who id)
    else among act mKeepRead || (act = 12 && (id = 2 || id = 3))
  let old := (d.recBody 0).getD []
  let new := d.stageBytes 64
  let enforced : Bool := (old.getD 0 0).testBit 0
  let locked : Bool := op = 2 && id = 0 && enforced &&
    (!(new.getD 0 0).testBit 0 || (old.drop 32).take 32 != (new.drop 32).take 32)
  let rgns := (if id = 255 then [p.page0, p.page1] else [p.page0]).filterMap d.kRegion
  let auth : Bool := place.isSome && rgns.any (fun j => if op = 2 then d.kWriteShut act j else d.kReadShut act j)
  let lenBad : Bool := op = 2 &&
    (if p.edid then (1024 < len || len = 0 || len % 128 ≠ 0 || len ≠ 128 * ((d.stageBytes 128).getD 126 0 + 1))
     else if id = 255 then (len = 0 || 1012 < len)
     else p.limit < len)
  let pagesBad : Bool := id = 255 && (!d.pagesFree p.page0 n || !d.pagesFree p.page1 n || rangesMeet p.page0 n p.page1 n)
  let seqBad : Bool := op = 2 && id = 0 && !old.isEmpty &&
    (leNat ((new.drop 20).take 4) < leNat ((old.drop 20).take 4) || leNat ((new.drop 24).take 4) < leNat ((old.drop 24).take 4))
  [(!among m 0x53FF || !perm || (forEn && !among m mWalern), ePerm), (locked, eLocked), (auth, eAuth), (d.kClosed, eState),
   (place.isNone || 2 < op || lenBad || pagesBad, eRange),
   (d.keep.commit.isSome || (match d.keep.stageOwner with | some o => o != m | none => false), eBusy), (seqBad, eSeq)]

/-- KEEP_REC_STAT after a resolve. -/
def recStatWord (v0 v1 : Bool) (r : Resolved) : Nat :=
  2 + b2n v0 * 0x10000 + b2n v1 * 0x20000 + (if r.taken = some 1 then 0x40000 else 0) + b2n r.twin * 0x80000 +
    (if r.taken.isNone then 0x100000 else 0)

/-- Op 1: resolve a record and copy its body into KEEP_STAGE (R425). -/
def Device.recResolveCmd (d : Device) (m id : Nat) : Device :=
  match d.recPlace m id with
  | none => d
  | some p =>
    let r := d.recResolve p id
    let d := d.recTwin r.2.2
    let d := d.wr KEEP_REC_STAT (recStatWord r.1.isSome r.2.1.isSome r.2.2)
    let d := match d.recTaken p id with
      | some c => (d.stagePut c.2).wr KEEP_REC_SEQ c.1
      | none => d
    ({ d with keep := { d.keep with stageOwner := none } }).put KEEP_IRQ_rec_done 1

/-- Op 2: begin a commit: everything but the sequence number is written, which comes last (R424). -/
def Device.recCommitCmd (d : Device) (m id len : Nat) : Device :=
  match d.recPlace m id with
  | none => d
  | some p =>
    let r := d.recResolve p id
    let d := d.recTwin r.2.2
    let t := d.recTarget p id
    let bytes := recBytes p id t.2 (d.stageBytes len)
    let d := d.kWr (t.1 + 4) (bytes.drop 4)
    let d := d.wr KEEP_REC_STAT (recStatWord r.1.isSome r.2.1.isSome r.2.2 - 1)
    { d with keep := { d.keep with commit := some { master := m, id := id, addr := t.1, len := len, seq := t.2 }, stageOwner := none } }

/-- RECORD_RESOLVE: KEEP_REC_CMD op 1. -/
def execRecordResolve (m : Master) (id : Nat) (forEn : Bool) (who : Nat) (s : State) : Out :=
  s.run (fun d => d.hvGuarded m KEEP_REC_CMD (d.recChecks m 1 (id % 256) 0 forEn (who % 16)) (fun d => d.recResolveCmd m (id % 256)))

/-- RECORD_COMMIT: KEEP_REC_CMD op 2. -/
def execRecordCommit (m : Master) (id len : Nat) (forEn : Bool) (who : Nat) (s : State) : Out :=
  s.run (fun d => d.hvGuarded m KEEP_REC_CMD (d.recChecks m 2 (id % 256) (len % 2048) forEn (who % 16))
    (fun d => d.recCommitCmd m (id % 256) (len % 2048)))

/-- The commit in progress writes its sequence number and finishes (R424). -/
def Device.recCommitDone (d : Device) : Device :=
  match d.keep.commit with
  | none => d
  | some c =>
    let d := d.kWr c.addr (leBytes 4 c.seq)
    let d : Device := { d with keep := { d.keep with commit := none } }
    (((d.put KEEP_REC_STAT_busy 0).put KEEP_REC_STAT_done 1).put KEEP_REC_STAT_err 0).put KEEP_IRQ_rec_done 1

/-- KEEP_STAGE_WRITE: it takes ownership (R425, R434). -/
def execKeepStageWrite (m : Master) (i : Fin 256) (val : Nat) (s : State) : Out :=
  s.run (fun d =>
    let other : Bool := match d.keep.stageOwner with
      | some o => o != m.val
      | none => false
    d.hvGuarded m (KEEP_STAGE i) [(!among m 0x53FF, ePerm), (d.keep.recalling, eState), (other || d.keep.commit.isSome, eBusy)] (fun d =>
      ({ d with keep := { d.keep with stageOwner := some m.val } }).wr (KEEP_STAGE i) (val % 2 ^ 32)))

/-! ## Counters (R426-R428) -/

/-- A master may update a counter. -/
def mayCount (m c : Nat) : Bool := if c < 64 then among m mWalern else m == 0 || among m mIntegrator

/-- The counter that master `m` has selected. -/
def Device.ctrSel (d : Device) (m : Nat) : Nat := bitsOf (d.rdB m KEEP_CTR_SEL) 7 0

/-- COUNTER_ADD: KEEP_CTR_CMD op 1. -/
def execCounterAdd (m : Master) (amount : Nat) (s : State) : Out :=
  s.run (fun d => d.hvGuarded m KEEP_CTR_CMD
    [(!mayCount m (d.ctrSel m), ePerm), (d.kClosed, eState), (decide (2 ^ 24 ≤ amount), eRange)]
    (fun d => d.ctrEnqueue { index := d.ctrSel m, clear := false, amount := amount }))

/-- COUNTER_CLEAR: KEEP_CTR_CMD op 2. -/
def execCounterClear (m : Master) (s : State) : Out :=
  s.run (fun d => d.hvGuarded m KEEP_CTR_CMD [(!mayCount m (d.ctrSel m), ePerm), (d.kClosed, eState)]
    (fun d => d.ctrEnqueue { index := d.ctrSel m, clear := true, amount := 0 }))

/-- COUNTER_UPDATE_DONE (R427). -/
def execCounterUpdateDone (s : State) : Out := s.run (fun d => d.ctrDone)

/-- COUNTER_READ: a read of KEEP_CTR_LO, which latches KEEP_CTR_HI for the master. -/
def execCounterRead (m : Master) (s : State) : Out :=
  s.run (fun d =>
    if !d.power.coreOn then d else if d.bridge.lost then (d.reply m 0xFFFFFFFF).reject m KEEP_CTR_LO eState
    else if d.keep.recalling then (d.reply m 0).reject m KEEP_CTR_LO eState
    else
      let v := d.ctrVal (d.ctrSel m)
      (d.reply m v).wrB m KEEP_CTR_HI (v / 2 ^ 32))

/-! ## Log and clock (R431, R432) -/

/-- LOG_APPEND: KEEP_LOG_CMD bit 0 (R431). -/
def execLogAppend (m : Master) (s : State) : Out :=
  s.run (fun d =>
    let body := (List.range 5).flatMap (fun i => leBytes 4 (d.rdB m (KEEP_LOG_DATA i)))
    let ok : Bool := among m mWalern || ((m.val = 0 || among m mIntegrator) && body.getD 2 0 = 7)
    d.hvGuarded m KEEP_LOG_CMD [(!ok, ePerm), (d.kClosed, eState)] (fun d => d.logAppend body))

/-- CLOCK_SET (R432). -/
def execClockSet (m : Master) (val : Nat) (s : State) : Out :=
  s.run (fun d => d.hvGuarded m KEEP_CLK_SET
    [(m.val ≠ 0 && m.val ≠ 2, ePerm), (d.keep.recalling, eState), (decide (val % 2 ^ 32 < d.rd KEEP_CLK), eSeq)]
    (fun d => ({ d with keep := { d.keep with clkLost := false } }.wr KEEP_CLK (val % 2 ^ 32)).put KEEP_STAT_clk_lost 0))

/-- KEEP_CLOCK_TICK: one second; counters 3 to 5 count the modes (R428), and the level of VKEEP is noted (R410). -/
def execKeepClockTick (vkeep : Bool) (s : State) : Out :=
  s.run (fun d =>
    let d := (d.wr KEEP_CLK ((d.rd KEEP_CLK + 1) % 2 ^ 32)).put KEEP_STAT_vkeep_ok (b2n vkeep)
    if d.power.coreOn && d.modeIn 0x1C then d.ctrAdd (d.mode + 1) 1 else d)

end Sys2Proof.Machine
end

