-- ==== Sys2Proof/Machine/Ikiush.lean ====
section
/-! DEFINITION. The Ikiush cores as the CORE block controls them, and the messages that Walern firmware serves (R436 to R449, R465 to R469). The execution of instructions stands in CoreExec. -/

namespace Sys2Proof.Machine

/-! ## State of a core (R443) -/

/-- What core `k` holds beside its registers. -/
def Device.core (d : Device) (k : Nat) : CoreX := Sparse.get (fun _ => {}) d.ik.cores k

/-- Set what core `k` holds. -/
def Device.setCore (d : Device) (k : Nat) (x : CoreX) : Device :=
  { d with ik := { d.ik with cores := Sparse.set (fun _ => {}) d.ik.cores k x } }

/-- CORE_STAT.state: 0 reset, 1 running, 2 waiting, 3 halted. -/
def Device.coreState (d : Device) (k : Nat) : Nat := d.get (CORE_STAT_state k)

/-- Core `k` runs Walern firmware. -/
def isWalern (k : Nat) : Bool := decide (k < 5)

/-! ## Banks of the integrator cores (R441) -/

/-- Bank `i` is free in the allocatable range. -/
def Device.bankFree (d : Device) (i : Nat) : Bool :=
  decide (64 ≤ i ∧ i < 368) && d.get (MEM_BANK_INFO_use i) = 0

/-- The highest first bank of `n` consecutive free ones. -/
def Device.bankRun (d : Device) (n : Nat) : Option Nat :=
  ((List.range 368).reverse).find? (fun f => (List.range n).all (fun i => d.bankFree (f + i)))

/-- Give a run of banks to core `k`. -/
def Device.bankTake (d : Device) (k f n : Nat) : Device :=
  let d := eachOf (List.range n) (fun i d => d.put (MEM_BANK_INFO_use (f + i)) 13) d
  d.wr (CORE_ALLOC k) (n + f * 0x10000)

/-- The banks of core `k` return to the range. -/
def Device.bankGive (d : Device) (k : Nat) : Device :=
  let f := d.get (CORE_ALLOC_first k)
  let d := eachOf (List.range (d.get (CORE_ALLOC_count k))) (fun i d => d.put (MEM_BANK_INFO_use (f + i)) 0) d
  d.wr (CORE_ALLOC k) 0

/-- What stops a CORE_ALLOC write of count `n` for core `k`. -/
def Device.allocChecks (d : Device) (m k n : Nat) : List (Bool × Nat) :=
  [(!isWalern k && !among m 7, ePerm),
   (isWalern k || d.coreState k ≠ 0 || (n ≠ 0 && d.get (CORE_ALLOC_count k) ≠ 0), eState),
   (64 < n, eRange), (n ≠ 0 && (d.bankRun n).isNone, eFull)]

/-- A CORE_ALLOC write. -/
def Device.coreAlloc (d : Device) (m k n : Nat) : Device :=
  d.guarded m (CORE_ALLOC k) (d.allocChecks m k n) (fun d =>
    if n = 0 then d.bankGive k
    else match d.bankRun n with
      | some f => d.bankTake k f n
      | none => d)

/-- BANK_ASSIGN. -/
def execBankAssign (m : Master) (k : CoreId) (n : Nat) (s : State) : Out := s.run (fun d => d.coreAlloc m k (n % 128))

/-- BANK_RETURN. -/
def execBankReturn (m : Master) (k : CoreId) (s : State) : Out := s.run (fun d => d.coreAlloc m k 0)

/-! ## Run, halt, reset (R443, R444, R447-R449) -/

/-- A Pond window offset lies in a bank assigned to core `k`. -/
def Device.ownBank (d : Device) (k off : Nat) : Bool :=
  let f := d.get (CORE_ALLOC_first k)
  decide (f * 131072 ≤ off ∧ off < (f + d.get (CORE_ALLOC_count k)) * 131072)

/-- CORE_BOOT is odd, or lies outside the banks of the core. -/
def Device.bootBad (d : Device) (k : Nat) : Bool :=
  let a := d.rd (CORE_BOOT k)
  a % 2 = 1 || a < 0x1000000 || !d.ownBank k (a - 0x1000000)

/-- A core leaves reset: fetch begins at CORE_BOOT, the prefetch buffer is empty, the CSRs hold their reset values. -/
def Device.coreRelease (d : Device) (k : Nat) : Device :=
  let d := d.setCore k { pc := d.rd (CORE_BOOT k) }
  ((d.put (CORE_STAT_state k) 1).put (CORE_STAT_wdog k) 0).put (CORE_CTRL_run k) 1

/-- The run-time claims of master `m` end, and the features that made them are off (R447). -/
def Device.claimsDrop (d : Device) (m : Nat) : Device :=
  let d := eachOf (d.claims.filter (fun c => c.master == m)) (fun c d =>
    if c.feature = 7 then d.wr HIF_GPIO_EN (offBit (d.rd HIF_GPIO_EN) c.idx)
    else if c.feature = 4 then d.put SRV_CTRL_en 0
    else if c.feature = 5 then d.put CLK_SSC_hop 0
    else if c.feature = 8 then d.put TAP_CTRL_en 0
    else if c.feature = 9 then d.put TAP_LOOP_run 0
    else if c.feature = 6 then d.put SEG_CFG_wide 0
    else d) d
  let d := d.wrB m FAB_POOL_CLAIM 0
  { d with claims := d.claims.filter (fun c => !(c.master == m)) }

/-- What a reset of an integrator core does, other than by a restart or DARK (R447). -/
def Device.coreReset (d : Device) (k : Nat) : Device :=
  let m := 2 + k
  let d := if d.coreState k = 0 then d else d.bump (CORE_EVT_resets k)
  let d := ((d.locksDrop m).claimsDrop m)
  let d : Device := if d.keep.stageOwner = some m then { d with keep := { d.keep with stageOwner := none } } else d
  let d := ((d.wr (MBX_DB_STAT m) 0).wr (ERR_VIEW_CODE m) 0).wr (ERR_VIEW_ADDR m) 0
  let d := d.setCore k {}
  (d.put (CORE_STAT_state k) 0).put (CORE_CTRL_run k) 0

/-- The core stops at an instruction boundary. -/
def Device.coreHalt (d : Device) (k : Nat) : Device :=
  let d := d.put (CORE_CTRL_halt k) 1
  let st := d.coreState k
  if st = 1 ∨ st = 2 then (d.setCore k { d.core k with wasWaiting := decide (st = 2) }).put (CORE_STAT_state k) 3 else d

/-- A halted core goes on, running or waiting. -/
def Device.coreResume (d : Device) (k : Nat) : Device :=
  let d := d.put (CORE_CTRL_halt k) 0
  if d.coreState k = 3 then d.put (CORE_STAT_state k) (if (d.core k).wasWaiting then 2 else 1) else d

/-- What stops a CORE_CTRL write of `run` and `halt`. -/
def Device.ctrlChecks (d : Device) (m k : Nat) (run halt : Bool) : List (Bool × Nat) :=
  let sameRun : Bool := b2n run = d.get (CORE_CTRL_run k)
  let held : Bool := d.mode = 1 && d.get GLB_BOOT_CFG_hold = 1
  [(!isWalern k && !among m 0x4007, ePerm), (!isWalern k && m = 14 && !sameRun, ePerm),
   (isWalern k && !(m = 14 && sameRun && held) && !(sameRun && b2n halt = d.get (CORE_CTRL_halt k)), eState),
   (!isWalern k && run && d.bootBad k, eRange)]

/-- A CORE_CTRL write. -/
def Device.coreCtrl (d : Device) (m k : Nat) (run halt : Bool) : Device :=
  d.guarded m (CORE_CTRL k) (d.ctrlChecks m k run halt) (fun d =>
    if !isWalern k && !run then (if d.coreState k = 0 then d else d.coreReset k).put (CORE_CTRL_halt k) (b2n halt)
    else
      let d := if !isWalern k && d.coreState k = 0 then d.coreRelease k else d
      if halt then d.coreHalt k else d.coreResume k)

/-- CORE_RUN: a write with run at 1 and halt as it stands. -/
def execCoreRun (m : Master) (k : CoreId) (s : State) : Out :=
  s.run (fun d => d.coreCtrl m k true (d.get (CORE_CTRL_halt k) = 1))

/-- CORE_RESET: a write with run at 0. -/
def execCoreReset (m : Master) (k : CoreId) (s : State) : Out :=
  s.run (fun d => d.coreCtrl m k false (d.get (CORE_CTRL_halt k) = 1))

/-- CORE_HALT: a write with halt at 1 and run as it stands. -/
def execCoreHalt (m : Master) (k : CoreId) (s : State) : Out :=
  s.run (fun d => d.coreCtrl m k (d.get (CORE_CTRL_run k) = 1) true)

/-- CORE_RESUME: a write with halt at 0 and run as it stands. -/
def execCoreResume (m : Master) (k : CoreId) (s : State) : Out :=
  s.run (fun d => d.coreCtrl m k (d.get (CORE_CTRL_run k) = 1) false)

/-! ## Watchdog (R446) -/

/-- A write of CORE_KICK. -/
def Device.coreKick (d : Device) (m k : Nat) : Device := d.guarded m (CORE_KICK k) [(m ≠ 2 + k, ePerm)] (fun d => d)

/-- CORE_KICK: the watchdog's interval starts afresh. -/
def execCoreKick (m : Master) (k : CoreId) (s : State) : Out := s.run (fun d => d.coreKick m k)

/-- WATCHDOG_EXPIRE; `tie`: a kick reached the hub in the cycle of the expiry. -/
def execWatchdogExpire (k : CoreId) (tie : Bool) (s : State) : Out :=
  s.run (fun d =>
    if !d.power.coreOn || d.get (CORE_WDOG_ms k) = 0 then d
    else if tie then d.wr CORE_LATE (onBit (d.rd CORE_LATE) k)
    else
      let d := d.bump (CORE_EVT_expiries k)
      if isWalern k then d.raiseCode 0x58 k k
      else
        let d := (d.coreReset k).put (CORE_STAT_wdog k) 1
        (d.wr CORE_IRQ (onBit (d.rd CORE_IRQ) k)).raiseCode 0x59 k k)

/-! ## Timer and interrupts (R440) -/

/-- CORE_MTIME: microseconds since the core-die reset. -/
def Device.mtime (d : Device) : Nat := d.us - d.boot.resetUs

/-- The compare value of core `k`. -/
def Device.mtimecmp (d : Device) (k : Nat) : Nat := d.rd (CORE_MTIMECMP_LO k) + d.rd (CORE_MTIMECMP_HI k) * 2 ^ 32

/-- The machine external and the machine timer interrupt are pending. -/
def Device.meip (d : Device) (k : Nat) : Bool := d.dbPending (2 + k) ≠ 0
def Device.mtip (d : Device) (k : Nat) : Bool := decide (d.mtimecmp k ≤ d.mtime)

/-- The cause of the enabled interrupt that is pending, the external one first. -/
def Device.pendingCause (d : Device) (k : Nat) : Option Nat :=
  let x := d.core k
  if x.meie && d.meip k then some 11 else if x.mtie && d.mtip k then some 7 else none

/-- Take a trap: mepc, mcause, mtval and mstatus are written, and the pc goes to the handler (the privileged architecture). -/
def Device.takeTrap (d : Device) (k : Nat) (interrupt : Bool) (cause tval : Nat) : Device :=
  let x := d.core k
  let base := x.mtvec / 4 * 4
  let x := { x with mepc := x.pc, mcause := cause + (if interrupt then 2 ^ 31 else 0), mtval := tval,
                    mpie := x.mie, mie := false,
                    pc := if interrupt && x.mtvec % 4 = 1 then (base + 4 * cause) % 2 ^ 32 else base }
  ((d.setCore k x).put (CORE_STAT_cause k) cause).put (CORE_STAT_state k) 1

/-- CORE_INTERRUPT: a running core takes the trap when MIE is 1; a waiting one resumes in any case (R443). -/
def execCoreInterrupt (k : CoreId) (s : State) : Out :=
  s.run (fun d =>
    if !d.power.coreOn then d else
      let st := d.coreState k
      match d.pendingCause k with
      | none => d
      | some c =>
        if st = 1 ∨ st = 2 then
          if (d.core k).mie then d.takeTrap k true c 0 else d.put (CORE_STAT_state k) 1
        else d)

/-- MTIMER_MATCH: CORE_MTIME has reached the compare value of core `k`; its timer interrupt is pending from now on. -/
def execMtimerMatch (k : CoreId) (s : State) : Out :=
  s.run (fun d => if d.power.coreOn then { d with us := Nat.max d.us (d.boot.resetUs + d.mtimecmp k) } else d)

/-- A read of CORE_MTIME_LO. -/
def Device.mtimeRead (d : Device) (m : Nat) : Device :=
  let d : Device := { d with ik := { d.ik with mtimeHi := Sparse.set (fun _ => 0) d.ik.mtimeHi m (d.mtime / 2 ^ 32) } }
  d.reply m (d.mtime % 2 ^ 32)

/-- MTIME_READ. -/
def execMtimeRead (m : Master) (s : State) : Out := s.run (fun d => if d.power.coreOn then d.mtimeRead m else d)

/-! ## Messages to Walern firmware (R465-R469) -/

/-- The message at the front of a queue: its header, if the whole message has arrived. -/
def Device.message (d : Device) (c : Nat) : Option (Nat × List Nat) :=
  match d.mbQueue c true with
  | [] => none
  | h :: rest =>
    let n := bitsOf h.toNat 10 8
    if rest.length < n then none else some (h.toNat, (rest.take n).map (fun w => w.toNat))

/-- Read a message of `n` payload words from the inbound queue of channel `c`. -/
def Device.consume (d : Device) (c n : Nat) : Device := eachOf (List.range (n + 1)) (fun _ d => d.mbPop c true) d

/-- Room for a message of `n` payload words in the outbound queue (R465). -/
def Device.roomFor (d : Device) (c n : Nat) : Bool := decide ((d.mbQueue c false).length + n + 1 ≤ 8)

/-- Send a reply with its payload. -/
def Device.answerOn (d : Device) (c op tag status : Nat) (payload : List Nat) : Device :=
  let h := (op + 0x80) % 256 * 0x1000000 + tag * 0x10000 + payload.length * 0x100 + status
  eachOf (h :: payload) (fun w d => d.mbPush c false w) d

/-- A header is malformed: a reserved bit or the status of a command is not 0, or the length is not the command's (R465, R467). -/
def headerBad (h want : Nat) : Bool := bitsOf h 15 11 ≠ 0 || bitsOf h 7 0 ≠ 0 || bitsOf h 10 8 ≠ want

/-- The supervisor's channels: MB0 and MB5. -/
def onSupervisor (c : Nat) : Bool := c == 0 || c == 5

/-- A command of channel `c` has still to be answered: later ones wait, since replies keep the order of arrival (R465, R468). -/
def Device.owesOn (d : Device) (c : Nat) : Bool :=
  (match d.mbx.commitFor with
    | some p => p.1 == c
    | none => false) ||
  (match d.ik.load with
    | some j => match j.reply with
      | some p => p.1 == c
      | none => false
    | none => false)

/-- PING: firmware reads the message at the front of channel `c` and answers it; a command it does not implement with E_UNIMPL, a malformed one with E_RANGE. COMMIT and LOAD_CORE messages are served by their own commands. -/
def execPing (c : Fin 6) (s : State) : Out :=
  s.run (fun d =>
    if !d.power.coreOn || d.owesOn c || d.get (CORE_STAT_state (if onSupervisor c then 0 else c)) = 0 then d else
      match d.message c with
      | none => d
      | some (h, p) =>
        let op := bitsOf h 31 24
        let tag := bitsOf h 23 16
        if 0x80 ≤ op then d.consume c p.length
        else if op = 1 then
          if headerBad h 0 then (if d.roomFor c 0 then (d.consume c p.length).answerOn c op tag eRange [] else d)
          else if d.roomFor c 2 then (d.consume c p.length).answerOn c op tag eOk [d.rd GLB_REV, d.boot.fwVersion] else d
        else if onSupervisor c && (op = 2 || op = 3) then d
        else if d.roomFor c 0 then
          (d.consume c p.length).answerOn c op tag (if bitsOf h 15 11 ≠ 0 || bitsOf h 7 0 ≠ 0 then eRange else eUnimpl) []
        else d)

/-- COMMIT: IK0 checks the staged body and commits the record for the sender (R468). -/
def execCommit (c : Fin 6) (s : State) : Out :=
  s.run (fun d =>
    if !d.power.coreOn || !onSupervisor c || d.owesOn c || d.mbx.commitFor.isSome then d else
      match d.message c with
      | none => d
      | some (h, p) =>
        let op := bitsOf h 31 24
        let tag := bitsOf h 23 16
        if op ≠ 2 || !d.roomFor c 0 then d else
          let w0 := p.getD 0 0
          let id := bitsOf w0 7 0
          let len := bitsOf w0 26 16
          let who := if c.val = 0 then 0 else 1
          let d := d.consume c p.length
          if headerBad h 2 || !(id = 0 || id = 2 || id = 9 || id = 10) then d.answerOn c op tag eRange []
          else if crc32 (d.stageBytes len) ≠ p.getD 1 0 then d.answerOn c op tag eSeq []
          else if d.bridge.lost then (d.reject 2 KEEP_REC_CMD eState).answerOn c op tag eState []
          else match firstFail (d.recChecks 2 2 id len true who) with
            | some e => (d.reject 2 KEEP_REC_CMD e).answerOn c op tag e []
            | none =>
              let d := d.recCommitCmd 2 id len
              { d with mbx := { d.mbx with commitFor := some (c.val, tag) } })

/-- RECORD_COMMIT_DONE: the commit finishes; a COMMIT message that waits for it is answered. -/
def execRecordCommitDone (s : State) : Out :=
  s.run (fun d =>
    if d.keep.commit.isNone then d else
      let d := d.recCommitDone
      match d.mbx.commitFor with
      | none => d
      | some (c, tag) => ({ d with mbx := { d.mbx with commitFor := none } }).answerOn c 2 tag (d.get KEEP_REC_STAT_err) [])

/-- The entry of core `k` in the integrator loader record: address, length, entry offset, CRC, banks, flags (R445). -/
def Device.loaderEntry (d : Device) (k : Nat) : Option (Nat × Nat × Nat × Nat × Nat × Nat) :=
  (d.recBody 9).map (fun b =>
    let e := (b.drop (32 * (k - 5))).take 32
    let w (at' n : Nat) := leNat ((e.drop at').take n)
    (w 0 4, w 4 4, w 8 4, w 12 4, w 16 1, w 17 1))

/-- A load ends in a failure: CORE_STAT, CORE_IRQ and a log entry (R445); the log kind is not stated. -/
def Device.loadFail (d : Device) (k code : Nat) (reply : Option (Nat × Nat)) : Device :=
  let d := ((d.put (CORE_STAT_load_err k) 1).put (CORE_STAT_load_code k) code)
  let d := d.wr CORE_IRQ (onBit (d.rd CORE_IRQ) (8 + k))
  let d := (d.logEntry code k (Config.freeNat d.free 7 % 8) 0 []).drawn
  let d : Device := { d with ik := { d.ik with load := none } }
  match reply with
  | some (c, tag) => d.answerOn c 3 tag code []
  | none => d

/-- Begin a load of core `k`: its banks are assigned (R445 step 1). -/
def Device.loadBegin (d : Device) (k : Nat) (reply : Option (Nat × Nat)) : Device :=
  match d.loaderEntry k with
  | none => d.loadFail k eRange reply
  | some (addr, len, entry, crc, banks, flags) =>
    if banks = 0 ∨ 64 < banks ∨ banks * 131072 < len then d.loadFail k eRange reply
    else match firstFail (d.allocChecks 2 k banks) with
      | some e => d.loadFail k (if reply.isSome then eFull else e) reply
      | none =>
        let d := d.coreAlloc 2 k banks
        { d with ik := { d.ik with load := some { core := k, addr := addr, len := len, entry := entry, crc := crc,
                                                  pin := flags.testBit 1, reply := reply } } }

/-- Finish a load: the firmware is read and checked, the banks pinned, CORE_BOOT written, run set. -/
def Device.loadFinish (d : Device) (bad : Bool) : Device :=
  match d.ik.load with
  | none => d
  | some j =>
    let k := j.core
    let f := d.get (CORE_ALLOC_first k)
    if bad then d.loadFail k eState j.reply else
      let bytes := d.flashBytes j.addr j.len
      let d := d.pondWr (f * 131072) bytes
      if crc32 bytes ≠ j.crc then d.loadFail k eRange j.reply else
        let d := if j.pin then eachOf (List.range (d.get (CORE_ALLOC_count k)))
            (fun i d => (d.put (MEM_BANK_CFG_pin (f + i)) 1).put (MEM_BANK_INFO_pinned (f + i)) 1) d else d
        let d := d.wr (CORE_BOOT k) (0x1000000 + f * 131072 + j.entry)
        if d.bootBad k then d.loadFail k eRange j.reply else
          let d := ((d.coreRelease k).put (CORE_STAT_load_err k) 0).put (CORE_STAT_load_code k) 0
          let d : Device := { d with ik := { d.ik with load := none } }
          match j.reply with
          | some (c, tag) => d.answerOn c 3 tag eOk []
          | none => d

/-- LOAD_CORE: IK0 serves the message at the front of MB0 or MB5 (R469). -/
def execLoadCore (c : Fin 6) (s : State) : Out :=
  s.run (fun d =>
    if !d.power.coreOn || !onSupervisor c || d.owesOn c || d.ik.load.isSome || d.hif.dma.isSome then d else
      match d.message c with
      | none => d
      | some (h, p) =>
        let op := bitsOf h 31 24
        let tag := bitsOf h 23 16
        if op ≠ 3 || !d.roomFor c 0 then d else
          let k := p.getD 0 0
          let d := d.consume c p.length
          if headerBad h 1 || k < 5 || 7 < k then d.answerOn c op tag eRange []
          else if d.coreState k ≠ 0 then d.answerOn c op tag eState []
          else d.loadBegin k (some (c.val, tag)))

/-- LOAD_CORE_COMPLETE; `bad`: the DMA read met an error. -/
def execLoadCoreComplete (bad : Bool) (s : State) : Out := s.run (fun d => if d.power.coreOn then d.loadFinish bad else d)

end Sys2Proof.Machine
end

