-- ==== Sys2Proof/Machine/Hif.lean ====
section
/-! DEFINITION. PCIe events, MSI-X, flash commands, DMA, I2C, GPIO, NTC and the test access port (spec/16_host_interfaces.md). -/

namespace Sys2Proof.Machine

/-! ## PCIe (R471-R478) -/

/-- Clear master `m`'s error latch. -/
def Device.latchClear (d : Device) (m : Nat) : Device := (d.wr (ERR_VIEW_CODE m) 0).wr (ERR_VIEW_ADDR m) 0

/-- A write of ERR_CLR (R479). -/
def Device.errClear (d : Device) (m val : Nat) : Device :=
  d.guarded m ERR_CLR [(1 < val, eRange)] (fun d => if val = 1 then d.latchClear m else d)

/-- ERROR_CLEAR. -/
def execErrorClear (m : Master) (val : Nat) (s : State) : Out := s.run (fun d => d.errClear m (val % 2 ^ 32))

/-- PCIE_LINK_UP: the link's speed and width, and the Bus Master Enable and MSI-X function mask that host software has set. -/
def execPcieLinkUp (speed width : Nat) (bme fnMask : Bool) (s : State) : Out :=
  s.run (fun d =>
    if !d.power.coreOn then d else
      let d := (((d.put HIF_PCI_STAT_speed speed).put HIF_PCI_STAT_width width).put HIF_PCI_STAT_dstate 0)
      let d := (d.put HIF_PCI_STAT_up 1).put HIF_PCI_STAT_bme (b2n bme)
      { d with hif := { d.hif with fnMask := fnMask } })

/-- The MSI-X table and the PBA at reset. -/
def Device.msixReset (d : Device) : Device :=
  let d := eachOf (List.range 64) (fun v d =>
    (((d.wr (MSIX_ADDR_LO v) 0).wr (MSIX_ADDR_HI v) 0).wr (MSIX_DATA v) 0).wr (MSIX_CTRL v) 1) d
  let d := (d.wr (MSIX_PBA 0) 0).wr (MSIX_PBA 1) 0
  { d with hif := { d.hif with fnMask := false, aerPoisoned := false } }

/-- The effects of R478 on master 0. -/
def Device.hostReset (d : Device) : Device :=
  let d := d.msixReset.latchClear 0
  let d := (d.wr (MBX_DB_STAT 0) 0).locksDrop 0
  let d := d.wrB 0 KEEP_AUTH 0
  let d : Device := if d.keep.stageOwner = some 0 then { d with keep := { d.keep with stageOwner := none } } else d
  eachOf ((List.range 64).filter (fun c => d.get (MB_CHAN_en c) = 1 && (d.get (MB_CHAN_a c) = 0 || d.get (MB_CHAN_b c) = 0)))
    (fun c d => d.mbEmpty c) d

/-- PCIE_FUNCTION_RESET: an FLR keeps the link; a hot reset, PERST_N low and a link down end it (R478). -/
def execPcieFunctionReset (k : PcieReset) (s : State) : Out :=
  s.run (fun d =>
    if !d.power.coreOn then d else
      let d := match k with
        | .flr => (d.bump HIF_PCI_EVT_flrs).put HIF_PCI_STAT_bme 0
        | _ => (if d.get HIF_PCI_STAT_up = 1 then d.bump HIF_PCI_EVT_downs else d).wr HIF_PCI_STAT 0
      (d.put HIF_PCI_STAT_dstate 0).hostReset)

/-- PCIE_D3HOT: the function enters or leaves D3hot (R478). -/
def execPcieD3hot (enter : Bool) (s : State) : Out :=
  s.run (fun d =>
    if !d.power.coreOn || d.get HIF_PCI_STAT_up = 0 then d else d.put HIF_PCI_STAT_dstate (if enter then 3 else 0))

/-- POISONED_WRITE (R476). -/
def execPoisonedWrite (s : State) : Out :=
  s.run (fun d =>
    if d.barOpen then { d.bump HIF_PCI_EVT_poisoned with hif := { d.hif with aerPoisoned := true } } else d)

/-! ## MSI-X and IRQ_N (R481-R483) -/

/-- Some bit of a status register is 1 with its enable in force at 1. -/
def Device.irqOn (d : Device) (st en : Nat) : Bool := d.rd st &&& (if isFrame en then d.rdF en else d.rd en) ≠ 0

/-- The condition of a vector (R481). -/
def Device.vecCond (d : Device) (v : Nat) : Bool :=
  if v < 32 then (d.dbPending 0).testBit v
  else if v = 32 then d.get (ERR_VIEW_CODE_code 0) ≠ 0 && (d.rdB 0 ERR_CTRL).testBit 0
  else if v < 37 then d.irqOn (DPRX_IRQ (v - 33)) (DPRX_IRQ_EN (v - 33))
  else if v = 37 then d.irqOn TAP_IRQ TAP_IRQ_EN
  else if v = 38 then d.irqOn TMG_IRQ TMG_IRQ_EN
  else if v = 39 then d.irqOn CHK_IRQ CHK_IRQ_EN
  else if v = 40 then d.irqOn LAY_IRQ LAY_IRQ_EN
  else if v = 41 then d.irqOn TRN_IRQ TRN_IRQ_EN
  else if v = 42 then d.irqOn SRV_IRQ SRV_IRQ_EN
  else if v = 43 then d.irqOn ACL_IRQ ACL_IRQ_EN
  else if v = 44 then d.irqOn HVP_IRQ HVP_IRQ_EN
  else if v = 45 then d.irqOn MEM_IRQ MEM_IRQ_EN
  else if v = 46 then d.irqOn KEEP_IRQ KEEP_IRQ_EN
  else if v = 47 then d.irqOn CORE_IRQ CORE_IRQ_EN
  else if v = 48 then d.irqOn FLT_IRQ FLT_IRQ_EN
  else if v = 49 then d.irqOn CLK_IRQ CLK_IRQ_EN
  else if v = 50 then d.irqOn HIF_IRQ HIF_IRQ_EN
  else false

/-- IRQ_N is low (R483). -/
def Device.irqLow (d : Device) : Bool :=
  d.dbPending 1 ≠ 0 || (d.get (ERR_VIEW_CODE_code 1) ≠ 0 && (d.rdB 1 ERR_CTRL).testBit 0) ||
  (List.range 19).any (fun s => (d.rd HIF_SP_IRQ_EN).testBit s && d.vecCond (32 + s))

/-- A message of vector `v` may be sent: the vector and the function unmasked, Bus Master Enable at 1, the link up, D0. -/
def Device.msgOpen (d : Device) (v : Nat) : Bool :=
  d.barOpen && d.get HIF_PCI_STAT_bme = 1 && !d.hif.fnMask && d.get (MSIX_CTRL_mask v) = 0

/-- The pending bit of vector `v`. -/
def Device.pbaPut (d : Device) (v : Nat) (b : Bool) : Device := d.wr (MSIX_PBA (v / 32)) (putBit (d.rd (MSIX_PBA (v / 32))) (v % 32) b)

/-- MSIX_TRIGGER: the condition of vector `v` is looked at; `w1c`: a W1C write to the source's status register has just been made (R482). -/
def execMsixTrigger (v : Fin 64) (w1c : Bool) (s : State) : Out :=
  s.run (fun d =>
    if !d.power.coreOn || 50 < v.val then d else
      let now := d.vecCond v
      let was := d.hif.conds.testBit v
      let due := now && (!was || w1c || (d.rd (MSIX_PBA (v / 32))).testBit (v % 32))
      let d : Device := { d with hif := { d.hif with conds := putBit d.hif.conds v now } }
      if !now then d.pbaPut v false
      else if due then
        if d.msgOpen v then
          let a := d.rd (MSIX_ADDR_LO v) + d.rd (MSIX_ADDR_HI v) * 2 ^ 32
          let d := d.pbaPut v false
          { d with hif := { d.hif with msg := some (a, d.rd (MSIX_DATA v)) } }
        else d.pbaPut v true
      else d)

/-! ## Flash commands (R488-R490) -/

/-- Masters of the flash and DMA registers, of the I2C registers, and of the GPIO registers (R496). -/
abbrev mFlash : Nat := 0x3FD
abbrev mI2c : Nat := 0x3A5
abbrev mGpio : Nat := 0x387

/-- Bytes that a flash command programs or erases. -/
def flashSpan (op len a : Nat) : Nat × Nat :=
  if op = 2 then (a, len + 1) else if op = 3 then (a, 4096) else if op = 4 then (a, 65536) else (a, 0)

/-- The 16 data bytes of HIF_XSPI_DATA. -/
def Device.xspiData (d : Device) : List Nat := (List.range 4).flatMap (fun i => leBytes 4 (d.rd (HIF_XSPI_DATA i)))

/-- A write of HIF_XSPI_CMD: the checks of R489 in its own order, after the permission. -/
def Device.xspiCmd (d : Device) (m op len : Nat) : Device :=
  let a := d.rd HIF_XSPI_ADDR
  let span := flashSpan op len a
  if !d.power.coreOn then d
  else if !among m mFlash then d.reject m HIF_XSPI_CMD ePerm
  else if (op = 3 ∧ a % 4096 ≠ 0) ∨ (op = 4 ∧ a % 65536 ≠ 0) then d.reject m HIF_XSPI_CMD eAlign
  else if op = 7 ∨ (op = 2 ∧ 256 < a % 256 + len + 1) then d.reject m HIF_XSPI_CMD eRange
  else if d.hif.xspi.isSome then d.reject m HIF_XSPI_CMD eBusy
  else if span.2 ≠ 0 && d.flashInUse span.1 span.2 then d.reject m HIF_XSPI_CMD eBusy
  else if op = 0 then d
  else
    let d := (((d.put HIF_XSPI_STAT_busy 1).put HIF_XSPI_STAT_done 0).put HIF_XSPI_STAT_late 0).put HIF_XSPI_STAT_err 0
    { d with hif := { d.hif with xspi := some { master := m, op := op, len := len, addr := a,
                                                data := d.xspiData.take (len + 1) } } }

/-- XSPI_READ: op 1. -/
def execXspiRead (m : Master) (len : Fin 16) (s : State) : Out := s.run (fun d => d.xspiCmd m 1 len)

/-- XSPI_PROGRAM: op 2. -/
def execXspiProgram (m : Master) (len : Fin 16) (s : State) : Out := s.run (fun d => d.xspiCmd m 2 len)

/-- XSPI_SECTOR_ERASE: op 3. -/
def execXspiSectorErase (m : Master) (s : State) : Out := s.run (fun d => d.xspiCmd m 3 0)

/-- XSPI_BLOCK_ERASE: op 4. -/
def execXspiBlockErase (m : Master) (s : State) : Out := s.run (fun d => d.xspiCmd m 4 0)

/-- XSPI_READ_STATUS: op 5. -/
def execXspiReadStatus (m : Master) (s : State) : Out := s.run (fun d => d.xspiCmd m 5 0)

/-- XSPI_SOFTWARE_RESET: op 6. -/
def execXspiSoftwareReset (m : Master) (s : State) : Out := s.run (fun d => d.xspiCmd m 6 0)

/-- A flash command ends with an error code; done is set. -/
def Device.xspiEnd (d : Device) (err : Nat) : Device :=
  let d := (((d.put HIF_XSPI_STAT_busy 0).put HIF_XSPI_STAT_done 1).put HIF_XSPI_STAT_err err).put HIF_IRQ_xspi 1
  { d with hif := { d.hif with xspi := none } }

/-- XSPI_OP_COMPLETE: the status byte read from the flash, and whether its busy state ended in the cycle in which busy_to expires. -/
def execXspiOpComplete (status : Nat) (late : Bool) (s : State) : Out :=
  s.run (fun d =>
    match d.hif.xspi with
    | none => d
    | some o =>
      let d := if 2 ≤ o.op ∧ o.op ≤ 5 then d.put HIF_XSPI_STAT_status status else d
      let d := if late && decide (2 ≤ o.op ∧ o.op ≤ 4) then d.put HIF_XSPI_STAT_late 1 else d
      let span := flashSpan o.op o.len o.addr
      let d := if o.op = 1 then
          let b := d.flashBytes o.addr (o.len + 1) ++ d.xspiData.drop (o.len + 1)
          eachOf (List.range 4) (fun i d => d.wr (HIF_XSPI_DATA i) (leNat ((b.drop (4 * i)).take 4))) d
        else if o.op = 2 then d.flashProgram o.addr o.data
        else d.flashErase span.1 span.2
      d.xspiEnd eOk)

/-- XSPI_BUSY_TIMEOUT: the content of the bytes it was changing is not stated (R489). -/
def execXspiBusyTimeout (status : Nat) (s : State) : Out :=
  s.run (fun d =>
    match d.hif.xspi with
    | none => d
    | some o =>
      if 2 ≤ o.op ∧ o.op ≤ 4 then
        let span := flashSpan o.op o.len o.addr
        (((d.put HIF_XSPI_STAT_status status).flashSpoil span.1 span.2).xspiEnd eState).latch o.master 0 HIF_XSPI_CMD eState
      else d)

/-! ## DMA (R491) -/

/-- Master `m` may reach `n` bytes of Pond from window offset `a` (R442, R475). -/
def Device.pondMay (d : Device) (m a n : Nat) (write : Bool) : Bool :=
  (List.range ((a + n - 1) / 131072 + 1 - a / 131072)).all (fun j =>
    let i := a / 131072 + j
    if m = 0 ∨ m = 14 then !write || (64 ≤ i && !(9 ≤ d.get (MEM_BANK_INFO_use i) && d.get (MEM_BANK_INFO_use i) ≤ 12))
    else if among m mWalern then true
    else if among m mIntegrator then
      d.bankMaster i = some m || 368 ≤ i ||
      (decide (40 ≤ i ∧ i < 48) && (List.range ((a + n - 1) / 2048 + 1 - a / 2048)).all (fun u =>
        let unit := a / 2048 + u - 40 * 64
        d.claims.any (fun c => c.feature == 10 && c.cls == 4 && c.idx == unit && c.master == m)))
    else false)

/-- The size of a DMA space. -/
def spaceSize (k : Nat) : Nat := if k = 1 then 384 * 131072 else 2 ^ 32

/-- Master `m` may read or write a range of a space. -/
def Device.dmaMay (d : Device) (m k a n : Nat) (write : Bool) : Bool :=
  if k = 1 then d.pondMay m a n write
  else if k = 0 && write then
    (List.range 11).all (fun i =>
      !((d.get MEM_WIN_WP_prot).testBit i && meets a n (d.rgnBase i) (d.rd (MEM_RGN_SIZE i))))
  else true

/-- Walern firmware uses the engine: boot steps 7 and 11, or LOAD_CORE (R491). -/
def Device.dmaFirmware (d : Device) : Bool :=
  d.ik.load.isSome ||
  (d.boot.running && ((d.boot.started.testBit 7 && !(d.rd GLB_BOOT_STEPS).testBit 7) ||
    (d.boot.started.testBit 11 && !(d.rd GLB_BOOT_STEPS).testBit 11)))

/-- What stops a start. -/
def Device.dmaChecks (d : Device) (m ss ds : Nat) : List (Bool × Nat) :=
  let src := d.rd HIF_DMA_SRC
  let dst := d.rd HIF_DMA_DST
  let n := d.rd HIF_DMA_LEN
  let bad : Bool := ss = 3 || ds = 3 || n % 4 ≠ 0 || n < 4 || 67108860 < n || spaceSize ss < src + n || spaceSize ds < dst + n
  [(!among m mFlash, ePerm), (src % 4 ≠ 0 || dst % 4 ≠ 0, eAlign), (bad, eRange),
   (!bad && (!d.dmaMay m ss src n false || !d.dmaMay m ds dst n true), ePerm),
   (d.hif.dma.isSome || d.dmaFirmware || (ds = 2 && d.flashInUse dst n), eBusy)]

/-- Op 1 of HIF_DMA_CMD. -/
def Device.dmaStart (d : Device) (m ss ds : Nat) : Device :=
  d.guarded m HIF_DMA_CMD (d.dmaChecks m ss ds) (fun d =>
    let d := (((d.put HIF_DMA_STAT_busy 1).put HIF_DMA_STAT_done 0).put HIF_DMA_STAT_err 0).put HIF_DMA_STAT_master m
    { d with hif := { d.hif with dma := some { master := m, srcSpace := ss, dstSpace := ds, src := d.rd HIF_DMA_SRC,
                                               dst := d.rd HIF_DMA_DST, len := d.rd HIF_DMA_LEN } } })

/-- Op 2 of HIF_DMA_CMD. -/
def Device.dmaAbort (d : Device) (m : Nat) : Device :=
  d.guarded m HIF_DMA_CMD [(!among m mFlash, ePerm), (d.hif.dma.isNone, eState)] (fun d =>
    { d with hif := { d.hif with dma := d.hif.dma.map (fun x => { x with aborted := true }) } })

/-- DMA_START: op 1 with its spaces. -/
def execDmaStart (m : Master) (ss ds : Fin 4) (s : State) : Out := s.run (fun d => d.dmaStart m ss ds)

/-- DMA_ABORT: op 2. -/
def execDmaAbort (m : Master) (s : State) : Out := s.run (fun d => d.dmaAbort m)

/-- The bytes before the first uncorrectable word of the source. -/
def Device.dmaReach (d : Device) (x : Dma) : Nat :=
  let ue := if x.srcSpace = 0 then d.mem.fsUe else if x.srcSpace = 1 then d.mem.pondUe else []
  let n := ue.foldl (fun n w => if meets x.src x.len (8 * w) 8 then Nat.min n (8 * w - x.src) else n) x.len
  n / 4 * 4

/-- DMA_COMPLETE: the transfer ends. `stop`: an abort or an xSPI error ended it after so many bytes (R491). -/
def execDmaComplete (stop : Option Nat) (s : State) : Out :=
  s.run (fun d =>
    match d.hif.dma with
    | none => d
    | some x =>
      let reach := d.dmaReach x
      let n := match stop with
        | some k => Nat.min (k / 4 * 4) reach
        | none => reach
      let failed : Bool := (stop.isSome && !x.aborted) || (reach < x.len && (stop.isNone || n = reach))
      let bytes := if x.srcSpace = 0 then d.fsBytes x.src n else if x.srcSpace = 1 then d.pondBytes x.src n else d.flashBytes x.src n
      let d := if x.srcSpace = 0 then d.fsReadCheck x.src (Nat.min x.len (n + (if failed then 4 else 0))) true
        else if x.srcSpace = 1 && failed && reach < x.len then d.pondEcc (x.src + n) .uncorr else d
      let d := if x.dstSpace = 0 then d.fsWrite x.master (atAddr x.dst bytes)
        else if x.dstSpace = 1 then d.pondWr x.dst bytes else d.flashProgram x.dst bytes
      let d : Device := { d with hif := { d.hif with dma := none } }
      let d := (((d.put HIF_DMA_STAT_busy 0).put HIF_DMA_STAT_done 1).put HIF_DMA_STAT_err (if failed then eState else eOk)).wr
        HIF_DMA_DONE n
      let d := d.put HIF_IRQ_dma 1
      if failed then (d.latch 10 0 HIF_DMA_CMD eState).latch x.master 0 HIF_DMA_CMD eState else d)

/-! ## I2C (R492, R493) -/

/-- The transaction of controller `n`. -/
def Device.i2cBusy (d : Device) (n : Nat) : Option I2c := Sparse.get (fun _ => none) d.hif.i2c n

/-- A write of HIF_I2C_CMD. -/
def Device.i2cCmd (d : Device) (m n val : Nat) : Device :=
  let w := bitsOf val 11 8
  let r := bitsOf val 15 12
  d.guarded m (HIF_I2C_CMD n)
    [(!among m mI2c, ePerm), (val &&& 0xFFFF0080 ≠ 0 || 8 < w || 8 < r || (w = 0 && r = 0), eRange), ((d.i2cBusy n).isSome, eBusy)]
    (fun d =>
      let d : Device := d.wr (HIF_I2C_STAT n) 1
      { d with hif := { d.hif with i2c := Sparse.set (fun _ => none) d.hif.i2c n (some ⟨m, bitsOf val 6 0, w, r⟩) } })

/-- I2C_TRANSACTION. -/
def execI2cTransaction (m : Master) (n : Fin 2) (val : Nat) (s : State) : Out := s.run (fun d => d.i2cCmd m n (val % 2 ^ 32))

/-- A transaction ends. -/
def Device.i2cEnd (d : Device) (n : Nat) (x : I2c) (err : Nat) : Device :=
  let d : Device := { d with hif := { d.hif with i2c := Sparse.set (fun _ => none) d.hif.i2c n none } }
  let d := ((d.put (HIF_I2C_STAT_busy n) 0).put (HIF_I2C_STAT_done n) 1).put (HIF_I2C_STAT_err n) err
  let d := if n = 0 then d.put HIF_IRQ_i2c0 1 else d.put HIF_IRQ_i2c1 1
  if err = 0 then d else d.latch x.master 0 (HIF_I2C_CMD n) err

/-- I2C_COMPLETE: the index of a byte that was not acknowledged, whether the PEC was wrong, and the bytes read. -/
def execI2cComplete (n : Fin 2) (nack : Option Nat) (pecBad : Bool) (data : List Nat) (s : State) : Out :=
  s.run (fun d =>
    match d.i2cBusy n with
    | none => d
    | some x =>
      match nack with
      | some k => ((d.put (HIF_I2C_STAT_nack n) 1).put (HIF_I2C_STAT_nackidx n) k).i2cEnd n x eState
      | none =>
        let b := (List.range 8).map (fun i => if i < x.rlen then data.getD i 0 else 0)
        let d := if x.rlen = 0 then d else
          (d.wr (HIF_I2C_RDATA n 0) (leNat (b.take 4))).wr (HIF_I2C_RDATA n 1) (leNat (b.drop 4))
        d.i2cEnd n x (if pecBad && d.get (HIF_I2C_CFG_pec n) = 1 then eRange else eOk))

/-- I2C_CLOCK_LOW_TIMEOUT; `tie`: the transaction ends in the same cycle and completes (R493). -/
def execI2cClockLowTimeout (n : Fin 2) (tie : Bool) (s : State) : Out :=
  s.run (fun d =>
    match d.i2cBusy n with
    | none => d
    | some x => if tie then d.put (HIF_I2C_STAT_late n) 1 else d.i2cEnd n x eState)

/-! ## GPIO and NTC (R494, R495) -/

/-- A write of HIF_GPIO_EN: newly set pins are claimed, cleared ones released (R494). -/
def Device.gpioEnable (d : Device) (m val : Nat) : Device :=
  let old := d.rd HIF_GPIO_EN
  let up := (List.range 16).filter (fun p => val.testBit p && !old.testBit p)
  let serves (p : Nat) : Bool := d.imageServes 7 7 p
  d.guarded m HIF_GPIO_EN
    [(!among m mGpio, ePerm), (65536 ≤ val, eRange), (up.any (fun p => !serves p && (d.owner 7 p).isSome), eConflict)]
    (fun d =>
      let d := d.unclaim 7 (fun c => !val.testBit c.idx)
      (eachOf (up.filter (fun p => !serves p)) (fun p d => d.claim 7 7 p m) d).wr HIF_GPIO_EN val)

/-- GPIO_ENABLE. -/
def execGpioEnable (m : Master) (val : Nat) (s : State) : Out := s.run (fun d => d.gpioEnable m (val % 2 ^ 32))

/-- GPIO_EDGE: the filtered level of a pin rises or falls. -/
def execGpioEdge (p : Fin 16) (rise : Bool) (s : State) : Out :=
  s.run (fun d =>
    if !d.power.coreOn || (d.rd HIF_GPIO_IN).testBit p = rise then d else
      let d := d.wr HIF_GPIO_IN (putBit (d.rd HIF_GPIO_IN) p rise)
      let kind := bitsOf (d.rd HIF_GPIO_EDGE) (2 * p + 1) (2 * p)
      if (d.rd HIF_GPIO_EN).testBit p && kind.testBit (if rise then 0 else 1) then d.wr HIF_IRQ (onBit (d.rd HIF_IRQ) p) else d)

/-- NTC_SAMPLE: the mean of 16 samples of an enabled input. -/
def execNtcSample (k : Fin 4) (c : Nat) (s : State) : Out :=
  s.run (fun d =>
    if !d.power.coreOn || d.get (HIF_NTC_CFG_en k) = 0 then d else
      let c := c % 4096
      d.wr (HIF_NTC k) (c + 0x10000 + b2n (c = 4095) * 0x20000 + b2n (c < 16) * 0x40000))

/-! ## Test access port (R497-R499) -/

/-- The boundary-scan instructions of R498. -/
def bscanCode (ir : Nat) : Bool := ir == 0 || ir == 3 || ir == 4 || ir == 5 || ir == 6

/-- JTAG_UPDATE_IR (R497, R498): a code the table does not list puts BYPASS in force. -/
def execJtagUpdateIr (ir : Nat) (s : State) : Out :=
  s.run (fun d =>
    let ir := ir % 256
    if !d.power.coreOn then d
    else if bscanCode ir && d.get HVP_STAT_state ≠ 0 then
      { (d.put HIF_JTAG_STAT_instr 0xFF).put HIF_JTAG_STAT_refused 1 with hif := { d.hif with bscan := false } }
    else
      let known := ir ≤ 6 ∨ ir = 0x10
      { (d.put HIF_JTAG_STAT_instr (if known then ir else 0xFF)).put HIF_JTAG_STAT_refused 0 with
        hif := { d.hif with bscan := bscanCode ir } })

/-- TEST_LOGIC_RESET: IDCODE is selected (R497). -/
def execTestLogicReset (s : State) : Out :=
  s.run (fun d =>
    if !d.power.coreOn then d else { d.put HIF_JTAG_STAT_instr 2 with hif := { d.hif with bscan := false } })

/-- DBG_CAPTURE: the data of the last completed read and the status of the last completed access; `running`: an access has not completed (R499). -/
def execDbgCapture (running : Bool) (s : State) : Out :=
  s.run (fun d =>
    if !d.power.coreOn || d.get HIF_JTAG_STAT_instr ≠ 0x10 then d else
      { d with hif := { d.hif with captured := (d.hif.dbgData, if running then 0xFF else d.hif.dbgStatus) } })

/-! ## The side port, but for its register accesses (R484-R486) -/

/-- The BAR0 offset that a register-window word address names, of its low half. -/
def spOffset (a : Nat) : Nat :=
  let slot := bitsOf a 18 15
  let base := [0x0, 0x10000, 0x60000, 0x110000, 0x150000, 0x160000, 0x140000, 0x1A0000, 0x50000, 0x170000, 0x180000].getD slot (slot * 0x10000)
  base + 4 * bitsOf a 14 1

/-- HIF_SP_STAT follows the side port. -/
def Device.spSync (d : Device) : Device :=
  let w := d.bridge.posted.any (fun p => p.master == 1) || d.bridge.stalled.any (fun p => p.master == 1 && p.val.isSome)
  let r := match d.hif.heldRead with
    | some (_, _, ready) => ready
    | none => false
  ((d.put HIF_SP_STAT_low (b2n d.hif.lowHeld.isSome)).put HIF_SP_STAT_read (b2n r)).put HIF_SP_STAT_write (b2n w)

/-- A 16-bit Pond access of the side port; BUSY_N low where it did not complete. -/
def Device.spPond (d : Device) (a : Nat) (val : Option Nat) (pa : PortA) (found : Ecc) : Device :=
  let off := 368 * 131072 + 1048576 * d.get HIF_SP_CFG_page + 2 * (a % 0x80000)
  let r := d.pondAccess 1 off 2 (val.map (fun v => leBytes 2 (v % 65536))) pa found
  match r.2 with
  | .done => let d := r.1; { d with hif := { d.hif with spBusy := false, spData := if val.isNone then d.answer 1 else d.hif.spData } }
  | .again => let d := r.1; { d with hif := { d.hif with spBusy := true } }
  | .failed c =>
    let d := (r.1.reply 1 0).reject 1 (0x1000000 + off) c
    { d with hif := { d.hif with spBusy := false, spData := if val.isNone then 0 else d.hif.spData } }
  | .ecc =>
    let d := ((r.1.reply 1 0xFFFF).reject 1 (0x1000000 + off) eState)
    { d with hif := { d.hif with spBusy := false, spData := if val.isNone then 0xFFFF else d.hif.spData } }

/-- SIDE_PORT_POND_ACCESS: a word address below 0x80000; none reads. -/
def execSidePortPondAccess (a : Nat) (val : Option Nat) (pa : PortA) (found : Ecc) (s : State) : Out :=
  s.run (fun d => if d.power.coreOn then d.spPond a val pa found else d)

/-- SIDE_PORT_LOW_WRITE: a low half is held (R485). -/
def execSidePortLowWrite (a val : Nat) (s : State) : Out :=
  s.run (fun d =>
    if !d.power.coreOn then d else
      let d : Device := { d with hif := { d.hif with lowHeld := some (spOffset a, val % 65536), spBusy := false } }
      d.spSync)

/-- SIDE_PORT_HIGH_READ: the latched upper bits, or 0xFFFF and E_SEQ (R485). -/
def execSidePortHighRead (a : Nat) (s : State) : Out :=
  s.run (fun d =>
    if !d.power.coreOn then d else
      let off := spOffset a
      match d.hif.readLatch with
      | some (o, v) =>
        if o = off then { d with hif := { d.hif with spData := v, spBusy := false, readLatch := none } }
        else { (d.reject 1 off eSeq).bump HIF_SP_EVT_seqs with hif := { d.hif with spData := 0xFFFF, spBusy := false } }
      | none => { (d.reject 1 off eSeq).bump HIF_SP_EVT_seqs with hif := { d.hif with spData := 0xFFFF, spBusy := false } })

end Sys2Proof.Machine
end

