-- ==== Sys2Proof/Machine/Limits.lean ====
section
/-! DEFINITION. The limits between registers and a set: R25, R97, R113, R139, R307, R361, R362, R364 and R375 (check 5 of R86, check 22 of R77, R98). -/

namespace Sys2Proof.Machine

/-- A set with a way to read registers: what the limits are judged on. -/
structure View where
  rd : Nat → Nat
  set : PrismSet

/-- A field in a view. -/
def View.get (v : View) (f : Fld) : Nat := bitsOf (v.rd f.off) f.hi f.lo

/-- The active set with the registers in force. -/
def Device.actView (d : Device) : View := { rd := d.inForce, set := d.act }

/-- The mirror set with the registers that would be in force after a swap. -/
def Device.mirView (d : Device) : View := { rd := fun o => if isFrame o then d.rdF o else d.rd o, set := d.mir }

/-- A view with one register replaced. -/
def View.with (v : View) (off val : Nat) : View := { v with rd := fun o => if o = off then val else v.rd o }

/-- The step that the limits test: the pending one while one pends (R532). -/
def Device.limitStep (d : Device) : Nat := if d.get CLK_FCLK_pend = 1 then d.get CLK_FCLK_req else d.get CLK_FCLK_cur

/-- R25 for every stripe, at a fabric clock step. -/
def View.meetsR25 (v : View) (step : Nat) : Bool :=
  v.set.stripes.all (fun s =>
    decide (s.width * s.comp * v.get TMG_PCLK_rate * 10000 ≤ fclkHz step * v.get TMG_HTOTAL_width))

/-- The components per pixel of a stripe at the packer, in a view. -/
def View.qOf (v : View) (s : StripeCfg) : Nat := s.q (v.get FAB_SPR_CFG_mode)

/-- The rate code of the transmit group of lane `n`. -/
def View.groupRate (v : View) (n : Nat) : Nat := v.get (ACL_GRP_RATE_rate (n / 8))

/-- Usable blocks per line on a lane (R307); 0 where no line period is defined. -/
def View.blocks (v : View) (n : Nat) : Nat :=
  2500000000 * (v.groupRate n + 1) * (1000 - v.get CLK_SSC_acl) * 995 * v.get TMG_HTOTAL_width /
    (1000000 * 66 * v.get TMG_PCLK_rate * 10000)

/-- The line capacity of a stripe's lane suffices (R307). -/
def View.lineFits (v : View) (i : Nat) : Bool :=
  let s := v.set.stripes.getD i {}
  let n := (v.set.lanes.getD i {}).lane
  let b := v.blocks n
  let k := 80 * (v.groupRate n + 1)
  decide ((v.qOf s * s.width * v.get FAB_CODE_width + 63) / 64 + 4 + (b + k - 1) / k ≤ b)

/-- Spares and the stripe lanes of their masks lie in groups of equal rate (R307). -/
def View.ratesEqual (v : View) : Bool :=
  v.set.spares.all (fun e => (List.range v.set.lanes.length).all (fun s =>
    !e.mask.testBit s || v.groupRate (v.set.lanes.getD s {}).lane == v.groupRate e.lane))

/-- The R97 limits: back porches and blanking. -/
def View.r97 (v : View) : List Bool :=
  [decide (v.get TMG_HACT_width + v.get TMG_HFP_width + v.get TMG_HSYNC_width + 8 ≤ v.get TMG_HTOTAL_width),
   decide (v.get TMG_VACT_height + v.get TMG_VFP_lines + v.get TMG_VSYNC_lines + 1 ≤ v.get TMG_VTOTAL_lines),
   decide (v.get TMG_VACT_height + 8 ≤ v.get TMG_VTOTAL_lines)]

/-- The swing of the gate drive, in units of 10 mV. -/
def View.swing (v : View) : Nat :=
  (signedOf 16 (v.get (HVP_RAIL_setpoint 0)) - signedOf 16 (v.get (HVP_RAIL_setpoint 1))).natAbs

/-- Some GST output has a role. -/
def View.hasRole (v : View) (role : Nat) : Bool := (List.range 4).any (fun k => v.get (HVP_GST_CFG_role k) = role)

/-- The gate limits of R361, times in units of 10 ns scaled by the pixel rate and the slew. -/
def View.r361 (v : View) : List Bool :=
  let n := v.get HVP_GATE_CFG_phases
  let slew := v.get HVP_GATE_CFG_slew
  let pre := v.get HVP_GCK_TIM_pre
  let fall := v.get HVP_GCK_TIM_fall_adv
  let rise := v.get HVP_GCK_TIM_rise_ofs
  let rate := v.get TMG_PCLK_rate
  let t := v.get TMG_HTOTAL_width * 10000
  [v.get TMG_CTRL_split = 0 || n % 2 = 0, decide (pre + 2 ≤ n), decide (v.swing ≤ fall * slew),
   decide (((fall + rise) * rate) * slew + 2 * v.swing * rate ≤ (pre + 1) * t * slew),
   !v.hasRole 3 || decide ((v.swing + fall * slew) * rate < t * slew)]

/-- The start pulses of R362. -/
def View.r362 (v : View) : Bool := if v.get TMG_CTRL_split = 1 then v.hasRole 2 else !v.hasRole 2

/-- One GST output has the SSEL role and one the SEN role (R364). -/
def View.senses (v : View) : Bool :=
  decide (((List.range 4).filter (fun k => v.get (HVP_GST_CFG_role k) = 3)).length = 1) &&
  decide (((List.range 4).filter (fun k => v.get (HVP_GST_CFG_role k) = 4)).length = 1)

/-- The glass in force holds the set's picture and codes (R375). -/
def Device.fitsGlass (d : Device) (v : View) : Bool :=
  let g := d.rd MEM_GLASS_ACT
  decide (v.get TMG_HACT_width ≤ glassW g) && decide (v.get TMG_VACT_height ≤ glassH g) &&
  v.set.stripes.all (fun s => decide (v.qOf s * v.get FAB_CODE_width ≤ glassFb g))

/-- The sense levels fit every stripe (R375). -/
def View.levelsFit (v : View) (levels : Nat) : Bool := v.set.stripes.all (fun s => decide ((levels + 1) * v.qOf s ≤ 12))

/-- The topology limits of R113 and R139. -/
def View.topologyOk (v : View) : Bool :=
  let l := v.get DPRX_TOPO_layout
  let h := v.get TMG_HACT_width
  let w := v.get TMG_VACT_height
  let src := v.get TMG_CTRL_src
  let split := v.get TMG_CTRL_split
  ((l ≠ 2 && l ≠ 4) || (h % 2 = 0 && w % 2 = 0)) && (l ≠ 3 || h % 2 = 0) && ((l ≠ 1 && l ≠ 2) || src = 0) &&
  (src = 0 || ((split = 1) == (l = 4))) && (split = 0 || w % 2 = 0) && v.get TMG_PCLK_rate ≠ 0 &&
  (v.set.stripes.map (fun s => s.width)).sum = h

/-- The pool and component limits of R214. -/
def View.r214 (v : View) : Bool :=
  let mode := v.get FAB_SPR_CFG_mode
  (v.get TMG_CTRL_split = 0 || v.set.stripes.all (fun s => s.slots.all (fun c =>
    if c.kind = 6 ∨ c.kind = 7 then decide (c.pool = 2) else if c.kind = 10 then decide (c.pool = 0 ∨ c.pool = 2) else true))) &&
  v.set.stripes.all (fun s => !s.has 6 || (decide ((mode ≠ 1 ∧ mode ≠ 2) ∨ s.comp = 3) && decide (mode ≠ 2 ∨ s.width % 2 = 0)))

/-- The limits that apply at boot (check 22 of R77): R307 and R375. -/
def Device.bootLimits (d : Device) (v : View) : Bool :=
  (List.range v.set.stripes.length).all (fun i => v.lineFits i) && v.ratesEqual && d.fitsGlass v &&
  (d.getF SRV_CTRL_en = 0 || v.levelsFit (d.get SRV_SENSE_levels))

/-- Check 5 of R86. -/
def Device.swapLimits (d : Device) (v : View) : Bool :=
  v.meetsR25 d.limitStep && v.r97.all (fun b => b) && v.topologyOk && v.r361.all (fun b => b) && v.r362 && v.r214 && d.bootLimits v

/-- The limits that R98 watches, each on its own. -/
def Device.liveLimits (d : Device) (v : View) : List Bool :=
  v.meetsR25 d.limitStep :: (v.r97 ++ v.r361 ++ (List.range v.set.stripes.length).map (fun i => v.lineFits i))

/-- A write of `val` at `off` breaks a limit that the earlier values met, with the active set or with a pending one (R98). -/
def Device.breaksLive (d : Device) (off val : Nat) : Bool :=
  let worse (v : View) : Bool :=
    ((d.liveLimits v).zip (d.liveLimits (v.with off val))).any (fun p => p.1 && !p.2)
  (!d.act.stripes.isEmpty && worse d.actView) || (d.get FAB_SWAP_STAT_pending = 1 && worse d.mirView)

/-- The refresh limit of a step in units of 0.01 Hz, floored (R531); saturates at 16 bits. -/
def Device.refreshLimit (d : Device) (step : Nat) : Nat :=
  let v := d.get TMG_VTOTAL_lines
  (d.act.stripes.foldl (fun n s =>
    if s.width * s.comp * v = 0 then n else Nat.min n (fclkHz step * 100 / (s.width * s.comp * v))) 0xFFFF)

/-- CLK_RLIM follows the steps, the raster and the set (R531). -/
def Device.rlimSync (d : Device) : Device :=
  if d.act.stripes.isEmpty then d else
    let pend := if d.get CLK_FCLK_pend = 1 then d.refreshLimit (d.get CLK_FCLK_req) else 0
    d.wr CLK_RLIM (d.refreshLimit (d.get CLK_FCLK_cur) + pend * 0x10000)

end Sys2Proof.Machine
end

