-- ==== Sys2Proof/Machine/ClkCmds.lean ====
section
/-! DEFINITION. Clocks, voltage scaling, ageing monitors and link margins (spec/18_clocks_emc_selfageing.md). -/

namespace Sys2Proof.Machine

/-- Masters 0 and 2. -/
abbrev mHostSup : Nat := 0x5

/-- A register whose value in force follows the next vertical swap point, or acts at once while no swap points come (R59). -/
def Device.wrFrame (d : Device) (off v : Nat) : Device :=
  let d := d.wr off v
  if d.rasterStopped then d.wrF off v else d

/-! ## Losses of lock (R524) -/

/-- PLL_LOCK_LOSS: 0 core, 1 control, 2 frame store, 3 fabric, 4 pixel, 5 to 16 Aethex groups 0 to 11, 17 the crystal. -/
def execPllLockLoss (k : Fin 18) (s : State) : Out :=
  s.run (fun d =>
    let d := if k.val = 17 then d.put CLK_HV_STAT_osc 1 else d
    if !d.power.coreOn then d else
      let d := d.wr CLK_STAT (offBit (d.rd CLK_STAT) (if k.val = 17 then 24 else k))
      if k.val < 5 ∨ k.val = 17 then d.raiseCode 0x71 k 0 (d.rd CLK_STAT) else d)

/-! ## Spread spectrum (R527, R528) -/

/-- A CLK_SSC value outside its ranges, or whose acl breaks R307 for the active or a pending set. -/
def Device.sscBad (d : Device) (v : Nat) : Bool :=
  let lines (w : View) : Bool := (List.range w.set.stripes.length).all (fun i => (w.with CLK_SSC v).lineFits i)
  v &&& 0xE0E06000 ≠ 0 || 20 < bitsOf v 28 24 || 20 < bitsOf v 20 16 || 20 < bitsOf v 12 8 || 20 < bitsOf v 4 0 ||
  (!d.act.stripes.isEmpty && !lines d.actView) || (d.get FAB_SWAP_STAT_pending = 1 && !lines d.mirView)

/-- A write of CLK_SSC: hop claims its timer, and gives it back when cleared (R528). -/
def Device.sscWrite (d : Device) (m v : Nat) : Device :=
  let t := bitsOf v 7 5
  let on := v.testBit 15
  let had := d.claims.any (fun c => c.feature == 5 && c.idx == t)
  let free := had || d.imageServes 5 6 t || (d.owner 6 t).isNone
  d.guarded m CLK_SSC [(!among m mHostSup, ePerm), (d.sscBad v, eRange), (on && !free, eConflict)] (fun d =>
    let d := d.unclaim 5 (fun c => !on || c.idx ≠ t)
    let d := if on && !had && !d.imageServes 5 6 t then d.claim 5 6 t m else d
    let d : Device := if on then d else { d with clk := { d.clk with hop := none } }
    d.wrFrame CLK_SSC v)

/-- SSC_HOP_ENABLE: a write of CLK_SSC that sets or clears hop. -/
def execSscHopEnable (m : Master) (val : Nat) (s : State) : Out := s.run (fun d => d.sscWrite m (val % 2 ^ 32))

/-- SSC_HOP: the hop timer expires. -/
def execSscHop (s : State) : Out :=
  s.run (fun d =>
    if !d.power.coreOn || d.getF CLK_SSC_hop = 0 || d.get CLK_SSC_hop = 0 then d
    else { d with clk := { d.clk with hop := some (match d.clk.hop with
      | some i => (i + 1) % 4
      | none => 0) } })

/-! ## Fabric clock steps (R531, R532) -/

/-- The step in force changes: the cluster dividers switch in blanking, CLK_IRQ.rlim is set. -/
def Device.fclkApply (d : Device) : Device :=
  let d := (d.put CLK_FCLK_cur (d.get CLK_FCLK_req)).put CLK_FCLK_pend 0
  ((d.bump CLK_EVT_fsteps).put CLK_IRQ_rlim 1).rlimSync

/-- Request step `req`: a slower one pends; while the raster is stopped the step changes at once. -/
def Device.fclkRequest (d : Device) (req : Nat) : Device :=
  let cur := d.get CLK_FCLK_cur
  let d := (d.put CLK_FCLK_req req).put CLK_FCLK_pend (b2n (cur < req))
  if req = cur then d.rlimSync else if d.rasterStopped then d.fclkApply else d.rlimSync

/-- FCLK_STEP_REQUEST: a write of CLK_FCLK.req. -/
def execFclkStepRequest (m : Master) (req : Fin 4) (s : State) : Out :=
  s.run (fun d => d.guarded m CLK_FCLK [(!among m mHostSup, ePerm)] (fun d => d.fclkRequest req))

/-- The requested step may take effect at a vertical swap point. -/
def Device.fclkDue (d : Device) : Bool :=
  let req := d.get CLK_FCLK_req
  let cur := d.get CLK_FCLK_cur
  if req < cur then true else decide (cur < req) && d.actView.meetsR25 req

/-- FCLK_STEP_EFFECT: a vertical swap point at which the requested step may take effect. -/
def execFclkStepEffect (s : State) : Out :=
  s.run (fun d => if d.power.coreOn && d.fclkDue then d.fclkApply else d)

/-! ## Voltage (R533) -/

/-- AVS_STEP: 20 us have passed. -/
def execAvsStep (s : State) : Out :=
  s.run (fun d =>
    if !d.power.coreOn then d else
      let cur := d.get CLK_AVS_cur
      let set := d.get CLK_AVS_set
      d.put CLK_AVS_cur (if cur < set then cur + 1 else if set < cur then cur - 1 else cur))

/-- AVS_MONITOR: VDD_CORE as measured, in mV; off by more than 25 mV for 1 ms is 11 readings in a row. The log entry's code and kind are not stated. -/
def execAvsMonitor (mv : Nat) (s : State) : Out :=
  s.run (fun d =>
    if !d.power.coreOn then d else
      let d := d.wr CLK_AVS_MON (mv % 65536)
      let target := 7000 + 25 * d.get CLK_AVS_cur
      let off : Bool := target + 250 < 10 * mv || 10 * mv + 250 < target
      let n := if off then Nat.min (d.clk.avsBad + 1) 11 else 0
      let due := n = 11 ∧ d.clk.avsBad = 10
      let d : Device := { d with clk := { d.clk with avsBad := n } }
      if due then
        (((d.put CLK_STAT_avs_err 1).put CLK_IRQ_avs 1).logEntry (d.freeWord 0) (d.freeWord 1) (Config.freeNat d.free 7 % 8) 0 []).drawn
      else d)

/-! ## Ageing monitors (R534, R535) -/

/-- Monitor `i` lies in a powered island (R534). -/
def Device.monOn (d : Device) (i : Nat) : Bool :=
  if 62 ≤ i ∧ i < 158 then d.act.clusterMask.testBit ((i - 62) / 8) else true

/-- The lowest of some monitors' readings, with its index. -/
def lowestOf (f : Nat → Int) (l : List Nat) : Option (Int × Nat) :=
  l.foldl (fun acc i => match acc with
    | none => some (f i, i)
    | some (v, j) => if f i < v then some (f i, i) else some (v, j)) none

/-- MONITOR_SAMPLE: the readings of the monitors, by index; slack in two's complement of 16 bits. -/
def execMonitorSample (vals : List Nat) (s : State) : Out :=
  s.run (fun d =>
    if !d.power.coreOn then d else
      let mon := (List.range 216).map (fun i => if d.monOn i then vals.getD i 0 % 65536 else 0)
      let paths := (List.range 148).map (fun i => 62 + i)
      match lowestOf (fun i => signedOf 16 (mon.getD i 0)) (paths.filter (fun i => d.monOn i)) with
      | none => d
      | some (v, i) =>
        let old := signedOf 16 (d.get CLK_AGE_STAT_slack)
        let d := if d.clk.fresh || v < old then (d.put CLK_AGE_STAT_slack (codeOf 16 v)).put CLK_AGE_STAT_index i else d
        let quiet : Bool := match d.clk.raised with
          | some t => decide (d.us < t + 100000)
          | none => false
        let hit := decide (v < (d.get CLK_AGE_CFG_hard : Int)) && !quiet
        let d : Device := { d with clk := { d.clk with mon := mon, fresh := false,
                                                       raised := if hit then some d.us else d.clk.raised } }
        if hit then d.raiseCode 0x70 i 0 (codeOf 16 v) else d)

/-- A kind 3 entry (R535); its code and instance are not stated, nor which reading is the highest on-die temperature. -/
def Device.marginLog (d : Device) (action lane : Nat) : Device :=
  let ring := (List.range 62) ++ [210, 211, 212, 213, 214, 215]
  let low := (lowestOf (fun i => (d.clk.mon.getD i 0 : Int)) ring).getD (0, 0)
  let data := leBytes 2 (d.get CLK_AGE_STAT_slack) ++ leBytes 2 (d.get CLK_AGE_STAT_index) ++
    [action, d.get CLK_AVS_set, d.get CLK_FCLK_req, lane] ++ leBytes 2 (d.get CLK_AVS_MON_mv) ++
    leBytes 2 (d.freeWord 2 % 65536) ++ leBytes 2 (low.1.toNat) ++ leBytes 2 low.2
  (d.logEntry (d.freeWord 0) (d.freeWord 1) 3 0 data).drawn

/-- The action of a re-plan (R535): 0 none, 1 up, 2 down, 3 slower clock, 5 none possible. -/
def Device.planAction (d : Device) (after70 : Bool) : Nat :=
  let s := signedOf 16 (d.get CLK_AGE_STAT_slack)
  let set := d.get CLK_AVS_set
  let manual : Bool := d.get CLK_AVS_manual = 1
  let recent : Bool := after70 || (match d.clk.raised with
    | some t => decide (d.us < t + 86400000000)
    | none => false)
  if s < (d.get CLK_AGE_CFG_floor : Int) then
    if set < d.get CLK_AVS_max then (if manual then 0 else 1)
    else if d.get CLK_FCLK_req < 3 ∧ d.get CLK_FCLK_pend = 0 then 3
    else 5
  else if (d.get CLK_AGE_CFG_ceil : Int) < s ∧ d.get CLK_AVS_min < set ∧ !recent then (if manual then 0 else 2)
  else 0

/-- MARGIN_REPLAN: IK0 re-plans at its period, or after fault 0x70. -/
def execMarginReplan (after70 : Bool) (s : State) : Out :=
  s.run (fun d =>
    if !d.power.coreOn || d.coreState 0 = 0 then d else
      let a := d.planAction after70
      let set := d.get CLK_AVS_set
      let low : Bool := signedOf 16 (d.get CLK_AGE_STAT_slack) < (d.get CLK_AGE_CFG_floor : Int)
      let d := (d.bump CLK_EVT_replans).put CLK_IRQ_replan 1
      let d := if low then d.put CLK_IRQ_floor 1 else d
      let d := if a = 1 then (d.put CLK_AVS_set (Nat.min (set + (if after70 then 2 else 1)) (d.get CLK_AVS_max))).bump CLK_EVT_vsteps
        else if a = 2 then (d.put CLK_AVS_set (set - 1)).bump CLK_EVT_vsteps
        else if a = 3 then d.fclkRequest (d.get CLK_FCLK_req + 1)
        else d
      let d := if a = 0 then d else d.marginLog a 0xFF
      { d with clk := { d.clk with fresh := true } })

/-! ## Link margins (R536, R537) -/

/-- The figure of merit in the last STATUS burst of the driver of lane `n`. -/
def Device.drvFom (d : Device) (n : Nat) : Nat := (d.lane n).status.getD 13 0

/-- `p` is the next lower or the next higher preset of the lane's mask. -/
def Device.neighbour (d : Device) (n p : Nat) : Bool :=
  let mask := d.get (ACL_LANE_CTRL_pmask n)
  let cur := d.get (ACL_LANE_STAT_preset n)
  mask.testBit p && p ≠ cur && (List.range 8).all (fun k => !mask.testBit k ||
    !(decide (Nat.min p cur < k) && decide (k < Nat.max p cur)))

/-- PRESET_TRIAL: a trial of preset `p` on a weak lane has ended; kept only if the figure of merit rose and the invalid headers did not. -/
def execPresetTrial (n : Lane) (p : Fin 8) (fomUp hdrUp : Bool) (s : State) : Out :=
  s.run (fun d =>
    if !d.power.coreOn || d.get CLK_LINK_CFG_en = 0 || d.laneState n ≠ 4 || (d.laneStripe n).isNone
        || d.get CLK_LINK_CFG_fom_min ≤ d.drvFom n || !d.neighbour n p then d
    else if fomUp && !hdrUp then ((d.put (ACL_LANE_STAT_preset n) p).bump CLK_EVT_presets).marginLog 4 n
    else d)

/-- The lane that an eye measurement names carries traffic: a locked DPRX lane, a return lane with a granted slot, a trained forward lane. -/
def Device.eyeLane (d : Device) (kind i : Nat) : Bool :=
  if kind = 0 then d.get (DPRX_STAT_trained (i / 4)) = 1
  else if kind = 1 then d.get (ACL_RET_STAT_granted i) ≠ 0
  else d.laneTrained i

/-- A write of CLK_EYE_SEL. -/
def Device.eyeWrite (d : Device) (m v : Nat) : Device :=
  let i := bitsOf v 7 0
  let kind := bitsOf v 9 8
  let start := v.testBit 16
  let bad : Bool := v &&& 0xFFFEFC00 ≠ 0 || kind = 3 || (kind = 0 && 16 ≤ i) || (kind = 1 && 24 ≤ i) || (kind = 2 && 96 ≤ i)
  d.guarded m CLK_EYE_SEL
    [(!among m 0x4015, ePerm), (bad, eRange), (start && !bad && !d.eyeLane kind i, eState), (start && d.clk.eye.isSome, eBusy)]
    (fun d =>
      let d := d.wrB m CLK_EYE_SEL v
      if start then
        let d : Device := (d.put CLK_EYE_DATA_busy 1).put CLK_EYE_DATA_valid 0
        { d with clk := { d.clk with eye := some (kind, i) } }
      else d)

/-- EYE_MEASURE. -/
def execEyeMeasure (m : Master) (val : Nat) (s : State) : Out := s.run (fun d => d.eyeWrite m (val % 2 ^ 32))

/-- EYE_MEASURE_DONE: the margins, and whether the lane lost lock meanwhile. -/
def execEyeMeasureDone (horiz vert fom : Nat) (lost : Bool) (s : State) : Out :=
  s.run (fun d =>
    match d.clk.eye with
    | none => d
    | some (kind, i) =>
      let lost := lost || !d.eyeLane kind i
      let f := if kind = 2 then d.drvFom i else fom
      let d : Device := { d with clk := { d.clk with eye := none } }
      (((d.put CLK_EYE_DATA_busy 0).put CLK_EYE_DATA_valid (b2n (!lost))).put CLK_EYE_DATA_horiz horiz).put CLK_EYE_DATA_vert vert
        |>.put CLK_EYE_DATA_fom f)

end Sys2Proof.Machine
end

