-- ==== Sys2Proof/Machine/Pixel.lean ====
section
/-! DEFINITION. The arithmetic of the facets on one pixel (spec/07_prism_fabric_pipeline.md, spec/08_transition_shaping.md, spec/09_compensation.md, spec/06_layers.md) and of the stress integrator (spec/10_survey.md): pure functions of values. -/

namespace Sys2Proof.Machine

/-- A component after a facet: clamped to 0 to 262,143 (R191). -/
def clamp18 (v : Int) : Nat := if v < 0 then 0 else Nat.min v.toNat 262143

/-- Division by a positive divisor, rounded as R191. -/
def rdiv (v : Int) (d : Nat) : Int := (v + ((d / 2 : Nat) : Int)) / (d : Int)

/-- A pixel's components. -/
abbrev Pix := List Nat

/-- Component `k` of a pixel. -/
def comp (p : Pix) (k : Nat) : Nat := p.getD k 0

/-! ## Unpack and colour-space conversion (R195-R198) -/

/-- A sample of `b` bits expanded to 18 bits by repeating its bits (R195). -/
def expand (b c : Nat) : Nat :=
  if b = 12 then c * 64 + c / 64 else if b = 10 then c * 256 + c / 4 else c * 1024 + c * 4 + c / 64

/-- Luma weights of red and blue in units of 1/10,000: 2 BT.601, 4 BT.2020, else BT.709. -/
def lumaWeights (std : Nat) : Nat × Nat := if std = 2 then (2990, 1140) else if std = 4 then (2627, 593) else (2126, 722)

/-- The scale of R196: multiplier and divisor for luma or RGB, and for chroma, by range. -/
def lumaScale (narrow : Bool) : Int × Nat × Int := if narrow then (262143, 224256, 16384) else (1, 1, 0)
def chromaScale (narrow : Bool) : Int × Nat := if narrow then (262143, 229376) else (1, 1)

/-- The range expansion of an RGB or luma value. -/
def rangeOne (narrow : Bool) (x : Nat) : Nat :=
  let s := lumaScale narrow
  clamp18 (rdiv (((x : Int) - s.2.2) * s.1) s.2.1)

/-- The BT.709 luma of RGB values, their range expanded in the same exact arithmetic. -/
def luma709 (narrow : Bool) (r g b : Nat) : Nat :=
  let s := lumaScale narrow
  let e (x : Nat) : Int := ((x : Int) - s.2.2) * s.1
  clamp18 (rdiv (2126 * e r + 7152 * e g + 722 * e b) (10000 * s.2.1))

/-- YCbCr to RGB, exact and rounded once (R196). -/
def yccToRgb (std : Nat) (narrow : Bool) (y cb cr : Nat) : Pix :=
  let w := lumaWeights std
  let kr : Int := w.1
  let kb : Int := w.2
  let kg : Int := 10000 - kr - kb
  let l := lumaScale narrow
  let c := chromaScale narrow
  let yn : Int := ((y : Int) - l.2.2) * l.1
  let bn : Int := ((cb : Int) - 131072) * c.1
  let rn : Int := ((cr : Int) - 131072) * c.1
  let yd : Int := l.2.1
  let cd : Int := c.2
  let den := l.2.1 * c.2 * 10000
  [clamp18 (rdiv (yn * cd * 10000 + 2 * (10000 - kr) * rn * yd) den),
   clamp18 (rdiv (yn * cd * 10000 * kg - (2 * kb * (10000 - kb) * bn + 2 * kr * (10000 - kr) * rn) * yd) (den * kg.toNat)),
   clamp18 (rdiv (yn * cd * 10000 + 2 * (10000 - kb) * bn * yd) den)]

/-- Three components brought to `n` (R198). -/
def toComps (n luma : Nat) (p : Pix) : Pix :=
  match n with
  | 1 => [luma]
  | 2 => [luma, 0]
  | 4 => [comp p 0, comp p 1, comp p 2, Nat.min (comp p 0) (Nat.min (comp p 1) (comp p 2))]
  | _ => [comp p 0, comp p 1, comp p 2]

/-- The range expansion of a chroma value that is not converted. -/
def chromaOne (narrow : Bool) (x : Nat) : Nat :=
  let c := chromaScale narrow
  clamp18 (131072 + rdiv (((x : Int) - 131072) * c.1) c.2)

/-- The unpack facet on one pixel: `std` is the conversion (0: none), `rgb` says the stream is RGB. -/
def unpackPix (rgb : Bool) (std : Nat) (narrow : Bool) (n : Nat) (p : Pix) : Pix :=
  let a := comp p 0
  let b := comp p 1
  let c := comp p 2
  if rgb then toComps n (luma709 narrow a b c) [rangeOne narrow a, rangeOne narrow b, rangeOne narrow c]
  else if std = 0 then toComps n (rangeOne narrow a) [rangeOne narrow a, chromaOne narrow b, chromaOne narrow c]
  else toComps n (rangeOne narrow a) (yccToRgb std narrow a b c)

/-- A fill or test colour of 12 bits a component, left-aligned (R151, R156). -/
def injectPix (n r g b : Nat) : Pix :=
  toComps n (luma709 false (r * 64) (g * 64) (b * 64)) [r * 64, g * 64, b * 64]

/-! ## Layers (R168, R169, R199) -/

/-- A 12-bit palette component in the 18-bit precision. -/
def pal18 (c : Nat) : Nat := c * 64 + c / 64

/-- One blended component. -/
def blendOne (a l b : Nat) : Nat := (a * l + (4095 - a) * b + 2047) / 4095

/-- A palette entry: red, green, blue and alpha in 12 bits each. -/
def blendPix (entry : Nat) (opq : Bool) (p : Pix) : Pix :=
  let r := bitsOf entry 11 0
  let g := bitsOf entry 23 12
  let b := bitsOf entry 35 24
  let a := if opq then 4095 else bitsOf entry 47 36
  let l : List Nat := match p.length with
    | 1 => [pal18 ((2 * r + 5 * g + b + 4) / 8)]
    | 2 => [pal18 ((2 * r + 5 * g + b + 4) / 8), 0]
    | 4 => [pal18 r, pal18 g, pal18 b, pal18 (Nat.min r (Nat.min g b))]
    | _ => [pal18 r, pal18 g, pal18 b]
  (p.zip l).map (fun c => blendOne a c.2 c.1)

/-! ## Matrix, LUTs, gamma (R200-R202, R206) -/

/-- The colour matrix: nine coefficients and three offsets as their registers hold them (R200). -/
def matrixPix (m : Nat → Nat) (p : Pix) : Pix :=
  let x (j : Nat) : Int := comp p j
  let y (i : Nat) : Nat :=
    let sum : Int := ((List.range 3).map (fun j => signedOf 18 (m (3 * i + j)) * x j)).foldl (· + ·) 0
    clamp18 ((sum + 8192) / 16384 + signedOf 18 (m (9 + i)))
  if p.length < 3 then p else [y 0, y 1, y 2] ++ p.drop 3

/-- One curve of a 1D LUT of `n` entries (R201). -/
def lut1One (e : Nat → Nat) (n x : Nat) : Nat :=
  let s := 262144 / n
  let i := x / s
  let f := x % s
  let at' (j : Nat) : Nat := if j < n then e j else clamp18 (2 * (e (n - 1) : Int) - e (n - 2))
  clamp18 ((at' i : Int) + (((at' (i + 1) : Int) - at' i) * f + (s / 2 : Nat)) / (s : Int))

/-- A 1D LUT facet. -/
def lut1Pix (b : LutBlock) (p : Pix) : Pix :=
  let n := if b.split then b.entries.length / p.length else b.entries.length
  (List.range p.length).map (fun k => lut1One (fun j => bitsOf (b.entries.getD ((if b.split then k * n else 0) + j) 0) 17 0) n (comp p k))

/-- The tetrahedral interpolation of R202. -/
def lut3Pix (b : LutBlock) (p : Pix) : Pix :=
  let idx (k : Nat) : Nat := comp p k / 4096
  let fr (k : Nat) : Nat := comp p k % 4096
  let ins (l : List Nat) (k : Nat) : List Nat := l.takeWhile (fun j => decide (fr k ≤ fr j)) ++ [k] ++ l.dropWhile (fun j => decide (fr k ≤ fr j))
  let order := [0, 1, 2].foldl ins []
  let a := order.getD 0 0
  let m := order.getD 1 0
  let c := order.getD 2 0
  let weight : List Nat := [1, 65, 4225]
  let base := idx 0 + 65 * idx 1 + 4225 * idx 2
  let pt (e k : Nat) : Nat := let v := b.entries.getD e 0; bitsOf v (21 * k + 17) (21 * k)
  let pa := base + weight.getD a 0
  let pab := pa + weight.getD m 0
  let p111 := pab + weight.getD c 0
  let y (k : Nat) : Nat :=
    Nat.min 262143 (((4096 - fr a) * pt base k + (fr a - fr m) * pt pa k + (fr m - fr c) * pt pab k + fr c * pt p111 k + 2048) / 4096)
  if p.length < 3 then p else [y 0, y 1, y 2] ++ p.drop 3

/-- Binary search for the correctly rounded 262,143 (i / 1,024)^(e / 1,024): exact comparisons of 1,024th powers. -/
def gammaSearch (i e : Nat) : Nat → Nat → Nat → Nat
  | 0, lo, _ => lo
  | f + 1, lo, hi =>
    if hi ≤ lo then lo else
      let m := (lo + hi) / 2
      if ((2 * m + 1) ^ 32) ^ 32 * 1024 ^ e ≤ ((2 * 262143) ^ 32) ^ 32 * i ^ e then gammaSearch i e f (m + 1) hi
      else gammaSearch i e f lo m

/-- Knot `i` of a gamma facet with exponent `e` (R206). -/
def gammaKnot (e i : Nat) : Nat := gammaSearch i e 19 0 262143

/-- The gamma encode facet. -/
def gammaPix (e : Nat) (p : Pix) : Pix :=
  p.map (fun x =>
    let i := x / 256
    let a : Int := gammaKnot e i
    let b : Int := gammaKnot e (i + 1)
    clamp18 (a + ((b - a) * (x % 256 : Nat) + 128) / 256))

/-! ## Subpixel rendering (R203) -/

/-- One emitted channel: weights of the row above and of the current row over columns x - 1 to x + 1. -/
def sprOne (above cur : Nat → Nat) (wa wc : Nat) (rev : Bool) : Nat :=
  let w (r j : Nat) : Nat := bitsOf r (10 * j + 8) (10 * j)
  let col (j : Nat) : Nat := if rev then 2 - j else j
  clamp18 ((((List.range 3).map (fun j => w wa (col j) * above j + w wc (col j) * cur j)).sum + 128) / 256 : Nat)

/-- The facet at column `x` of row `r`: `above` and `cur` give the three columns' pixels. -/
def sprPix (mode phase x r : Nat) (k : Nat → Nat) (above cur : Nat → Pix) : Pix :=
  let ch (c : Nat) : Nat :=
    sprOne (fun j => comp (above j) c) (fun j => comp (cur j) c) (k (2 * c)) (k (2 * c + 1)) (mode = 1 && decide (r % 2 ≠ phase))
  if mode = 1 then [ch 0, ch 1, ch 2]
  else if mode = 2 then (if x % 2 = 0 then [ch 0, ch 1] else [ch 2, ch 1])
  else cur 1

/-! ## Compensation (R249-R252, R294) -/

/-- A record: gain and offset (R249). -/
def recOf (b : List Nat) : Nat × Int :=
  let w := leNat b
  (bitsOf w 11 0, signedOf 12 (bitsOf w 23 12))

/-- The record formed in ramp frame `j` of `n` (R294). -/
def rampRec (p t : Nat × Int) (j n : Nat) : Nat × Int :=
  let mv (a b : Int) : Int := a + ((b - a) * j + (n / 2 : Nat)) / (n : Int)
  ((mv p.1 t.1).toNat, mv p.2 t.2)

/-- The effective gain and offset of a component (R250). -/
def effGain (r : Nat × Int) (a : Nat) : Int := 4096 + (((r.1 : Int) - 2048) * a + 128) / 256
def effOffset (r : Nat × Int) (b s : Nat) : Int := (r.2 * (2 ^ s : Nat) * b + 128) / 256

/-- The compensated component (R251) and its inverse (R252). -/
def compOne (g o : Int) (x : Nat) : Nat := clamp18 (((x : Int) * g + 2048) / 4096 + o)
def compInv (g o : Int) (y : Nat) : Nat := clamp18 ((((y : Int) - o) * 4096 + g / 2) / g)

/-! ## Transition shaping (R224-R227) -/

/-- The interpolation of R226 over the four knots K(io, in), K(io + 1, in), K(io, in + 1), K(io + 1, in + 1). -/
def knotMix (fo fn : Nat) (k00 k10 k01 k11 : Int) : Int :=
  ((8192 - fo : Nat) * (8192 - fn : Nat) * k00 + fo * (8192 - fn : Nat) * k10 + (8192 - fo : Nat) * fn * k01 +
    fo * fn * k11 + 2 ^ 25) / 2 ^ 26

/-- G and D for an old and a new value; `k` gives the knot word at an old and a new index (R226). -/
def gainDecay (k : Nat → Nat → Nat) (o n : Nat) : Int × Int :=
  let io := Nat.min (o / 8192) 31
  let iN := Nat.min (n / 8192) 31
  let fo := o - 8192 * io
  let fn := n - 8192 * iN
  let g (a b : Nat) : Int := signedOf 16 (bitsOf (k a b) 15 0)
  let dd (a b : Nat) : Int := bitsOf (k a b) 27 16
  let gv := knotMix fo fn (g io iN) (g (io + 1) iN) (g io (iN + 1)) (g (io + 1) (iN + 1))
  let dv := knotMix fo fn (dd io iN) (dd (io + 1) iN) (dd io (iN + 1)) (dd (io + 1) (iN + 1))
  (max (-32768) (min 32767 gv), max 0 (min 4095 dv))

/-- The first step and a later step (R227). -/
def firstStep (g : Int) (o n : Nat) : Nat := clamp18 ((n : Int) + (g * ((n : Int) - o) + 2048) / 4096)
def laterStep (dk : Int) (o n : Nat) : Nat := clamp18 ((n : Int) + (dk * ((o : Int) - n) + 2048) / 4096)

/-- The pixel under its tile's action: its outputs, its byte, and whether it passed the threshold (R227). `steps` is the latched count. -/
def shapePix (act : TileAct) (thresh steps byte : Nat) (gd : Nat → Int × Int) (old new : Nat → Nat) (m : Nat) : Pix × Nat × Bool :=
  let n : Pix := (List.range m).map new
  let o : Pix := (List.range m).map old
  let g : Pix := (List.range m).map (fun k => firstStep (gd k).1 (old k) (new k))
  let dd : Pix := (List.range m).map (fun k => laterStep (gd k).2 (old k) (new k))
  let applied := byte % 64
  match act with
  | .off => (n, 0, false)
  | .frozen => (n, 0x80, false)
  | .final => (n, 0, false)
  | .hold => (o, byte, false)
  | .restart => (if steps = 1 then n else g, 0x41, false)
  | .step => if applied = 0 then (g, byte / 64 * 64 + 1, false) else (dd, byte / 64 * 64 + (applied + 1) % 64, false)
  | .detect =>
    let exceeds : Bool := (List.range m).any (fun k => decide (thresh < ((new k : Int) - old k).natAbs))
    if !exceeds then (n, 0, false)
    else if steps = 1 then (n, 0, true)
    else ((List.range m).map (fun k => if thresh < ((new k : Int) - old k).natAbs then comp g k else new k), 0x41, true)

/-! ## Dither (R264-R267) -/

/-- The ordered matrix value at X and Y (R265). -/
def orderedB (x y : Nat) : Nat :=
  let z := x ^^^ y
  let b (n i : Nat) : Nat := b2n (n.testBit i)
  32 * b z 0 + 16 * b y 0 + 8 * b z 1 + 4 * b y 1 + 2 * b z 2 + b y 2

/-- The mixing of R266. -/
def mixHash (h : Nat) : Nat :=
  let h := h ^^^ (h >>> 16)
  let h := h * 0x7A3DC4F1 % 2 ^ 32
  h ^^^ (h >>> 13)

/-- The position hash of R266 and R279 with a seed, before the mixing. -/
def posHash (x y k seed : Nat) : Nat :=
  (x * 0x8F4C2A35 + y * 0xB5D16E27 + k * 0xC3A95E1B + seed) % 2 ^ 32

/-- The threshold offset d (R264): `ph` is CMP_DITH_PHASE, `seed` CMP_DITH_SEED. -/
def ditherD (thr w ph seed phi x y k : Nat) : Nat :=
  let s := 2 ^ (18 - w)
  if thr = 0 then s / 2
  else if thr = 1 then
    (2 * orderedB ((x + bitsOf ph (6 * phi + 2) (6 * phi)) % 8) ((y + bitsOf ph (6 * phi + 5) (6 * phi + 3)) % 8) + 1) * s / 128
  else mixHash (posHash x y k (seed + phi * 0x6D2B79F5)) / 2 ^ (14 + w)

/-- The code of an input with an incoming carry (R264). -/
def ditherCode (w : Nat) (v : Nat) (carry : Int) (dd : Nat) : Nat :=
  let c : Int := ((v : Int) + carry + dd) / (2 ^ (18 - w) : Nat)
  if c < 0 then 0 else Nat.min c.toNat (2 ^ w - 1)

/-- A component's own error (R267). -/
def ditherErr (w v dd : Nat) : Int := (v : Int) - (2 ^ (18 - w) * Nat.min (2 ^ w - 1) ((v + dd) / 2 ^ (18 - w)) : Nat)

/-- The carry of R267 from five errors of the row above, offset -2 first. -/
def ditherCarry (ws : List Nat) (es : List Int) : Int :=
  (((ws.zip es).map (fun p => (p.1 : Int) * p.2)).foldl (· + ·) 0 + 128) / 256

/-! ## Code packer (R207) -/

/-- The code of a component: its top bits after a dither facet, else rounded. -/
def packOne (dithered : Bool) (w x : Nat) : Nat :=
  if dithered then x / 2 ^ (18 - w) else Nat.min (2 ^ w - 1) ((x + 2 ^ (17 - w)) / 2 ^ (18 - w))

/-- Channel order on the lane: FAB_CODE.order and flip renumber the codes that stand in glass order (R207). -/
def renumber (q : Nat) (order flip : Bool) (codes : List Nat) : List Nat :=
  let src (n : Nat) : Nat := if order && q = 3 then n / 3 * 3 + (2 - n % 3) else n
  let l := (List.range codes.length).map (fun n => codes.getD (src n) 0)
  if flip then l.reverse else l

/-! ## The stress integrator (R278-R280) -/

/-- The stress weight of a driven code (R280): `k` gives the knots of the colour. -/
def stressWeight (k : Nat → Nat) (w code : Nat) : Nat :=
  let c := expandCode w code
  let i := Nat.min (c / 4096) 63
  let f := c - 4096 * i
  ((k i : Int) + (((k (i + 1) : Int) - k i) * f + 2048) / 4096).toNat
where
  /-- A code of `w` bits expanded to 18 under R195's rule of repeating its bits. -/
  expandCode (w c : Nat) : Nat := c * 2 ^ (18 - w) + c / 2 ^ (2 * w - 18)

/-- One field of the integrator after a frame (R279): `wf` is the frame's weight. -/
def stressField (field wf x y k frame : Nat) : Nat :=
  let e := field / 64
  let s := e - 1
  let h1 := mixHash (posHash x y k (frame * 0x9E3779B9))
  let h2 := mixHash ((h1 + 0x2545F491) % 2 ^ 32)
  let u := h1 * 65536 + h2 / 65536
  if u < wf * 2 ^ (20 - s) ∧ field < 0x3FF then field + 1 else field

end Sys2Proof.Machine
end

