-- ==== Sys2Proof/Machine/Access.lean ====
section
/-! DEFINITION. What every register write is held to (R7, R8), the mirror-set registers and their values (R72, R81, R112, R117, R137, R206, R207, R361, R362), and who may write which block. -/

namespace Sys2Proof.Machine

/-- Bits of a register that belong to some field. -/
def RegRow.fields (r : RegRow) : Nat := r.rw ||| r.w1c ||| r.rc ||| r.wo ||| r.ro

/-- A written value has a reserved bit set (R8). -/
def reservedBad (off val : Nat) : Bool :=
  match regAt off with
  | some (r, _, _) => maskOut 32 val r.fields ≠ 0
  | none => false

/-- A write would change a read-only field, or names a clear-on-read one (R7). Read-only bits are ignored beside write-1-to-clear fields. -/
def Device.roBad (d : Device) (off val : Nat) : Bool :=
  match regAt off with
  | some (r, _, _) => r.rc ≠ 0 || (r.w1c = 0 && decide ((val &&& r.ro) ≠ (d.rd off &&& r.ro)))
  | none => false

/-- The checks of R7 and R8. -/
def Device.formChecks (d : Device) (off val : Nat) : List (Bool × Nat) :=
  [(d.roBad off val, ePerm), (reservedBad off val, eRange)]

/-- Masters of the fabric, transition, compensation, raster and image registers: 0, 2 and 7 to 9. -/
abbrev mFabric : Nat := 0x385

/-- Masters of the DPRX, TAP and ACL registers: 0, 2, 4 and 7 to 9. -/
abbrev mLinks : Nat := 0x395

/-- Masters 0, 1, 2 and 7 to 9. -/
abbrev mSide : Nat := 0x387

/-! ## Mirror-set registers -/

/-- The MS registers. -/
def msRegs : List Nat :=
  [DPRX_TOPO, DPRX_VRR, TMG_CTRL, TMG_PCLK, TMG_HACT, TMG_VACT, FAB_CODE, FAB_SPR_CFG, FAB_GAMMA] ++
  (List.range 12).map ACL_GRP_RATE ++ [HVP_GATE_CFG, HVP_GCK_TIM] ++ (List.range 4).map HVP_GST_CFG

/-- The masters that may write an MS register. -/
def msMasters (off : Nat) : Nat :=
  if off = DPRX_TOPO ∨ off = DPRX_VRR ∨ (List.range 12).any (fun g => ACL_GRP_RATE g = off) then mLinks
  else if onHvDie off then 0x3E5 else mFabric

/-- `ref` names a port of the layout (R112). -/
def topoOk (v : Nat) : Bool :=
  let l := bitsOf v 2 0
  let ref := bitsOf v 9 8
  decide (l ≤ 4) && ((l ≠ 1 && l ≠ 2) || decide (ref = bitsOf v 5 4)) && (l ≠ 3 || decide (ref ≤ 1))

/-- A value within the ranges of an MS register's fields. -/
def msValueOk (off v : Nat) : Bool :=
  let within (lo hi x : Nat) : Bool := decide (lo ≤ x) && decide (x ≤ hi)
  if off = DPRX_TOPO then topoOk v
  else if off = DPRX_VRR then within 24 120 (bitsOf v 23 16) && within 24 (bitsOf v 23 16) (bitsOf v 15 8)
  else if off = TMG_PCLK then within 1 1000000 (bitsOf v 19 0)
  else if off = TMG_HACT then within 16 8192 (bitsOf v 13 0)
  else if off = TMG_VACT then within 8 4352 (bitsOf v 12 0)
  else if off = FAB_CODE then within 10 16 (bitsOf v 4 0)
  else if off = FAB_SPR_CFG then bitsOf v 1 0 ≠ 3
  else if off = FAB_GAMMA then within 256 4096 (bitsOf v 28 16) && within 256 4096 (bitsOf v 12 0)
  else if off = HVP_GATE_CFG then
    within 5 50 (bitsOf v HVP_GATE_CFG_slew.hi HVP_GATE_CFG_slew.lo) && within 2 16 (bitsOf v HVP_GATE_CFG_phases.hi HVP_GATE_CFG_phases.lo)
  else if (List.range 4).any (fun k => HVP_GST_CFG k = off) then
    within 1 4 (bitsOf v (HVP_GST_CFG_width 0).hi (HVP_GST_CFG_width 0).lo) &&
    within 0 4 (bitsOf v (HVP_GST_CFG_role 0).hi (HVP_GST_CFG_role 0).lo)
  else true

/-- A value that a host write of an MS register would accept, by its own bits (R72). -/
def msAccepts (off v : Nat) : Bool := !reservedBad off v && msValueOk off v

/-- A decode runs (R81). -/
def Device.decoding (d : Device) : Bool := d.img.op.any (fun o => o.set.isSome)

/-- A write of an MS register: only the mirror copy changes (R81). -/
def Device.msWrite (d : Device) (m off v : Nat) : Device :=
  let busy := d.get FAB_SWAP_STAT_pending = 1 || d.get FAB_SWAP_STAT_refill = 1 || d.decoding
  let checks := [(!among m (msMasters off), ePerm), (!msAccepts off v, eRange), (busy, eBusy)]
  let act (d : Device) : Device := (d.wr off v).put FAB_MIR_STAT_dirty 1
  if onHvDie off then d.hvGuarded m off checks act else d.guarded m off checks act

end Sys2Proof.Machine
end

