-- ==== Sys2Proof/Machine/Swap.lean ====
section
/-! DEFINITION. Prism image operations, the mirror set and the swap (spec/03_prism_image_mirror.md), and the placement of a set in Pond (R389, R390). -/

namespace Sys2Proof.Machine

/-! ## Placement in Pond (R389, R390) -/

/-- Give bank `i` a use; the fabric's and the engine's banks are pinned. -/
def Device.bankUse (d : Device) (i use : Nat) : Device :=
  let pin := b2n (use = 9 ∨ use = 11 ∨ use = 12)
  ((d.put (MEM_BANK_INFO_use i) use).put (MEM_BANK_INFO_pinned i) pin).put (MEM_BANK_CFG_pin i) pin

/-- The lowest `n` free banks of the range, if there are so many. -/
def Device.lowBanks (d : Device) (n : Nat) : Option (List Nat) :=
  let l := ((List.range 368).filter (fun i => d.bankFree i)).take n
  if l.length = n then some l else none

/-- Give the lowest `n` free banks a use. -/
def Device.takeBanks (d : Device) (n use : Nat) : Option (Device × List Nat) :=
  match d.lowBanks n with
  | none => none
  | some l => some (eachOf l (fun i d => d.bankUse i use) d, l)

/-- The stripes that name a LUT block. -/
def PrismSet.lutStripes (p : PrismSet) (ident : Nat) : List Nat :=
  (List.range p.stripes.length).filter (fun s =>
    (p.stripes.getD s {}).slots.any (fun c => (c.kind == 4 || c.kind == 5) && c.lut == ident))

/-- The banks a LUT block needs: a copy per stripe, packed, or 17 per cluster (R201, R202). -/
def PrismSet.lutNeed (p : PrismSet) (b : LutBlock) : Nat :=
  let ss := p.lutStripes b.ident
  if b.kind = 2 then 17 * (ss.map (fun s => s / 8)).eraseDups.length
  else (ss.length * 4 * b.entries.length + 131071) / 131072

/-- Blocks are equal for R390: kind (and so entry size), split, count and entries. -/
def lutSame (a b : LutBlock) : Bool := a.kind == b.kind && a.split == b.split && a.entries == b.entries

/-- The bank the input rings of a layout need: 4 lines a port at 4.5 bytes a pixel (R217, R378). -/
def View.ringBanks (v : View) : Nat :=
  let l := v.get DPRX_TOPO_layout
  let ports := if l = 0 then 0 else if l ≤ 2 then 1 else if l = 3 then 2 else 4
  let w := if l = 1 then v.get TMG_HACT_width else v.get TMG_HACT_width / 2
  (ports * 4 * w * 9 / 2 + 131071) / 131072

/-- Two knot-copy banks for each powered cluster with a transition facet. -/
def View.knotBanks (v : View) : Nat :=
  2 * (((List.range v.set.stripes.length).filter (fun s => (v.set.stripes.getD s {}).has 9)).map (fun s => s / 8)).eraseDups.length

/-- Bring the banks of a use to `n`: excess ones return to the range from the top, missing ones are taken from its low end. -/
def Device.sizeUse (d : Device) (use n : Nat) : Device :=
  let have_ := (List.range 384).filter (fun i => d.get (MEM_BANK_INFO_use i) = use)
  if n ≤ have_.length then eachOf (have_.drop n) (fun i d => d.bankUse i 0) d
  else match d.takeBanks (n - have_.length) use with
    | some r => r.1
    | none => d

/-- Place LUT blocks: a block equal to one of `shared` shares its banks, another takes free ones with `use`. -/
def Device.placeLuts (d : Device) (p : PrismSet) (shared : List (LutBlock × List Nat)) (use : Nat) :
    List LutBlock → Option (Device × List LutPlace)
  | [] => some (d, [])
  | b :: bs =>
    match shared.find? (fun c => lutSame c.1 b) with
    | some c => (d.placeLuts p shared use bs).map (fun r => (r.1, ⟨b.ident, c.2⟩ :: r.2))
    | none =>
      match d.takeBanks (p.lutNeed b) use with
      | none => none
      | some r => (r.1.placeLuts p shared use bs).map (fun q => (q.1, ⟨b.ident, r.2⟩ :: q.2))

/-- The blocks of a set with their banks. -/
def placed (p : PrismSet) (l : List LutPlace) : List (LutBlock × List Nat) :=
  l.filterMap (fun c => (p.lut c.ident).map (fun b => (b, c.banks)))

/-- Place the active set at boot step 7: rings, knots, LUT copies; false when the banks do not suffice. -/
def Device.placeActive (d : Device) : Device × Bool :=
  let d := (d.sizeUse 11 d.actView.ringBanks).sizeUse 12 d.actView.knotBanks
  match d.placeLuts d.act [] 9 d.act.luts with
  | some r => ({ r.1 with img := { r.1.img with actLuts := r.2 } }, true)
  | none => (d, false)

/-- Return the banks that only the mirror set uses. -/
def Device.freeMirror (d : Device) : Device :=
  { eachOf ((List.range 384).filter (fun i => d.get (MEM_BANK_INFO_use i) = 10)) (fun i d => d.bankUse i 0) d with
    img := { d.img with mirLuts := [] } }

/-! ## What the fabric shows of the active set (R219, FAB_STAT, FAB_STRIPE_CFG) -/

/-- FAB_STAT, FAB_DEPTH and FAB_STRIPE_CFG follow the active set. -/
def Device.fabSync (d : Device) : Device :=
  let v := d.actView
  let n := d.act.stripes.length
  let d := d.wr FAB_STAT (n * 0x10000 + d.act.clusterMask)
  let d := d.depthSync
  eachOf (List.range 96) (fun s d =>
    match d.act.stripes[s]? with
    | none => d.wr (FAB_STRIPE_CFG s) 0
    | some c => d.wr (FAB_STRIPE_CFG s)
        (c.firstCol + c.width * 0x4000 + c.comp * 0x400000 + v.qOf c * 0x2000000 + 0x10000000)) d

/-! ## Image operations (R75-R80) -/

/-- The staged bytes meet a scan region (R76, R381). -/
def Device.meetsScan (d : Device) (a n : Nat) : Bool :=
  (List.range 7).any (fun i => meets a n (d.rgnBase i) (d.rd (MEM_RGN_SIZE i)))

/-- Checks of FAB_IMG_CMD op 1 or 2 (R76). -/
def Device.imgChecks (d : Device) (m op : Nat) : List (Bool × Nat) :=
  let a := d.rd FAB_IMG_ADDR
  let n := d.rd FAB_IMG_LEN
  [(!among m mFabric, ePerm), (decide (d.mode = 5), eState), (d.img.op.isSome, eBusy),
   (op = 1 && (d.get FAB_SWAP_STAT_pending = 1 || d.get FAB_SWAP_STAT_refill = 1), eBusy),
   (a % 64 ≠ 0, eAlign), (decide (6291456 < n), eRange), (d.meetsScan a n, eBusy)]

/-- Start op 1 or 2. -/
def Device.imgStart (d : Device) (m op : Nat) : Device :=
  d.guarded m FAB_IMG_CMD (d.imgChecks m op) (fun d =>
    ({ d with img := { d.img with op := some { op := op, master := m } } }).wr FAB_IMG_STAT 0xFF000001)

/-- Abort (R80). -/
def Device.imgAbort (d : Device) (m : Nat) : Device :=
  d.guarded m FAB_IMG_CMD [(!among m mFabric, ePerm), (d.img.op.isNone, eState)] (fun d =>
    let d := if d.decoding then d.put FAB_MIR_STAT_valid 0 else d
    (({ d with img := { d.img with op := none } }).wr FAB_IMG_STAT (0xFF000002 + eSeq * 0x10000)).wr FAB_IMG_FAIL_OFF 0)

/-- FAB_IMG_CMD as a register write. -/
def Device.imgCmd (d : Device) (m op : Nat) : Device :=
  if op = 0 then d.guarded m FAB_IMG_CMD [(!among m mFabric, ePerm)] id
  else if op = 3 then d.imgAbort m else d.imgStart m op

/-- IMG_CHECK_DECODE: op 1. -/
def execImgCheckDecode (m : Master) (s : State) : Out := s.run (fun d => d.imgStart m 1)

/-- IMG_CHECK_ONLY: op 2. -/
def execImgCheckOnly (m : Master) (s : State) : Out := s.run (fun d => d.imgStart m 2)

/-- IMG_ABORT: op 3. -/
def execImgAbort (m : Master) (s : State) : Out := s.run (fun d => d.imgAbort m)

/-- The Keep side of an image check (R74). -/
def Device.imgCtx (d : Device) (len : Option Nat) : ImgCtx :=
  { len := len, enforced := d.bootWord 0 % 2 = 1, keyHash := (d.recBody 0).elim [] (fun b => (b.drop 32).take 32),
    minVersion := d.bootWord 24 }

/-- Checks 20 and 21: the PRESET entries (R72). -/
def imgCheckPresets (b : ImgBytes) : Except ImgFail Unit := do
  let t := secTable b
  match secOf t 6 with
  | none => pure ()
  | some e =>
    let ps := (List.range (e.len / 8)).map (fun i => (imgLe b (e.off + 8 * i) 4, imgLe b (e.off + 8 * i + 4) 4, e.off + 8 * i))
    checkAll 20 ePerm (ps.map (fun p => (msRegs.contains p.1, p.2.2))) e.idx
    checkAll 21 eRange (ps.map (fun p => (msAccepts p.1 p.2.1, p.2.2))) e.idx

/-- Checks 1 to 21 of R77. -/
def imgCheck21 (b : ImgBytes) (x : ImgCtx) : Except ImgFail Unit := do
  imgCheck19 b x
  imgCheckPresets b

/-- An operation ends with a failing check. -/
def Device.imgFail (d : Device) (o : ImgOp) (f : ImgFail) : Device :=
  let d : Device := { d with img := { d.img with op := none } }
  ((d.wr FAB_IMG_STAT (2 + f.check * 0x100 + f.code * 0x10000 + f.section_ % 256 * 0x1000000)).wr FAB_IMG_FAIL_OFF f.off).reject
    o.master FAB_IMG_CMD f.code

/-- FAB_MIR_DIG or FAB_ACT_DIG from digest bytes. -/
def Device.wrDigest (d : Device) (reg : Nat → Nat) (dig : List Nat) : Device :=
  eachOf (List.range 8) (fun i d => d.wr (reg i) (beNat ((dig.drop (4 * i)).take 4))) d

/-- Decode a checked image into the mirror set (R80, R390). -/
def Device.imgDecode (d : Device) (p : PrismSet) : Option Device :=
  let d := d.freeMirror
  match d.placeLuts p (placed d.act d.img.actLuts) 10 p.luts with
  | none => none
  | some r =>
    let d : Device := { r.1 with mir := p, img := { r.1.img with mirLuts := r.2 } }
    let d := eachOf p.presets (fun e d => d.wr e.1 e.2) d
    let d := ((d.wr FAB_MIR_VER p.version).wrDigest FAB_MIR_DIG p.digest)
    some (((d.put FAB_MIR_STAT_src 1).put FAB_MIR_STAT_dirty 0).put FAB_MIR_STAT_valid 1)

/-- The decoding of a checked set ends (R80, R390). -/
def Device.imgDecoded (d : Device) (p : PrismSet) : Device :=
  match d.imgDecode p with
  | some d => (d.wr FAB_IMG_STAT 0xFF000002).wr FAB_IMG_FAIL_OFF 0
  | none => ((d.put FAB_MIR_STAT_valid 0).wr FAB_IMG_STAT (0xFF000002 + eFull * 0x10000)).wr FAB_IMG_FAIL_OFF 0

/-- IMG_OP_COMPLETE: the checks of R77 have run; op 1 decodes. `decoding`: the checks have passed and decoding begins, and its end is a further event. -/
def execImgOpComplete (decoding : Bool) (s : State) : Out :=
  s.run (fun d =>
    match d.img.op with
    | none => d
    | some o =>
      let d' : Device := { d with img := { d.img with op := none } }
      match o.set with
      | some p => d'.imgDecoded p
      | none =>
        let a := d.rd FAB_IMG_ADDR
        let b : ImgBytes := fun i => d.fsRd (a + i)
        match imgCheck21 b (d.imgCtx (some (d.rd FAB_IMG_LEN))) with
        | .error f => d.imgFail o f
        | .ok _ =>
          if o.op = 2 then (d'.wr FAB_IMG_STAT 0xFF000002).wr FAB_IMG_FAIL_OFF 0
          else if decoding then { d with img := { d.img with op := some { o with set := some (parseImage b) } } }
          else d'.imgDecoded (parseImage b))

/-! ## MS registers and active copies (R81, R82) -/

/-- MS_WRITE: a write of an MS register; another offset is not this command. -/
def execMsWrite (m : Master) (off val : Nat) (s : State) : Out :=
  s.run (fun d => if msRegs.contains off then d.msWrite m off (val % 2 ^ 32) else d)

/-- The active copy of a register (R82), for a register with MS fields. -/
def Device.activeCopy (d : Device) (off : Nat) : Nat := d.rdF off

/-! ## The swap (R84-R95) -/

/-- A training of a lane runs. -/
def Device.trainingRuns (d : Device) : Bool := (List.range 96).any (fun n => decide (1 ≤ d.laneState n ∧ d.laneState n ≤ 3))

/-- The incoming set brings a lane that is untrained, or another rate (check 6 of R86). -/
def Device.lanesClash (d : Device) : Bool :=
  (d.mir.lanes.map (fun e => e.lane) ++ d.mir.spares.map (fun e => e.lane)).any (fun n => !d.laneTrained n) ||
  (List.range 12).any (fun g => d.get (ACL_GRP_RATE_rate g) ≠ d.getF (ACL_GRP_RATE_rate g))

/-- The checks of R86, each in its order. -/
def Device.swapChecks (d : Device) (cancel : Bool) : List (Bool × Nat) :=
  [(cancel, eRange),
   ((d.mode ≠ 1 && d.mode ≠ 2) || d.trans.isSome || (d.getF SRV_CTRL_en = 1 && !d.mirView.senses), eState),
   (d.get FAB_SWAP_STAT_pending = 1 || d.get FAB_SWAP_STAT_refill = 1 || d.img.op.isSome || d.trainingRuns, eBusy),
   (d.get FAB_MIR_STAT_valid = 0, eSeq), (!d.swapLimits d.mirView, eRange), (d.lanesClash, eState),
   (d.claimClash d.mir, eConflict)]

/-- The islands that hold set content: those of the active and of the incoming set (R88); numbered by the island table of spec/01. -/
def Device.swapIslands (d : Device) : List Nat :=
  let lanes := d.claimedLanes ++ d.mir.lanes.map (fun e => e.lane) ++ d.mir.spares.map (fun e => e.lane)
  [0, 1, 2, 3] ++ (List.range 12).filterMap (fun g => if lanes.any (fun n => n / 8 == g) then some (5 + g) else none) ++
  (List.range 12).filterMap (fun k => if (d.act.claimOf 1 k).isSome || (d.mir.claimOf 1 k).isSome then some (20 + k) else none) ++
  [49, 52, 56]

/-- Request a swap (R86). The first failing check in the order of R86 gives the code. -/
def Device.swapRequest (d : Device) (m : Nat) (after cancel : Bool) : Device :=
  if !d.power.coreOn then d
  else if !among m mFabric then d.reject m FAB_SWAP_CTRL ePerm
  else match (d.swapChecks cancel).find? (fun c => c.1) with
    | some c => d.reject m FAB_SWAP_CTRL c.2
    | none =>
      let d := ((d.put FAB_SWAP_CTRL_after (b2n after)).put FAB_SWAP_STAT_pending 1).put FAB_SWAP_STAT_defer 0
      { d with swap := { master := m, after := after } }

/-- Cancel a pending swap (R87). -/
def Device.swapCancel (d : Device) (m : Nat) (after : Bool) : Device :=
  d.guarded m FAB_SWAP_CTRL [(!among m mFabric, ePerm), (d.get FAB_SWAP_STAT_pending = 0, eState),
      (d.get FAB_SWAP_STAT_armed = 1, eBusy)] (fun d =>
    ({ ((d.put FAB_SWAP_CTRL_after (b2n after)).put FAB_SWAP_STAT_pending 0).put FAB_SWAP_STAT_result eSeq with swap := {} }))

/-- FAB_SWAP_CTRL as a register write. -/
def Device.swapCtrl (d : Device) (m v : Nat) : Device :=
  if v.testBit 0 then d.swapRequest m (v.testBit 2) (v.testBit 1)
  else if v.testBit 1 then d.swapCancel m (v.testBit 2)
  else d.guarded m FAB_SWAP_CTRL [(!among m mFabric, ePerm)] (fun d => d.put FAB_SWAP_CTRL_after (v / 4 % 2))

/-- SWAP_REQUEST: a write with req = 1. -/
def execSwapRequest (m : Master) (after cancel : Bool) (s : State) : Out := s.run (fun d => d.swapRequest m after cancel)

/-- SWAP_CANCEL: a write with cancel = 1 and req = 0. -/
def execSwapCancel (m : Master) (after : Bool) (s : State) : Out := s.run (fun d => d.swapCancel m after)

/-- A swap is abandoned (R90). -/
def Device.swapAbandon (d : Device) (result : Nat) : Device :=
  { (((d.put FAB_SWAP_STAT_pending 0).put FAB_SWAP_STAT_armed 0).put FAB_SWAP_STAT_result result).bump FAB_SWAP_EVT_abandoned with swap := {} }

/-- ISLAND_READY: island `i` answers prepare; `ecc` says its mirror copy failed its ECC check (R88, R90). -/
def execIslandReady (i : Nat) (ecc : Bool) (s : State) : Out :=
  s.run (fun d =>
    if d.get FAB_SWAP_STAT_pending = 0 || d.get FAB_SWAP_STAT_armed = 1 || !d.swapIslands.contains i then d
    else if ecc then (d.swapAbandon eState).put FAB_MIR_STAT_valid 0
    else { d with swap := { d.swap with ready := onBit d.swap.ready i } })

/-- Islands that have not replied ready. -/
def Device.notReady (d : Device) : Nat := (d.swapIslands.filter (fun i => !d.swap.ready.testBit i)).length

/-- CONFIG with at-frame set goes to the drivers whose channel count or code width the swap changes (R322). -/
def Device.swapConfig (d : Device) : Device :=
  let w := d.get FAB_CODE_width
  eachOf (List.range d.mir.stripes.length) (fun s d =>
    let c := d.mir.stripes.getD s {}
    let n := c.q (d.get FAB_SPR_CFG_mode) * c.width
    let e := d.mir.lanes.getD s {}
    if s < d.act.stripes.length ∧ n = d.channels s ∧ w = d.getF FAB_CODE_width then d
    else d.sendCtl (if s < d.act.stripes.length then d.stripeLane s else e.lane) s 0x01
      ([s] ++ leBytes 2 n ++ [w, e.slot, e.ret, 1])) d

/-- SWAP_ARM: the arm point of the targeted swap point (R88, R90). -/
def execSwapArm (s : State) : Out :=
  s.run (fun d =>
    if d.get FAB_SWAP_STAT_pending = 0 || d.get FAB_SWAP_STAT_armed = 1 || d.rasterStopped then d
    else if d.notReady = 0 then d.swapConfig.put FAB_SWAP_STAT_armed 1
    else
      let n := d.notReady
      let d := ((d.bump FAB_SWAP_STAT_defer).bump FAB_SWAP_EVT_deferrals).put FAB_SWAP_HS_notready (Nat.min n 255)
      if 4 ≤ d.get FAB_SWAP_STAT_defer then d.swapAbandon eBusy else d)

/-- An island may flip: the armed swap's swap point is reached, or scan-out is stopped and every island is ready (R88, R92). -/
def Device.swapFlips (d : Device) : Bool :=
  d.get FAB_SWAP_STAT_pending = 1 && (d.swap.window || (d.rasterStopped && d.notReady = 0))

/-- ISLAND_DONE: island `i` flips its select bit and replies (R88). -/
def execIslandDone (i : Nat) (s : State) : Out :=
  s.run (fun d =>
    if d.swapFlips && d.swapIslands.contains i then { d with swap := { d.swap with done := onBit d.swap.done i } } else d)

/-- Every island has replied done. -/
def Device.allDone (d : Device) : Bool := d.swapIslands.all (fun i => d.swap.done.testBit i)

/-- The swap changes HACT, VACT, or a stripe's columns (R95). -/
def Device.geometrySwap (d : Device) : Bool :=
  d.get TMG_HACT_width ≠ d.getF TMG_HACT_width || d.get TMG_VACT_height ≠ d.getF TMG_VACT_height ||
  d.act.stripes.map (fun c => (c.firstCol, c.width)) ≠ d.mir.stripes.map (fun c => (c.firstCol, c.width))

/-- The swap changes a stripe's q or the code width (R585). -/
def Device.codeSwap (d : Device) : Bool :=
  d.get FAB_CODE_width ≠ d.getF FAB_CODE_width ||
  d.act.stripes.map (fun c => c.q (d.getF FAB_SPR_CFG_mode)) ≠ d.mir.stripes.map (fun c => c.q (d.get FAB_SPR_CFG_mode))

/-- Every tile queue is emptied and every state record settled (R95, R244, R585). -/
def Device.tilesEmpty (d : Device) : Device :=
  let a := d.rgnBase 6
  let n := d.rd (MEM_RGN_SIZE 6)
  { d with trn := { d.trn with tiles := [], before := [] },
           mem := { d.mem with fs := d.mem.fs.dropWhere (fun x => decide (a ≤ x ∧ x < a + n)) } }

/-- The sweep restarts at operation 0 in the current bank (R290). -/
def Device.sweepRestart (d : Device) : Device :=
  ({ d with srv := { d.srv with again := [] } }).put SRV_SWEEP_next 0

/-- R95, R277, R290, R292, R585: what a change of geometry or of the codes does beside the exchange. -/
def Device.geometryReset (d : Device) (geo : Bool) : Device :=
  let d := d.tilesEmpty.sweepRestart
  let d : Device := { d with ras := { d.ras with first := true, blank := true } }
  if !geo then d else
    let d : Device := { d with cmp := { d.cmp with map := {}, next := none }, flt := { d.flt with park := [], parked := [] } }
    (((d.wr (CMP_MAP_VER 2) 0).wr CMP_STAT 0).put SRV_STAT_stage_valid 0).degrSync

/-- Exchange the mirror and active copies of every MS register (R93). -/
def Device.msExchange (d : Device) : Device :=
  eachOf msRegs (fun o d => let a := d.rdF o; (d.wrF o (d.rd o)).wr o a) d

/-- Exchange two registers. -/
def Device.swapRegs (d : Device) (a b : Nat) : Device := let x := d.rd a; (d.wr a (d.rd b)).wr b x

/-- Banks of the LUT copies after the exchange (R390). -/
def Device.lutExchange (d : Device) (after : Bool) : Device :=
  let new := d.img.mirLuts
  let old := d.img.actLuts
  let nb := new.flatMap (fun l => l.banks)
  let d := eachOf nb (fun i d => d.bankUse i 9) d
  let d := eachOf ((old.flatMap (fun l => l.banks)).filter (fun i => !nb.contains i)) (fun i d => d.bankUse i (if after then 10 else 0)) d
  { d with img := { d.img with actLuts := new, mirLuts := if after then old else new } }

/-- Return lanes whose slots the swap gave to other drivers: they are silenced and re-granted (spec/11, simultaneous happenings). -/
def Device.slotMoves (d : Device) (old : PrismSet) : Device :=
  eachOf (List.range 24) (fun m d =>
    let moved := (List.range 4).any (fun j =>
      let at' (p : PrismSet) := (List.range p.lanes.length).find? (fun s => decide ((p.lanes.getD s {}).ret = m ∧ (p.lanes.getD s {}).slot = j))
      at' old ≠ at' d.act)
    if moved then d.silence m false else d) d

/-- The swap takes effect (R93). -/
def Device.swapTake (d : Device) : Device :=
  let after := d.swap.after
  let geo := d.geometrySwap
  let codes := d.codeSwap
  let old := d.act
  let d : Device := { d with act := d.mir, mir := d.act }
  let d := d.msExchange
  let d := d.lutExchange after
  let d := (d.sizeUse 11 d.actView.ringBanks).sizeUse 12 d.actView.knotBanks
  let d := (((d.put FAB_SWAP_STAT_pending 0).put FAB_SWAP_STAT_armed 0).put FAB_SWAP_STAT_result eOk).wr FAB_SWAP_CNT (d.rd FAB_SWAP_CNT + 1)
  let d := (d.wr FAB_SWAP_FRAME (d.rd TMG_FRAME_CNT)).swapRegs FAB_ACT_VER FAB_MIR_VER
  let d := eachOf (List.range 8) (fun i d => d.swapRegs (FAB_ACT_DIG i) (FAB_MIR_DIG i)) d
  let d := (d.put FAB_MIR_STAT_valid 1).put FAB_MIR_STAT_dirty 0
  let d := if after then d.put FAB_MIR_STAT_src 3 else d.put FAB_SWAP_STAT_refill 1
  let d := if geo then d.geometryReset true else if codes then d.geometryReset false else d
  let d : Device := { d with swap := {}, ras := { d.ras with wins := d.ras.wins.map (fun w => (w.1, { w.2 with learned := 0 })) } }
  let d := (d.linkAdopt.slotMoves old).fabSync.rlimSync.rasterSrc
  if d.get CLK_FCLK_pend = 1 && d.fclkDue then d.fclkApply else d

/-- SWAP_TAKE_EFFECT: every island has replied done. -/
def execSwapTakeEffect (s : State) : Out :=
  s.run (fun d => if d.swapFlips && d.allDone then d.swapTake else d)

/-- SWAP_DONE_TIMEOUT: 4 line periods after the swap point some island has not replied done (R91). -/
def execSwapDoneTimeout (s : State) : Out :=
  s.run (fun d => if d.get FAB_SWAP_STAT_pending = 1 && d.swap.window && !d.allDone then d.raiseCode 0x60 0 else d)

/-- MIRROR_REFILL_COMPLETE: the mirror set holds the active one (R93). -/
def Device.mirrorRefill (d : Device) : Device :=
  let d := eachOf msRegs (fun o d => d.wr o (d.rdF o)) d
  let d : Device := { d with mir := d.act, img := { d.img with mirLuts := d.img.actLuts } }
  let d := eachOf (List.range 8) (fun i d => d.wr (FAB_MIR_DIG i) (d.rd (FAB_ACT_DIG i))) (d.wr FAB_MIR_VER (d.rd FAB_ACT_VER))
  (((d.put FAB_SWAP_STAT_refill 0).put FAB_MIR_STAT_src 2).put FAB_MIR_STAT_valid 1).put FAB_MIR_STAT_dirty 0

def execMirrorRefillComplete (s : State) : Out :=
  s.run (fun d => if d.get FAB_SWAP_STAT_refill = 1 then d.mirrorRefill else d)

end Sys2Proof.Machine
end

