-- ==== Sys2Proof/Machine/Layers.lean ====
section
/-! DEFINITION. Live registers and torn frames (R97 to R103), palette layers, their pool, fetch and composition (spec/06_layers.md). -/

namespace Sys2Proof.Machine

/-! ## Geometry in force -/

/-- The active width and height. -/
def Device.hact (d : Device) : Nat := d.getF TMG_HACT_width
def Device.vact (d : Device) : Nat := d.getF TMG_VACT_height

/-- The tile height of R5. -/
def Device.tileH (d : Device) : Nat :=
  if (d.hact + 31) / 32 * ((d.vact + 31) / 32) ≤ 32768 then 32 else 64

/-- Tiles per tile row, and the tile count of the active geometry (R5). -/
def Device.tileCols (d : Device) : Nat := (d.hact + 31) / 32
def Device.tileCount (d : Device) : Nat := d.tileCols * ((d.vact + d.tileH - 1) / d.tileH)

/-- The tile of a pixel. -/
def Device.tileOf (d : Device) (x y : Nat) : Nat := y / d.tileH * d.tileCols + x / 32

/-- A rectangle: left, top, width, height. -/
structure Rect where
  x : Nat
  y : Nat
  w : Nat
  h : Nat
deriving DecidableEq, Repr

/-- Two rectangles meet. -/
def Rect.meets (a b : Rect) : Bool :=
  decide (a.x < b.x + b.w) && decide (b.x < a.x + a.w) && decide (a.y < b.y + b.h) && decide (b.y < a.y + a.h)

/-- A rectangle clipped to the active area (R171). -/
def Device.clip (d : Device) (r : Rect) : Rect :=
  { r with w := Nat.min (r.x + r.w) d.hact - r.x, h := Nat.min (r.y + r.h) d.vact - r.y }

/-- The tiles that a clipped rectangle meets. -/
def Device.tilesIn (d : Device) (r : Rect) : List Nat :=
  let c := d.clip r
  if c.w = 0 ∨ c.h = 0 then [] else
    (List.range ((c.y + c.h - 1) / d.tileH + 1 - c.y / d.tileH)).flatMap (fun j =>
      (List.range ((c.x + c.w - 1) / 32 + 1 - c.x / 32)).map (fun i => (c.y / d.tileH + j) * d.tileCols + c.x / 32 + i))

/-- The rectangle of window `w`. -/
def Device.winRect (d : Device) (w : Nat) : Rect :=
  ⟨d.getF (CHK_RECT_X_x w), d.getF (CHK_RECT_Y_y w), d.getF (CHK_RECT_X_width w), d.getF (CHK_RECT_Y_height w)⟩

/-- The hidden part of window `w`. -/
def Device.win (d : Device) (w : Nat) : WinX := Sparse.get (fun _ => {}) d.ras.wins w
def Device.setWin (d : Device) (w : Nat) (x : WinX) : Device :=
  { d with ras := { d.ras with wins := Sparse.set (fun _ => {}) d.ras.wins w x } }

/-- Windows in a tap set whose rectangle meets one of the rectangles skip this frame (R101, R184). -/
def Device.winSkip (d : Device) (taps : Nat) (rs : List Rect) : Device :=
  eachOf ((List.range 64).filter (fun w => d.getF (CHK_CTRL_en w) = 1 && taps.testBit (d.getF (CHK_CTRL_tap w)) &&
      rs.any (fun r => (d.winRect w).meets r))) (fun w d => d.setWin w { d.win w with skip := true }) d

/-! ## Live registers (R97-R103) -/

/-- A live TMG value within R137's range. -/
def tmgOk (off v : Nat) : Bool :=
  let within (lo hi : Nat) : Bool := decide (lo ≤ v) && decide (v ≤ hi)
  if off = TMG_HFP then within 1 4095 else if off = TMG_HSYNC then within 1 1023 else if off = TMG_HTOTAL then within 24 16383
  else if off = TMG_VFP then within 1 8191 else if off = TMG_VSYNC then within 1 255 else within 16 32767

/-- The live TMG registers. -/
def tmgLive : List Nat := [TMG_HFP, TMG_HSYNC, TMG_HTOTAL, TMG_VFP, TMG_VSYNC, TMG_VTOTAL]

/-- A live write takes effect in the active lines of a frame: it tears it (R101). -/
def Device.tearsNow (d : Device) : Bool := d.ras.active && !d.rasterStopped

/-- A TMG write takes effect: in active lines the frame is torn, shaping is suspended for it and for the next glass frame, and every window skips both (R101, R102). -/
def Device.tmgTear (d : Device) : Device :=
  if !d.tearsNow then d else
    let d := if d.ras.torn = 2 ∨ d.ras.torn = 3 then d
      else d.wr FAB_TEAR_CNT (Nat.min (d.rd FAB_TEAR_CNT % 65536 + 1) 65535 + d.rd FAB_TEAR_CNT / 65536 * 65536)
    { d with ras := { d.ras with torn := if d.ras.torn = 1 ∨ d.ras.torn = 3 then 3 else 2 } }

/-- A live TMG write (R98, R150). -/
def Device.tmgWrite (d : Device) (m off v : Nat) : Device :=
  d.guarded m off ([(!among m mFabric, ePerm), (d.kRegShut m, eAuth), (!tmgOk off v, eRange), (d.breaksLive off v, eRange)] ++ d.formChecks off v) (fun d =>
    let d := (d.wr off v).tmgTear
    let d : Device := { d with keep := { d.keep with
      kUnsaved := if d.keep.kUnsaved.contains off then d.keep.kUnsaved else d.keep.kUnsaved ++ [off] } }
    d.rlimSync)

/-- LIVE_TMG_WRITE: a write of one of the six live TMG registers. -/
def execLiveTmgWrite (m : Master) (off val : Nat) (s : State) : Out :=
  s.run (fun d => if tmgLive.contains off then d.tmgWrite m off (val % 2 ^ 32) else d)

/-- The rectangle of layer `i`. -/
def Device.layRect (d : Device) (i : Nat) : Rect :=
  ⟨d.get (LAY_POS_x i), d.get (LAY_POS_y i), d.get (LAY_SIZE_width i), d.get (LAY_SIZE_height i)⟩

/-- A live LAY write takes effect on layers whose old rectangles are `old`: a frame in its active lines is torn, windows that meet them skip it, and in GECKO their tiles are dirty (R101, R158). -/
def Device.layTear (d : Device) (layers : List Nat) (old : List Rect) : Device :=
  let rs := old ++ layers.map d.layRect
  let d : Device := { d with ras := { d.ras with dirty := (d.ras.dirty ++ rs.flatMap d.tilesIn).eraseDups } }
  if !d.tearsNow then d else
    let d := if d.ras.layTorn then d
      else d.wr FAB_TEAR_CNT (Nat.min (d.rd FAB_TEAR_CNT / 65536 + 1) 65535 * 65536 + d.rd FAB_TEAR_CNT % 65536)
    ({ d with ras := { d.ras with layTorn := true } }).winSkip 7 rs

/-- The master may write LAY registers (R185). -/
def layPerm (m off v : Nat) : List (Bool × Nat) := [(!among m mSide, ePerm), (reservedBad off v, eRange)]

/-- The binding fits (R173): `size` and `src` as their registers hold them. -/
def Device.layFits (d : Device) (size src paddr : Nat) : Bool :=
  let w := bitsOf size 13 0
  let h := bitsOf size 28 16
  let bytes := bitsOf src 29 20 * 64
  !src.testBit 31 ||
    (decide ((w * 2 ^ bitsOf src 17 16 + 7) / 8 ≤ bytes) &&
     (if src.testBit 8 then decide (bitsOf paddr 21 0 + h * bytes ≤ 0x200000)
      else decide (h * bytes ≤ d.get (LAY_BUF_INFO_granules (bitsOf src 5 0)) * 65536)))

/-- Every value of a layer's binding that is in force or awaits its swap point fits (R173). -/
def Device.layAllFit (d : Device) (i size : Nat) (srcs : List Nat) : Bool :=
  srcs.all (fun s => [d.rdF (LAY_PADDR i), d.rd (LAY_PADDR i)].all (fun p => d.layFits size s p))

/-- A LAY_POS or LAY_SIZE write. -/
def Device.layPlace (d : Device) (m i : Nat) (size : Bool) (v : Nat) : Device :=
  let off := if size then LAY_SIZE i else LAY_POS i
  let w := bitsOf v 13 0
  let h := bitsOf v 28 16
  let bad := if size then w = 0 || 8192 < w || h = 0 || 4352 < h || !d.layAllFit i v [d.rdF (LAY_SRC i), d.rd (LAY_SRC i)]
    else decide (8191 < w) || decide (4351 < h)
  d.guarded m off (layPerm m off v ++ [(bad, eRange)]) (fun d =>
    let old := d.layRect i
    (d.wr off v).layTear [i] [old])

/-- A LAY_EN write (R174). -/
def Device.layEnable (d : Device) (m v : Nat) : Device :=
  let bad := (bitList 16 v).any (fun i => !(d.rd LAY_EN).testBit i &&
    (d.get (LAY_SRC_bound i) = 0 || d.get (LAY_SIZE_width i) = 0 || d.get (LAY_SIZE_height i) = 0)) ||
    (bitList 16 v).any (fun i => (d.rd LAY_FAULT).testBit i)
  d.guarded m LAY_EN (layPerm m LAY_EN v ++ [(bad, eState)]) (fun d =>
    let changed := bitList 16 (v ^^^ d.rd LAY_EN)
    (d.wr LAY_EN v).layTear changed [])

/-- LAYER_ENABLE_WRITE. -/
def execLayerEnableWrite (m : Master) (val : Nat) (s : State) : Out := s.run (fun d => d.layEnable m (val % 2 ^ 32))

/-- The value of a master's held register, if one is held. -/
def heldOf (l : Sparse (Option Nat)) (m : Nat) : Option Nat := Sparse.get (fun _ => none) l m

/-- A write of LAY_ZORDER_LO or LAY_PAL_DATA0 is held for its master (R99). -/
def Device.layHold (d : Device) (m off v : Nat) : Device :=
  d.guarded m off (layPerm m off v) (fun d =>
    if off = LAY_ZORDER_LO then
      { d with lay := { d.lay with heldOrder := Sparse.set (fun _ => none) d.lay.heldOrder m (some v) } }
    else { d with lay := { d.lay with heldPal := Sparse.set (fun _ => none) d.lay.heldPal m (some v) } })

/-- HELD_WRITE: a write of LAY_ZORDER_LO or LAY_PAL_DATA0. -/
def execHeldWrite (m : Master) (order : Bool) (val : Nat) (s : State) : Out :=
  s.run (fun d => d.layHold m (if order then LAY_ZORDER_LO else LAY_PAL_DATA0) (val % 2 ^ 32))

/-- The layer at an order position. -/
def orderAt (lo hi p : Nat) : Nat := if p < 8 then bitsOf lo (4 * p + 3) (4 * p) else bitsOf hi (4 * p - 29) (4 * p - 32)

/-- A LAY_ZORDER_HI write applies the order with the held low half (R99). -/
def Device.layOrder (d : Device) (m v : Nat) : Device :=
  let lo := (heldOf d.lay.heldOrder m).getD (d.rd LAY_ZORDER_LO)
  let perm := (List.range 16).all (fun i => (List.range 16).any (fun p => orderAt lo v p = i))
  d.guarded m LAY_ZORDER_HI (layPerm m LAY_ZORDER_HI v ++ [(!perm, eRange)]) (fun d =>
    let moved := ((List.range 16).filter (fun p => orderAt lo v p ≠ orderAt (d.rd LAY_ZORDER_LO) (d.rd LAY_ZORDER_HI) p)).map (orderAt lo v)
    let d : Device := { d with lay := { d.lay with heldOrder := Sparse.set (fun _ => none) d.lay.heldOrder m none } }
    ((d.wr LAY_ZORDER_LO lo).wr LAY_ZORDER_HI v).layTear moved [])

/-- ZORDER_APPLY. -/
def execZorderApply (m : Master) (val : Nat) (s : State) : Out := s.run (fun d => d.layOrder m (val % 2 ^ 32))

/-- The palette entry a master's LAY_PAL_IDX selects. -/
def Device.palKey (d : Device) (m : Nat) : Nat :=
  let x := d.rdB m LAY_PAL_IDX
  bitsOf x 11 8 * 256 + bitsOf x 7 0

/-- A palette entry: red, green, blue, alpha from bit 0 up in 12 bits each. -/
def Device.palAt (d : Device) (k : Nat) : Nat := Sparse.get (fun _ => 0) d.lay.pal k

/-- What a read of LAY_PAL_DATA0 and LAY_PAL_DATA1 returns (R175). -/
def Device.palRead (d : Device) (m : Nat) (hi : Bool) : Nat :=
  let e := d.palAt (d.palKey m)
  if hi then bitsOf e 35 24 + bitsOf e 47 36 * 65536 else bitsOf e 11 0 + bitsOf e 23 12 * 65536

/-- A LAY_PAL_DATA1 write (R99, R175). -/
def Device.palWrite (d : Device) (m v : Nat) : Device :=
  d.guarded m LAY_PAL_DATA1 (layPerm m LAY_PAL_DATA1 v) (fun d =>
    let lo := (heldOf d.lay.heldPal m).getD (d.palRead m false)
    let e := bitsOf lo 11 0 + bitsOf lo 27 16 * 2 ^ 12 + bitsOf v 11 0 * 2 ^ 24 + bitsOf v 27 16 * 2 ^ 36
    let x := d.rdB m LAY_PAL_IDX
    let layer := bitsOf x 11 8
    let d : Device := { d with lay := { d.lay with pal := Sparse.set (fun _ => 0) d.lay.pal (d.palKey m) e,
                                                   heldPal := Sparse.set (fun _ => none) d.lay.heldPal m none } }
    let d := if x.testBit 16 then d.wrB m LAY_PAL_IDX (x / 256 * 256 + (x % 256 + 1) % 256) else d
    d.layTear [layer] [])

/-- PALETTE_WRITE. -/
def execPaletteWrite (m : Master) (val : Nat) (s : State) : Out := s.run (fun d => d.palWrite m (val % 2 ^ 32))

/-- A write of any live register (R97, R100). -/
def Device.liveWrite (d : Device) (m off v : Nat) : Device :=
  if tmgLive.contains off then d.tmgWrite m off v
  else if off = LAY_EN then d.layEnable m v
  else if off = LAY_ZORDER_LO ∨ off = LAY_PAL_DATA0 then d.layHold m off v
  else if off = LAY_ZORDER_HI then d.layOrder m v
  else if off = LAY_PAL_DATA1 then d.palWrite m v
  else if off = LAY_PAL_IDX then d.guarded m off (layPerm m off v) (fun d => d.wrB m off v)
  else match (List.range 16).find? (fun i => LAY_POS i = off), (List.range 16).find? (fun i => LAY_SIZE i = off) with
    | some i, _ => d.layPlace m i false v
    | none, some i => d.layPlace m i true v
    | none, none => d

/-- LIVE_WRITE: a write of a live register; another offset is not this command. -/
def execLiveWrite (m : Master) (off val : Nat) (s : State) : Out :=
  s.run (fun d => if classOf off = .live then d.liveWrite m off (val % 2 ^ 32) else d)

/-! ## Bindings (R173, R179) -/

/-- A value of LAY_SRC refers to pool buffer `h`. -/
def srcNames (v h : Nat) : Bool := v.testBit 31 && !v.testBit 8 && bitsOf v 5 0 = h

/-- Scan-out refers to buffer `h`: a binding in force, or one that awaits its swap point (R179). -/
def Device.bufUsed (d : Device) (h : Nat) : Bool :=
  (List.range 16).any (fun i => srcNames (d.rdF (LAY_SRC i)) h || srcNames (d.rd (LAY_SRC i)) h)

/-- LAY_BUF_REF shows every referenced buffer. -/
def Device.refSync (d : Device) : Device :=
  eachOf ((List.range 64).filter (fun h => d.bufUsed h)) (fun h d =>
    d.wr (LAY_BUF_REF (h / 32)) (onBit (d.rd (LAY_BUF_REF (h / 32))) (h % 32))) d

/-- A LAY_SRC write (R173). -/
def Device.laySrc (d : Device) (m i v : Nat) : Device :=
  let off := LAY_SRC i
  let st := bitsOf v 29 20
  let unalloc : Bool := v.testBit 31 && !v.testBit 8 && d.get (LAY_BUF_INFO_alloc (bitsOf v 5 0)) = 0
  d.guarded m off (layPerm m off v ++ [(st = 0 || 128 < st, eRange), (unalloc, eState), (!d.layAllFit i (d.rd (LAY_SIZE i)) [v], eRange)])
    (fun d => (d.wrFrame off v).refSync)

/-- LAYER_BUFFER_RELEASE: within 2 line periods of the swap point at which buffer `h` stopped being referenced (R179). -/
def execLayerBufferRelease (h : Fin 64) (s : State) : Out :=
  s.run (fun d =>
    let k := h.val / 32
    let j := h.val % 32
    if d.bufUsed h || !(d.rd (LAY_BUF_REF k)).testBit j then d else
      let d := (d.wr (LAY_BUF_REF k) (offBit (d.rd (LAY_BUF_REF k)) j)).wr (LAY_REL_PEND k) (onBit (d.rd (LAY_REL_PEND k)) j)
      (d.put LAY_IRQ_rel 1).ring (d.get (LAY_BUF_INFO_master h)) (d.get LAY_CFG_rel_db))

/-! ## The layer pool (R176-R178) -/

/-- The allocated buffers: first granule and size. -/
def Device.buffers (d : Device) : List (Nat × Nat) :=
  ((List.range 64).filter (fun h => d.get (LAY_BUF_INFO_alloc h) = 1)).map (fun h =>
    (d.get (LAY_BUF_INFO_base h), d.get (LAY_BUF_INFO_granules h)))

/-- Granules in the pool. -/
def Device.poolSize (d : Device) : Nat := d.rd (MEM_RGN_SIZE 9) / 65536

/-- The end of the free run that begins at granule `g`. -/
def Device.runEnd (d : Device) (g : Nat) : Nat :=
  (d.buffers.filter (fun b => decide (g ≤ b.1))).foldl (fun e b => Nat.min e b.1) d.poolSize

/-- The starts of free runs: the pool's start and every buffer's end, where no buffer lies. -/
def Device.runStarts (d : Device) : List Nat :=
  (0 :: d.buffers.map (fun b => b.1 + b.2)).filter (fun g =>
    decide (g < d.poolSize) && !d.buffers.any (fun b => decide (b.1 ≤ g ∧ g < b.1 + b.2)))

/-- The lowest run of `n` free granules. -/
def Device.poolRun (d : Device) (n : Nat) : Option Nat :=
  (d.runStarts.filter (fun g => decide (n ≤ d.runEnd g - g))).foldl (fun o g =>
    match o with
    | none => some g
    | some k => some (Nat.min k g)) none

/-- LAY_POOL_STAT follows the buffers. -/
def Device.poolSync (d : Device) : Device :=
  let used := (d.buffers.map (fun b => b.2)).sum
  let big := d.runStarts.foldl (fun m g => Nat.max m (d.runEnd g - g)) 0
  d.wr LAY_POOL_STAT (Nat.min (d.poolSize - used) 65535 + Nat.min big 65535 * 65536)

/-- The result of a LAY_BUF_CMD for its master. -/
def Device.bufResult (d : Device) (m err : Nat) : Device := d.wrB m LAY_BUF_RES (err * 256)

/-- A LAY_BUF_CMD whose checks are given in order of R14: a failing code goes to the latch and to LAY_BUF_RES. -/
def Device.bufCmd (d : Device) (m : Nat) (checks : List (Bool × Nat)) (f : Device → Device) : Device :=
  if !d.power.coreOn then d
  else if !among m mSide then d.reject m LAY_BUF_CMD ePerm
  else match checks.find? (fun c => c.1) with
    | some c => (d.bufResult m c.2).reject m LAY_BUF_CMD c.2
    | none => f d

/-- Allocate (R177). -/
def Device.bufAlloc (d : Device) (m n : Nat) : Device :=
  let free := (List.range 64).find? (fun h => d.get (LAY_BUF_INFO_alloc h) = 0)
  let run := d.poolRun n
  d.bufCmd m [(d.get MEM_FS_STAT_init = 0, eState), (n = 0 || 544 < n, eRange), (free.isNone || run.isNone, eFull)] (fun d =>
    let h := free.getD 0
    let g := run.getD 0
    let d := d.wr (LAY_BUF_INFO h) (0x80000000 + m * 0x1000000 + g * 0x400 + n)
    let d := (d.wrB m LAY_BUF_RES (0x80 + h)).wrB m LAY_BUF_ADDR (d.rgnBase 9 + g * 65536)
    d.poolSync)

/-- Free (R178). -/
def Device.bufFree (d : Device) (m h : Nat) : Device :=
  let alloc := d.get (LAY_BUF_INFO_alloc h) = 1
  d.bufCmd m [(alloc && m ≠ 0 && d.get (LAY_BUF_INFO_master h) ≠ m, ePerm), (!alloc, eState),
      ((d.rd (LAY_BUF_REF (h / 32))).testBit (h % 32), eBusy)] (fun d =>
    ((d.wr (LAY_BUF_INFO h) 0).bufResult m 0).poolSync)

/-- LAYER_ALLOCATE: op 1. -/
def execLayerAllocate (m : Master) (granules : Nat) (s : State) : Out := s.run (fun d => d.bufAlloc m (granules % 1024))

/-- LAYER_FREE: op 2. -/
def execLayerFree (m : Master) (h : Fin 64) (s : State) : Out := s.run (fun d => d.bufFree m h)

/-- LAY_BUF_CMD as a register write. -/
def Device.layBufCmd (d : Device) (m v : Nat) : Device :=
  match v % 4 with
  | 0 => d.bufCmd m [] (fun d => d)
  | 1 => d.bufAlloc m (bitsOf v 25 16)
  | 2 => d.bufFree m (bitsOf v 13 8)
  | _ => d.bufCmd m [(true, eRange)] (fun d => d)

/-! ## Composition (R168-R171, R181-R183) -/

/-- Layer `i` shows on column `x` of row `y` in stripe `s` (R168). -/
def Device.layShows (d : Device) (s i x y : Nat) : Bool :=
  let r := d.layRect i
  (d.rd LAY_EN).testBit i && (d.rdF (LAY_SRC i)).testBit 31 &&
  (!d.lay.dropped.testBit i || (match d.lay.dropAt with
    | some (t, j, c) => t == s && j == i && decide (x < c)
    | none => false)) &&
  decide (r.x ≤ x ∧ x < r.x + r.w ∧ r.y ≤ y ∧ y < r.y + r.h)

/-- The byte of a layer's buffer at an offset (R170): the layer pool, or the side-port region of Pond. -/
def Device.layByte (d : Device) (i o : Nat) : Nat :=
  let src := d.rdF (LAY_SRC i)
  if src.testBit 8 then d.pondRd (368 * 131072 + bitsOf (d.rdF (LAY_PADDR i)) 21 0 + o)
  else d.fsRd (d.rgnBase 9 + d.get (LAY_BUF_INFO_base (bitsOf src 5 0)) * 65536 + o)

/-- The index of layer `i` at a pixel (R170, R172). -/
def Device.layIndex (d : Device) (i x y : Nat) : Nat :=
  let src := d.rdF (LAY_SRC i)
  let bits := 2 ^ bitsOf src 17 16
  let r := d.layRect i
  let at' := (x - r.x) * bits
  let b := d.layByte i ((y - r.y) * (bitsOf src 29 20 * 64) + at' / 8)
  b / 2 ^ (8 - bits - at' % 8) % 2 ^ bits

/-- The frame-store word that holds a layer's index failed its ECC check: the pixel is transparent (R384). -/
def Device.layLost (d : Device) (i x y : Nat) : Bool :=
  let src := d.rdF (LAY_SRC i)
  let r := d.layRect i
  !d.mem.fsUe.isEmpty && !src.testBit 8 &&
    d.mem.fsUe.contains ((d.rgnBase 9 + d.get (LAY_BUF_INFO_base (bitsOf src 5 0)) * 65536 + (y - r.y) * (bitsOf src 29 20 * 64) +
      (x - r.x) * 2 ^ bitsOf src 17 16 / 8) / 8)

/-- The layers in order, lowest position first. -/
def Device.layOrderList (d : Device) : List Nat := (List.range 16).map (orderAt (d.rd LAY_ZORDER_LO) (d.rd LAY_ZORDER_HI))

/-- The compose facet at a pixel. -/
def Device.composePix (d : Device) (s x y : Nat) (p : Pix) : Pix :=
  d.layOrderList.foldl (fun p i =>
    if d.layShows s i x y && !d.layLost i x y then blendPix (d.palAt (i * 256 + d.layIndex i x y)) ((d.rdF (LAY_SRC i)).testBit 30) p else p) p

/-- Layers that show somewhere on columns `x` to `x + n - 1` of row `y`. -/
def Device.layersOn (d : Device) (s x n y : Nat) : Nat :=
  ((List.range 16).map (fun i => if (List.range n).any (fun j => d.layShows s i (x + j) y) then 2 ^ i else 0)).sum

/-- The 64-byte granules fetched for row `y` (R181). -/
def Device.fetchRow (d : Device) (y : Nat) : Nat :=
  let ord := d.layOrderList
  let on (i : Nat) : Bool :=
    let r := d.clip (d.layRect i)
    (d.rd LAY_EN).testBit i && (d.rdF (LAY_SRC i)).testBit 31 && !d.lay.dropped.testBit i && decide (0 < r.w ∧ r.y ≤ y ∧ y < r.y + r.h)
  ((List.range 16).map (fun p =>
    let i := ord.getD p 0
    if !on i then 0 else
      let r := d.clip (d.layRect i)
      let bits := 2 ^ bitsOf (d.rdF (LAY_SRC i)) 17 16
      let covers := ((ord.drop (p + 1)).filter (fun j => on j && (d.rdF (LAY_SRC j)).testBit 30)).map (fun j => d.clip (d.layRect j))
      let covered (x : Nat) : Bool := covers.any (fun c => decide (c.x ≤ x ∧ x < c.x + c.w))
      let per := 512 / bits
      ((List.range ((r.w + per - 1) / per)).filter (fun g =>
        (List.range (Nat.min per (r.w - g * per))).any (fun k => !covered (r.x + g * per + k)))).length)).sum

/-- LAYER_UNDERRUN: compose on stripe `t` needs an undelivered index of layer `i` at column `x` (R183, R184). -/
def execLayerUnderrun (i : Fin 16) (t : Lane) (x : Nat) (s : State) : Out :=
  s.run (fun d =>
    if !d.power.coreOn || !d.ras.active || d.lay.dropped.testBit i || !(d.rd LAY_EN).testBit i || !(d.rdF (LAY_SRC i)).testBit 31 then d else
      let d : Device := { d with lay := { d.lay with dropped := onBit d.lay.dropped i, dropAt := some (t, i, x) } }
      let d := ((d.bump (LAY_DROP_CNT_cnt i)).put LAY_IRQ_drop 1).winSkip 3 [d.clip (d.layRect i)]
      let d := d.raiseCode 0x38 0 i
      if Sparse.get (fun _ => 0) d.lay.dropRuns i + 1 = d.get LAY_CFG_drop_lim then
        let d : Device := { d with lay := { d.lay with disable := onBit d.lay.disable i } }
        (d.raiseCode 0x39 0 i)
      else d)

/-- The layers' part of a vertical swap point: dropped layers return, layers at their limit are disabled, LAY_STAT and LAY_FETCH_BYTES are taken (R183, R184). -/
def Device.layFrame (d : Device) : Device :=
  let drops := d.lay.dropped
  let d := (d.wr LAY_STAT (drops * 65536)).wr LAY_FETCH_BYTES (Nat.min d.lay.fetched 0xFFFFFFFF)
  let d := eachOf (bitList 16 d.lay.disable) (fun i d =>
    ((d.wr LAY_EN (offBit (d.rd LAY_EN) i)).wr LAY_FAULT (onBit (d.rd LAY_FAULT) i)).put LAY_IRQ_fault 1) d
  let runs := (List.range 16).foldl (fun m i =>
    Sparse.set (fun _ => 0) m i (if drops.testBit i then Sparse.get (fun _ => 0) d.lay.dropRuns i + 1 else 0)) d.lay.dropRuns
  { d with lay := { d.lay with dropped := 0, dropAt := none, dropRuns := runs, disable := 0, fetched := 0 } }

end Sys2Proof.Machine
end

