-- ==== Sys2Proof/Machine/Tap.lean ====
section
/-! DEFINITION. The tap output (spec/04_dp_inputs_and_tap.md, R127 to R134): the cloned stream, AUX transactions to the downstream sink and the loopback test. -/

namespace Sys2Proof.Machine

/-- Payload capacity of a link rate with 4 lanes, in units of 10 Mbit/s (R105). -/
def linkPayload (rate : Nat) : Nat :=
  match rate with
  | 1 => 864
  | 2 => 1728
  | 3 => 2592
  | 4 => 3870
  | _ => 0

/-- Received bits per pixel of a colour format and depth code; 0 outside R106. -/
def bitsPerPixel (colour bpc : Nat) : Nat :=
  match colour, bpc with
  | 0, 0 => 24
  | 0, 1 => 30
  | 0, 2 => 36
  | 1, 0 => 24
  | 1, 1 => 30
  | 1, 2 => 36
  | 2, 1 => 20
  | 2, 2 => 24
  | _, _ => 0

/-- The lane count of TAP_CTRL.max_lanes. -/
def tapLanes (code : Nat) : Nat := if code = 0 then 4 else if code = 1 then 2 else 1

/-- The tap holds the DPTX lanes: en is set, or a cleared en waits for the end of the output frame (R128). -/
def Device.tapOn (d : Device) : Bool := d.get TAP_CTRL_en = 1 || d.tap.closing

/-- The tap stops sending video. -/
def Device.tapDark (d : Device) : Device := (d.put TAP_STAT_video 0).put TAP_STAT_bw 0

/-- The downstream link is down. -/
def Device.tapDown (d : Device) : Device := (((d.put TAP_STAT_trained 0).put TAP_STAT_rate 0).put TAP_STAT_lanes 0).tapDark

/-- Train the downstream link within the limits of TAP_CTRL and of the sink; TAP_LAT takes a value the spec does not state (R129, R132). -/
def Device.tapTrain (d : Device) : Device :=
  let rate := Nat.min (d.get TAP_CTRL_max_rate) d.tap.capRate
  let lanes := Nat.min (tapLanes (d.get TAP_CTRL_max_lanes)) d.tap.capLanes
  if d.get TAP_STAT_hpd = 0 ∨ rate = 0 ∨ lanes = 0 then d.tapDown else
    let d := (((d.put TAP_STAT_trained 1).put TAP_STAT_rate rate).put TAP_STAT_lanes lanes).tapDark
    (d.wr TAP_LAT (d.freeWord TAP_LAT)).drawn

/-- One retraining (R132). -/
def Device.tapRetrain (d : Device) : Device := (d.bump TAP_EVT_retrains).tapTrain

/-- Release the DPTX lanes (R128). -/
def Device.tapRelease (d : Device) : Device :=
  let d := (d.unclaim 8 (fun _ => true)).tapDown
  ({ d with tap := { d.tap with closing := false, change := false } }).put TAP_STAT_pr 0

/-- The trained link carries a stream of `n` pixels a frame at `b` bits, one frame in `ns` (R130). Without a measured period it does. -/
def Device.tapFits (d : Device) (n b ns : Nat) : Bool :=
  ns = 0 || decide (n * b * 400 ≤ linkPayload (d.get TAP_STAT_rate) * ns * d.get TAP_STAT_lanes)

/-- A frame starts on port `p` with the format `f`, `ns` after the last (R127, R128, R130, R132). -/
def Device.tapFrame (d : Device) (p : Nat) (f : VideoFormat) (ns : Nat) : Device :=
  if !d.tapOn then d
  else if d.tap.closing then (if d.tap.src = p then d.tapRelease else d)
  else
    let n := f.width * f.height
    let b := bitsPerPixel f.colour f.bpc
    let d := if d.tap.change && d.get TAP_CTRL_src = p then
        let d : Device := { d with tap := { d.tap with src := p, change := false } }
        let d := (d.bump TAP_EVT_srcs).put TAP_STAT_pr (d.get (DPRX_STAT_pr p))
        if d.get TAP_STAT_trained = 1 && !d.tapFits n b ns then d.tapRetrain else d
      else d
    if d.tap.src ≠ p ∨ d.get TAP_STAT_trained = 0 ∨ d.get TAP_STAT_pr = 1 then d
    else if d.tapFits n b ns then (d.put TAP_STAT_video 1).put TAP_STAT_bw 0
    else
      let d := if d.get TAP_STAT_bw = 0 then d.put TAP_IRQ_bw 1 else d
      ((d.put TAP_STAT_video 0).put TAP_STAT_bw 1).bump TAP_EVT_withheld

/-- The stream of port `p` stops: no video from it, and a closing tap ends (R128, R131). -/
def Device.tapStreamEnd (d : Device) (p : Nat) : Device :=
  if !d.tapOn || d.tap.src ≠ p then d else if d.tap.closing then d.tapRelease else d.tapDark

/-- The source of port `p` enters or exits Panel Replay (R131). -/
def Device.tapReplay (d : Device) (p : Nat) (b : Bool) : Device :=
  if !d.tapOn || d.tap.src ≠ p then d
  else
    let d := d.put TAP_STAT_pr (b2n b)
    if !b then d else if d.tap.closing then d.tapRelease else d.tapDark

/-! ## TAP_CTRL (R128, R132) -/

/-- Some DPTX lane has an owner other than the feature (R96). -/
def Device.dptxHeld (d : Device) (feature : Nat) : Bool :=
  (List.range 4).any (fun i => (d.owner 9 i).any (fun o => o.feature ≠ feature))

/-- A TAP_CTRL write. -/
def Device.tapCtrl (d : Device) (m v : Nat) : Device :=
  let en := v % 2 = 1
  let rate := bitsOf v 19 16
  d.guarded m TAP_CTRL ([(!among m mLinks, ePerm), (rate = 0 || 4 < rate || bitsOf v 21 20 = 3, eRange),
      (en && d.dptxHeld 8, eConflict)] ++ d.formChecks TAP_CTRL v) (fun d =>
    let old := d.rd TAP_CTRL
    let was := old % 2 = 1
    let d := d.wr TAP_CTRL v
    let src := bitsOf v 5 4
    if en && !was then
      let d := if d.tap.closing then d else eachOf (List.range 4) (fun i d => d.claim 8 9 i m) d
      let d : Device := { d with tap := { d.tap with src := src, change := false, closing := false } }
      (d.put TAP_STAT_pr (d.get (DPRX_STAT_pr src))).tapTrain
    else if !en && was then
      let d : Device := { d with tap := { d.tap with change := false } }
      if d.get TAP_STAT_video = 1 then { d with tap := { d.tap with closing := true } } else d.tapRelease
    else if en then
      let d : Device := { d with tap := { d.tap with change := src ≠ d.tap.src } }
      let params (x : Nat) : Nat × Nat := (bitsOf x 21 16, bitsOf x 8 8)
      if params old ≠ params v && d.get TAP_STAT_hpd = 1 then d.tapRetrain else d
    else d)

/-- TAP_ENABLE: a write with en = 1. -/
def execTapEnable (m : Master) (val : Nat) (s : State) : Out := s.run (fun d => d.tapCtrl m (onBit (val % 2 ^ 32) 0))

/-- TAP_DISABLE: a write with en = 0. -/
def execTapDisable (m : Master) (val : Nat) (s : State) : Out := s.run (fun d => d.tapCtrl m (offBit (val % 2 ^ 32) 0))

/-- TAP_SRC_CHANGE: a write that names another port and keeps the rest. -/
def execTapSrcChange (m : Master) (src : Port) (s : State) : Out :=
  s.run (fun d => d.tapCtrl m (setBits (d.rd TAP_CTRL) 5 4 src))

/-- TAP_LINK_PARAM_CHANGE: a write that names other limits or another ssc and keeps the rest. -/
def execTapLinkParamChange (m : Master) (rate lanes ssc : Nat) (s : State) : Out :=
  s.run (fun d => d.tapCtrl m (setBits (setBits (setBits (d.rd TAP_CTRL) 19 16 rate) 21 20 lanes) 8 8 ssc))

/-- TAP_DOWNSTREAM_HPD: the filtered HPD of the sink changes; a sink that appears supports `rate` and `lanes`. -/
def execTapDownstreamHpd (level : Bool) (rate lanes : Nat) (s : State) : Out :=
  s.run (fun d =>
    if !d.power.coreOn || d.get TAP_STAT_hpd = b2n level then d else
      let d := (d.put TAP_STAT_hpd (b2n level)).put TAP_IRQ_hpd 1
      let d : Device := { d with tap := { d.tap with capRate := if level then Nat.min rate 4 else 0,
                                                     capLanes := if level then (if 4 ≤ lanes then 4 else if 2 ≤ lanes then 2 else lanes) else 0 } }
      if level then (if d.get TAP_CTRL_en = 1 then d.tapTrain else d)
      else
        let d := if d.get TAP_STAT_trained = 1 then (d.bump TAP_EVT_losses).put TAP_IRQ_loss 1 else d
        if d.tap.closing then d.tapRelease else d.tapDown)

/-! ## AUX (R133) -/

/-- The bytes TAP_AUX_DATA holds, in order. -/
def Device.auxBytes (d : Device) (n : Nat) : List Nat := ((List.range 4).flatMap (fun i => leBytes 4 (d.rd (TAP_AUX_DATA i)))).take n

/-- A TAP_AUX_CMD write. -/
def Device.auxCmd (d : Device) (m v : Nat) : Device :=
  d.guarded m TAP_AUX_CMD [(!among m mLinks, ePerm), (2 ^ 26 ≤ v, eRange), (d.get TAP_STAT_hpd = 0, eState),
      (d.get TAP_AUX_STAT_busy = 1, eBusy)] (fun d =>
    let op := bitsOf v 25 24
    let n := bitsOf v 23 20 + 1
    let x : AuxOp := { op := op, addr := bitsOf v 19 0, len := n, data := if op % 2 = 1 then d.auxBytes n else [] }
    ({ d with tap := { d.tap with aux := some x } }).wr TAP_AUX_STAT 1)

/-- The TAP_AUX_CMD word of an operation. -/
def auxWord (op addr len : Nat) : Nat := addr % 2 ^ 20 + len % 16 * 2 ^ 20 + op * 2 ^ 24

/-- TAP_AUX_NATIVE_READ: operation 0 on `len` + 1 bytes. -/
def execTapAuxNativeRead (m : Master) (addr : Nat) (len : Fin 16) (s : State) : Out := s.run (fun d => d.auxCmd m (auxWord 0 addr len))

/-- TAP_AUX_NATIVE_WRITE: operation 1. -/
def execTapAuxNativeWrite (m : Master) (addr : Nat) (len : Fin 16) (s : State) : Out := s.run (fun d => d.auxCmd m (auxWord 1 addr len))

/-- TAP_AUX_I2C_READ: operation 2. -/
def execTapAuxI2cRead (m : Master) (addr : Nat) (len : Fin 16) (s : State) : Out := s.run (fun d => d.auxCmd m (auxWord 2 addr len))

/-- TAP_AUX_I2C_WRITE: operation 3. -/
def execTapAuxI2cWrite (m : Master) (addr : Nat) (len : Fin 16) (s : State) : Out := s.run (fun d => d.auxCmd m (auxWord 3 addr len))

/-- The AUX transaction ends with a reply code. -/
def Device.auxEnd (d : Device) (reply : Nat) : Device :=
  (({ d with tap := { d.tap with aux := none } }).wr TAP_AUX_STAT (2 + 4 * reply)).put TAP_IRQ_aux_done 1

/-- TAP_AUX_REPLY: the sink's answer; a DEFER repeats the request until 7 were received. -/
def execTapAuxReply (r : AuxReply) (data : List Nat) (s : State) : Out :=
  s.run (fun d =>
    match d.tap.aux with
    | none => d
    | some x =>
      match r with
      | .nack => d.auxEnd 1
      | .defer =>
        if x.defers + 1 < 7 then { d with tap := { d.tap with aux := some { x with defers := x.defers + 1 } } } else d.auxEnd 2
      | .ack =>
        if x.op = 2 && !x.wrote then { d with tap := { d.tap with aux := some { x with wrote := true } } }
        else if x.op % 2 = 1 then d.auxEnd 0
        else
          let bs := (data.take x.len).map (fun b => b % 256)
          let all := bs ++ (d.auxBytes 16).drop bs.length
          (eachOf (List.range 4) (fun i d => d.wr (TAP_AUX_DATA i) (leNat ((all.drop (4 * i)).take 4))) d).auxEnd 0)

/-- TAP_AUX_TIMEOUT: no reply within 400 us. -/
def execTapAuxTimeout (s : State) : Out := s.run (fun d => if d.tap.aux.isSome then d.auxEnd 3 else d)

end Sys2Proof.Machine
end

