-- ==== Sys2Proof/Machine/Ports.lean ====
section
/-! DEFINITION. The DisplayPort inputs (spec/04_dp_inputs_and_tap.md): hot plug, links, streams, received lines, selective updates, EDID; and the loopback test. -/

namespace Sys2Proof.Machine

/-! ## Ports and tiles (R112) -/

/-- The hidden part of a port. -/
def Device.portX (d : Device) (p : Nat) : PortX := Sparse.get (fun _ => {}) d.dprx p
def Device.setPort (d : Device) (p : Nat) (x : PortX) : Device := { d with dprx := Sparse.set (fun _ => {}) d.dprx p x }

/-- The layout in force, its ports and its reference port. -/
def Device.layoutNow (d : Device) : Nat := d.getF DPRX_TOPO_layout
def Device.layoutPorts (d : Device) : List Nat :=
  match d.layoutNow with
  | 1 => [d.getF DPRX_TOPO_port]
  | 2 => [d.getF DPRX_TOPO_port]
  | 3 => [0, 1]
  | 4 => [0, 1, 2, 3]
  | _ => []
def Device.refPort (d : Device) : Nat := d.getF DPRX_TOPO_ref

/-- The tile of a port of the layout, in stored coordinates (R112, R378). -/
def Device.portTile (d : Device) (p : Nat) : Rect :=
  let w := d.hact
  let h := d.vact
  match d.layoutNow with
  | 1 => ⟨0, 0, w, h⟩
  | 2 => ⟨0, 0, w / 2, h / 2⟩
  | 3 => ⟨p * (w / 2), 0, w / 2, h⟩
  | _ => ⟨p % 2 * (w / 2), p / 2 * (h / 2), w / 2, h / 2⟩

/-- The port that feeds a pixel of the glass; none in layout 0. -/
def Device.portAt (d : Device) (x y : Nat) : Option Nat :=
  match d.layoutNow with
  | 1 => some (d.getF DPRX_TOPO_port)
  | 2 => some (d.getF DPRX_TOPO_port)
  | 3 => some (if x < d.hact / 2 then 0 else 1)
  | 4 => some ((if x < d.hact / 2 then 0 else 1) + (if y < d.vact / 2 then 0 else 2))
  | _ => none

/-- The tile line of a glass row on the port that feeds it. -/
def Device.tileLine (d : Device) (y : Nat) : Nat :=
  match d.layoutNow with
  | 2 => y / 2
  | 4 => y % (d.vact / 2)
  | _ => y

/-- Glass row carried by position `g` of a frame, in the scan order of R149. -/
def Device.rowAt (d : Device) (g : Nat) : Nat := if d.getF TMG_CTRL_split = 1 then g / 2 + g % 2 * (d.vact / 2) else g

/-! ## Hot plug (R110, R111) -/

/-- The level a port drives on HPD (R110). -/
def Device.hpdLevel (d : Device) (p : Nat) : Bool :=
  d.get (DPRX_CTRL_hpd_en p) = 1 && d.boot.hpdRaised && d.mode ≠ 0 && !(d.portX p).pulse && !(p = 3 && d.get TAP_LOOP_run = 1)

/-- Every port drives the level R110 gives it. -/
def Device.hpdSync (d : Device) : Device :=
  eachOf (List.range 4) (fun p d =>
    ({ d with power := { d.power with hpd := putBit d.power.hpd p (d.hpdLevel p) } }).put (DPRX_STAT_hpd p) (b2n (d.hpdLevel p))) d

/-- An HPD low pulse starts. -/
def Device.hpdPulse (d : Device) (p : Nat) : Device := (d.setPort p { d.portX p with pulse := true }).hpdSync

/-! ## Validity (R113-R115) -/

/-- DPRX_VALID follows the ports. -/
def Device.validSync (d : Device) : Device :=
  let ps := d.layoutPorts
  let all : Bool := !ps.isEmpty && ps.all (fun p => d.get (DPRX_STAT_valid p) = 1)
  d.wr DPRX_VALID ((((List.range 4).map (fun p => d.get (DPRX_STAT_valid p) * 2 ^ p)).sum) + b2n all * 256)

/-- In a picture frame the rows of port `p` that are not yet written are replayed (R151). -/
def Device.portCut (d : Device) (p : Nat) : Device :=
  match d.ras.ports.getD p .replay with
  | .input => { d with ras := { d.ras with ports := d.ras.ports.set p (.cut (d.portX p).lines) } }
  | _ => d

/-- DPRX_STAT.valid takes a value; a change is reported, and a loss cuts the frame in progress. -/
def Device.setValid (d : Device) (p : Nat) (b : Bool) : Device :=
  if d.get (DPRX_STAT_valid p) = b2n b then d.validSync else
    let d := ((d.put (DPRX_STAT_valid p) (b2n b)).put (DPRX_IRQ_valid p) 1).validSync
    if b then d else (d.portCut p).setPort p { d.portX p with writing := false, fresh := false }

/-- The conditions of R114 for the format latched last. -/
def Device.validNow (d : Device) (p : Nat) : Bool :=
  let t := d.portTile p
  let r := d.refPort
  d.get (DPRX_STAT_pr p) = 1 ||
  (d.get (DPRX_STAT_trained p) = 1 && d.get (DPRX_STAT_stream p) = 1 && d.get (DPRX_STREAM_supported p) = 1 &&
   d.layoutPorts.contains p && d.get (DPRX_SIZE_width p) = t.w && d.get (DPRX_SIZE_height p) = t.h &&
   (d.layoutNow < 3 || (d.get (DPRX_STREAM_colour p) = d.get (DPRX_STREAM_colour r) && d.get (DPRX_STREAM_bpc p) = d.get (DPRX_STREAM_bpc r))))

/-- The stream of a port is gone. -/
def Device.streamEnd (d : Device) (p : Nat) : Device :=
  let d := d.put (DPRX_STAT_stream p) 0
  (d.tapStreamEnd p).setValid p (d.validNow p)

/-- A port drops its link (R110). -/
def Device.portDrop (d : Device) (p : Nat) : Device :=
  let d := ((d.put (DPRX_STAT_trained p) 0).put (DPRX_STAT_rate p) 0).put (DPRX_STAT_lanes p) 0
  let d := (d.put (DPRX_STAT_pr p) 0).tapReplay p false
  (d.setPort p { d.portX p with relock := false }).streamEnd p

/-! ## DPRX_CTRL (R108-R111) -/

/-- The lane count of DPRX_CTRL.max_lanes. -/
def portLanes (code : Nat) : Nat := if code = 0 then 1 else if code = 1 then 2 else 4

/-- A DPRX_CTRL write. -/
def Device.dprxCtrl (d : Device) (m p v : Nat) : Device :=
  let off := DPRX_CTRL p
  let rate := bitsOf v 3 0
  let lanes := bitsOf v 5 4
  d.guarded m off ([(!among m mLinks, ePerm), (d.kRegShut m, eAuth), (rate = 0 || 4 < rate || lanes = 3 || (v.testBit 10 && !v.testBit 9), eRange)] ++
      d.formChecks off v) (fun d =>
    let old := d.rd off
    let high := d.get (DPRX_STAT_hpd p) = 1
    let caps (x : Nat) : Nat × Nat × Nat := (bitsOf x 10 8, bitsOf x 5 4, bitsOf x 3 0)
    let d := (d.wr off v).kNote off
    let above : Bool := decide (rate < d.get (DPRX_STAT_rate p)) || decide (portLanes lanes < d.get (DPRX_STAT_lanes p))
    let d := if caps old ≠ caps v ∧ (high ∨ (d.portX p).pulse) then
        (if above then d.portDrop p else d).setPort p { (if above then d.portDrop p else d).portX p with pulse := true }
      else d
    let d := if old.testBit 16 && !v.testBit 16 then d.portDrop p else d
    d.hpdSync)

/-- DPRX_CAP_CHANGE: a DPRX_CTRL write. -/
def execDprxCapChange (m : Master) (p : Port) (val : Nat) (s : State) : Out := s.run (fun d => d.dprxCtrl m p (val % 2 ^ 32))

/-- HPD_ENABLE_CLEAR: a DPRX_CTRL write with hpd_en = 0. -/
def execHpdEnableClear (m : Master) (p : Port) (val : Nat) (s : State) : Out :=
  s.run (fun d => d.dprxCtrl m p (offBit (val % 2 ^ 32) 16))

/-- HPD_PULSE_END: 20 ms have passed since the (later) pulse began (R111, R135). -/
def execHpdPulseEnd (p : Port) (s : State) : Out :=
  s.run (fun d => if (d.portX p).pulse then (d.setPort p { d.portX p with pulse := false }).hpdSync else d)

/-! ## Links (R119, R120) -/

/-- DPRX_LINK_LOCK: the link locks at a rate and lane count within the port's limits; `tie`: in the cycle in which the relock timer expires. -/
def execDprxLinkLock (p : Port) (rate lanes : Nat) (tie : Bool) (s : State) : Out :=
  s.run (fun d =>
    let ok : Bool := d.get (DPRX_STAT_hpd p) = 1 && decide (1 ≤ rate ∧ rate ≤ d.get (DPRX_CTRL_max_rate p)) &&
      (lanes = 1 || lanes = 2 || lanes = 4) && decide (lanes ≤ portLanes (d.get (DPRX_CTRL_max_lanes p)))
    if !d.power.coreOn || !ok then d else
      let late := tie && (d.portX p).relock
      let d := d.setPort p { d.portX p with relock := false, pulsed := false }
      let d := (((d.put (DPRX_STAT_trained p) 1).put (DPRX_STAT_rate p) rate).put (DPRX_STAT_lanes p) lanes).put (DPRX_STAT_lost p) 0
      if late then (d.put (DPRX_LATE_lock p) 1).put (DPRX_IRQ_late p) 1 else d)

/-- DPRX_LOCK_LOSS: a trained port loses lock (R119). -/
def execDprxLockLoss (p : Port) (s : State) : Out :=
  s.run (fun d =>
    if !d.power.coreOn || d.get (DPRX_STAT_trained p) = 0 then d else
      let d := (d.bump (DPRX_LINK_EVT_losses p)).bump (DPRX_LINK_EVT_retrains p)
      let d := d.portDrop p
      d.setPort p { d.portX p with relock := true })

/-- DPRX_RELOCK_TIMEOUT: the relock timer expires first (R119, R135). -/
def execDprxRelockTimeout (p : Port) (s : State) : Out :=
  s.run (fun d =>
    let x := d.portX p
    if !x.relock then d else
      let d := ((d.put (DPRX_STAT_lost p) 1).put (DPRX_IRQ_lost p) 1).bump (DPRX_LINK_EVT_timeouts p)
      let d := d.setPort p { x with relock := false, pulsed := true }
      if x.pulse ∨ x.pulsed then d else d.hpdPulse p)

/-- VIDEO_STREAM_LOSS: the source stops its stream on a trained port. -/
def execVideoStreamLoss (p : Port) (s : State) : Out :=
  s.run (fun d => if d.power.coreOn && d.get (DPRX_STAT_stream p) = 1 then d.streamEnd p else d)

/-! ## Frames (R114-R118, R141, R142) -/

/-- A frame of a port was never driven (R143, R147). -/
def Device.skipFrame (d : Device) (n : Nat) : Device :=
  if n = 0 then d else (d.bump TMG_FRC_EVT_skips n).put TMG_IRQ_skip 1

/-- The derived pixel clock lies within 0.5 % of TMG_PCLK (R140, R141). -/
def Device.inWindow (d : Device) (lineHz : Nat) : Bool :=
  let k := if d.layoutNow = 4 then 2 else 1
  let f : Int := (k * d.get TMG_HTOTAL_width * lineHz : Nat)
  let p : Int := (d.getF TMG_PCLK_rate * 10000 : Nat)
  decide ((f - p).natAbs * 200 ≤ p.toNat)

/-- A valid frame starts on the reference port of a locked or held-over raster (R141-R143). -/
def Device.rasterLock (d : Device) (lineHz : Nat) : Device :=
  let r := d.get TMG_STAT_raster
  if d.getF TMG_CTRL_src = 0 ∨ r < 2 ∨ d.mode = 3 then d
  else if !d.inWindow lineHz then
    let d := d.bump TMG_LOCK_EVT_refusals
    if r = 2 then d.holdover else d
  else
    let d := if r = 3 then (d.put TMG_STAT_raster 2).put TMG_IRQ_relock 1 else d
    if d.ras.wait == .input then { d with ras := { d.ras with wait := .through } } else d

/-- The format of a frame is latched (R116). -/
def Device.latchFormat (d : Device) (p : Nat) (f : VideoFormat) (since skew : Nat) : Device :=
  let d := d.wr (DPRX_STREAM p) ((b2n f.vsc * 128 + f.code) * 0x1000000 + b2n (bitsPerPixel f.colour f.bpc ≠ 0) * 0x10000 +
    f.bpc * 16 + f.colour)
  let d := d.wr (DPRX_SIZE p) (f.width % 65536 + f.height % 65536 * 65536)
  let d := ((d.wr (DPRX_FPERIOD p) (Nat.min since 0xFFFFFFFF)).wr (DPRX_SKEW p) (skew % 2 ^ 32)).put (DPRX_STAT_stream p) 1
  d.setPort p { d.portX p with narrow := f.narrow }

/-- R117 discards the frame: it starts too early on the reference port. -/
def Device.tooEarly (d : Device) (p since : Nat) : Bool :=
  d.getF DPRX_VRR_en = 1 && d.layoutPorts.contains p && p = d.refPort && since ≠ 0 &&
    decide (since * d.getF DPRX_VRR_max_hz < 995000000)

/-- DPRX_FRAME_START: a frame starts on port `p`, `since` ns after the last start that was not discarded (0 for none), `skew` ns (two's complement) after the reference port's, with the line rate `lineHz`. -/
def execDprxFrameStart (p : Port) (f : VideoFormat) (since skew lineHz : Nat) (s : State) : Out :=
  s.run (fun d =>
    if !d.power.coreOn || d.get (DPRX_STAT_trained p) = 0 then d else
      let d := d.tapFrame p f since
      if d.tooEarly p since then (d.bump (DPRX_LINK_EVT_early p)).setPort p { d.portX p with early := true }
      else
        let old := d.portX p
        let d := d.latchFormat p f since skew
        let v := d.validNow p
        let d := d.setValid p v
        let x := d.portX p
        let usable : Bool := v && d.layoutPorts.contains p && d.mode ≠ 3
        let d := d.setPort p { x with early := false, lines := 0, writing := usable && d.get (DPRX_STAT_pr p) = 0,
                                      fresh := usable && d.get (DPRX_STAT_pr p) = 0,
                                      older := x.older + b2n (usable && old.fresh) }
        if v && p = d.refPort && d.layoutPorts.contains p then d.rasterLock lineHz else d)

/-! ## Bits of the frame store -/

/-- `n` bits at bit `bit` of the row that begins at `a`. -/
def Device.fsBits (d : Device) (a bit n : Nat) : Nat :=
  (leNat (d.fsBytes (a + bit / 8) ((bit % 8 + n + 7) / 8)) >>> (bit % 8)) % 2 ^ n

/-- Write values of `b` bits from bit `bit` of the row that begins at `a`, for the fabric (master 11). -/
def Device.fsPutBits (d : Device) (a bit b : Nat) (vs : List Nat) : Device :=
  let n := vs.length * b
  if n = 0 then d else
    let k := (bit % 8 + n + 7) / 8
    let v := (vs.reverse).foldl (fun acc x => acc * 2 ^ b + x % 2 ^ b) 0
    let old := leNat (d.fsBytes (a + bit / 8) k)
    d.fsWrite 11 (atAddr (a + bit / 8) (leBytes k (setBits old (bit % 8 + n - 1) (bit % 8) v)))

/-- The base of row `y` of the incoming frame (R378). -/
def Device.inRow (d : Device) (y : Nat) : Nat := d.rgnBase 2 + y * pitch (glassW (d.rd MEM_GLASS_ACT)) 36

/-- Received bits per pixel on a port. -/
def Device.portBits (d : Device) (p : Nat) : Nat := bitsPerPixel (d.get (DPRX_STREAM_colour p)) (d.get (DPRX_STREAM_bpc p))

/-- Write samples of a tile row from tile column `x` (R378). -/
def Device.writeSamples (d : Device) (p x y : Nat) (vs : List Nat) : Device :=
  let t := d.portTile p
  let b := d.portBits p
  let t : Rect := if d.layoutNow < 3 then { t with x := 0, y := 0 } else t
  if t.h ≤ y ∨ d.get MEM_FS_STAT_init = 0 then d else d.fsPutBits (d.inRow (t.y + y)) ((t.x + x) * b) b (vs.take (t.w - x))

/-! ## Lines and the input ring (R217) -/

/-- The port of a stripe in a row: that of its first column. -/
def Device.stripePort (d : Device) (s y : Nat) : Option Nat := d.portAt (d.act.stripes.getD s {}).firstCol y

/-- A stripe of the frame in progress. -/
def Device.stripeX (d : Device) (s : Nat) : StripeX := Sparse.get (fun _ => {}) d.ras.stripes s
def Device.setStripe (d : Device) (s : Nat) (x : StripeX) : Device :=
  { d with ras := { d.ras with stripes := Sparse.set (fun _ => {}) d.ras.stripes s x } }

/-- The frame in progress runs on the through path. -/
def Device.throughPath (d : Device) : Bool := d.ras.active && d.ras.kind == .picture && d.get TMG_STAT_path = 0

/-- The next row of stripe `s` lies on a tile line whose ring slot is overwritten (R217). -/
def Device.overrun (d : Device) (s : Nat) : Bool :=
  let g := (d.stripeX s).next
  let y := d.rowAt g
  decide (g < d.vact) && (match d.stripePort s y with
    | some p => d.ras.ports.getD p .replay == .input && decide (d.tileLine y + 5 ≤ (d.portX p).lines)
    | none => false)

/-- Stripe `s` abandons the lines that the ring has overwritten. -/
def Device.abandon (d : Device) (s : Nat) : Nat → Device
  | 0 => d
  | f + 1 =>
    if !d.overrun s then d else
      let x := d.stripeX s
      ((d.bump (FAB_STRIPE_EVT_abandoned s)).setStripe s { x with next := x.next + 1 }).abandon s f

/-- DPRX_LINE_RECEIVE: a port has received a line: its samples of b bits each, with the corrected symbols and uncorrectable blocks met in it (R121, R217, R378). -/
def execDprxLineReceive (p : Port) (samples : List Nat) (corr uncorr : Nat) (s : State) : Out :=
  s.run (fun d =>
    if !d.power.coreOn || d.get (DPRX_STAT_stream p) = 0 then d else
      let d := (d.bump (DPRX_FEC_CNT_corr p) corr).bump (DPRX_FEC_CNT_uncorr p) uncorr
      let x := d.portX p
      if x.early then d else
        let d := if x.writing then d.writeSamples p 0 x.lines samples else d
        let d := d.setPort p { x with lines := x.lines + 1 }
        let d := if uncorr ≠ 0 ∧ d.get (DPRX_STAT_valid p) = 1 then
            ((d.put (DPRX_STAT_valid p) 0).put (DPRX_IRQ_valid p) 1).validSync else d
        if !d.throughPath then d else eachOf (List.range d.act.stripes.length) (fun s d => d.abandon s 2) d)

/-! ## Panel Replay and selective update (R122-R124) -/

/-- Every port of the layout is in Panel Replay. -/
def Device.allReplay (d : Device) : Bool := !d.layoutPorts.isEmpty && d.layoutPorts.all (fun p => d.get (DPRX_STAT_pr p) = 1 && d.get (DPRX_CTRL_pr_cap p) = 1)

/-- GECKO or LIVE is entered for Panel Replay at the next swap point. -/
def Device.replayTrans (d : Device) (target : Nat) : Device :=
  (({ d with trans := some { target := target, cause := 8, master := 0 } }).put GLB_MODE_STAT_busy 1).put GLB_MODE_STAT_target target

/-- LIVE begins the entry to GECKO once every port of the layout has entered Panel Replay (R122). -/
def Device.replayCheck (d : Device) : Device := if d.mode = 2 && d.trans.isNone && d.allReplay then d.replayTrans 3 else d

/-- PANEL_REPLAY_ENTRY: the source of a trained port enters; without pr_cap the entry is ignored (R107). -/
def execPanelReplayEntry (p : Port) (s : State) : Out :=
  s.run (fun d =>
    if !d.power.coreOn || d.get (DPRX_CTRL_pr_cap p) = 0 || d.get (DPRX_STAT_trained p) = 0 || d.get (DPRX_STAT_pr p) = 1 then d else
      let d := (d.put (DPRX_STAT_pr p) 1).put (DPRX_IRQ_pr_entry p) 1
      ((d.tapReplay p true).setValid p true).replayCheck)

/-- A transition waits that Panel Replay began and that leads to a mode. -/
def Device.replayPending (d : Device) (target : Nat) : Bool := d.trans.any (fun t => t.cause = 8 && t.target = target)

/-- PANEL_REPLAY_EXIT: the source exits; the layout's exit returns GECKO to LIVE, and wins over an entry not yet in effect (R123, R135). -/
def execPanelReplayExit (p : Port) (s : State) : Out :=
  s.run (fun d =>
    if d.get (DPRX_STAT_pr p) = 0 then d else
      let d := (d.put (DPRX_STAT_pr p) 0).put (DPRX_IRQ_pr_exit p) 1
      let d := d.tapReplay p false
      let d := d.setValid p (d.validNow p)
      if !d.layoutPorts.contains p then d
      else if d.replayPending 3 then
        (({ d with trans := none }).put GLB_MODE_STAT_busy 0).put GLB_MODE_STAT_target d.mode
      else if d.mode = 3 && d.trans.isNone then d.replayTrans 2
      else d)

/-- The hidden part of a tile queue. -/
def Device.tileX (d : Device) (t : Nat) : TileX := Sparse.get (fun _ => {}) d.trn.tiles t
def Device.setTile (d : Device) (t : Nat) (x : TileX) : Device :=
  { d with trn := { d.trn with tiles := Sparse.set (fun _ => {}) d.trn.tiles t x } }

/-- SELECTIVE_UPDATE: a region received on a port, its samples row by row (R124, R159). -/
def execSelectiveUpdate (p : Port) (x y w h : Nat) (pixels : List Nat) (s : State) : Out :=
  s.run (fun d =>
    if !d.power.coreOn || d.mode ≠ 3 || d.get (DPRX_CTRL_su_cap p) = 0 || !d.layoutPorts.contains p || w = 0 || h = 0 then d else
      let d := d.wr (DPRX_SU_CNT p) ((d.rd (DPRX_SU_CNT p) + 1) % 2 ^ 32)
      let d := eachOf (List.range (Nat.min h (d.portTile p).h)) (fun j d => d.writeSamples p x (y + j) ((pixels.drop (j * w)).take w)) d
      let t := d.portTile p
      let k := if d.layoutNow = 2 then 2 else 1
      let tiles := d.tilesIn ⟨(t.x + x) * k, (t.y + y) * k, w * k, h * k⟩
      let d : Device := { d with ras := { d.ras with dirty := (d.ras.dirty ++ tiles).eraseDups } }
      eachOf tiles (fun t d => d.setTile t { d.tileX t with explicit := true }) d)

/-! ## EDID (R125, R126) -/

/-- The staged EDID bytes. -/
def Device.edidBytes (d : Device) (p n : Nat) : List Nat :=
  ((List.range ((n + 3) / 4)).flatMap (fun j => leBytes 4 (d.rd (DPRX_EDID p j)))).take n

/-- The checks of R125 in their order. -/
def Device.edidChecks (d : Device) (m p : Nat) : List (Bool × Nat) :=
  let n := d.get (DPRX_EDID_LEN_len p)
  let b := d.edidBytes p n
  let shut := (d.kRegion (8 + 8 * p)).any (fun j => d.kWriteShut m j)
  [((d.portX p).commit.isSome, eBusy), (shut, eAuth), (n % 128 ≠ 0 || n = 0 || 1024 < n, eRange),
   (decide (b.take 8 ≠ edidHead) || b.getD 126 0 + 1 ≠ n / 128, eRange),
   ((List.range (n / 128)).any (fun k => ((b.drop (128 * k)).take 128).sum % 256 ≠ 0), eRange)]

/-- A DPRX_EDID_CMD write with commit = 1. -/
def Device.edidCommit (d : Device) (m p : Nat) : Device :=
  let off := DPRX_EDID_CMD p
  if !d.power.coreOn then d
  else if !among m mLinks then d.reject m off ePerm
  else match (d.edidChecks m p).find? (fun c => c.1) with
    | some c =>
      let d := d.reject m off c.2
      if (d.portX p).commit.isSome then d else (d.wr (DPRX_EDID_STAT p) (c.2 * 256 + 2)).put (DPRX_IRQ_edid p) 1
    | none =>
      let b := d.edidBytes p (d.get (DPRX_EDID_LEN_len p))
      let x := d.portX p
      ((d.setPort p { x with commit := some m, served := b, pulse := x.pulse || d.get (DPRX_STAT_hpd p) = 1 }).hpdSync).wr
        (DPRX_EDID_STAT p) 1

/-- EDID_COMMIT. -/
def execEdidCommit (m : Master) (p : Port) (s : State) : Out := s.run (fun d => d.edidCommit m p)

/-- EDID_COMMIT_DONE: the Keep store and the HPD pulse have completed (R126). -/
def execEdidCommitDone (p : Port) (s : State) : Out :=
  s.run (fun d =>
    let x := d.portX p
    if x.commit.isNone || x.pulse then d else
      let err := if d.kClosed then eState else eOk
      let d := d.recSave (4 + p) x.served
      ((d.setPort p { x with commit := none }).wr (DPRX_EDID_STAT p) (err * 256 + 2)).put (DPRX_IRQ_edid p) 1)

/-- DPRX_AUX_READ: a source reads `n` bytes of the served EDID from `off`; without one it gets a NACK (R108, R126). -/
def execDprxAuxRead (p : Port) (off n : Nat) (s : State) : Out :=
  s.run (fun d =>
    if !d.power.coreOn then d else
      let x := d.portX p
      d.setPort p { x with aux := if x.served.isEmpty then none else some ((x.served.drop off).take n) })

/-! ## The loopback test (R134) -/

/-- A TAP_LOOP write; the error counts of a test that ends are `errs`. -/
def Device.tapLoop (d : Device) (m v : Nat) (errs : List Nat) : Device :=
  let run := v % 2 = 1
  let rate := bitsOf v 7 4
  let held := d.dptxHeld 9 || (d.owner 10 0).any (fun o => o.feature ≠ 9)
  d.guarded m TAP_LOOP ([(!among m mLinks, ePerm), (run && (d.mode ≠ 1 || d.get GLB_BOOT_CFG_hold = 0), eState),
      (4 < rate || (run && rate = 0), eRange), (run && held, eConflict)] ++ d.formChecks TAP_LOOP v) (fun d =>
    let was := d.get TAP_LOOP_run = 1
    let d := d.wr TAP_LOOP v
    if run && !was then
      let d := eachOf (List.range 4) (fun i d => d.claim 9 9 i m) (d.claim 9 10 0 m)
      ((d.wr TAP_LOOP_STAT 0).portDrop 3).hpdSync
    else if !run && was then
      let n (i : Nat) : Nat := Nat.min (errs.getD i 0) 255
      let d := d.wr TAP_LOOP_STAT (n 0 + n 1 * 0x100 + n 2 * 0x10000 + n 3 * 0x1000000)
      (d.unclaim 9 (fun _ => true)).hpdSync
    else d)

/-- LOOPBACK_START: run = 1 at a rate. -/
def execLoopbackStart (m : Master) (rate : Nat) (s : State) : Out := s.run (fun d => d.tapLoop m (rate % 16 * 16 + 1) [])

/-- LOOPBACK_STOP: run = 0, with the bit errors counted on lanes 0 to 3. -/
def execLoopbackStop (m : Master) (errs : List Nat) (s : State) : Out :=
  s.run (fun d => d.tapLoop m (offBit (d.rd TAP_LOOP) 0) errs)

end Sys2Proof.Machine
end

