-- ==== Sys2Proof/Machine/Tiles.lean ====
section
/-! DEFINITION. Transition shaping: knots, the temperature grid, tile queues, their commands and the update pass (spec/08_transition_shaping.md, R229 to R247). -/

namespace Sys2Proof.Machine

/-! ## Knots (R229) -/

/-- The key of a knot. -/
def knotKey (copy band colour old new : Nat) : Nat := 1089 * (24 * copy + 3 * band + colour) + 33 * old + new

/-- A knot as TRN_KNOT_DATA holds it. -/
def Device.knot (d : Device) (copy band colour old new : Nat) : Nat := Sparse.get (fun _ => 0) d.trn.knots (knotKey copy band colour old new)

/-- The knot that a TRN_KNOT_SEL value names. -/
def knotOfSel (x : Nat) : Nat := knotKey (bitsOf x 24 24) (bitsOf x 18 16) (bitsOf x 21 20) (bitsOf x 13 8) (bitsOf x 5 0)

/-- TRN_KNOT_SEL after a write with inc set. -/
def knotAdvance (x : Nat) : Nat :=
  let n := bitsOf x 5 0
  if n < 32 then setBits x 5 0 (n + 1)
  else
    let o := bitsOf x 13 8
    setBits (setBits x 5 0 0) 13 8 (if o < 32 then o + 1 else 0)

/-- Shaping is enabled, in force or awaiting its swap point. -/
def Device.trnOn (d : Device) : Bool := d.getF TRN_CTRL_en = 1 || d.get TRN_CTRL_en = 1

/-- A knot copy may not be written now (R229). -/
def Device.knotShut (d : Device) (copy : Nat) : Bool :=
  d.trnOn && (d.getF TRN_CTRL_knot_sel = copy || d.get TRN_CTRL_knot_sel ≠ d.getF TRN_CTRL_knot_sel)

/-- A TRN_KNOT_DATA write. -/
def Device.knotWrite (d : Device) (m v : Nat) : Device :=
  let x := d.rdB m TRN_KNOT_SEL
  d.guarded m TRN_KNOT_DATA [(!among m mFabric, ePerm), (reservedBad TRN_KNOT_DATA v, eRange), (d.knotShut (bitsOf x 24 24), eBusy)]
    (fun d =>
      let d : Device := { d with trn := { d.trn with knots := Sparse.set (fun _ => 0) d.trn.knots (knotOfSel x) v } }
      if x.testBit 28 then d.wrB m TRN_KNOT_SEL (knotAdvance x) else d)

/-- KNOT_WRITE. -/
def execKnotWrite (m : Master) (val : Nat) (s : State) : Out := s.run (fun d => d.knotWrite m (val % 2 ^ 32))

/-! ## The temperature grid (R238, R243) -/

/-- The masters that may write the grid. -/
def Device.gridMasters (d : Device) : Nat := if d.get TRN_TCFG_src = 0 then 0x20 else 0x381

/-- A TRN_TGRID write. -/
def Device.gridWrite (d : Device) (m k v : Nat) : Device :=
  let t := signedOf 16 v
  d.guarded m (TRN_TGRID k) [(!among m d.gridMasters, ePerm), (2 ^ 16 ≤ v || decide (t < -640) || decide (2000 < t), eRange)] (fun d =>
    ({ (d.wrFrame (TRN_TGRID k) v) with trn := { d.trn with gridUs := d.us } }).put TRN_TSTAT_stale 0)

/-- GRID_WRITE: grid point `k`. -/
def execGridWrite (m : Master) (k : Fin 144) (val : Nat) (s : State) : Out := s.run (fun d => d.gridWrite m k (val % 2 ^ 32))

/-- GRID_STALE: TRN_TCFG.stale seconds have passed; `tie`: a grid write reaches the hub in the same cycle (R243). -/
def execGridStale (tie : Bool) (s : State) : Out :=
  s.run (fun d =>
    if !d.power.coreOn then d
    else if tie then (d.put TRN_LATE_grid 1).put TRN_IRQ_late 1
    else if d.get TRN_TSTAT_stale = 1 then d
    else ((d.put TRN_TSTAT_stale 1).put TRN_IRQ_stale 1).raiseCode 0x44 0)

/-- TRN_TSTAT with the age of the grid. -/
def Device.gridStat (d : Device) : Nat := Nat.min ((d.us - d.trn.gridUs) / 1000) 65535 + d.get TRN_TSTAT_stale * 65536

/-! ## Commands (R246) -/

/-- Masters 0, 2, 6 and 7 to 9. -/
abbrev mKick : Nat := 0x3C5

/-- A TRN_KICK_CMD write. -/
def Device.kickCmd (d : Device) (m v : Nat) : Device :=
  let first := d.get TRN_KICK_RANGE_first
  let last := d.get TRN_KICK_RANGE_last
  let bad : Bool := v ≠ 0 && (4 < v || last < first || decide (d.tileCount ≤ last))
  d.guarded m TRN_KICK_CMD [(!among m mKick, ePerm), (bad, eRange), (v ≠ 0 && d.trn.kick.isSome, eBusy)] (fun d =>
    if v = 0 then d else { d with trn := { d.trn with kick := some (v, first, last) } })

/-- KICK_RETARGET: op 1. -/
def execKickRetarget (m : Master) (s : State) : Out := s.run (fun d => d.kickCmd m 1)

/-- KICK_SETTLE: op 2. -/
def execKickSettle (m : Master) (s : State) : Out := s.run (fun d => d.kickCmd m 2)

/-- KICK_FREEZE: op 3. -/
def execKickFreeze (m : Master) (s : State) : Out := s.run (fun d => d.kickCmd m 3)

/-- KICK_UNFREEZE: op 4. -/
def execKickUnfreeze (m : Master) (s : State) : Out := s.run (fun d => d.kickCmd m 4)

/-! ## Temperature, bands, cold state (R237, R239, R240) -/

/-- A grid point in force. -/
def Device.gridAt (d : Device) (i j : Nat) : Int := signedOf 16 (d.getF (TRN_TGRID_temp (16 * j + i)))

/-- A tile's temperature estimate at twice the centre of its active part, in 1/16 degree (R237). -/
def Device.tileTemp (d : Device) (t : Nat) : Int :=
  let h := d.hact
  let v := d.vact
  let x0 := t % d.tileCols * 32
  let y0 := t / d.tileCols * d.tileH
  let x2 := x0 + Nat.min (x0 + 32) h - 1
  let y2 := y0 + Nat.min (y0 + d.tileH) v - 1
  let u := 2 * (h - 1)
  let w := 2 * (v - 1)
  let i := Nat.min (15 * x2 / u) 14
  let j := Nat.min (8 * y2 / w) 7
  let a : Int := ((15 * x2 - i * u : Nat) : Int)
  let b : Int := ((8 * y2 - j * w : Nat) : Int)
  let ui : Int := u
  let wi : Int := w
  let sum := (ui - a) * (wi - b) * d.gridAt i j + a * (wi - b) * d.gridAt (i + 1) j + (ui - a) * b * d.gridAt i (j + 1) +
    a * b * d.gridAt (i + 1) (j + 1)
  (2 * sum + ui * wi) / (2 * ui * wi)

/-- The highest band whose lower edge is at or below `t`. -/
def Device.bandAt (d : Device) (t : Int) : Nat :=
  ((List.range 8).filter (fun b => b ≠ 0 && decide (signedOf 16 (d.getF (TRN_BAND_edge b)) ≤ t))).foldl Nat.max 0

/-- The tile's temperature, cold state and band for the new frame. -/
def Device.tileSense (d : Device) (t : Nat) (x : TileX) : TileX :=
  let temp := d.tileTemp t
  let lim := signedOf 16 (d.getF TRN_FREEZE_limit)
  let cold := if x.cold then decide (temp < lim + 24) else decide (temp < lim)
  let up := d.bandAt temp
  let dn := d.bandAt (temp + 24)
  let band := if x.band < up then up else if dn < x.band then dn else x.band
  { x with temp := temp, cold := cold, band := if cold then 0 else band }

/-- Steps minus 1 and hold minus 1 of a sequence that starts in a band, cold or not (R230). -/
def Device.seqShape (d : Device) (band : Nat) (cold : Bool) : Nat × Nat :=
  (d.getF (TRN_BAND_steps band) - 1, if cold then d.getF TRN_FREEZE_hold else d.getF (TRN_BAND_hold band))

/-! ## The update pass (R232-R235, R242) -/

/-- What a pass counts. -/
structure PassCount where
  starts : Nat := 0
  restarts : Nat := 0
  coalesced : Nat := 0
  cuts : Nat := 0
deriving DecidableEq, Repr

/-- Content and explicit targets of a running tile (R234). -/
def evidence (x : TileX) (content : Bool) (c : PassCount) : TileX × PassCount :=
  let one (c : PassCount) : PassCount := { c with coalesced := c.coalesced + 1 }
  let r : TileX × PassCount :=
    if !content then (x, c)
    else if x.record then ({ x with runSig := x.sig, record := false }, c)
    else if x.sig = x.runSig then (if x.pend && !x.pendExp then ({ x with pend := false, pendSig := 0 }, one c) else (x, c))
    else if !x.pend then ({ x with pend := true, pendSig := x.sig }, c)
    else if x.sig = x.pendSig then (x, c)
    else ({ x with pendSig := x.sig }, one c)
  if x.explicit then ({ r.1 with pend := true, pendExp := true, explicit := false }, if r.1.pend then one r.2 else r.2) else r

/-- A sequence begins in the tile's current band and cold state. -/
def Device.tileBegin (d : Device) (x : TileX) (band : Nat) (cold : Bool) (frame : Nat) : TileX :=
  let s := d.seqShape band cold
  { x with qstate := 1, lband := band, lcold := cold, lsteps := s.1, lhold := s.2, step := 1, hcnt := 0, pend := false, pendExp := false,
           pendSig := 0, startFrame := frame }

/-- A restart in the new frame (R235, R236). -/
def Device.tileRestart (d : Device) (x : TileX) (frame : Nat) (cut : Bool) (c : PassCount) : TileX × PassCount :=
  ({ d.tileBegin x x.band x.cold frame with
      act := .restart, record := true, restarts := Nat.min (x.restarts + 1) 65535, cuts := Nat.min (x.cuts + b2n cut) 65535 },
   { c with restarts := c.restarts + 1, cuts := c.cuts + b2n cut })

/-- The action of a running tile for the new frame (R235, R242). -/
def Device.tileRun (d : Device) (x : TileX) (frame : Nat) (settle : Bool) (c : PassCount) : TileX × PassCount :=
  let stepFrame := x.lhold < x.hcnt + 1
  let last := stepFrame && x.lsteps ≤ x.step
  let far := decide (2 ≤ ((x.band : Int) - x.lband).natAbs) || x.cold ≠ x.lcold
  let idle : TileX := { x with qstate := 0, act := .final, pend := false, pendExp := false, pendSig := 0 }
  if x.lsteps < x.step then ({ idle with act := .detect }, c)
  else if settle then (idle, c)
  else if far && !last then d.tileRestart x frame true c
  else if x.pend && stepFrame then d.tileRestart x frame false c
  else if last then (idle, c)
  else if stepFrame then ({ x with act := .step, step := x.step + 1, hcnt := 0 }, c)
  else ({ x with act := .hold, hcnt := x.hcnt + 1 }, c)

/-- The update pass on one tile: `bad` says its record failed its ECC check, `frame` is the new frame's count, `old` the ended frame's. -/
def Device.tilePass (d : Device) (t : Nat) (bad : Bool) (old frame : Nat) (x : TileX) (c : PassCount) : TileX × PassCount :=
  let was := x
  let x := d.tileSense t x
  let op := match d.trn.kick with
    | some (o, a, b) => if a ≤ t ∧ t ≤ b then o else 0
    | none => 0
  let quiet (x : TileX) : TileX := { x with pend := false, pendExp := false, pendSig := 0, explicit := false, record := false }
  let done (r : TileX × PassCount) : TileX × PassCount := ({ r.1 with seen := false, passed := false, sig := 0, explicit := false }, r.2)
  done (
    if bad ∨ op = 3 ∨ (x.qstate = 2 ∧ op ≠ 4) then ({ quiet x with qstate := 2, act := .frozen }, c)
    else
      let x := if x.qstate = 2 then { quiet x with qstate := 0, act := .detect } else x
      let x := if op = 1 then { x with explicit := true } else x
      -- a start by detection in the ended frame counts as step 1 done
      let started := was.qstate = 0 && was.act == .detect && x.passed
      let r : TileX × PassCount :=
        if started then
          let y := d.tileBegin x was.band was.cold old
          ({ y with runSig := x.sig, record := false, qstate := if y.lsteps = 0 then 0 else 1 }, { c with starts := c.starts + 1 })
        else (x, c)
      let x := r.1
      let c := r.2
      let e := if x.qstate = 1 then evidence x (x.seen && !started) c else (x, c)
      if d.getF TRN_CTRL_en = 0 then ({ quiet e.1 with qstate := 0, act := .off }, e.2)
      else if e.1.qstate = 1 then d.tileRun e.1 frame (op = 2) e.2
      else if e.1.explicit then d.tileRestart e.1 frame false e.2
      else ({ e.1 with act := .detect }, e.2))

/-- The state byte of a tile's pixels is settled. -/
def Device.tileSettle (d : Device) (t : Nat) : Device :=
  let y0 := t / d.tileCols * d.tileH
  let x0 := t % d.tileCols * 32
  eachOf (List.range (Nat.min (y0 + d.tileH) d.vact - y0)) (fun j d =>
    let a := d.planeAddr 6 1 x0 (y0 + j)
    let n := Nat.min 32 (d.hact - x0)
    { d with mem := { d.mem with fs := d.mem.fs.dropWhere (fun b => decide (a ≤ b ∧ b < a + n)) } }) d

/-- TRN_STAT0 and TRN_STAT1 as the pass leaves the queues. -/
def Device.trnStat (d : Device) : Device :=
  let n (p : TileX → Bool) : Nat := Nat.min (d.trn.tiles.filter (fun e => p e.2)).length 65535
  ((d.wr TRN_STAT0 (n (fun x => x.qstate == 1) + n (fun x => x.pend) * 65536)).wr TRN_STAT1
    (n (fun x => x.qstate == 2) + n (fun x => x.cold) * 65536)).degrSync

/-- The pass at the swap point that ends a processed frame: `adv` says which tiles it advances, `bad` names records that failed their ECC check. -/
def Device.trnPass (d : Device) (adv : Nat → Bool) (bad : List Nat) : Device :=
  let frame := d.rd TMG_FRAME_CNT
  let r := (List.range d.tileCount).foldl (fun (r : Sparse TileX × PassCount) t =>
      let x := d.tileX t
      let kicked := d.trn.kick.any (fun k => decide (k.2.1 ≤ t ∧ t ≤ k.2.2))
      if adv t || kicked || bad.contains t then
        let p := d.tilePass t (bad.contains t) (frame - 1) frame x r.2
        (Sparse.set (fun _ => {}) r.1 t p.1, p.2)
      else r) (d.trn.tiles, {})
  let thawed := match d.trn.kick with
    | some (4, a, b) => (List.range (b + 1 - a)).filterMap (fun i => if (d.tileX (a + i)).qstate = 2 ∧ !bad.contains (a + i) then some (a + i) else none)
    | _ => []
  let newly := bad.filter (fun t => (d.tileX t).qstate ≠ 2)
  let d : Device := { d with trn := { d.trn with tiles := r.1, kick := none } }
  let d := eachOf thawed (fun t d => d.tileSettle t) d
  let c := r.2
  let d := ((d.bump TRN_EVT0_starts c.starts).bump TRN_EVT0_restarts c.restarts).bump TRN_EVT1_coalesced c.coalesced
  let d := d.bump TRN_EVT1_cuts c.cuts
  let d := if c.cuts = 0 then d else d.put TRN_IRQ_cut 1
  eachOf newly (fun t d => (d.put TRN_IRQ_frozen 1).raiseCode 0x40 0 t) d.trnStat

/-- A frame in which shaping is suspended: its content targets coalesce, nothing advances (R231, R244). -/
def Device.trnSuspended (d : Device) : Device :=
  let r := d.trn.tiles.foldl (fun (r : Sparse TileX × PassCount) e =>
      let p := if e.2.qstate = 1 then evidence e.2 e.2.seen r.2 else (e.2, r.2)
      (Sparse.set (fun _ => {}) r.1 e.1 { p.1 with seen := false, passed := false, sig := 0 }, p.2)) (d.trn.tiles, {})
  ({ d with trn := { d.trn with tiles := r.1 } }).bump TRN_EVT1_coalesced r.2.coalesced

/-- Entry to LOUPE: every running tile takes the final action (R244). -/
def Device.tilesFinal (d : Device) : Device :=
  let running := d.trn.tiles.filter (fun e => e.2.qstate == 1)
  eachOf (running.map (fun e => e.1)) (fun t d =>
    (d.setTile t { d.tileX t with qstate := 0, act := .detect, pend := false, pendExp := false, pendSig := 0, record := false }).tileSettle t) d

/-! ## Queue records (R235) -/

/-- TRN_TQ_DATA word `i` of a tile. -/
def Device.tileWord (d : Device) (t i : Nat) : Nat :=
  let x := d.tileX t
  match i with
  | 0 => x.qstate + x.band * 4 + b2n x.cold * 32 + x.lband * 64 + b2n x.lcold * 512 + x.step % 64 * 1024 + x.hcnt % 8 * 65536 +
      b2n x.pend * 2 ^ 19 + b2n x.pendExp * 2 ^ 20 + x.lsteps % 64 * 2 ^ 22 + x.lhold % 8 * 2 ^ 28
  | 1 => codeOf 16 x.temp
  | 2 => x.runSig
  | 3 => x.pendSig
  | 4 => x.startFrame
  | _ => x.restarts + x.cuts * 65536

/-! ## Write checks (R241, R247) -/

/-- The TRN_BAND and TRN_FREEZE values meet R241, read through `rd`. -/
def trnLimits (rd : Nat → Nat) : Bool :=
  let edge (b : Nat) : Int := signedOf 16 (bitsOf (rd (TRN_BAND b)) 15 0)
  let steps (b : Nat) : Nat := bitsOf (rd (TRN_BAND b)) 22 16
  (List.range 8).all (fun b =>
    (b = 0 || (decide (-640 ≤ edge b) && decide (edge b ≤ 2000))) && (b < 2 || decide (edge (b - 1) + 48 ≤ edge b)) &&
    decide (1 ≤ steps b ∧ steps b ≤ 64) && decide (steps b * (bitsOf (rd (TRN_BAND b)) 26 24 + 1) ≤ 64)) &&
  decide (signedOf 16 (bitsOf (rd TRN_FREEZE) 15 0) ≤ edge 1 - 48) && decide (steps 0 * (bitsOf (rd TRN_FREEZE) 18 16 + 1) ≤ 64)

/-- A write breaks R241 with the values in force or with those awaiting their swap point. -/
def Device.trnBad (d : Device) (off v : Nat) : Bool :=
  !trnLimits (fun o => if o = off then v else d.rd o) || !trnLimits (fun o => if o = off then v else d.rdF o)

end Sys2Proof.Machine
end

