-- ==== Sys2Proof/Machine/Maps.lean ====
section
/-! DEFINITION. The maps in external flash: the defect map, and the operations that load, check and adopt a map (spec/09_compensation.md, R261 to R277). -/

namespace Sys2Proof.Machine

/-! ## The defect map (R262, R263) -/

/-- A little-endian field of `n` bytes. -/
def mapLe (b : Nat → Nat) (o n : Nat) : Nat := leNat ((List.range n).map (fun i => b (o + i)))

/-- A defect entry at byte `o`. -/
def defectAt (b : Nat → Nat) (o : Nat) : Defect :=
  { x := mapLe b o 2, comp := b (o + 2) % 4, kind := bitsOf (b (o + 2)) 3 2, weights := bitsOf (b (o + 2)) 5 4, level := mapLe b (o + 4) 4 }

/-- A line mask at byte `o`. -/
def maskAt (b : Nat → Nat) (o : Nat) : LineMask :=
  { row := b (o + 2) % 2 = 1, index := mapLe b o 2, comps := bitsOf (b (o + 2)) 7 4, action := bitsOf (b (o + 3)) 1 0,
    weights := bitsOf (b (o + 3)) 5 4 }

/-- First entry and count of a row. -/
def rowIndexAt (b : Nat → Nat) (r : Nat) : Nat × Nat := let w := mapLe b (0x40 + 4 * r) 4; (bitsOf w 16 0, bitsOf w 28 17)

/-- The offset of the first byte from `o`, among `n`, that is not 0. -/
def nonZero (b : Nat → Nat) (o n : Nat) : Option Nat := ((List.range n).find? (fun i => b (o + i) ≠ 0)).map (fun i => o + i)

/-- The first entry of a row that breaks R262 or R263; `prev` is the entry before it in the row. -/
def rowBad (b : Nat → Nat) (width o : Nat) (prev : Option Defect) : Nat → Option Nat
  | 0 => none
  | n + 1 =>
    let e := defectAt b o
    let after := match prev with
      | none => true
      | some p => decide (p.x < e.x) || (p.x = e.x && decide (p.comp < e.comp))
    let ok := after && decide (e.x < width) && (e.kind = 1 || e.kind = 2) && decide (e.level ≤ 262143) && (e.kind ≠ 1 || e.level = 0) &&
      bitsOf (b (o + 2)) 7 6 = 0 && b (o + 3) = 0
    if ok then rowBad b width (o + 8) (some e) n else some o

/-- The first row whose index, entries or share of a stripe is wrong; `next` is the entry that the row must begin with. -/
def rowsBad (b : Nat → Nat) (width height : Nat) (stripes : List (Nat × Nat)) (r next : Nat) : Nat → Option Nat
  | 0 => none
  | n + 1 =>
    let i := rowIndexAt b r
    let o := 0x40 + 4 * r
    if bitsOf (mapLe b o 4) 31 29 ≠ 0 ∨ (r < height ∧ i.1 ≠ next) ∨ (height ≤ r ∧ i.2 ≠ 0) then some o
    else match rowBad b width (0x6000 + 8 * i.1) none i.2 with
      | some x => some x
      | none =>
        let xs := (List.range i.2).map (fun k => (defectAt b (0x6000 + 8 * (i.1 + k))).x)
        if stripes.any (fun s => decide (64 < (xs.filter (fun x => decide (s.1 ≤ x ∧ x < s.1 + s.2))).length)) then some o
        else rowsBad b width height stripes (r + 1) (next + i.2) n

/-- The offset of the first item of a defect map that breaks R262 or R263. -/
def defectBad (b : Nat → Nat) (width height : Nat) (stripes : List (Nat × Nat)) : Option Nat :=
  let masks := mapLe b 0xA 2
  let entries := mapLe b 0xC 4
  let sum := ((List.range height).map (fun r => (rowIndexAt b r).2)).sum
  let maskBad (i : Nat) : Bool :=
    let m := maskAt b (0x4440 + 8 * i)
    decide (m.index ≥ (if m.row then height else width)) || m.comps = 0 || decide (1 < m.action) ||
      bitsOf (b (0x4440 + 8 * i + 2)) 3 1 ≠ 0 || bitsOf (b (0x4440 + 8 * i + 3)) 3 2 ≠ 0 || bitsOf (b (0x4440 + 8 * i + 3)) 7 6 ≠ 0 ||
      mapLe b (0x4440 + 8 * i + 4) 4 ≠ 0
  let head : List (Bool × Nat) :=
    [(mapLe b 0 4 ≠ 0x54434644, 0), (mapLe b 4 2 ≠ 1, 4), (mapLe b 6 2 ≠ width, 6), (mapLe b 8 2 ≠ height, 8), (512 < masks, 0xA),
     (65536 < entries ∨ sum ≠ entries, 0xC)]
  match head.find? (fun c => c.1) with
  | some c => some c.2
  | none => match nonZero b 0x10 48 with
    | some o => some o
    | none => match rowsBad b width height stripes 0 0 4352 with
      | some o => some o
      | none => match (List.range masks).find? maskBad with
        | some i => some (0x4440 + 8 * i)
        | none => match nonZero b (0x4440 + 8 * masks) (8 * (512 - masks) + 3008) with
          | some o => some o
          | none => nonZero b (0x6000 + 8 * entries) (8 * (65536 - entries) + 499712)

/-- The working copy of an accepted map. -/
def parseDefects (b : Nat → Nat) : DefectMap :=
  let rows := (List.range (mapLe b 8 2)).filterMap (fun r =>
    let i := rowIndexAt b r
    if i.2 = 0 then none else some (r, (List.range i.2).map (fun k => defectAt b (0x6000 + 8 * (i.1 + k)))))
  { rows := rows, masks := (List.range (mapLe b 0xA 2)).map (fun i => maskAt b (0x4440 + 8 * i)), entries := mapLe b 0xC 4 }

/-- The working copy takes a map (R275). -/
def Device.adoptDefects (d : Device) (p : DefectMap) : Device :=
  ({ d with cmp := { d.cmp with map := p, next := none } }).wr CMP_STAT (p.entries + p.masks.length * 2 ^ 18)

/-- At a swap point a waiting working copy takes the old one's place (R275). -/
def Device.defectsFrame (d : Device) : Device :=
  match d.cmp.next with
  | some p => d.adoptDefects p
  | none => d

/-! ## Map operations (R271-R275) -/

/-- The length of a map (R271). -/
def Device.mapLen (d : Device) (t : Nat) : Nat :=
  if t = 0 then d.hact * d.vact * 3 else if t = 1 then d.hact * d.vact * 4 else if t = 2 then 1048576 else 104544

/-- The region of a plane: compensation plane in force, or the integrator plane. -/
def Device.mapRegion (d : Device) (t : Nat) : Nat := if t = 0 then 3 + d.get MEM_FS_STAT_cmp else 5

/-- The bytes of a plane's active area, row by row (R376). -/
def Device.planeBytes (d : Device) (rgn size : Nat) : List Nat :=
  (List.range d.vact).flatMap (fun y => d.fsBytes (d.planeAddr rgn size 0 y) (size * d.hact))

/-- Write a plane's active area. -/
def Device.planeWrite (d : Device) (rgn size : Nat) (bs : List Nat) : Device :=
  eachOf (List.range d.vact) (fun y d =>
    d.fsWrite 12 (atAddr (d.planeAddr rgn size 0 y) ((bs.drop (y * size * d.hact)).take (size * d.hact)))) d

/-- The bytes of a map as they stand in place (op 2). -/
def Device.mapInPlace (d : Device) (t : Nat) : List Nat :=
  if t < 2 then d.planeBytes (d.mapRegion t) (3 + t) else d.fsBytes (d.rd CMP_MAP_ADDR) (d.mapLen t)

/-- A failing check of R274: its number, its code, and the offset of the failing item. -/
structure MapFail where
  check : Nat
  code : Nat
  off : Nat := 0
deriving DecidableEq, Repr

/-- Checks 1 to 3 of R274. -/
def Device.mapHead (d : Device) (t : Nat) : Except MapFail MapEntry :=
  match d.mapEntry t with
  | none => .error ⟨1, eState, 0⟩
  | some e =>
    if !e.valid then .error ⟨1, eState, 0⟩
    else if t < 3 ∧ (e.width ≠ d.hact ∨ e.height ≠ d.vact) then .error ⟨2, eRange, 0⟩
    else if e.length ≠ d.mapLen t then .error ⟨3, eRange, 0⟩
    else .ok e

/-- Checks 5 and 6 of R274 on the bytes of a map. -/
def Device.mapBody (d : Device) (t : Nat) (e : MapEntry) (bs : List Nat) : Except MapFail Unit :=
  if crc32 (bs ++ leBytes 4 e.version) ≠ e.crc then .error ⟨5, eRange, 0⟩
  else if t = 2 then
    match defectBad (fun i => bs.getD i 0) d.hact d.vact (d.act.stripes.map (fun s => (s.firstCol, s.width))) with
    | some o => .error ⟨6, eRange, o⟩
    | none => .ok ()
  else if t = 3 then
    match (List.range 26136).find? (fun i => decide (4095 < leNat ((bs.drop (4 * i + 2)).take 2))) with
    | some i => .error ⟨6, eRange, 4 * i⟩
    | none => .ok ()
  else .ok ()

/-- Knot copy 0 takes the bytes of a knot table (R271). -/
def Device.knotLoad (d : Device) (bs : List Nat) : Device :=
  let rest := d.trn.knots.filter (fun e => decide (26136 ≤ e.1))
  let new := (List.range 26136).filterMap (fun i => let v := leNat ((bs.drop (4 * i)).take 4); if v = 0 then none else some (i, v))
  { d with trn := { d.trn with knots := new ++ rest } }

/-- The bytes of a map reach its place. -/
def Device.mapPlace (d : Device) (t : Nat) (bs : List Nat) : Device :=
  if t < 2 then d.planeWrite (d.mapRegion t) (3 + t) bs
  else if t = 2 then
    let p := parseDefects (fun i => bs.getD i 0)
    if d.rasterStopped then d.adoptDefects p else { d with cmp := { d.cmp with next := some p } }
  else d.knotLoad bs

/-- A destination is left at its boot step 8 value (R275). -/
def Device.mapSpoil (d : Device) (t : Nat) : Device :=
  if t = 2 then d else
    let d := d.wr (CMP_MAP_VER t) 0
    if t = 3 then { d with trn := { d.trn with knots := d.trn.knots.filter (fun e => decide (26136 ≤ e.1)) } }
    else
      let n := (3 + t) * d.hact
      let r := d.mapRegion t
      eachOf (List.range d.vact) (fun y d =>
        let a := d.planeAddr r (3 + t) 0 y
        { d with mem := { d.mem with fs := d.mem.fs.dropWhere (fun x => decide (a ≤ x ∧ x < a + n)) } }) d

/-- A whole operation: `err` says the flash read met an error. The failing check, if any. -/
def Device.mapRun (d : Device) (op t : Nat) (err : Bool) : Device × Option MapFail :=
  match d.mapHead t with
  | .error f => (if op = 2 then d.wr (CMP_MAP_VER t) 0 else d, some f)
  | .ok e =>
    if op = 1 ∧ err then (d.mapSpoil t, some ⟨4, eState, 0⟩)
    else
      let bs := if op = 1 then d.flashBytes e.addr (d.mapLen t) else d.mapInPlace t
      let d := if op = 1 ∧ 2 ≤ t then d.fsWrite 12 (atAddr (d.rd CMP_MAP_ADDR) bs) else d
      match d.mapBody t e bs with
      | .error f => (if op = 1 then d.mapSpoil t else d.wr (CMP_MAP_VER t) 0, some f)
      | .ok _ => ((if op = 1 ∨ 2 ≤ t then d.mapPlace t bs else d).wr (CMP_MAP_VER t) e.version, none)

/-- A CMP_MAP_CMD write (R270, R273). -/
def Device.mapCmd (d : Device) (m v : Nat) : Device :=
  let op := v % 4
  let t := bitsOf v 9 8
  let shut := t = 3 && ((d.trnOn && d.getF TRN_CTRL_knot_sel = 0) || d.get TRN_CTRL_knot_sel ≠ d.getF TRN_CTRL_knot_sel)
  let scan := op = 2 && 2 ≤ t && d.meetsScan (d.rd CMP_MAP_ADDR) (d.mapLen t)
  let on := op ≠ 0
  d.guarded m CMP_MAP_CMD [(!among m mFabric, ePerm), (reservedBad CMP_MAP_CMD v || op = 3, eRange), (on && d.cmp.op.isSome, eBusy),
      (on && t < 2 && d.modeIn 0x1C, eState), (on && shut, eBusy), (scan, eBusy)] (fun d =>
    if op = 0 then d else
      let d : Device := { d with cmp := { d.cmp with op := some { master := m, op := op, type := t } } }
      let d := if t = 0 then d.put SRV_STAT_stage_valid 0 else d
      d.wr CMP_MAP_STAT (t * 2 ^ 24 + 1))

/-- MAP_LOAD: op 1. -/
def execMapLoad (m : Master) (t : Fin 4) (s : State) : Out := s.run (fun d => d.mapCmd m (1 + 256 * t))

/-- MAP_CHECK_ADOPT: op 2. -/
def execMapCheckAdopt (m : Master) (t : Fin 4) (s : State) : Out := s.run (fun d => d.mapCmd m (2 + 256 * t))

/-- MAP_OP_COMPLETE: the operation ends; `err`: its flash read met an xSPI error. -/
def execMapOpComplete (err : Bool) (s : State) : Out :=
  s.run (fun d =>
    match d.cmp.op with
    | none => d
    | some o =>
      let r := ({ d with cmp := { d.cmp with op := none } }).mapRun o.op o.type err
      let d := r.1
      match r.2 with
      | none => (d.wr CMP_MAP_STAT (o.type * 2 ^ 24 + 2)).wr CMP_MAP_FAIL 0
      | some f =>
        ((d.wr CMP_MAP_STAT (o.type * 2 ^ 24 + f.check * 65536 + f.code * 256 + 2)).wr CMP_MAP_FAIL f.off).reject o.master CMP_MAP_CMD f.code)

end Sys2Proof.Machine
end

