-- ==== Sys2Proof/Machine/Frame.lean ====
section
/-! DEFINITION. The driven frames of the frame store (R377), the line packets on the lanes (R315), and stripes as scan-out, the integrator and the survey see them. -/

namespace Sys2Proof.Machine

/-- The configuration of stripe `s` in the active set, its components at the packer, and the code width in force. -/
def Device.stripe (d : Device) (s : Nat) : StripeCfg := d.act.stripes.getD s {}
def Device.qOf (d : Device) (s : Nat) : Nat := (d.stripe s).q (d.getF FAB_SPR_CFG_mode)
def Device.codeW (d : Device) : Nat := d.getF FAB_CODE_width
def Device.stripeCount (d : Device) : Nat := d.act.stripes.length

/-- The address of row `y` of driven frame `k` (R377). -/
def Device.drivenRow (d : Device) (k y : Nat) : Nat :=
  let g := d.rd MEM_GLASS_ACT
  d.rgnBase k + y * pitch (glassW g) (glassFb g)

/-- The codes of stripe `s` in row `y` of driven frame `k`, in glass order (R377). -/
def Device.drivenCodes (d : Device) (k s y : Nat) : List Nat :=
  let w := d.codeW
  let q := d.qOf s
  let c := d.stripe s
  (List.range (q * c.width)).map (fun i => d.fsBits (d.drivenRow k y) ((q * c.firstCol + i) * w) w)

/-- The number of the driven frame that holds the codes shown now: the one that is not the write buffer. -/
def Device.shownFrame (d : Device) : Nat := 1 - d.get MEM_FS_STAT_wbuf

/-- Scan-out writes the codes of stripe `s` in row `y` into the write buffer (R377). -/
def Device.drivenWrite (d : Device) (s y : Nat) (codes : List Nat) : Device :=
  let w := d.codeW
  d.fsPutBits (d.drivenRow (d.get MEM_FS_STAT_wbuf) y) (d.qOf s * (d.stripe s).firstCol * w) w codes

/-- The codes in channel order on the lane (R207). -/
def Device.laneOrder (d : Device) (s : Nat) (codes : List Nat) : List Nat :=
  renumber (d.qOf s) (d.getF FAB_CODE_order = 1) (d.getF FAB_CODE_flip = 1) codes

/-- Values in channel order, put in glass order. -/
def Device.glassOrder (d : Device) (s : Nat) (vals : List Nat) : List Nat :=
  renumber (d.qOf s) (d.getF FAB_CODE_order = 1) false (if d.getF FAB_CODE_flip = 1 then vals.reverse else vals)

/-- A line packet leaves on a stripe's lane (R314, R315). -/
def Device.sendLine (d : Device) (s y : Nat) (hold zero : Bool) (codes : List Nat) : Device :=
  let n := d.stripeLane s
  if !d.laneRuns n then d else
  let p := linePacket s y hold zero d.codeW (d.laneOrder s codes)
  { d with ras := { d.ras with sent := Sparse.set (fun _ => []) d.ras.sent n p } }

end Sys2Proof.Machine
end

