-- ==== Sys2Proof/Machine/Survey.lean ====
section
/-! DEFINITION. The survey (spec/10_survey.md): the sweep and the LOUPE survey, sense operations, applies and ramps, saves and calibrations. -/

namespace Sys2Proof.Machine

/-- Masters 0, 2, 3 and 7 to 9 (R302). -/
abbrev mSurvey : Nat := 0x38D

/-! ## Sense operations (R283, R284) -/

/-- Line slots of one operation (R283). -/
def Device.lop (d : Device) : Nat :=
  let us := d.get SRV_SENSE_T_settle + d.get SRV_SENSE_T_conv
  let n := 100 * d.get TMG_HTOTAL_width
  if n = 0 then 0 else (us * d.getF TMG_PCLK_rate + n - 1) / n + 2

/-- The minimum blanking of the active set. -/
def Device.minBlank (d : Device) : Nat := d.get TMG_VTOTAL_lines - d.vact

/-- Sense levels of a survey: one with the threshold kind (R289). -/
def Device.levels (d : Device) : Nat := if d.get SRV_SENSE_kind = 1 then 1 else d.get SRV_SENSE_levels + 1

/-- Operations of a sweep (R289). -/
def Device.sweepOps (d : Device) : Nat := d.vact * d.levels

/-- SRV_STAT.sense: 2 while an operation is in progress, 3 while one waits to be repeated, 1 while one is due. -/
def Device.senseSync (d : Device) : Device :=
  d.put SRV_STAT_sense
    (if !d.srv.ops.isEmpty then 2
     else if d.srv.again.any (fun a => a.2.2) then 3
     else if d.get SRV_STAT_due ≠ 0 ∨ (d.get SRV_STAT_loupe = 1 ∧ d.srv.loupeNext < d.sweepOps * (d.get SRV_SENSE_repeat + 1)) then 1 else 0)

/-- The master of the planner: IK1, or the one that last set planner to 1 (R289). -/
def Device.plannerOf (d : Device) : Nat := if d.getF SRV_CTRL_planner = 0 then 3 else d.srv.planner

/-- A sweep or a LOUPE survey is complete: SRV_IRQ.sweep and doorbell 23. -/
def Device.sweepRing (d : Device) : Device := (d.put SRV_IRQ_sweep 1).ring d.plannerOf 23

/-! ## SRV_CTRL (R288, R302, R364) -/

/-- A write of SRV_CTRL. -/
def Device.srvCtrl (d : Device) (m v : Nat) : Device :=
  let on := v.testBit 0
  let t := d.get SRV_SCHED_timer
  let had := d.srv.timer.isSome
  let serves := d.imageServes 4 6 t
  let taken := on && !had && !serves && (d.owner 6 t).isSome
  d.guarded m SRV_CTRL [(!among m mSurvey || (v.testBit 8 && !among m 0x381), ePerm), (on && !d.senseRoles, eState),
      (reservedBad SRV_CTRL v || 1 < bitsOf v 5 4 || (on && decide (d.minBlank < 4 + d.get SRV_SCHED_per_blank * d.lop)), eRange),
      (taken, eConflict)] (fun d =>
    let d := if on && !had then
        let d : Device := { d with srv := { d.srv with timer := some (t, m) } }
        if serves then d else d.claim 4 6 t m
      else if !on && had then ({ d with srv := { d.srv with timer := none } }).unclaim 4 (fun c => c.cls == 6)
      else d
    let d : Device := if v.testBit 8 then { d with srv := { d.srv with planner := m } } else d
    d.wrFrame SRV_CTRL v)

/-- SENSING_ENABLE: a write of SRV_CTRL with en at 1. -/
def execSensingEnable (m : Master) (val : Nat) (s : State) : Out := s.run (fun d => d.srvCtrl m (onBit (val % 2 ^ 32) 0))

/-- In-service sensing runs (R290). -/
def Device.sensing (d : Device) : Bool := d.power.coreOn && d.modeIn 0xC && d.getF SRV_CTRL_en = 1

/-- SENSE_TIMER_EXPIRE: one more operation is due; with 4 due it is lost (R288). -/
def execSenseTimerExpire (s : State) : Out :=
  s.run (fun d =>
    if !d.sensing then d
    else if d.get SRV_STAT_due < 4 then (d.bump SRV_STAT_due).senseSync
    else d.bump SRV_EVT1_noroom)

/-- Start an operation on row `r` at level `l` (R283, R316): its level line goes to every stripe. -/
def Device.senseStart (d : Device) (r l : Nat) (again loupe : Bool) : Device :=
  let id := d.srv.opId
  let line := d.vact + 2 + d.srv.blank * d.lop
  let d : Device := { d with
    srv := { d.srv with ops := d.srv.ops ++ [{ id := id, row := r, level := l, again := again, loupe := loupe }],
                        opId := (id + 1) % 256, blank := d.srv.blank + 1 },
    ras := { d.ras with lin := linBlock line r 0 true (d.rd TMG_FRAME_CNT) false } }
  let d := d.broadcastCtl 0x03 [id, d.get SRV_SENSE_kind, d.get SRV_SENSE_T_settle, d.get SRV_SENSE_T_conv]
  let code := Nat.min (d.get (SRV_LVL_code l)) (2 ^ d.codeW - 1)
  if d.get SRV_SENSE_kind = 1 then d
  else eachOf (List.range d.stripeCount) (fun s d => d.sendLine s r false false (List.replicate (d.qOf s * (d.stripe s).width) code)) d

/-- No operation fits in this blanking any more: counted once per frame (R284). -/
def Device.senseNoRoom (d : Device) : Device :=
  if d.srv.noroom then d else
    (({ d with srv := { d.srv with noroom := true } }).bump SRV_EVT1_noroom).put SRV_IRQ_noroom 1

/-- SENSE_OP_START: the next operation of the blanking (R284, R285, R289, R291). -/
def execSenseOpStart (s : State) : Out :=
  s.run (fun d =>
    let blanking := !d.rasterStopped && !d.ras.active
    let fits := decide (2 + (d.srv.blank + 1) * d.lop + 2 ≤ d.minBlank)
    let n := d.levels
    if !d.power.coreOn || !blanking || n = 0 then d
    else if d.get SRV_STAT_loupe = 1 then
      let i := d.srv.loupeNext
      let k := i / (d.get SRV_SENSE_repeat + 1)
      if !fits || decide (d.sweepOps ≤ k) then d
      else
        let d : Device := { d with srv := { d.srv with loupeNext := i + 1 } }
        let d := d.put SRV_SWEEP_next ((i + 1) / (d.get SRV_SENSE_repeat + 1))
        (d.senseStart (k / n) (k % n) false true).senseSync
    else
      let i := d.get SRV_SWEEP_next
      let next : Option (Nat × Nat × Bool × Bool) := match d.srv.again with
        | a :: _ => some (a.1, a.2.1, a.2.2, true)
        | [] => if i < d.sweepOps then some (i / n, i % n, false, false) else none
      match next with
      | none => d
      | some (r, l, again, old) =>
        if !d.sensing || d.get SRV_STAT_due = 0 || decide (d.get SRV_SCHED_per_blank ≤ d.srv.blank) then d
        else if !fits then d.senseNoRoom
        else
          let d := d.put SRV_STAT_due (d.get SRV_STAT_due - 1)
          let d : Device := if old then { d with srv := { d.srv with again := d.srv.again.drop 1 } } else d.put SRV_SWEEP_next (i + 1)
          (d.senseStart r l again false).senseSync)

/-! ## Returned values (R285-R287, R327) -/

/-- SENSE_BURST: one chunk of a driver's values; a burst of another operation is not taken. -/
def execSenseBurst (b : Burst) (tie : Bool) (s : State) : Out :=
  s.run (fun d =>
    match d.burstIn b with
    | (d, none) => d
    | (d, some (st, p)) =>
      let d := d.burstHeard (d.act.lanes.getD st {}).lane tie
      let vals := (List.range 22).map (fun i => leNat ((p.drop (2 + 2 * i)).take 2))
      let take (o : SenseOp) : SenseOp :=
        if o.id = p.getD 0 0 then { o with got := Sparse.put o.got (st * 64 + p.getD 1 0) vals } else o
      { d with srv := { d.srv with ops := d.srv.ops.map take } })

/-- The values of stripe `s` in an operation, in channel order; none when the driver's values are missing. -/
def Device.senseVals (d : Device) (o : SenseOp) (s : Nat) : Option (List Nat) :=
  let n := d.channels s
  let k := (n + 21) / 22
  let have' : Bool := (List.range k).all (fun c => o.got.any (fun e => e.1 == s * 64 + c))
  if have' then some (((List.range k).flatMap (fun c => Sparse.get (fun _ => []) o.got (s * 64 + c))).take n) else none

/-- The values of an operation as the scratch holds them: every stripe in glass order, 0xFFFF where missing. -/
def Device.senseRow (d : Device) (o : SenseOp) : List (Nat × List Nat) :=
  (List.range d.stripeCount).map (fun s =>
    (s, match d.senseVals o s with
      | some v => d.glassOrder s v
      | none => List.replicate (d.channels s) 0xFFFF))

/-- Write a row of a scratch bank: its values and its entry in the row table (R287). -/
def Device.scratchWrite (d : Device) (o : SenseOp) (row : List (Nat × List Nat)) : Device :=
  let base := d.rd (SRV_SCRATCH_ADDR (d.get SRV_STAT_bank))
  let miss := ((row.flatMap (fun p => p.2)).filter (fun v => v == 0xFFFF)).length
  let d := d.fsWrite 12 (atAddr (base + 16 * (4352 * o.level + o.row))
    (leBytes 4 (d.get SRV_SWEEP_number) ++ leBytes 4 (d.rd KEEP_CLK) ++ leBytes 2 miss ++ [b2n o.again, 0, 0, 0, 0, 0]))
  eachOf row (fun p d =>
    let q := d.qOf p.1
    let at' := base + 278528 + 2 * ((o.level * d.vact + o.row) * q * d.hact + q * (d.stripe p.1).firstCol)
    d.fsWrite 12 (atAddr at' (p.2.flatMap (fun v => leBytes 2 v)))) d

/-- A sweep whose last operation has stored its values completes (R289). -/
def Device.sweepEnd (d : Device) : Device :=
  if d.get SRV_STAT_loupe = 1 || !d.srv.ops.isEmpty || !d.srv.again.isEmpty || d.sweepOps = 0 || decide (d.get SRV_SWEEP_next < d.sweepOps) then d
  else
    let d := (d.put SRV_SWEEP_number ((d.get SRV_SWEEP_number + 1) % 65536)).put SRV_SWEEP_next 0
    (d.put SRV_STAT_bank (1 - d.get SRV_STAT_bank)).sweepRing

/-- A LOUPE reading joins the sums of its row and level; the last one of a row and level stores the means (R291). Sums are kept by stripe and channel in glass order. -/
def Device.loupeTake (d : Device) (o : SenseOp) : Device :=
  let key (s i : Nat) : Nat := s * 4096 + i
  let reps := d.get SRV_SENSE_repeat + 1
  let rows := d.senseRow o
  let sums := rows.foldl (fun m p => ((List.range p.2.length).zip p.2).foldl (fun m e =>
    let t := Sparse.get (fun _ => (0, 0)) m (key p.1 e.1)
    if e.2 = 0xFFFF then m else Sparse.set (fun _ => (0, 0)) m (key p.1 e.1) (t.1 + e.2, t.2 + 1)) m) d.srv.sums
  let k := o.row * d.levels + o.level
  -- the last reading of the row and level: no other of it is awaited, and the survey has gone past it
  let last := decide ((k + 1) * reps ≤ d.srv.loupeNext) && !(d.srv.ops.any (fun x => decide (x.row = o.row ∧ x.level = o.level)))
  let d : Device := { d with srv := { d.srv with sums := sums } }
  if !last then d else
    let mean (t : Nat × Nat) : Nat := if t.2 = 0 then 0xFFFF else (t.1 + t.2 / 2) / t.2
    let out := rows.map (fun p => (p.1, (List.range p.2.length).map (fun i => mean (Sparse.get (fun _ => (0, 0)) sums (key p.1 i)))))
    let d := ({ d with srv := { d.srv with sums := [] } }).scratchWrite o out
    if k + 1 = d.sweepOps then d.sweepRing else d

/-- An operation's time is over: its values are taken, or it is repeated or recorded as missing (R285). -/
def Device.senseEnd (d : Device) (o : SenseOp) : Device :=
  let d : Device := { d with srv := { d.srv with ops := d.srv.ops.drop 1 } }
  let d := if d.get SRV_SENSE_kind = 1 then d else
    eachOf (List.range d.stripeCount) (fun s d => d.sendLine s o.row false false (d.drivenCodes d.shownFrame s o.row)) d
  let whole := (List.range d.stripeCount).all (fun s => (d.senseVals o s).isSome)
  let d := d.bump SRV_EVT0_done
  let d := if o.loupe then d.loupeTake o
    else if !whole && !o.again then
      ({ d with srv := { d.srv with again := d.srv.again ++ [(o.row, o.level, true)] } }).bump SRV_EVT0_repeats
    else
      let d := if whole then d else d.bump SRV_EVT0_missing
      (d.scratchWrite o (d.senseRow o)).sweepEnd
  d.senseSync

/-- SENSE_RETURN_DEADLINE: the return timeout of the oldest operation; `tie`: its last return completed in this cycle (R285, R286). -/
def execSenseReturnDeadline (tie : Bool) (s : State) : Out :=
  s.run (fun d =>
    match d.srv.ops with
    | [] => d
    | o :: _ =>
      let d := if tie then (d.put SRV_LATE_ret 1).put SRV_IRQ_late 1 else d
      d.senseEnd o)

/-! ## Applies and ramps (R292-R297) -/

/-- The length of an apply, or none where R293 rejects it. -/
def Device.applyLen (d : Device) : Option Nat :=
  let n := d.act.lanes.length
  let ramp := d.get SRV_RAMP_frames
  if n ≤ 48 then some (if d.getF SRV_CTRL_apply = 0 then 1 else ramp) else if ramp < 64 then none else some ramp

/-- In ramp frames the windows behind the compensation facet keep learning (R297). -/
def Device.rampLearn (d : Device) : Device :=
  eachOf (List.range 64) (fun w d =>
    let r := d.winRect w
    let tap := d.getF (CHK_CTRL_tap w)
    let meets := (List.range d.stripeCount).any (fun s =>
      let c := d.stripe s
      c.has 8 && decide (c.firstCol < r.x + r.w ∧ r.x < c.firstCol + c.width))
    if d.getF (CHK_CTRL_en w) = 1 && (tap = 1 || tap = 2) && meets then
      let d := d.put (CHK_CTRL_learn w) 1
      (d.wrF (CHK_CTRL w) (onBit (d.rdF (CHK_CTRL w)) 4)).setWin w { d.win w with learned := 0 }
    else d) d

/-- A processed frame in LIVE or GECKO begins: an accepted apply starts, a ramp goes on, its last frame exchanges the planes (R294, R295). -/
def Device.rampFrame (d : Device) : Device :=
  if !d.modeIn 0xC then d else
    let step (d : Device) (j n : Nat) : Device :=
      (if n ≤ j then d.planesExchange else (d.put SRV_STAT_ramp 1).put SRV_STAT_ramp_j j).rampLearn
    match d.srv.applyN with
    | some n => step { d with srv := { d.srv with applyN := none, rampN := n } } 1 n
    | none => if d.get SRV_STAT_ramp = 1 then step d (d.get SRV_STAT_ramp_j + 1) d.srv.rampN else d

/-! ## SRV_CMD (R303) -/

/-- The planner ends the LOUPE survey: the recorded mode is entered at the next vertical swap point (R291). -/
def Device.loupeEnd (d : Device) : Device :=
  if d.get SRV_STAT_loupe = 0 || d.trans.isSome then d else
    (({ d with trans := some { target := d.loupeFrom, cause := 9, master := 12 } }).put GLB_MODE_STAT_busy 1).put
      GLB_MODE_STAT_target d.loupeFrom

/-- SRV_CMD_STAT of a command that runs, and of one that has ended. -/
def Device.srvBusy (d : Device) (m op types : Nat) : Device :=
  ({ d with srv := { d.srv with cmd := some { op := op, master := m, types := types } } }).wr SRV_CMD_STAT (1 + op * 4)
def Device.srvDone (d : Device) (op err : Nat) : Device :=
  ({ d with srv := { d.srv with cmd := none } }).wr SRV_CMD_STAT (2 + op * 4 + err * 256)

/-- The checks of R303 in their order. -/
def Device.srvChecks (d : Device) (m v : Nat) : List (Bool × Nat) :=
  let op := bitsOf v 2 0
  let types := bitsOf v 9 8
  let planner : Nat := if d.getF SRV_CTRL_planner = 0 then 0xC else 0x381
  let slots := (List.range 2).all (fun t => !types.testBit t || (d.rd (SRV_SLOT t 0) ≠ 0 && d.rd (SRV_SLOT t 1) ≠ 0))
  let shut := [4, 6].any (fun p => match d.kRegion p with
    | some j => d.kWriteShut m j
    | none => false)
  let ramp := d.get SRV_STAT_ramp = 1 || d.srv.applyN.isSome
  let map (t : Nat) : Bool := d.cmp.op.any (fun o => o.type == t)
  [(!among m mSurvey || ((op = 1 || op = 2 || op = 6) && !among m planner), ePerm),
   (reservedBad SRV_CMD v || op = 7 || (op = 3 && types = 0), eRange),
   (((op = 1 || op = 2) && !d.modeIn 0x1E) || (op = 4 && !d.sensing) || (op = 6 && d.get SRV_STAT_loupe = 0) || (op = 3 && !slots), eState),
   (op = 3 && shut, eAuth),
   (op ≠ 0 && (d.srv.cmd.isSome || ((op = 1 || op = 2) && (ramp || map 0)) ||
     (op = 3 && ((types.testBit 0 && ramp) || (types.testBit 0 && map 0) || (types.testBit 1 && map 1)))), eBusy),
   (op = 2 && d.get SRV_STAT_stage_valid = 0, eSeq),
   (op = 2 && d.applyLen.isNone, eRange),
   (op = 4 && decide (4 ≤ d.get SRV_STAT_due), eFull)]

/-- Accept an apply: stage_valid is cleared; while the raster is stopped it is a step at once (R292, R295); in LOUPE it ends the survey. -/
def Device.srvApply (d : Device) : Device :=
  let n := d.applyLen.getD 1
  let d := d.put SRV_STAT_stage_valid 0
  let d := if d.rasterStopped then d.planesExchange else { d with srv := { d.srv with applyN := some n } }
  (d.loupeEnd).srvDone 2 0

/-- A write of SRV_CMD: the first failing check of R303 gives the code. -/
def Device.srvCmd (d : Device) (m v : Nat) : Device :=
  if !d.power.coreOn then d else
    match (d.srvChecks m v).find? (fun c => c.1) with
    | some c => d.reject m SRV_CMD c.2
    | none =>
      match bitsOf v 2 0 with
      | 1 => d.srvBusy m 1 0
      | 2 => d.srvApply
      | 3 => (d.srvBusy m 3 (bitsOf v 9 8)).put SRV_STAT_save 1
      | 4 => ((d.bump SRV_STAT_due).senseSync).srvDone 4 0
      | 5 => (d.sweepRestart.senseSync).srvDone 5 0
      | 6 => d.loupeEnd.srvDone 6 0
      | _ => d

/-- SURVEY_STAGE: op 1. -/
def execSurveyStage (m : Master) (s : State) : Out := s.run (fun d => d.srvCmd m 1)

/-- SURVEY_APPLY: op 2. -/
def execSurveyApply (m : Master) (s : State) : Out := s.run (fun d => d.srvCmd m 2)

/-- SURVEY_SAVE: op 3 for the types of a mask. -/
def execSurveySave (m : Master) (types : Fin 4) (s : State) : Out := s.run (fun d => d.srvCmd m (3 + 256 * types))

/-- SURVEY_SENSE_NOW: op 4. -/
def execSurveySenseNow (m : Master) (s : State) : Out := s.run (fun d => d.srvCmd m 4)

/-- SURVEY_RESTART_SWEEP: op 5. -/
def execSurveyRestartSweep (m : Master) (s : State) : Out := s.run (fun d => d.srvCmd m 5)

/-- SURVEY_END_LOUPE: op 6. -/
def execSurveyEndLoupe (m : Master) (s : State) : Out := s.run (fun d => d.srvCmd m 6)

/-- INTEGRATOR_SAVE_TIMER: SRV_SAVE_INT minutes of LIVE and GECKO have passed; IK1 saves type 1 (R298). -/
def execIntegratorSaveTimer (s : State) : Out :=
  s.run (fun d => if d.power.coreOn && d.modeIn 0xC && d.get SRV_SAVE_INT_minutes ≠ 0 then d.srvCmd 3 (3 + 256 * 2) else d)

/-! ## Staging and saving (R292, R298, R299, R583) -/

/-- The survey reads every word of a region: what their ECC shows (R384). -/
def Device.rgnReadCheck (d : Device) (i : Nat) : Device :=
  let b := d.rgnBase i
  let n := d.rd (MEM_RGN_SIZE i)
  eachOf ((d.mem.fsUe ++ d.mem.fsCe).filter (fun w => decide (b ≤ 8 * w ∧ 8 * w < b + n))) (fun w d => d.fsReadCheck (8 * w) 8 true) d

/-- The plane in force is copied into the staging plane (R292). -/
def Device.stageCopy (d : Device) : Device :=
  let from' := 3 + d.get MEM_FS_STAT_cmp
  let to' := 7 - from'
  let d := d.rgnReadCheck from'
  let b := d.rgnBase from'
  let n := d.rd (MEM_RGN_SIZE from')
  let t := d.rgnBase to'
  let src := d.mem.fs.filter (fun e => decide (b ≤ e.1 ∧ e.1 < b + n))
  let fs := d.mem.fs.dropWhere (fun a => decide (t ≤ a ∧ a < t + n))
  let fs := src.foldl (fun m e => Sparse.set (fsDef d.mem.lay) m (e.1 - b + t) e.2) fs
  let out (w : Nat) : Bool := !decide (t ≤ 8 * w ∧ 8 * w < t + n)
  ({ d with mem := { d.mem with fs := fs, fsUe := d.mem.fsUe.filter out, fsCe := d.mem.fsCe.filter out } }).put SRV_STAT_stage_valid 1

/-- The bytes of an index entry (R272). -/
def mapEntryBytes (e : MapEntry) : List Nat :=
  leBytes 4 e.addr ++ leBytes 4 e.length ++ leBytes 4 e.version ++ leBytes 4 e.crc ++ leBytes 2 e.width ++ leBytes 2 e.height ++
    leBytes 4 (b2n e.valid) ++ List.replicate 8 0

/-- SRV_CAL_* show the calibration record in force; without one they read 0 (R299). -/
def Device.calSync (d : Device) : Device :=
  let b := (d.recBody 3).getD (List.replicate 24 0)
  let w (i : Nat) : Nat := leNat ((b.drop i).take 4)
  ((((d.wr SRV_CAL_CNT_LO (w 0)).wr SRV_CAL_CNT_HI (w 4)).wr SRV_CAL_TIME (w 8)).wr SRV_CAL_VER (w 12)).wr SRV_CAL_FLAGS (w 16)

/-- Write the calibration record: the count plus 1, the Keep clock, the version (R298 step 6, R300). -/
def Device.calibrate (d : Device) (version : Nat) (late : Bool) : Device :=
  let b := (d.recBody 3).getD (List.replicate 24 0)
  let n := (leNat (b.take 8) + 1) % 2 ^ 64
  (d.recSave 3 (leBytes 8 n ++ leBytes 4 (d.rd KEEP_CLK) ++ leBytes 4 version ++ leBytes 4 (b2n late) ++ leBytes 4 0)).calSync

/-- Save map type `t` to the slot the index does not name: the flash bytes and the new index entry (R298 steps 1 and 2). -/
def Device.saveType (d : Device) (t : Nat) : Device × MapEntry :=
  let old := d.mapEntry t
  let valid := old.any (fun e => e.valid)
  let o := old.getD ⟨0, 0, 0, 0, 0, 0, false⟩
  let slot := if valid && d.rd (SRV_SLOT t 0) = o.addr then d.rd (SRV_SLOT t 1) else d.rd (SRV_SLOT t 0)
  let ver := if valid then (o.version + 1) % 2 ^ 32 else 1
  let d := d.rgnReadCheck (d.mapRegion t)
  let bs := d.planeBytes (d.mapRegion t) (3 + t)
  let d := (d.flashErase slot ((bs.length + 65535) / 65536 * 65536)).flashProgram slot bs
  (d, { addr := slot, length := bs.length, version := ver, crc := crc32 (bs ++ leBytes 4 ver), width := d.hact, height := d.vact, valid := true })

/-- The index record with some entries replaced (R298 step 4). -/
def Device.indexSave (d : Device) (es : List (Nat × MapEntry)) : Device :=
  let b := (d.recBody 2).getD ([1, 0] ++ List.replicate 142 0)
  d.recSave 2 (es.foldl (fun b e => b.take (16 + 32 * e.1) ++ mapEntryBytes e.2 ++ b.drop (48 + 32 * e.1)) b)

/-- A save ends: its index, versions and calibration (R298). -/
def Device.saveEnd (d : Device) (types : Nat) (err : Bool) : Device :=
  let r := [0, 1].foldl (fun (p : Device × List (Nat × MapEntry)) t =>
    if types.testBit t then let q := p.1.saveType t; (q.1, p.2 ++ [(t, q.2)]) else p) (d, [])
  let d := r.1
  if err then d
  else
    let d := d.indexSave r.2
    let d := eachOf r.2 (fun e d => d.wr (CMP_MAP_VER e.1) e.2.version) d
    if types.testBit 0 && d.srv.applied then
      ({ d with srv := { d.srv with applied := false } }).calibrate (d.rd (CMP_MAP_VER 0)) false
    else d

/-- SURVEY_CMD_COMPLETE: a stage or a save ends; `err`: an erase, a program or the read-back of the save failed (R298 step 3, R583). -/
def execSurveyCmdComplete (err : Bool) (s : State) : Out :=
  s.run (fun d =>
    if !d.power.coreOn then d else
    match d.srv.cmd with
    | none => d
    | some c =>
      if c.op = 1 then d.stageCopy.srvDone 1 0
      else if c.op = 3 then
        let d := ((d.saveEnd c.types err).put SRV_STAT_save 0).put SRV_IRQ_save 1
        d.srvDone 3 (if err then eState else 0)
      else d)

end Sys2Proof.Machine
end

