-- ==== Sys2Proof/Machine/Row.lean ====
section
/-! DEFINITION. One row of one stripe through its facets (spec/07_prism_fabric_pipeline.md, with the arithmetic of spec/06, 08 and 09): a function of the device that changes nothing; what it leaves is written by scan-out. -/

namespace Sys2Proof.Machine

/-! ## Lines of pixels (R209) -/

/-- A line of pixels: the column of the first one, and the pixels. -/
structure Line where
  lo : Nat
  pix : List Pix
deriving DecidableEq, Repr

/-- One past the last column. -/
def Line.hi (l : Line) : Nat := l.lo + l.pix.length

/-- The pixel at column `x`, columns outside `a` to `b - 1` taken at the nearest one. -/
def Line.near (l : Line) (a b : Nat) (x : Int) : Pix := l.pix.getD ((max (a : Int) (min ((b : Int) - 1) x)).toNat - l.lo) []

/-- The pixels of columns `a` to `b - 1`. -/
def Line.cut (l : Line) (a b : Nat) : Line := ⟨a, (l.pix.drop (a - l.lo)).take (b - a)⟩

/-- A line made column by column. -/
def Line.make (a b : Nat) (f : Nat → Pix) : Line := ⟨a, (List.range (b - a)).map (fun i => f (a + i))⟩

/-- Every pixel changed on its own. -/
def Line.each (l : Line) (f : Nat → Pix → Pix) : Line := ⟨l.lo, ((List.range l.pix.length).zip l.pix).map (fun p => f (l.lo + p.1) p.2)⟩

/-- Columns a slot of reach `k` reads (`a` to `b - 1`) and delivers (`c` to `e - 1`) (R209). -/
structure Span where
  a : Nat
  b : Nat
  c : Nat
  e : Nat
deriving DecidableEq, Repr

/-- The span of a slot on a line that reaches from `lo` to `hi - 1`, in a stripe of columns `olo` to `ohi - 1`. -/
def spanOf (k : Nat) (masked : Bool) (lo hi olo ohi : Nat) : Span :=
  if k = 0 then ⟨lo, hi, lo, hi⟩
  else if masked then ⟨lo, hi, Nat.min (lo + k) olo, Nat.max (hi - k) ohi⟩
  else ⟨olo, ohi, olo, ohi⟩

/-! ## What a row is made of -/

/-- What enters at the unpack facet's output or input. -/
inductive RowSrc where
  | input
  | fill
  | test
deriving DecidableEq, Repr

/-- The stripe and row that are processed. -/
structure RowEnv where
  s : Nat
  y : Nat
  /-- The first row of its half of the glass takes itself as the row above (R211). -/
  first : Bool
  src : RowSrc
  olo : Nat
  ohi : Nat
  mask : Nat
deriving DecidableEq, Repr

/-- What the slots have made of the row so far. -/
structure RowAcc where
  line : Line
  ctx : List (List (List Nat)) := []
  mtx : Nat := 0
  gam : Nat := 0
  tap0 : List Pix := []
  tap1 : Option (List Pix) := none
  /-- The inputs of the transition facet on the stripe's own columns, the bytes it writes there, and whether each pixel passed the threshold. -/
  shaped : Option (List (Pix × Nat × Bool)) := none
deriving DecidableEq, Repr

/-- Own columns of a line. -/
def RowEnv.own (e : RowEnv) (l : Line) : List Pix := (l.cut e.olo e.ohi).pix

/-! ## The input (R195-R197) -/

/-- The port and tile column that feed a column of the glass. -/
structure Feed where
  port : Nat
  col : Nat
  /-- Glass column of the tile's first column, and glass columns per tile column. -/
  x0 : Nat
  scale : Nat
deriving DecidableEq, Repr

def Device.feed (d : Device) (x y : Nat) : Option Feed :=
  if d.hact ≤ x then none else
    (d.portAt x y).map (fun p =>
      let t := d.portTile p
      let k := if d.layoutNow = 2 then 2 else 1
      ⟨p, (x - t.x) / k, t.x, k⟩)

/-- Bits per component of a port's samples. -/
def Device.compBits (d : Device) (p : Nat) : Nat := d.portBits p / (if d.get (DPRX_STREAM_colour p) = 2 then 2 else 3)

/-- The expanded components of a received sample of row `y` (R378, R195): the first component lies lowest. -/
def Device.sampleAt (d : Device) (f : Feed) (col y : Nat) : Pix :=
  let b := d.portBits f.port
  let n := d.compBits f.port
  let t := d.portTile f.port
  let v := d.fsBits (d.inRow (t.y + d.tileLine y)) ((t.x + col) * b) b
  (List.range (if n = 0 then 0 else b / n)).map (fun k => expand n (bitsOf v (n * k + n - 1) (n * k)))

/-- The Cb and Cr samples of an even tile column (R197). -/
def Device.chromaAt (d : Device) (f : Feed) (col y : Nat) : Nat × Nat := (comp (d.sampleAt f col y) 1, comp (d.sampleAt f (col + 1) y) 1)

/-- A pixel as received, its chroma brought to every column; columns outside `a` to `b - 1` are not there (R197, R209). -/
def Device.inputPix (d : Device) (f : Feed) (a b y : Nat) : Pix :=
  let s := d.sampleAt f f.col y
  if d.get (DPRX_STREAM_colour f.port) ≠ 2 then s
  else if f.col % 2 = 0 then let c := d.chromaAt f f.col y; [comp s 0, c.1, c.2]
  else
    let get (x : Int) : Option (Nat × Nat) :=
      if (a : Int) ≤ x ∧ x < b then (d.feed x.toNat y).map (fun g => d.chromaAt g (g.col / 2 * 2) y) else none
    let xl : Int := (f.x0 + (f.col - 1) * f.scale : Nat)
    let xr : Int := (f.x0 + (f.col + 1) * f.scale : Nat)
    match get xl, get xr with
    | some l, some r => [comp s 0, (l.1 + r.1 + 1) / 2, (l.2 + r.2 + 1) / 2]
    | some l, none => [comp s 0, l.1, l.2]
    | none, some r => [comp s 0, r.1, r.2]
    | none, none => let c := d.chromaAt f (f.col - 1) y; [comp s 0, c.1, c.2]

/-- The conversion of a port: 0 none, 2 BT.601, 3 BT.709, 4 BT.2020 (R196). -/
def Device.cscOf (d : Device) (p : Nat) : Nat :=
  let f := bitsOf (d.rdF FAB_UNPACK_CFG) (8 * p + 2) (8 * p)
  if f = 1 then 0
  else if f ≠ 0 then f
  else
    let c := d.get (DPRX_STREAM_colorimetry p)
    if c.testBit 7 then (if c % 128 = 0 then 2 else if c % 128 = 7 then 4 else 3) else if c.testBit 3 then 3 else 2

/-- The range of a port's samples is narrow (R196). -/
def Device.narrowOf (d : Device) (p : Nat) : Bool :=
  let r := bitsOf (d.rdF FAB_UNPACK_CFG) (8 * p + 5) (8 * p + 4)
  r = 2 || (r = 0 && (d.portX p).narrow)

/-- On the stored path a pixel with a bit in a word that fails its ECC check is 0 (R384). -/
def Device.inputBad (d : Device) (f : Feed) (y : Nat) : Bool :=
  let b := d.portBits f.port
  let t := d.portTile f.port
  let bit := (t.x + f.col) * b
  d.get TMG_STAT_path = 1 && !d.mem.fsUe.isEmpty && d.fsBad (d.inRow (t.y + d.tileLine y) + bit / 8) ((bit % 8 + b + 7) / 8)

/-- The unpack output of a received pixel. -/
def Device.unpackAt (d : Device) (n a b x y : Nat) : Pix :=
  match d.feed x y with
  | none => List.replicate n 0
  | some f =>
    if d.inputBad f y then List.replicate n 0
    else unpackPix (d.get (DPRX_STREAM_colour f.port) = 0) (d.cscOf f.port) (d.narrowOf f.port) n (d.inputPix f a b y)

/-- The reach of the unpack facet: 1 while some port of the layout carries YCbCr 4:2:2 (R192). -/
def Device.unpackReach (d : Device) (src : RowSrc) : Nat :=
  if src == .input && d.layoutPorts.any (fun p => d.get (DPRX_STREAM_colour p) = 2) then 1 else 0

/-! ## The test raster and the fill (R151, R156) -/

/-- Red, green and blue of the test pattern at a pixel of stripe `s`, in 12 bits. -/
def Device.patternAt (d : Device) (s x y : Nat) : Nat × Nat × Nat :=
  let lvl := d.getF TMG_TEST_level
  let all (v : Nat) : Nat × Nat × Nat := (v, v, v)
  match d.getF TMG_TEST_pattern with
  | 1 => all (4095 * x / (d.hact - 1))
  | 2 => all (4095 * y / (d.vact - 1))
  | 3 => all (if (x / 32 + y / 32) % 2 = 0 then lvl else 0)
  | 4 =>
    let i := 7 - Nat.min (8 * x / d.hact) 7
    -- bars from white to black: bit 1 red, bit 2 green, bit 0 blue of 7 minus the bar's number
    (i / 2 % 2 * lvl, i / 4 % 2 * lvl, i % 2 * lvl)
  | 5 => all (64 * (s % 64))
  | 6 => all (if x % 32 = 0 ∨ y % 32 = 0 then lvl else 0)
  | 7 => all (if y % 256 = 0 then lvl else 0)
  | _ => all lvl

/-- The raw test codes of a stripe's row: one code to every channel, left-aligned (R156). -/
def Device.rawCodes (d : Device) (s y : Nat) : List Nat :=
  let c := d.stripe s
  let w := d.codeW
  (List.range c.width).flatMap (fun i =>
    let v := d.patternAt s (c.firstCol + i) y
    (List.range (d.qOf s)).map (fun k =>
      let x := if k = 0 then v.1 else if k = 1 then v.2.1 else v.2.2
      if 12 ≤ w then x * 2 ^ (w - 12) else x / 2 ^ (12 - w)))

/-- The first column of stripe `s` with its halo, and one past the last (R208). -/
def Device.haloOf (d : Device) (s : Nat) : Nat × Nat :=
  let c := d.stripe s
  let w := d.act.wire s
  (if s = 0 then c.firstCol else c.firstCol - w.left,
   if s + 1 = d.stripeCount then c.firstCol + c.width else Nat.min d.hact (c.firstCol + c.width + w.right))

/-- The line at the unpack output, halo included. -/
def Device.rowStart (d : Device) (e : RowEnv) : Line :=
  let n := (d.stripe e.s).comp
  let lo := (d.haloOf e.s).1
  let hi := (d.haloOf e.s).2
  let sp := spanOf (d.unpackReach e.src) (e.mask.testBit 0) lo hi e.olo e.ohi
  Line.make sp.c sp.e (fun x =>
    match e.src with
    | .input => d.unpackAt n sp.a sp.b x e.y
    | .fill => injectPix n (d.getF TMG_FILL0_r) (d.getF TMG_FILL0_g) (d.getF TMG_FILL1_b)
    | .test => let v := d.patternAt e.s x e.y; injectPix n v.1 v.2.1 v.2.2)

/-! ## Concealment (R256-R261) -/

/-- What governs a defective component: the level it gives, and the weight set of its shares if it sends any. -/
def Device.defectOf (d : Device) (e : RowEnv) (x k : Nat) : Option (Nat × Option Nat) :=
  let row := if (d.stripeX e.s).rowLost then [] else Sparse.get (fun _ => []) d.cmp.map.rows e.y
  let listed := ((List.range row.length).zip row).find? (fun p => p.2.x == x && p.2.comp == k && !(d.stripeX e.s).lost.contains p.1)
  match listed with
  | some p => some (if p.2.kind = 2 then p.2.level else 0, some p.2.weights)
  | none =>
    if d.getF CMP_CTRL_line_en = 0 then none else
      (d.cmp.map.masks.find? (fun m => m.comps.testBit k && (if m.row then m.index == e.y else m.index == x))).map (fun m =>
        (0, if m.action = 1 then some m.weights else none))

/-- A share of a deficit. -/
def shareOf (v : Nat) (lvl w : Nat) : Int := (((v : Int) - lvl) * w + 128) / 256

/-- The share that component `k` of column `x` sends with the weight a field names. -/
def Device.shareFrom (d : Device) (e : RowEnv) (l : Line) (w : Nat → Fld) (x : Int) (k : Nat) : Int :=
  if x < l.lo ∨ (l.hi : Int) ≤ x then 0 else
    match d.defectOf e x.toNat k with
    | some (lvl, some j) => shareOf (comp (l.near l.lo l.hi x) k) lvl (d.getF (w j))
    | _ => 0

/-- The concealment facet: the delivered line and the vertical shares for the row below. -/
def Device.concealRow (d : Device) (e : RowEnv) (sp : Span) (above : List (List Nat)) (l : Line) : Line × List (List Nat) :=
  if d.getF CMP_CTRL_conceal_en = 0 then (l.cut sp.c sp.e, []) else
    let p : Int := d.getF CMP_CTRL_pitch
    let src := l.cut sp.a sp.b
    let down (x k : Nat) : Int :=
      if e.first then 0 else
        match (above.getD (x - l.lo) []).getD k 262144 with
        | v => (v : Int) - 262144
    (Line.make sp.c sp.e (fun x =>
      let q := l.near sp.a sp.b x
      (List.range q.length).map (fun k =>
        match d.defectOf e x k with
        | some (lvl, _) => lvl
        | none => clamp18 ((comp q k : Int) + d.shareFrom e src CMP_DEF_W_wl (x + p) k + d.shareFrom e src CMP_DEF_W_wr (x - p) k + down x k))),
     (List.range l.pix.length).map (fun i =>
       let q := l.pix.getD i []
       (List.range q.length).map (fun k => (262144 + d.shareFrom e l CMP_DEF_W_wd (l.lo + i) k).toNat)))

/-! ## Compensation (R249-R253, R294) -/

/-- A record of the plane in region `i` fails its ECC check. -/
def Device.recordBad (d : Device) (i x y : Nat) : Bool := !d.mem.fsUe.isEmpty && d.fsBad (d.planeAddr i 3 x y) 3

/-- The record in force at a pixel, formed from both planes in a ramp. -/
def Device.recordAt (d : Device) (x y : Nat) : Nat × Int :=
  let i := 3 + d.get MEM_FS_STAT_cmp
  let p := recOf (d.fsBytes (d.planeAddr i 3 x y) 3)
  if d.get SRV_STAT_ramp = 0 then (if d.recordBad i x y then (2048, 0) else p)
  else if d.recordBad i x y || d.recordBad (7 - i) x y then (2048, 0)
  else rampRec p (recOf (d.fsBytes (d.planeAddr (7 - i) 3 x y) 3)) (d.get SRV_STAT_ramp_j) d.srv.rampN

/-- Effective gain and offset of component `k` with a record. -/
def Device.gainOf (d : Device) (r : Nat × Int) (k : Nat) : Int := effGain r (d.getF (CMP_SCALE_a k))
def Device.offsetOf (d : Device) (r : Nat × Int) (k : Nat) : Int := effOffset r (d.getF (CMP_SCALE_b k)) (d.getF CMP_CTRL_oshift)

/-- The compensation facet at a pixel. -/
def Device.compPix (d : Device) (x y : Nat) (p : Pix) : Pix :=
  if d.getF CMP_CTRL_comp_en = 0 then p else
    let r := d.recordAt x y
    (List.range p.length).map (fun k => compOne (d.gainOf r k) (d.offsetOf r k) (comp p k))

/-! ## Transition shaping (R223-R228) -/

/-- The stripe that owns a column. -/
def Device.ownerOf (d : Device) (x : Nat) : Nat :=
  ((List.range d.stripeCount).find? (fun s => let c := d.stripe s; decide (c.firstCol ≤ x ∧ x < c.firstCol + c.width))).getD 0

/-- The codes of a pixel in the shown driven frame lie in a word that fails its ECC check. -/
def Device.oldBad (d : Device) (x y : Nat) : Bool :=
  let w := d.codeW
  let q := d.qOf (d.ownerOf x)
  let bit := q * x * w
  !d.mem.fsUe.isEmpty && d.fsBad (d.drivenRow d.shownFrame y + bit / 8) ((bit % 8 + q * w + 7) / 8)

/-- The driven code of component `k` at a pixel, in the driven frame shown now. -/
def Device.oldCode (d : Device) (x y k : Nat) : Nat :=
  let w := d.codeW
  let q := d.qOf (d.ownerOf x)
  d.fsBits (d.drivenRow d.shownFrame y) ((q * x + Nat.min k (q - 1)) * w) w

/-- The old value of component `k` (R224): mapped back through a compensation facet that follows. -/
def Device.oldValue (d : Device) (inv : Bool) (x y k : Nat) : Nat :=
  let v := d.oldCode x y k * 2 ^ (18 - d.codeW)
  if !inv || d.getF CMP_CTRL_comp_en = 0 then v else
    let r := d.recordAt x y
    compInv (d.gainOf r k) (d.offsetOf r k) v

/-- The transition state byte of a pixel as it stood before this frame. -/
def Device.stateByte (d : Device) (x y : Nat) : Nat :=
  let a := d.planeAddr 6 1 x y
  match d.trn.before.find? (fun e => e.1 == a) with
  | some e => e.2
  | none => d.fsRd a

/-- Shaping is suspended: a torn frame, or the frame after one (R102). -/
def Device.suspended (d : Device) : Bool := d.ras.torn ≠ 0

/-- The transition facet at a pixel: what it delivers, the byte it writes, whether the pixel passed the threshold. -/
def Device.shapeAt (d : Device) (e : RowEnv) (inv : Bool) (x : Nat) (p : Pix) : Pix × Nat × Bool :=
  let t := d.tileX (d.tileOf x e.y)
  let byte := d.stateByte x e.y
  let old := d.oldValue inv x e.y
  if d.suspended then ((List.range p.length).map old, byte, false)
  else if d.ras.first then (p, 0, false)
  else if !d.mem.fsUe.isEmpty && (d.oldBad x e.y || d.mem.fsUe.contains (d.planeAddr 6 1 x e.y / 8)) then (p, 0, false)
  else
    let running := t.act == .step || t.act == .restart
    let band := if running then t.lband else t.band
    let steps := if running then t.lsteps + 1 else (d.seqShape t.band t.cold).1 + 1
    let copy := d.getF TRN_CTRL_knot_sel
    let gd (k : Nat) : Int × Int :=
      if (d.stripeX e.s).knotBad.contains x then (0, 0)
      else gainDecay (fun o n => d.knot copy band (if k = 3 then 1 else k) o n) (old k) (comp p k)
    shapePix t.act (d.getF TRN_CTRL_thresh) steps byte gd old (comp p) p.length

/-! ## Dither (R264-R268) -/

/-- The threshold offset of component `k` at a pixel. -/
def Device.ditherAt (d : Device) (x y k : Nat) : Nat :=
  ditherD (d.getF CMP_DITH_thr) d.codeW (d.rdF CMP_DITH_PHASE) (d.rdF CMP_DITH_SEED)
    (d.rd TMG_FRAME_CNT % 2 ^ d.getF CMP_DITH_period) x y k

/-- The diffusion weights, offset -2 first. -/
def Device.diffWeights (d : Device) : List Nat :=
  [d.getF CMP_DITH_W0_wm2, d.getF CMP_DITH_W0_wm1, d.getF CMP_DITH_W0_w0, d.getF CMP_DITH_W0_wp1, d.getF CMP_DITH_W1_wp2]

/-- The dither facet: the delivered line, and the errors for the row below. -/
def Device.ditherRow (d : Device) (e : RowEnv) (sp : Span) (above : List (List Nat)) (l : Line) : Line × List (List Nat) :=
  let w := d.codeW
  let scale := 2 ^ (18 - w)
  if d.getF CMP_DITH_diff = 0 then
    ((l.cut sp.c sp.e).each (fun x p => (List.range p.length).map (fun k => ditherCode w (comp p k) 0 (d.ditherAt x e.y k) * scale)), [])
  else
    let errs := (l.each (fun x p => (List.range p.length).map (fun k => (262144 + ditherErr w (comp p k) (d.ditherAt x e.y k)).toNat))).pix
    let up : Line := ⟨l.lo, if e.first || above.length ≠ errs.length then errs else above⟩
    (Line.make sp.c sp.e (fun x =>
      let p := l.near sp.a sp.b x
      (List.range p.length).map (fun k =>
        -- the weight of offset j takes the error of column x - j
        let es := (List.range 5).map (fun (i : Nat) => ((comp (up.near sp.a sp.b ((x : Int) + 2 - (i : Int))) k : Nat) : Int) - 262144)
        ditherCode w (comp p k) (ditherCarry d.diffWeights es) (d.ditherAt x e.y k) * scale)), errs)

/-! ## The slots -/

/-- The reach of a slot (R192). -/
def Device.slotReach (d : Device) (kind : Nat) : Nat :=
  if kind = 6 then 1 else if kind = 7 then 2 else if kind = 10 ∧ d.getF CMP_DITH_diff = 1 then 2 else 0

/-- Slot `i` of kind `c.kind` acts on the row; `above` is its line of context. -/
def Device.slotRun (d : Device) (e : RowEnv) (i : Nat) (c : SlotCfg) (inv : Bool) (above : List (List Nat)) (a : RowAcc) : RowAcc :=
  let l := a.line
  let sp := spanOf (d.slotReach c.kind) (e.mask.testBit i) l.lo l.hi e.olo e.ohi
  let keep (a : RowAcc) (ctx : List (List Nat)) : RowAcc := { a with ctx := a.ctx ++ [ctx] }
  match c.kind with
  | 2 =>
    let l' := l.each (fun x p => d.composePix e.s x e.y p)
    keep { a with line := l', tap0 := e.own l' } []
  | 3 => keep { a with line := l.each (fun _ p => matrixPix (fun k => d.getF (FAB_MTX_coef a.mtx k)) p), mtx := a.mtx + 1 } []
  | 4 =>
    match d.act.lut c.lut with
    | some b => keep { a with line := l.each (fun x p => if (d.stripeX e.s).lutBad.contains (i, x) then p else lut1Pix b p) } []
    | none => keep a []
  | 5 =>
    match d.act.lut c.lut with
    | some b => keep { a with line := l.each (fun x p => if (d.stripeX e.s).lutBad.contains (i, x) then p else lut3Pix b p) } []
    | none => keep a []
  | 6 =>
    let mode := d.getF FAB_SPR_CFG_mode
    let up : Line := ⟨l.lo, if e.first || above.length ≠ l.pix.length then l.pix else above⟩
    let l' := if mode = 0 then l.cut sp.c sp.e
      else Line.make sp.c sp.e (fun x =>
        let at' (n : Line) (j : Nat) : Pix := n.near sp.a sp.b ((x : Int) + j - 1)
        sprPix mode (d.getF FAB_SPR_CFG_phase) x e.y (fun k => d.rdF (FAB_SPR_K k)) (at' up) (at' l))
    keep { a with line := l' } l.pix
  | 7 =>
    let r := d.concealRow e sp above l
    keep { a with line := r.1 } r.2
  | 8 =>
    let l' := l.each (fun x p => d.compPix x e.y p)
    keep { a with line := l', tap1 := some (e.own l') } []
  | 9 =>
    let r := (List.range l.pix.length).map (fun j => d.shapeAt e inv (l.lo + j) (l.pix.getD j []))
    let own {α : Type} (xs : List α) : List α := (xs.drop (e.olo - l.lo)).take (e.ohi - e.olo)
    keep { a with line := ⟨l.lo, r.map (fun x => x.1)⟩,
                  shaped := some ((own l.pix).zip ((own r).map (fun x => (x.2.1, x.2.2)))) } []
  | 10 =>
    let r := d.ditherRow e sp above l
    keep { a with line := r.1 } r.2
  | 11 => keep { a with line := l.each (fun _ p => gammaPix (d.getF (if a.gam = 0 then FAB_GAMMA_exp_0 else FAB_GAMMA_exp_1)) p), gam := a.gam + 1 } []
  | _ => keep a []

/-- The scan chain of a row: 1 for the lower half of a split scan. -/
def Device.chainOf (d : Device) (y : Nat) : Nat := if d.getF TMG_CTRL_split = 1 ∧ d.vact / 2 ≤ y then 1 else 0

/-- The row is the first of its half. -/
def Device.firstRow (d : Device) (y : Nat) : Bool := y = 0 || (d.getF TMG_CTRL_split = 1 && y = d.vact / 2)

/-- A row of a stripe through every slot; context `up` is the stripe's for the row's chain. -/
def Device.rowRun (d : Device) (s y : Nat) (src : RowSrc) (up : List (List (List Nat))) : RowAcc :=
  let c := d.stripe s
  let e : RowEnv := { s := s, y := y, first := d.firstRow y || up.isEmpty, src := src, olo := c.firstCol, ohi := c.firstCol + c.width,
                      mask := (d.act.wire s).mask }
  let l := d.rowStart e
  ((List.range c.slots.length).zip c.slots).foldl (fun a p =>
    let inv := p.2.kind = 9 && (c.slots.drop (p.1 + 1)).any (fun k => k.kind == 8)
    d.slotRun e p.1 p.2 inv (up.getD p.1 []) a) { line := l, tap0 := e.own l }

/-- The drive codes of a finished row, in glass order (R207). -/
def Device.rowCodes (d : Device) (s : Nat) (a : RowAcc) : List Nat :=
  let c := d.stripe s
  (a.line.cut c.firstCol (c.firstCol + c.width)).pix.flatMap (fun p => p.map (packOne (c.has 10) d.codeW))

end Sys2Proof.Machine
end

