-- ==== Sys2Proof/Machine/Scan.lean ====
section
/-! DEFINITION. Scan-out line by line (spec/05_timing_scanout_gecko.md, spec/07_prism_fabric_pipeline.md): the rows that the fabric processes, replayed and constant rows, deadlines and holds, glass lines. -/

namespace Sys2Proof.Machine

/-! ## What a position of the frame carries -/

/-- Stripe `s` is parked in this frame (R507). -/
def Device.parkedNow (d : Device) (s : Nat) : Bool := d.flt.park.any (fun e => e.1 == s && e.2 == 1)

/-- The source of stripe `s` in row `y` of a picture frame. -/
def Device.srcAt (d : Device) (s y : Nat) : PortSrc := d.ras.ports.getD ((d.stripePort s y).getD 4) .replay

/-- The columns of stripe `s`, widened by its taps, meet a dirty tile in row `y` (R158). -/
def Device.dirtyRow (d : Device) (s y : Nat) : Bool :=
  let h := d.haloOf s
  d.ras.nowAll || (List.range ((h.2 + 31) / 32 - h.1 / 32)).any (fun i => d.ras.now.contains (y / d.tileH * d.tileCols + h.1 / 32 + i))

/-- What the fabric processes at position `g` of the frame on stripe `s`; none where the row is not processed. -/
def Device.rowSrcAt (d : Device) (s g : Nat) : Option RowSrc :=
  let y := d.rowAt g
  if d.parkedNow s then none else
    match d.ras.kind with
    | .picture =>
      match d.srcAt s y with
      | .input => some .input
      | .cut n => if d.tileLine y < n then some .input else none
      | .fill => some .fill
      | .replay => none
    | .gecko => if d.dirtyRow s y then some .input else none
    | .test => if d.getF TMG_TEST_raw = 0 then some .test else none
    | _ => none

/-- Values pass the fabric's facets in this frame: a picture, a GECKO frame, a test raster at the unpack output. -/
def Device.processedFrame (d : Device) : Bool :=
  d.ras.active && (d.ras.kind == .picture || d.ras.kind == .gecko || (d.ras.kind == .test && d.getF TMG_TEST_raw = 0))

/-! ## Check windows collect (R164, R165) -/

/-- Enabled windows at tap `t` whose rectangle has row `y` and meets stripe `s`. -/
def Device.winsAt (d : Device) (t s y : Nat) : List Nat :=
  let c := d.stripe s
  (List.range 64).filter (fun w =>
    let r := d.winRect w
    d.getF (CHK_CTRL_en w) = 1 && d.getF (CHK_CTRL_tap w) = t &&
      decide (r.y ≤ y ∧ y < r.y + r.h ∧ r.x < c.firstCol + c.width ∧ c.firstCol < r.x + r.w))

/-- The rectangle of window `w` has column `x`. -/
def Device.winHas (d : Device) (w x : Nat) : Bool := let r := d.winRect w; decide (r.x ≤ x ∧ x < r.x + r.w)

/-- The bytes of a row's own pixels of stripe `s` at taps 0 and 1. -/
def Device.winPixels (d : Device) (w s : Nat) (pix : List Pix) : List Nat :=
  ((List.range pix.length).zip pix).flatMap (fun p => if d.winHas w ((d.stripe s).firstCol + p.1) then p.2.flatMap (leBytes 3) else [])

/-- The bytes of a row's codes of stripe `s` at tap 2, in channel order. -/
def Device.winCodes (d : Device) (w s : Nat) (codes : List Nat) : List Nat :=
  let q := Nat.max 1 (d.qOf s)
  (d.laneOrder s (List.range codes.length)).flatMap (fun i =>
    if d.winHas w ((d.stripe s).firstCol + i / q) then leBytes 2 (codes.getD i 0) else [])

/-- Window `w` takes the bytes of stripe `s` in row `y`. -/
def Device.winTake (d : Device) (w s y : Nat) (bs : List Nat) (replayed : Bool) : Device :=
  let x := d.win w
  d.setWin w { x with rows := Sparse.put x.rows (96 * y + s) bs, proc := x.proc || !replayed, replay := x.replay || replayed }

/-- A processed row passes taps 0 and 1. -/
def Device.tapsPass (d : Device) (s y : Nat) (a : RowAcc) : Device :=
  let d := eachOf (d.winsAt 0 s y) (fun w d => d.winTake w s y (d.winPixels w s a.tap0) false) d
  eachOf (d.winsAt 1 s y) (fun w d => d.winTake w s y (d.winPixels w s (a.tap1.getD [])) false) d

/-- A row leaves on the lane: windows at tap 2 take its codes, and a replayed row is noted at taps 0 and 1. -/
def Device.tapSent (d : Device) (s y : Nat) (codes : List Nat) (replayed : Bool) : Device :=
  let d := eachOf (d.winsAt 2 s y) (fun w d => d.winTake w s y (d.winCodes w s codes) replayed) d
  if !replayed then d else
    eachOf (d.winsAt 0 s y ++ d.winsAt 1 s y) (fun w d => d.setWin w { d.win w with replay := true }) d

/-! ## Rows leave on the lanes (R148, R153, R377) -/

/-- A row of stripe `s` leaves with codes in glass order; except in a whole replay it is written to the write buffer. -/
def Device.rowSent (d : Device) (s y : Nat) (hold zero replayed : Bool) (codes : List Nat) : Device :=
  let d := d.sendLine s y hold zero codes
  let d := if d.ras.kind == .replay then d else d.drivenWrite s y codes
  let x := d.stripeX s
  (d.setStripe s { x with out := x.out + 1 }).tapSent s y codes replayed

/-- The bytes of the shown driven frame that hold stripe `s` in row `y`: first address and count. -/
def Device.shownBytes (d : Device) (s y : Nat) : Nat × Nat :=
  let bit := d.qOf s * (d.stripe s).firstCol * d.codeW
  (d.drivenRow d.shownFrame y + bit / 8, (bit % 8 + d.channels s * d.codeW + 7) / 8)

/-- The codes of a replayed row: channels in a word that fails its ECC check are at code 0 (R148, R384). -/
def Device.replayCodes (d : Device) (s y : Nat) : List Nat :=
  let codes := d.drivenCodes d.shownFrame s y
  if d.mem.fsUe.isEmpty then codes else
    let w := d.codeW
    (List.range codes.length).map (fun i =>
      let bit := (d.qOf s * (d.stripe s).firstCol + i) * w
      if d.fsBad (d.drivenRow d.shownFrame y + bit / 8) ((bit % 8 + w + 7) / 8) then 0 else codes.getD i 0)

/-- A row that is not processed leaves: a constant, a raw test row, or the replay of the driven frame. -/
def Device.plainSend (d : Device) (s g : Nat) : Device :=
  let y := d.rowAt g
  let n := d.channels s
  let fixed (v : Nat) : Device := d.rowSent s y false (v = 0) false (List.replicate n v)
  let replay : Device :=
    if d.ras.blank then d.rowSent s y false true true (List.replicate n 0)
    else
      let b := d.shownBytes s y
      let d := if d.fsBad b.1 b.2 then d.spoil 2 else d
      (d.fsReadCheck b.1 b.2 false).rowSent s y false false true (d.replayCodes s y)
  match d.ras.kind with
  | .code0 => fixed 0
  | .loupe => d.rowSent s y false false false (List.replicate n (Nat.min (d.getF SRV_LOUPE_code) (2 ^ d.codeW - 1)))
  | .test => if d.getF TMG_TEST_raw = 1 then d.rowSent s y false false false (d.rawCodes s y) else replay
  | _ => replay

/-- Rows of stripe `s` that are not processed leave, up to position `g` and up to the next processed one. -/
def Device.plainUpTo (d : Device) (s g : Nat) : Nat → Device
  | 0 => d
  | f + 1 =>
    let x := d.stripeX s
    let o := x.out
    let waits := x.ready.any (fun l => l.pos == o) || (d.rowSrcAt s o).isSome
    if g < o ∨ d.vact ≤ o ∨ waits then d else (d.plainSend s o).plainUpTo s g f

/-- Every stripe's rows up to position `g` that need no packed line leave. -/
def Device.plainLines (d : Device) (g : Nat) : Device :=
  if !d.ras.active then d else eachOf (List.range d.stripeCount) (fun s d => d.plainUpTo s g (g + 1)) d

/-! ## Glass lines (R136, R311-R313, R359-R363) -/

/-- The region of a glass line: active, front porch, sync, back porch (R136, R311). -/
def Device.lineRegion (d : Device) (g : Nat) : Nat :=
  let b := g - d.vact
  if g < d.vact then 0 else if b < d.get TMG_VFP_lines then 1 else if b < d.get TMG_VFP_lines + d.get TMG_VSYNC_lines then 2 else 3

/-- The phase that serves glass line `g` (R360). -/
def Device.gatePhase (d : Device) (g : Nat) : Nat :=
  let n := Nat.max 1 (d.getF HVP_GATE_CFG_phases)
  if d.getF TMG_CTRL_split = 0 then g % n else let h := Nat.max 1 (n / 2); h * (g % 2) + g / 2 % h

/-- Rows whose sense latch is to be set in this frame (R363). -/
def Device.latchRows (d : Device) : List Nat :=
  let n := Nat.max 1 d.levels
  if d.get SRV_STAT_loupe = 1 then
    let k := if d.lop = 0 then 0 else (d.minBlank - 4) / d.lop
    (List.range k).map (fun i => (d.srv.loupeNext + i) / (d.get SRV_SENSE_repeat + 1) / n)
  else if d.sensing then
    ((d.srv.again.map (fun a => a.1)) ++ (List.range (d.get SRV_SCHED_per_blank)).map (fun i => (d.get SRV_SWEEP_next + i) / n)).take
      (d.get SRV_SCHED_per_blank)
  else []

/-- A gate output of a role at glass line `g`: 1 and 2 the start pulses of chains 0 and 1, 3 SSEL, 4 SEN. -/
def Device.gstOn (d : Device) (k g : Nat) : Bool :=
  let w := d.getF (HVP_GST_CFG_width k)
  match d.getF (HVP_GST_CFG_role k) with
  | 1 => decide (g < w)
  | 2 => decide (1 ≤ g ∧ g < 1 + w)
  | 3 => decide (g < d.vact) && d.latchRows.contains (d.rowAt g)
  | 4 => decide (d.vact ≤ g) && !d.srv.ops.isEmpty
  | _ => false

/-- The gate outputs of glass line `g`: pulses run while scan-out runs and the rails are up (R359-R363). -/
def Device.gateLine (d : Device) (g : Nat) : Device :=
  let run := d.get HVP_STAT_state = 3 && !d.rasterStopped
  let pre := d.getF HVP_GCK_TIM_pre
  let gck := (List.range (pre + 1)).foldl (fun m i => if g + i < d.vact ∧ g < d.vact then onBit m (d.gatePhase (g + i)) else m) 0
  let gst := (List.range 4).foldl (fun m k => if d.gstOn k g then onBit m k else m) 0
  ({ d with hv := { d.hv with gck := if run then gck else 0, gst := if run then gst else 0 } }).put HVP_STAT_gate (b2n run)

/-- GLASS_LINE_START: horizontal sync of the next glass line. -/
def execGlassLineStart (s : State) : Out :=
  s.run (fun d =>
    let d := if d.hv.dis == .opening then d.disOpen else d
    if !d.power.coreOn || d.rasterStopped then d else
      let g := d.ras.lines
      let d := (d.put TMG_POS_line (Nat.min g 65535)).put TMG_POS_vblank (b2n (decide (d.vact ≤ g)))
      let active := d.ras.active && decide (g < d.vact)
      let lin := linBlock g (if active then d.rowAt g else 0) (d.lineRegion g) active (d.rd TMG_FRAME_CNT) (g = 0)
      let d : Device := { d with ras := { d.ras with lines := g + 1, lin := lin } }
      let d := d.gateLine g
      let d : Device := if d.processedFrame && active then
          { d with lay := { d.lay with fetched := d.lay.fetched + d.fetchRow (d.rowAt g) } } else d
      -- the packet that follows this LIN carries the next line's codes (R315)
      d.plainLines (g + 1))

/-! ## Deadlines (R152, R153) -/

/-- Transition state bytes of a packed line that is sent on time (R228). -/
def Device.bytesWrite (d : Device) (s y : Nat) (bs : List Nat) : Device :=
  if bs.isEmpty then d else
    let a := d.planeAddr 6 1 (d.stripe s).firstCol y
    let before := (List.range bs.length).foldl (fun m i => if m.any (fun e => e.1 == a + i) then m else Sparse.put m (a + i) (d.fsRd (a + i)))
      d.trn.before
    ({ d with trn := { d.trn with before := before } }).fsWrite 11 (atAddr a bs)

/-- Stripe `s` holds the row at its deadline (R152, R153, R95). -/
def Device.holdRow (d : Device) (s y : Nat) : Device :=
  let zeros := List.replicate (d.channels s) 0
  let d := if d.ras.first then d.rowSent s y true true false zeros
    else
      let b := d.shownBytes s y
      let bad := d.fsBad b.1 b.2
      (d.fsReadCheck b.1 b.2 false).rowSent s y true bad false (if bad then zeros else d.drivenCodes d.shownFrame s y)
  d.holdLine s

/-- LINE_DEADLINE: the deadline of stripe `s` for its next row. -/
def execLineDeadline (t : Lane) (s : State) : Out :=
  s.run (fun d =>
    let x := d.stripeX t
    let o := x.out
    if !d.power.coreOn || d.rasterStopped || !d.ras.active || decide (d.stripeCount ≤ t) || decide (d.vact ≤ o) then d else
      let y := d.rowAt o
      match x.ready with
      | l :: rest =>
        if l.pos = o then
          ((d.setStripe t { x with ready := rest }).bytesWrite t y l.bytes).rowSent t y false false false l.codes
        else d.holdRow t y
      | [] => if (d.rowSrcAt t o).isSome then d.holdRow t y else d)

/-! ## Processed rows (R204, R217-R220) -/

/-- Frame-store reads of a processed row: byte ranges, and whether a failing word substitutes a driven value (R384). -/
def Device.rowReads (d : Device) (s y : Nat) (src : RowSrc) : List (Nat × Nat × Bool) :=
  let h := d.haloOf s
  let c := d.stripe s
  let n := h.2 - h.1
  let rec' (i : Nat) : Nat × Nat × Bool := (d.planeAddr i 3 h.1 y, 3 * n, true)
  let cmp := if c.has 8 && d.getF CMP_CTRL_comp_en = 1 then
      rec' (3 + d.get MEM_FS_STAT_cmp) :: (if d.get SRV_STAT_ramp = 1 then [rec' (4 - d.get MEM_FS_STAT_cmp)] else []) else []
  let trn := if c.has 9 then
      let b := d.shownBytes s y
      [(b.1, b.2, false), (d.planeAddr 6 1 h.1 y, n, false)] else []
  let inp := if src == .input && d.get TMG_STAT_path = 1 then
      (List.range n).filterMap (fun i => (d.feed (h.1 + i) y).map (fun f =>
        let b := d.portBits f.port
        let t := d.portTile f.port
        let bit := (t.x + f.col) * b
        (d.inRow (t.y + d.tileLine y) + bit / 8, (bit % 8 + b + 7) / 8, true))) else []
  let lay := if c.has 2 then
      (List.range 16).flatMap (fun i => (List.range n).filterMap (fun j =>
        if d.layShows s i (h.1 + j) y && d.layLost i (h.1 + j) y then
          let src := d.rdF (LAY_SRC i)
          let r := d.layRect i
          some (d.rgnBase 9 + d.get (LAY_BUF_INFO_base (bitsOf src 5 0)) * 65536 + (y - r.y) * (bitsOf src 29 20 * 64) +
            (h.1 + j - r.x) * 2 ^ bitsOf src 17 16 / 8, 1, true)
        else none)) else []
  cmp ++ trn ++ inp ++ lay

/-- What those reads show (R384), and the records taken as the unity record (R253). -/
def Device.rowEcc (d : Device) (s y : Nat) (src : RowSrc) : Device :=
  if d.mem.fsUe.isEmpty && d.mem.fsCe.isEmpty then d else
    let c := d.stripe s
    let unity := if c.has 8 && d.getF CMP_CTRL_comp_en = 1 then
        ((List.range c.width).filter (fun i => d.recordBad (3 + d.get MEM_FS_STAT_cmp) (c.firstCol + i) y ||
          (d.get SRV_STAT_ramp = 1 && d.recordBad (4 - d.get MEM_FS_STAT_cmp) (c.firstCol + i) y))).length else 0
    let d := if unity = 0 then d else d.bump CMP_EVT_rec unity
    eachOf (d.rowReads s y src) (fun r d =>
      (if r.2.2 && d.fsBad r.1 r.2.1 then d.spoil 2 else d).fsReadCheck r.1 r.2.1 false) d

/-- A row's own pixels at the transition facet give its tiles their evidence (R233). -/
def Device.tileEvidence (d : Device) (s y : Nat) (px : List (Pix × Nat × Bool)) : Device :=
  let x0 := (d.stripe s).firstCol
  ((List.range px.length).zip px).foldl (fun d e =>
    let x := x0 + e.1
    let t := d.tileOf x y
    let q := d.tileX t
    let sum := ((List.range e.2.1.length).map (fun k => (comp e.2.1 k + 1) * (2 * (4 * (x + 8192 * y) + k) + 1))).sum
    d.setTile t { q with sig := (q.sig + sum) % 2 ^ 32, seen := true, passed := q.passed || e.2.2.2 }) d

/-- The lines of context for row `y` (R211, R212): in GECKO a run's first row is preceded by a context row. -/
def Device.ctxFor (d : Device) (s y : Nat) (src : RowSrc) : List (List (List Nat)) :=
  if d.firstRow y then [] else
    let held := (d.stripeX s).ctx.find? (fun e => e.1 == d.chainOf y)
    match held with
    | some e => if e.2.1 + 1 = y ∨ d.ras.kind ≠ .gecko then e.2.2 else (d.rowRun s (y - 1) src []).ctx
    | none => if d.ras.kind = .gecko then (d.rowRun s (y - 1) src []).ctx else []

/-- The row at position `g` of stripe `s` is processed and its packed line completes. -/
def Device.rowDone (d : Device) (s g : Nat) (src : RowSrc) : Device :=
  let y := d.rowAt g
  let a := d.rowRun s y src (d.ctxFor s y src)
  let codes := d.rowCodes s a
  let d := (d.rowEcc s y src).tapsPass s y a
  let px := a.shaped.getD []
  let d := d.tileEvidence s y px
  let x := d.stripeX s
  let line : PackedLine := { pos := g, codes := codes, bytes := px.map (fun p => p.2.1) }
  let d := d.setStripe s { x with next := g + 1, ctx := Sparse.put x.ctx (d.chainOf y) (y, a.ctx), rowLost := false, lost := [], knotBad := [],
                                  lutBad := [], ready := if g < x.out then x.ready else x.ready ++ [line] }
  if d.ras.rowsDone.contains y then d else { d with ras := { d.ras with rowsDone := d.ras.rowsDone ++ [y] } }

/-- The next position of stripe `s` that the fabric processes, from `g` on. -/
def Device.nextProcessed (d : Device) (s g : Nat) : Nat → Nat
  | 0 => g
  | f + 1 => if g < d.vact ∧ (d.rowSrcAt s g).isNone then d.nextProcessed s (g + 1) f else g

/-- The input of row `y` has been received, as far as the through path needs it. -/
def Device.inputReady (d : Device) (s y : Nat) (src : RowSrc) : Bool :=
  src != .input || d.get TMG_STAT_path = 1 ||
    (match d.stripePort s y with
      | some p => decide (d.tileLine y < (d.portX p).lines)
      | none => true)

/-- PACKED_LINE_COMPLETE: the packer of stripe `t` completes the packed line of its next row, `lag` FCLK cycles late; `tie`: in the cycle of its deadline. With both halves of the transmit buffer full it stalls (R218, R219). -/
def execPackedLineComplete (t : Lane) (lag : Nat) (tie : Bool) (s : State) : Out :=
  s.run (fun d =>
    if !d.power.coreOn || d.rasterStopped || !d.ras.active || decide (d.stripeCount ≤ t) then d else
      let x := d.stripeX t
      let g := d.nextProcessed t x.next (d.vact - x.next)
      match d.rowSrcAt t g with
      | none => d.setStripe t { x with next := g }
      | some src =>
        if d.vact ≤ g || Sparse.get (fun _ => 0) x.owed 13 = 16 || !d.inputReady t (d.rowAt g) src then d
        else if x.ready.length = 2 then
          d.setStripe t { x with next := g, owed := (List.range 14).map (fun j => (j, 16)) }
        else
          let d := if tie ∧ g = x.out then d.put FAB_LATE_deadline 1 else d
          let d := d.put (FAB_STRIPE_EVT_lag t) (Nat.max (d.get (FAB_STRIPE_EVT_lag t)) (Nat.min lag 65535))
          d.rowDone t g src)

/-- CREDIT_RETURN: a credit of joint `j` of stripe `t` arrives at its sender (R218). -/
def execCreditReturn (t : Lane) (j : Fin 14) (s : State) : Out :=
  s.run (fun d =>
    let x := d.stripeX t
    let n := Sparse.get (fun _ => 0) x.owed j
    if n = 0 then d else d.setStripe t { x with owed := Sparse.set (fun _ => 0) x.owed j (n - 1) })

/-- What facet data brought with it (R204): frame-store words and what their ECC showed; the row's index entry lost; entries lost; columns whose knot read failed; slots and columns whose LUT read failed; the Pond words behind these, by window offset. -/
def Device.dataFound (d : Device) (t : Nat) (f : FacetFound) : Device :=
  let x := d.stripeX t
  let d := d.fsFound f.words
  let d := d.setStripe t { x with rowLost := x.rowLost || f.rowLost, lost := x.lost ++ f.lost, knotBad := x.knotBad ++ f.knots,
                                  lutBad := x.lutBad ++ f.luts }
  let d := d.bump CMP_EVT_def (f.lost.length + b2n f.rowLost)
  let d := eachOf f.pond (fun a d => d.pondEcc a .uncorr f.knots.isEmpty) d
  if f.knots.isEmpty then d else d.raiseCode 0x41 0

/-- FACET_DATA_ARRIVE: data that a facet of stripe `t` waits for arrives. -/
def execFacetDataArrive (t : Lane) (f : FacetFound) (s : State) : Out :=
  s.run (fun d => if !d.power.coreOn || !d.ras.active || decide (d.stripeCount ≤ t) then d else d.dataFound t f)

end Sys2Proof.Machine
end

