-- ==== Sys2Proof/Machine/Raster.lean ====
section
/-! DEFINITION. Frames (spec/05_timing_scanout_gecko.md): frame starts, the vertical swap point and what it does, the stress integrator, check windows, scan-out run control, and the run-time claim of pool units (R215). -/

namespace Sys2Proof.Machine

/-! ## The stress integrator (R278-R282) -/

/-- The knots of SRV_STRESS. -/
def stressReg (off : Nat) : Bool := decide (SRV_STRESS 0 0 ≤ off ∧ off < SRV_STRESS 3 0 + 4)

/-- The word of a pixel after the frame: fields of components below `n` grow (R279). -/
def Device.stressWord (d : Device) (x y n word : Nat) : Nat :=
  let tb := (d.tileX (d.tileOf x y)).factor
  let v := Nat.max 1 (d.get TMG_VTOTAL_lines)
  let w := d.codeW
  let frame := (d.rd TMG_FRAME_CNT + 2 ^ 32 - 1) % 2 ^ 32
  (List.range n).foldl (fun word k =>
    let ws := stressWeight (fun i => d.getF (SRV_STRESS_weight k i)) w (d.oldCode x y k)
    let wf := Nat.min 65535 (ws * tb * d.ras.lines / (256 * v))
    setBits word (10 * k + 9) (10 * k) (stressField (bitsOf word (10 * k + 9) (10 * k)) wf x y k frame)) word

/-- The integrator takes a pixel of stripe `s`: a word that fails its ECC check is counted and not written back (R282). -/
def Device.stressPixel (d : Device) (s x y : Nat) : Device :=
  let a := d.planeAddr 5 4 x y
  let n := Nat.min 3 (d.qOf s)
  if d.mem.fsUe.contains (a / 8) then
    if d.srv.eccSeen.contains a then d else
      (({ d with srv := { d.srv with eccSeen := d.srv.eccSeen ++ [a] } }).bump SRV_EVT1_ecc).fsReadCheck a 4 false
  else
    let d := if d.mem.fsCe.isEmpty then d else d.fsReadCheck a 4 false
    let old := leNat (d.fsBytes a 4)
    let new := d.stressWord x y n old
    if new = old then d else d.fsWrite 11 (atAddr a (leBytes 4 new))

/-- The frame that has been scanned out enters the integrator; the knots written during it act from the next one (R279, R281). -/
def Device.stressFrame (d : Device) : Device :=
  let on := d.trn.tiles.any (fun e => e.2.factor ≠ 0) && d.ras.lines ≠ 0
  let d := if !on then d else
    eachOf (List.range d.stripeCount) (fun s d =>
      let c := d.stripe s
      eachOf (List.range d.vact) (fun y d => eachOf (List.range c.width) (fun i d => d.stressPixel s (c.firstCol + i) y) d) d) d
  { d with force := Sparse.overlay resetOf stressReg d.force d.regs }

/-- The factors Tb of the frame that ends (R279). -/
def Device.stressFactors (d : Device) : Device :=
  if d.getF SRV_CTRL_int_en = 0 then
    (if d.trn.tiles.any (fun e => e.2.factor ≠ 0) then
      { d with trn := { d.trn with tiles := d.trn.tiles.foldl (fun m e => Sparse.set (fun _ => {}) m e.1 { e.2 with factor := 0 }) d.trn.tiles } }
     else d)
  else eachOf (List.range d.tileCount) (fun t d =>
    let x := d.tileX t
    d.setTile t { x with factor := d.getF (SRV_TFAC_factor (if x.cold then 0 else x.band)) }) d

/-! ## Check windows (R165-R167) -/

/-- The rectangle lies in the active geometry, and every stripe it meets has the tap's facet. -/
def Device.winFits (d : Device) (w : Nat) : Bool :=
  let r := d.winRect w
  r.w ≠ 0 && r.h ≠ 0 && decide (r.x + r.w ≤ d.hact) && decide (r.y + r.h ≤ d.vact) &&
  (d.getF (CHK_CTRL_tap w) ≠ 1 || (List.range d.stripeCount).all (fun s =>
    let c := d.stripe s
    decide (r.x + r.w ≤ c.firstCol ∨ c.firstCol + c.width ≤ r.x) || c.has 8))

/-- The tap and rectangle of window `w`. -/
def Device.winKey (d : Device) (w : Nat) : Nat × Nat × Nat :=
  (d.getF (CHK_CTRL_tap w), d.rdF (CHK_RECT_X w), d.rdF (CHK_RECT_Y w))

/-- Window `w` would be active in the frame that ends, learning apart (R165). -/
def Device.winActive (d : Device) (noIn : Bool) (w : Nat) : Bool :=
  let x := d.win w
  d.getF (CHK_CTRL_en w) = 1 && !x.skip && !noIn && d.ras.torn = 0 && d.winFits w &&
  (if d.getF (CHK_CTRL_tap w) < 2 then d.processedFrame && x.proc && !x.replay
   else !x.replay || (!x.proc && x.key == some (d.winKey w)))

/-- The number of expected values of window `w`. -/
def Device.winPeriod (d : Device) (w : Nat) : Nat := 2 ^ d.getF (CHK_CTRL_period w)

/-- The window's outcome in the frame that ends, if it is active or learns. -/
def Device.winDue (d : Device) (noIn : Bool) (w : Nat) : Option DueWin :=
  if !d.winActive noIn w then none else
    let x := d.win w
    let learn := if d.getF (CHK_CTRL_learn w) = 0 then 0 else if d.winPeriod w ≤ x.learned + 1 then 2 else 1
    some { w := w, crc := crc32 (x.rows.flatMap (fun e => e.2)), own := !x.proc && x.replay, learn := learn }

/-- The value a window is compared with. -/
def Device.winWant (d : Device) (frame : Nat) (e : DueWin) : Nat :=
  if e.own then d.rd (CHK_CRC e.w) else d.rdF (CHK_EXP e.w (frame % d.winPeriod e.w))

/-- The windows' part of a vertical swap point: the outcomes of the frame that ends, and the state for the next one. -/
def Device.chkFrame (d : Device) (noIn : Bool) : Device :=
  let frame := d.rd TMG_FRAME_CNT
  let dues := (List.range 64).filterMap (d.winDue noIn)
  let d := if dues.any (fun e => e.learn = 0 && e.crc ≠ d.winWant frame e) then d.spoil 1 else d
  let next (w : Nat) (x : WinX) : WinX :=
    match dues.find? (fun e => e.w == w) with
    | some e => { x with rows := [], proc := false, replay := false, skip := false, key := some (d.winKey w),
                         learned := if e.learn = 1 then x.learned + 1 else 0 }
    | none => { x with rows := [], proc := false, replay := false, skip := false, key := none, learned := 0 }
  let wins := (List.range 64).foldl (fun m w => Sparse.set (fun _ => {}) m w (next w (Sparse.get (fun _ => {}) m w))) d.ras.wins
  { d with ras := { d.ras with wins := wins, due := some { frame := frame, wins := dues } } }

/-- One window's result is recorded (R166, R167). -/
def Device.winRecord (d : Device) (frame : Nat) (e : DueWin) : Device :=
  let want := d.winWant frame e
  let d := d.wr (CHK_CRC e.w) e.crc
  if e.learn ≠ 0 then
    let o := CHK_EXP e.w (frame % d.winPeriod e.w)
    let d := (d.wr o e.crc).wrF o e.crc
    if e.learn = 1 then d
    else ((d.put (CHK_CTRL_learn e.w) 0).wrF (CHK_CTRL e.w) (offBit (d.rdF (CHK_CTRL e.w)) 4)).put CHK_IRQ_learned 1
  else
    let d := d.bump (CHK_MISS_comparisons e.w)
    if e.crc = want then d else d.bump (CHK_MISS_mismatches e.w)

/-- A fault 0x68 is open, alone or combined. -/
def Device.chkOpen (d : Device) : Bool :=
  (match d.flt.opened with
    | some r => (r.flt :: r.others).any (fun f => f.code == 0x68)
    | none => false) || d.flt.queued.any (fun f => f.code == 0x68)

/-- The results of the frame that ended last are recorded (R167). -/
def Device.chkRecord (d : Device) : Device :=
  match d.ras.due with
  | none => d
  | some f =>
    let miss := f.wins.filter (fun e => e.learn = 0 && e.crc ≠ d.winWant f.frame e)
    let bits (p : Nat → Bool) (lo : Nat) : Nat := ((List.range 32).map (fun i => if p (lo + i) then 2 ^ i else 0)).sum
    let failed (w : Nat) : Bool := miss.any (fun e => e.w == w)
    let idle (w : Nat) : Bool := !f.wins.any (fun e => e.w == w && e.learn == 0)
    let raises := miss.any (fun e => d.getF (CHK_CTRL_fault e.w) = 1)
    let d := eachOf f.wins (fun e d => d.winRecord f.frame e) d
    let d := ((d.wr CHK_FAIL_LO (bits failed 0)).wr CHK_FAIL_HI (bits failed 32)).wr CHK_SKIP_LO (bits idle 0)
    let d := d.wr CHK_SKIP_HI (bits idle 32)
    let d : Device := { d with ras := { d.ras with due := none }, flt := { d.flt with chkGood := !raises } }
    if miss.isEmpty then d else
      let d := (d.bump CHK_BAD_FRAMES_val).put CHK_IRQ_mismatch 1
      if raises && !d.chkOpen then d.raiseCode 0x68 0 else d

/-- CHK_WINDOW_RESULT. -/
def execChkWindowResult (s : State) : Out := s.run (fun d => d.chkRecord)

/-- A CHK_CTRL write (R162, R163). -/
def Device.chkCtrl (d : Device) (m w v : Nat) : Device :=
  let rx := d.rd (CHK_RECT_X w)
  let meets := (List.range d.stripeCount).any (fun s =>
    let c := d.stripe s
    decide (bitsOf rx 13 0 < c.firstCol + c.width ∧ c.firstCol < bitsOf rx 13 0 + bitsOf rx 29 16) && !c.has 8)
  d.guarded m (CHK_CTRL w) ([(!among m mSide, ePerm), (v.testBit 0 && bitsOf v 9 8 = 1 && meets, eState),
      (bitsOf v 13 12 = 3 || bitsOf v 9 8 = 3, eRange)] ++ d.formChecks (CHK_CTRL w) v) (fun d =>
    let d := if v.testBit 4 then d.setWin w { d.win w with learned := 0 } else d
    d.wrFrame (CHK_CTRL w) v)

/-- A CHK_RECT_X or CHK_RECT_Y write (R162). -/
def Device.chkRect (d : Device) (m off v : Nat) (limit : Nat) : Device :=
  let n := bitsOf v 29 16
  d.guarded m off ([(!among m mSide, ePerm), (n = 0 || decide (limit < bitsOf v 13 0 + n), eRange)] ++ d.formChecks off v) (fun d =>
    d.wrFrame off v)

/-- CHK_LEARN: a CHK_CTRL write with learn at 1. -/
def execChkLearn (m : Master) (w : Fin 64) (val : Nat) (s : State) : Out :=
  s.run (fun d => d.chkCtrl m w (onBit (val % 2 ^ 32) 4))

/-! ## Availability (R115, R519, R520) -/

/-- The conditions of R519 broken in the frame period that ends, bits 0 to 3. -/
def Device.avBroken (d : Device) : Nat :=
  let sub := !d.flt.parked.isEmpty || !d.flt.dark.isEmpty || d.get TRN_STAT1_frozen ≠ 0 || d.rd LAY_FAULT ≠ 0 || d.lay.dropped ≠ 0
  let open2 := match d.flt.opened with
    | some r => decide (2 ≤ r.flt.sev)
    | none => false
  d.flt.broken ||| (b2n sub * 2) ||| (b2n d.hv.excursion * 4) ||| (b2n open2 * 8)

/-- A frame period enters the accounts. -/
def Device.avCount (d : Device) (bits : Nat) : Device :=
  let d := (d.bump FLT_AV_FRAMES_val).grow 16 1
  if bits = 0 then d else
    let d := (d.bump FLT_AV_BAD_val).grow 17 1
    eachOf (List.range 4) (fun i d =>
      if bits.testBit i then (d.bump ⟨FLT_AV_CAUSE, 8 * i + 7, 8 * i⟩).grow (19 + i) 1 else d) d

/-- The accounts at a vertical swap point: in LIVE and GECKO the frame period counts, or is excluded. -/
def Device.avFrame (d : Device) (noIn : Bool) : Device :=
  let d := if noIn then d.bump DPRX_NOIN_CNT_val else d
  let d := if !d.modeIn 0xC then d
    else if noIn || d.hif.bscan then (d.bump FLT_AV_EXCL_val).grow 18 1
    else d.avCount d.avBroken
  { d with flt := { d.flt with broken := 0 }, hv := { d.hv with excursion := false } }

/-! ## Recoveries at a vertical swap point (R506, R507) -/

/-- Stripe `s` kept TMG_HOLD_LIM in the frame that ends. -/
def Device.heldWithin (d : Device) (s : Nat) : Bool :=
  decide (Sparse.get (fun _ => 0) d.ras.holds s ≤ d.get TMG_HOLD_LIM_lines) &&
  decide (Sparse.get (fun _ => 0) d.ras.holdRuns s ≤ d.get TMG_HOLD_LIM_frames)

/-- Parked stripes: from the first swap point after the raise a stripe is replayed, from the second processed again, and its recovery ends with the first processed frame within the limits. -/
def Device.parkFrame (d : Device) : Device :=
  if d.flt.park.isEmpty then d else
    let ended (s a : Nat) : Bool := decide (2 ≤ a) && d.processedFrame && d.heldWithin s
    let park := (d.flt.park.filter (fun e => !ended e.1 e.2)).map (fun e => (e.1, e.2 + 1))
    ({ d with flt := { d.flt with park := park, parked := d.flt.parked.filter (fun s => park.any (fun e => e.1 == s && decide (e.2 ≤ 1))) } }).degrSync

/-- The open recovery counts the swap point (R506). -/
def Device.recoveryFrame (d : Device) : Device :=
  match d.flt.opened with
  | none => d
  | some r => d.fltOpen (some { r with latency := r.latency + 1, elapsed := r.elapsed + 1, tickUs := d.us })

/-! ## Frame starts -/

/-- Blocks whose frame-latched fields are fabric behaviour (R158): LAY, FAB, TRN and CMP. -/
def fabricReg (off : Nat) : Bool := decide (off / 0x10000 ∈ [0x6, 0x8, 0xA, 0xB])

/-- A tile's queue holds a running or pending sequence, or an explicit target (R158). -/
def tileBusy (x : TileX) : Bool := x.qstate == 1 || x.pend || x.explicit || x.act == .final

/-- What a frame that starts now carries: `again` says that valid ports replay. -/
def Device.frameKind (d : Device) (allReplay : Bool) : FrameKind :=
  if d.ras.stop || d.hv.dis != .idle then .code0
  else match d.mode with
    | 1 => if d.getF TMG_TEST_en = 1 then .test else .code0
    | 2 => if allReplay then .replay else .picture
    | 3 => .gecko
    | 4 => .loupe
    | _ => .code0

/-- What port `p` carries in a frame that starts now; 4 stands for layout 0 (R147, R151). `take` names the ports whose frame may be driven. -/
def Device.portPlan (d : Device) (take : Nat → Bool) (p : Nat) : PortSrc :=
  let out : PortSrc := if Sparse.get (fun _ => 0) d.ras.noin p = 256 then .fill else .replay
  if p = 4 then (if d.layoutNow = 0 then out else .replay)
  else if !d.layoutPorts.contains p then .replay
  else if d.get (DPRX_STAT_valid p) = 0 then out
  else if (d.portX p).fresh && take p then .input
  else .replay

/-- The frame periods without a valid stream, with the frame that starts now (R151). -/
def Device.noinFrame (d : Device) : Device :=
  if d.mode ≠ 2 then d else
    let n := (List.range 5).foldl (fun m p =>
      let lacks := if p = 4 then d.layoutNow = 0 else d.layoutPorts.contains p && d.get (DPRX_STAT_valid p) = 0
      let v := Sparse.get (fun _ => 0) m p
      Sparse.set (fun _ => 0) m p (if !lacks then 0 else if v < 255 then v + 1 else v)) d.ras.noin
    { d with ras := { d.ras with noin := n } }

/-- A frame takes the newest input frame of port `p`: the older ones that were never driven are skipped, counted in a raster that is not locked and for the reference port (R143, R147). -/
def Device.portTaken (d : Device) (p : Nat) : Device :=
  let x := d.portX p
  let d := if d.get TMG_STAT_raster ≠ 2 || p = d.refPort then d.skipFrame x.older else d
  d.setPort p { x with fresh := false, older := 0 }

/-- A frame starts: `take` names the ports whose input frame may be driven, `lag` is its lag in lines, `through` its path. -/
def Device.frameBegin (d : Device) (take : Nat → Bool) (lag : Nat) (through : Bool) : Device :=
  let d := d.stressFrame
  let ports := (List.range 5).map (d.portPlan take)
  let kind := d.frameKind (ports.all (fun p => p == .replay))
  let d := d.noinFrame
  let d := if kind == .picture then eachOf (List.range 4) (fun p d => if ports.getD p .replay == .input then d.portTaken p else d) d else d
  let ramp := d.get SRV_STAT_ramp = 1 || d.srv.applyN.isSome
  let busy := (d.trn.tiles.filter (fun e => tileBusy e.2)).map (fun e => e.1)
  let d : Device := { d with ras := { d.ras with
    kind := kind, active := true, last := d.ras.stop, vsp := false, wait := .no, ports := ports, lines := 0, stripes := [], rowsDone := [],
    nowAll := d.ras.allDirty || ramp, now := (d.ras.dirty ++ busy).eraseDups, allDirty := false, dirty := [] }, trn := { d.trn with before := [] } }
  let d := (((d.put TMG_STAT_lag (Nat.min lag 65535)).put TMG_STAT_lagged (b2n (lag ≠ 0))).put TMG_STAT_path (b2n !through)).put
    TMG_STAT_replay (b2n (kind == .replay))
  let d := d.put TMG_STAT_gecko (b2n (kind == .gecko))
  let d := if kind == .picture || kind == .gecko then d.rampFrame else d
  d.plainLines 0

/-- A repeat frame (R145). -/
def Device.repeatFrame (d : Device) : Device := (d.bump TMG_FRC_EVT_repeats).frameBegin (fun _ => false) 0 false

/-- Lmax (R144). -/
def Device.lagMax (d : Device) : Nat := Nat.min (d.getF TMG_LAG_lines) (98 * d.get TMG_VTOTAL_lines / 100 - 2)

/-- The sequencer may start a frame: scan-out runs and the last frame is past its vertical swap point. -/
def Device.mayStart (d : Device) : Bool := d.power.coreOn && !d.rasterStopped && !d.ras.active

/-- FRAME_START_DECISION: t_end of a frame of the locked raster. `lag` is that of the pending input frame at t_end, 0 when its start plus A has not passed; `latePassed` says that the late limit has (R143-R145). -/
def execFrameStartDecision (lag : Nat) (latePassed : Bool) (s : State) : Out :=
  s.run (fun d =>
    let r := d.refPort
    if !d.mayStart || d.get TMG_STAT_raster ≠ 2 then d
    else if d.get (DPRX_STAT_valid r) = 0 || !d.layoutPorts.contains r then d.holdover
    else
      let waiting (d : Device) : Device := if latePassed then d.repeatFrame else { d with ras := { d.ras with wait := .input } }
      if !(d.portX r).fresh then waiting d
      else if lag = 0 then { d with ras := { d.ras with wait := .through } }
      else if lag ≤ d.lagMax then
        ((d.bump TMG_LAG_EVT_lagged).put TMG_LAG_EVT_largest (Nat.max (d.get TMG_LAG_EVT_largest) (Nat.min lag 65535))).frameBegin
          (fun _ => true) lag false
      else waiting ((d.setPort r { d.portX r with fresh := false }).skipFrame 1))

/-- THROUGH_FRAME_START: the input frame's start plus A is reached. -/
def execThroughFrameStart (s : State) : Out :=
  s.run (fun d => if d.mayStart && d.ras.wait == .through then d.frameBegin (fun _ => true) 0 true else d)

/-- LATE_LIMIT: the late limit passes; `tie`: an input frame start reaches the sequencer in the same cycle and wins (R145, R146). -/
def execLateLimit (tie : Bool) (s : State) : Out :=
  s.run (fun d =>
    if !d.mayStart || d.ras.wait == .no then d
    else if tie then (d.put TMG_LATE_frame 1).put TMG_IRQ_late 1
    else if d.ras.wait == .input then d.repeatFrame
    else d)

/-- LOCAL_FRAME_START: a frame of a raster whose frames run back to back; bit p of `usable` says that no row of port p's newest frame is overtaken (R147, R142, R157). -/
def execLocalFrameStart (usable : Fin 16) (s : State) : Out :=
  s.run (fun d =>
    let r := d.get TMG_STAT_raster
    if !d.mayStart || (r ≠ 1 && r ≠ 3) || d.ras.wait != .no then d
    else d.frameBegin (fun p => usable.val.testBit p) 0 false)

/-- NOIN_HOLD_EXPIRE: the hold time of a port, or of layout 0, has passed: its stripes take the fill colour from the next frame on (R151). -/
def execNoinHoldExpire (e : Fin 5) (s : State) : Out :=
  s.run (fun d =>
    let lacks := if e.val = 4 then decide (d.layoutNow = 0) else d.layoutPorts.contains e && d.get (DPRX_STAT_valid e) = 0
    if !d.power.coreOn || d.mode ≠ 2 || !lacks || decide (Sparse.get (fun _ => 0) d.ras.noin e < d.getF TMG_NOIN_frames) then d
    else { d with ras := { d.ras with noin := Sparse.set (fun _ => 0) d.ras.noin e 256 } })

/-! ## The vertical swap point (R136) -/

/-- The driven frames flip and the first processed frame of a set is over (R377, R95, R148, R585). -/
def Device.drivenFlip (d : Device) : Device :=
  let d := if d.ras.active && d.ras.kind != .replay then d.put MEM_FS_STAT_wbuf (1 - d.get MEM_FS_STAT_wbuf) else d
  if d.processedFrame then { d with ras := { d.ras with first := false, blank := false } } else d

/-- Frame-latched writes take effect (R59); those of the integrator's knots at the next frame's start. -/
def Device.frameLatch (d : Device) : Device :=
  let p (o : Nat) : Bool := isFrame o && !stressReg o
  let fab (l : Sparse Word) : Sparse Word := l.filter (fun e => p e.1 && fabricReg e.1)
  let changed := fab d.force ≠ fab d.regs
  { d with force := Sparse.overlay resetOf p d.force d.regs, ras := { d.ras with allDirty := d.ras.allDirty || changed } }

/-- The transition engine's part (R232, R102, R231, R244). -/
def Device.trnFrame (d : Device) (processed : Bool) (bad : List Nat) : Device :=
  if d.ras.torn ≠ 0 then d.trnSuspended
  else if processed then d.trnPass (fun t => (d.tileX t).seen) bad
  else d

/-- Holds, tears and the survey's blanking start anew for the next frame. -/
def Device.frameCounts (d : Device) : Device :=
  let runs := d.ras.holdRuns.filter (fun e => d.ras.holds.any (fun h => h.1 == e.1))
  { d with ras := { d.ras with active := false, vsp := true, holds := [], holdRuns := runs, layTorn := false, torn := if 2 ≤ d.ras.torn then 1 else 0 },
           srv := { d.srv with blank := 0, noroom := false, eccSeen := [] } }

/-- Scan-out stops (R154). -/
def Device.rasterStop (d : Device) : Device :=
  let d := d.stressFrame
  let d : Device := { d with ras := { d.ras with stop := false, last := false, active := false, vsp := false, wait := .no, lines := 0, stripes := [] },
                             hv := { d.hv with gck := 0, gst := 0 } }
  (d.wr TMG_STAT (d.get TMG_STAT_dflt * 32)).put HVP_STAT_gate 0

/-- The raster follows its source, a test raster and a stop (R142, R154, R156). -/
def Device.rasterNext (d : Device) (stopping : Bool) : Device :=
  if stopping then d.rasterStop
  else
    let d := d.rasterSrc
    if d.mode = 1 && d.get TMG_SCAN_run = 0 && d.getF TMG_TEST_en = 0 then { d with ras := { d.ras with stop := true } } else d

/-- A vertical swap point; `bad` names tile records that failed their ECC check (R245). -/
def Device.swapPoint (d : Device) (bad : List Nat) : Device :=
  if !d.power.coreOn || d.rasterStopped then d else
    let noIn := d.modeIn 0xC && d.rd DPRX_VALID / 256 % 2 = 0
    let d := (d.chkRecord.chkFrame noIn).avFrame noIn
    let processed := d.processedFrame
    let stopping := d.ras.active && d.ras.last
    let d := if d.ras.kind != .gecko || !d.ras.active then d else
      d.wr TMG_GECKO_STAT (Nat.min (if d.ras.nowAll then d.tileCount else d.ras.now.length) 65535 + Nat.min d.ras.rowsDone.length 65535 * 65536)
    let d := d.parkFrame.recoveryFrame.stressFactors.drivenFlip
    let d := (d.wr TMG_FRAME_CNT (d.rd TMG_FRAME_CNT + 1)).put TMG_IRQ_vsp 1
    let d := d.frameLatch.trnFrame processed bad
    let d := (d.planApply.layFrame.defectsFrame.fsFrame).frameCounts
    let d : Device := if d.get FAB_SWAP_STAT_armed = 1 then { d with swap := { d.swap with window := true } } else d
    (d.validSync.replayCheck).rasterNext stopping

/-- VERTICAL_SWAP_POINT. -/
def execVerticalSwapPoint (bad : List Nat) (s : State) : Out := s.run (fun d => d.swapPoint bad)

/-! ## Run control and test rasters (R154, R156) -/

/-- A TMG_SCAN write. -/
def Device.scanWrite (d : Device) (m v : Nat) : Device :=
  let run := v % 2 = 1
  d.guarded m TMG_SCAN ([(!among m mFabric, ePerm), (decide (d.mode ≠ 1), eState),
      (run && d.claimedLanes.any (fun n => !d.laneTrained n), eState)] ++ d.formChecks TMG_SCAN v) (fun d =>
    let was := d.get TMG_SCAN_run = 1
    let d := d.wr TMG_SCAN v
    if run then d.rasterStart
    else if was && !d.rasterStopped && d.getF TMG_TEST_en = 0 then { d with ras := { d.ras with stop := true } }
    else d)

/-- SCAN_RUN: run = 1. -/
def execScanRun (m : Master) (s : State) : Out := s.run (fun d => d.scanWrite m 1)

/-- SCAN_STOP: run = 0. -/
def execScanStop (m : Master) (s : State) : Out := s.run (fun d => d.scanWrite m 0)

/-- A TMG_TEST write. -/
def Device.testWrite (d : Device) (m v : Nat) : Device :=
  d.guarded m TMG_TEST ([(!among m mFabric, ePerm), (v.testBit 0 && d.mode ≠ 1, eState), (7 < bitsOf v 7 4, eRange)] ++
      d.formChecks TMG_TEST v) (fun d =>
    let d := d.wrFrame TMG_TEST v
    if v.testBit 0 && d.rasterStopped then d.rasterStart else d)

/-- TEST_RASTER_WRITE: a TMG_TEST write with en = 1. -/
def execTestRasterWrite (m : Master) (val : Nat) (s : State) : Out := s.run (fun d => d.testWrite m (onBit (val % 2 ^ 32) 0))

/-! ## Pool units (R215) -/

/-- A FAB_POOL_CLAIM write. -/
def Device.poolWrite (d : Device) (m v : Nat) : Device :=
  let on := v.testBit 31
  let n := bitsOf v 25 16
  let first := bitsOf v 8 0
  let units := (List.range n).map (fun i => first + i)
  let held := (d.rdB m FAB_POOL_CLAIM).testBit 31
  d.guarded m FAB_POOL_CLAIM [(!among m mIntegrator, ePerm), (on && held, eState),
      (reservedBad FAB_POOL_CLAIM v || (on && (n = 0 || 512 < first + n)), eRange),
      (on && units.any (fun i => (d.owner 4 i).isSome), eConflict)] (fun d =>
    let d := d.wrB m FAB_POOL_CLAIM v
    if on then eachOf units (fun i d => d.claim 10 4 i m) d
    else d.unclaim 10 (fun c => c.master == m))

/-- POOL_CLAIM: a write with en = 1. -/
def execPoolClaim (m : Master) (val : Nat) (s : State) : Out := s.run (fun d => d.poolWrite m (onBit (val % 2 ^ 32) 31))

/-- POOL_RELEASE: a write with en = 0. -/
def execPoolRelease (m : Master) (s : State) : Out := s.run (fun d => d.poolWrite m (offBit (d.rdB m FAB_POOL_CLAIM) 31))

end Sys2Proof.Machine
end

