-- ==== Sys2Proof/Machine/FltCmds.lean ====
section
/-! DEFINITION. The commands of the fault engine (spec/17_faults_availability.md): raises, ends of recoveries and budgets, regeneration attempts, accounting. -/

namespace Sys2Proof.Machine

/-- The codes of the catalogue that a condition raises (R505); 0x7A is raised by FLT_RAISE alone. -/
def fltListed : List Nat :=
  [0x10, 0x11, 0x12, 0x13, 0x14, 0x15, 0x16, 0x17, 0x18, 0x19, 0x1A, 0x1B, 0x20, 0x21, 0x22, 0x23, 0x28, 0x29, 0x30, 0x31, 0x38, 0x39,
   0x40, 0x41, 0x44, 0x48, 0x49, 0x50, 0x51, 0x52, 0x58, 0x59, 0x60, 0x61, 0x68, 0x70, 0x71, 0x74]

/-- FAULT_RAISE: the condition of a catalogue row holds, for an instance and the lane, return lane, stripe, layer or tile it concerns. -/
def execFaultRaise (code inst obj : Nat) (s : State) : Out :=
  s.run (fun d => if fltListed.contains code then d.raiseCode code (inst % 256) obj else d)

/-- A FLT_RAISE write (R521). -/
def Device.fltRaise (d : Device) (m v : Nat) : Device :=
  let sev := bitsOf v 9 8
  d.guarded m FLT_RAISE [(!among m 0x381, ePerm), (sev = 0 || reservedBad FLT_RAISE v, eRange)] (fun d =>
    d.raise { code := 0x7A, inst := bitsOf v 23 16, sev := sev, kind := 0 } v)

/-- INTEGRATOR_FAULT. -/
def execIntegratorFault (m : Master) (val : Nat) (s : State) : Out := s.run (fun d => d.fltRaise m (val % 2 ^ 32))

/-! ## Scrubbing (R507, R514 step 4) -/

/-- The frame-store word `w` lies in a scan region. -/
def Device.inScan (d : Device) (w : Nat) : Bool := decide (8 * w < d.rgnBase 6 + d.rd (MEM_RGN_SIZE 6))

/-- The byte of a pixel plane as map type `t` in flash gives it, where that map has been loaded. -/
def Device.mapByte (d : Device) (i size t a : Nat) : Option Nat :=
  let o := a - d.rgnBase i
  let w := glassW (d.rd MEM_GLASS_ACT) * size
  if w = 0 ∨ d.rd (CMP_MAP_VER t) = 0 then none else
    let y := o / w
    let x := o % w
    if d.vact ≤ y ∨ size * d.hact ≤ x then none
    else (d.mapEntry t).map (fun e => d.flashRd (e.addr + y * (size * d.hact) + x))

/-- What a scrub writes at a byte of the scan regions. -/
def Device.scrubByte (d : Device) (a : Nat) : Nat :=
  let init := (fsDef d.mem.lay a).toNat
  match d.rgnOf a with
  | some 3 => (d.mapByte 3 3 0 a).getD init
  | some 4 => (d.mapByte 4 3 0 a).getD init
  | some 5 => (d.mapByte 5 4 1 a).getD init
  | _ => init

/-- Every uncorrectable word of regions 0 to 6 is rewritten. -/
def Device.scrubScan (d : Device) : Device :=
  eachOf (d.mem.fsUe.filter (fun w => d.inScan w)) (fun w d =>
    d.fsWrite 6 (atAddr (8 * w) ((List.range 8).map (fun i => d.scrubByte (8 * w + i))))) d

/-! ## Recoveries (R507, R508) -/

/-- The end condition of a fault's row holds in a recovery of severity `sev`. A FAILED lane ends no S1 recovery (R335); one contained at S2 ends when the lane has moved to a spare or is FAILED (R512). -/
def Device.fltEnded (d : Device) (sev : Nat) (f : Flt) : Bool :=
  let moved := match d.laneStripe f.obj with
    | some s => (d.spareOf s).isSome
    | none => false
  let gone := d.laneState f.obj = 6 || moved
  let back := !(d.lane f.obj).resending && d.laneState f.obj ≠ 6
  if f.code = 0x20 then (if sev = 1 then back else gone || back)
  else if f.code = 0x21 then
    (back && (d.laneState f.obj = 4 || d.laneState f.obj = 5)) || (sev ≠ 1 && gone)
  else if f.code = 0x22 then d.get (ACL_LANE_STAT_in_use (d.act.lanes.getD f.obj {}).lane) = 1
  else if f.code = 0x23 then d.laneState f.obj = 6
  else if f.code = 0x28 then (d.ret f.obj).proc == .idle || d.flt.jammed.contains f.obj
  else if f.code = 0x29 then (d.ret f.obj).silenced = 15
  else if f.code = 0x31 then !d.flt.park.any (fun e => e.1 == f.obj)
  else if f.code = 0x39 then !(d.rd LAY_EN).testBit f.obj
  else if f.code = 0x40 then (d.tileX f.obj).qstate ≠ 2
  else if f.code = 0x49 then !(d.mem.fsUe ++ d.mem.ueFrame).any (fun w => d.inScan w)
  else if f.code = 0x68 then d.flt.chkGood
  else true

/-- The open recovery has ended: an S3 one with its discharge, and for fault 0x1B with the bridge (R507). -/
def Device.recoveryEnded (d : Device) (r : Recovery) : Bool :=
  if r.flt.sev = 3 then d.hv.dis == .idle && !d.railsUp && (r.flt.code ≠ 0x1B || !d.bridge.lost)
  else (r.flt :: r.others).all (d.fltEnded r.flt.sev)

/-- RECOVERY_COMPLETE: the end condition holds; `tie`: in the cycle the budget ends. For fault 0x49 firmware has scrubbed first. -/
def execRecoveryComplete (tie : Bool) (s : State) : Out :=
  s.run (fun d =>
    match d.flt.opened with
    | none => d
    | some r =>
      let d := if (r.flt :: r.others).any (fun f => f.code == 0x49) then d.scrubScan else d
      if d.recoveryEnded r then d.recoveryDone tie else d)

/-- RECOVERY_BUDGET_END. -/
def execRecoveryBudgetEnd (s : State) : Out := s.run (fun d => d.budgetEnd)

/-! ## Regeneration (R514-R516) -/

/-- Begin step `n` of the attempt. -/
def Device.regenStep (d : Device) (n : Nat) : Device :=
  let d : Device := { d with flt := { d.flt with step := n } }
  if n = 5 then d.seqStart 2
  else if n = 6 then ({ d with link := { d.link with inTrans := true, failed := [] } }).trainAll
  else if n = 7 then
    (({ d with trans := some { target := 2, cause := 0xC, master := 6 } }).put GLB_MODE_STAT_busy 1).put GLB_MODE_STAT_target 2
  else d

/-- REGEN_ATTEMPT_START: the wait after a failed attempt ends (R515). -/
def execRegenAttemptStart (s : State) : Out :=
  s.run (fun d =>
    if !d.power.coreOn || d.mode ≠ 5 || d.trans.isSome || d.get FLT_STAT_engine ≠ 4 || d.get FLT_NEWT_held = 1 || d.flt.step ≠ 0 then d else
      ({ d with flt := { d.flt with first := false, waitDis := false, startUs := d.us } }.put FLT_STAT_engine 3).regenStep 1)

/-- The HVP_FLT bit of a fault code (R346). -/
def causeBit (code : Nat) : Option Nat :=
  if code = 0x10 then some 0 else if code = 0x11 then some 1 else if code = 0x12 then some 2 else if code = 0x13 then some 5
  else if code = 0x14 then some 3 else if code = 0x15 then some 6 else if code = 0x16 then some 4 else if code = 0x19 then some 7 else none

/-- Step 1 of R514; `found`: the bridge has carried no valid transfer for 1 s. -/
def Device.regenClear (d : Device) (found : Bool) : Device :=
  let code := d.get FLT_NEWT_code
  if d.flt.waitDis then d
  else if code = 0x1B && d.bridge.lost then (if found then d.attemptFail eState else d)
  else if d.get HVP_FLT_crack = 1 && d.hv.crackHigh then d.attemptFail eState
  else
    let bits := offBit (d.rd HVP_FLT) 4
    let d := d.wr HVP_FLT (match causeBit code with
      | some b => offBit bits b
      | none => bits)
    (d.fltOpen none).regenStep (if d.flt.first then 5 else 2)

/-- REGEN_STEP_DONE: the step that runs has done its work; `found` in step 1: the bridge stayed lost for 1 s; in step 2: an uncorrectable active copy; in step 4: a flash read error (R514). -/
def execRegenStepDone (found : Bool) (s : State) : Out :=
  s.run (fun d =>
    if !d.power.coreOn || d.mode ≠ 5 then d else
    match d.flt.step with
    | 1 => d.regenClear found
    | 2 =>
      let same := (List.range 8).all (fun i => d.rd (FAB_MIR_DIG i) = d.rd (FAB_ACT_DIG i))
      if found && !(d.get FAB_MIR_STAT_valid = 1 && same) then d.attemptFail eState else d.regenStep 3
    | 3 => d.regenStep 4
    | 4 => if found then d.attemptFail eState else (d.scrubScan).regenStep (if d.flt.first then 1 else 5)
    | 5 => if d.seqDone then d.regenStep 6 else d
    | 6 => if d.lanesSettled then d.regenStep 7 else d
    | _ => d)

/-- REGEN_TIMEOUT: 1 s after its start the attempt has not reached step 7. -/
def execRegenTimeout (s : State) : Out :=
  s.run (fun d => if d.power.coreOn && d.mode = 5 && d.flt.step ≠ 0 && decide (d.flt.step < 7) then d.attemptFail eState else d)

/-- ACCOUNTING_FLUSH (R520). -/
def execAccountingFlush (s : State) : Out := s.run (fun d => if d.power.coreOn then d.accountFlush else d)

end Sys2Proof.Machine
end

