-- ==== Sys2Proof/Machine/SegCmds.lean ====
section
/-! DEFINITION. The status glass's frames and its claim of lines 36 to 39 (spec/12_panel_power_status_glass.md R367 to R372). -/

namespace Sys2Proof.Machine

/-- The status glass holds the run-time claim of lines 36 to 39 (R371). -/
def Device.wideHeld (d : Device) : Bool := d.claims.any (fun c => c.feature == 6 && c.cls == 8)

/-- Somebody else owns one of the four balls (R96, R371). -/
def Device.wideTaken (d : Device) : Bool :=
  (List.range 4).any (fun j => match d.owner 8 (36 + j) with
    | none => false
    | some o => !(o.holder == 2 && o.feature == 6))

/-- Claim the four lines for master `m`. -/
def Device.wideClaim (d : Device) (m : Nat) : Device :=
  let d := eachOf (List.range 4) (fun j d => d.claim 6 8 (36 + j) m) (d.unclaim 6 (fun _ => true))
  { d with seg := { d.seg with wideRelease := false } }

/-- The claim at the end of boot step 7 (R371): without it SEG_STAT.narrow is set. -/
def Device.wideBoot (d : Device) : Device :=
  if d.get SEG_CFG_wide = 0 then d else if d.wideTaken then d.put SEG_STAT_narrow 1 else d.wideClaim 2

/-- SEG_FRAME_START: a positive frame takes new content; in DARK everything is at GND (R367). -/
def execSegFrameStart (s : State) : Out :=
  s.run (fun d =>
    if d.mode = 0 then
      eachOf (List.range 5) (fun i d => d.wr (SEG_SHOWN i) 0) d
    else
      let pos := !d.seg.positive
      let d : Device := { d with seg := { d.seg with positive := pos } }
      if !pos then d else
        let picture := d.modeIn 0x1C
        let code := if picture then 0 else d.get SEG_STAT_kind * 256 + d.get SEG_STAT_code
        let host := picture && d.get SEG_CTRL_host = 1
        let blink := d.get SEG_CTRL_blink = 1
        let g := d.seg
        let g : Glass := { g with
          codeLit := if code ≠ g.code then true else g.codeLit,
          ramLit := if blink && !g.blinkOn then true else g.ramLit,
          code := code, host := host, blinkOn := blink,
          ram := (List.range 5).map (fun i => d.rd (SEG_RAM i)),
          wideRelease := false, wide := d.wideHeld && !g.wideRelease }
        let d := if d.seg.wideRelease then d.unclaim 6 (fun _ => true) else d
        let d : Device := { d with seg := g }
        (d.put SEG_STAT_owner (b2n host)).segShow)

/-- SEG_BLINK_TOGGLE: half a second of the 1 Hz blink ends; `ram`: of SEG_RAM's blink, else of the code's. -/
def execSegBlinkToggle (ram : Bool) (s : State) : Out :=
  s.run (fun d =>
    if d.mode = 0 then d else
      let g := d.seg
      ({ d with seg := if ram then { g with ramLit := !g.ramLit } else { g with codeLit := !g.codeLit } }).segShow)

/-- A SEG_CFG value whose reserved bits or fields are out of range (R8, R372). -/
def segCfgBad (v : Nat) : Bool := bitsOf v 31 17 ≠ 0 || bitsOf v 15 12 ≠ 0 || bitsOf v 3 2 ≠ 0 || 150 < bitsOf v 11 4

/-- A SEG_CFG write (R371, R372). -/
def Device.segCfg (d : Device) (m v : Nat) : Device :=
  let on := v.testBit 16
  let held := d.wideHeld && !d.seg.wideRelease
  d.hvGuarded m SEG_CFG
    [(!among m 0x385, ePerm), (d.kRegShut m, eAuth), (segCfgBad v, eRange), (on && !held && d.wideTaken, eConflict)] (fun d =>
      let d := ((d.wr SEG_CFG v).kNote SEG_CFG).put SEG_STAT_narrow 0
      if !on then { d with seg := { d.seg with wideRelease := d.wideHeld } }
      else if held then d else d.wideClaim m)

/-- SEG_WIDE_SET: a SEG_CFG write with wide at 1. -/
def execSegWideSet (m : Master) (val : Nat) (s : State) : Out := s.run (fun d => d.segCfg m (onBit (val % 2 ^ 32) 16))

/-- SEG_WIDE_CLEAR: a SEG_CFG write with wide at 0; the claim ends at the next positive frame. -/
def execSegWideClear (m : Master) (val : Nat) (s : State) : Out := s.run (fun d => d.segCfg m (offBit (val % 2 ^ 32) 16))

end Sys2Proof.Machine
end

