-- ==== Sys2Proof/Machine/Ranges.lean ====
section
/-! DEFINITION. The ranges of register fields: what a write, or a recalled value (R546), is refused for by its own value. -/

namespace Sys2Proof.Machine

/-- `x` lies from `lo` to `hi`. -/
def inRange (lo hi x : Nat) : Bool := decide (lo ≤ x) && decide (x ≤ hi)

/-- `off` is one of the first `n` instances of a register. -/
def oneOf (reg : Nat → Nat) (n off : Nat) : Bool := (List.range n).any (fun i => reg i == off)

/-- The smallest and largest setpoint of rail `r`, in 10 mV (R343). -/
def setpointRange (r : Nat) : Int × Int :=
  if r = 0 then (1200, 3000) else if r = 1 then (-1400, -400) else if r = 2 then (600, 2000) else (-800, -200)

/-- HVP_RAIL[r]: ilim, ramp and setpoint in range (R366). -/
def railOk (r v : Nat) : Bool :=
  let p := signedOf 16 (bitsOf v 15 0)
  inRange 2 10 (bitsOf v 27 24) && inRange 1 40 (bitsOf v 21 16) && decide ((setpointRange r).1 ≤ p) && decide (p ≤ (setpointRange r).2)

/-- Every 4-bit pair of a HIF_GPIO_FILT or CLK_IN_FILT value encodes a filter (R47). -/
def filtersOk (n v : Nat) : Bool := (List.range n).all (fun i => bitsOf v (4 * i + 2) (4 * i) ≠ 7)

/-- The fields of DPRX, TMG, LAY, FAB, TRN and CMP registers (R105, R108, R109, R137, R221, R247, R270). -/
def valueOkFront (off v : Nat) : Bool :=
  if oneOf DPRX_CTRL 4 off then
    inRange 1 4 (bitsOf v 3 0) && bitsOf v 5 4 ≠ 3 && (!v.testBit 10 || v.testBit 9)
  else if oneOf DPRX_LOCK_TO 4 off then bitsOf v 7 0 ≠ 0
  else if tmgLive.contains off then tmgOk off v
  else if off = LAY_CFG then inRange 1 15 (bitsOf v 11 8) && inRange 0 30 (bitsOf v 4 0)
  else if off = FAB_SWAP_ARM then inRange 1 63 (bitsOf v 5 0)
  else if off = FAB_UNPACK_CFG then
    (List.range 4).all (fun p => inRange 0 4 (bitsOf v (8 * p + 2) (8 * p)) && inRange 0 2 (bitsOf v (8 * p + 5) (8 * p + 4)))
  else if off = TRN_KNOT_SEL then inRange 0 32 (bitsOf v 5 0) && inRange 0 32 (bitsOf v 13 8) && inRange 0 2 (bitsOf v 21 20)
  else if off = TRN_TCFG then inRange 1 60 (bitsOf v 13 8)
  else if off = CMP_CTRL then inRange 0 6 (bitsOf v 6 4) && inRange 1 2 (bitsOf v 9 8)
  else if off = CMP_DITH then bitsOf v 9 8 ≠ 3
  else true

/-- The fields of SRV, ACL, HVP and SEG registers (R302, R341, R366, R372). -/
def valueOkPanel (off v : Nat) : Bool :=
  if off = SRV_SCHED then inRange 1 8 (bitsOf v 19 16) && bitsOf v 15 0 ≠ 0
  else if off = SRV_SENSE_T then inRange 8 255 (bitsOf v 23 16) && inRange 4 255 (bitsOf v 15 8) && bitsOf v 7 0 ≠ 0
  else if off = SRV_RAMP then inRange 1 1024 (bitsOf v 10 0)
  else if off = SRV_SAVE_INT then inRange 0 1440 (bitsOf v 10 0)
  else if oneOf ACL_LANE_CTRL 96 off then bitsOf v 7 0 ≠ 0
  else if off = ACL_CTRL then inRange 1 100 (bitsOf v 23 16) && inRange 2 15 (bitsOf v 11 8)
  else if off = ACL_SPARE_CFG then bitsOf v 15 0 ≠ 0
  else if off = ACL_CP_HDR then inRange 0 4 (bitsOf v 18 16)
  else if off = HVP_SEQ_CFG then inRange 1 100 (bitsOf v 23 16) && inRange 1 100 (bitsOf v 15 8)
  else if off = HVP_BO_CFG then inRange 96 114 (bitsOf v 7 0) && inRange 1 100 (bitsOf v 15 8)
  else if oneOf HVP_SEQ_DLY 8 off then inRange 0 1000 (bitsOf v 9 0)
  else if oneOf HVP_RAIL 4 off then railOk ((off - HVP_RAIL 0) / 4) v
  else if oneOf HVP_PSM_CFG 4 off then decide (bitsOf v 9 0 < bitsOf v 19 10)
  else if off = HVP_DIS_CFG then inRange 1 10 (bitsOf v 27 24) && inRange 1 15 (bitsOf v 19 16)
  else if off = HVP_CRK_CFG then inRange 1 15 (bitsOf v 27 24) && inRange 1 2000 (bitsOf v 15 0)
  else if off = SEG_CFG then inRange 0 150 (bitsOf v 11 4)
  else true

/-- The fields of GLB, MEM, MBX, CORE, CLK and HIF registers (R47, R403, R449, R494, R496, R540). -/
def valueOkBack (off v : Nat) : Bool :=
  if off = GLB_WAKE_CFG then bitsOf v 10 8 ≠ 7
  else if off = MEM_GLASS then bitsOf v 29 28 ≠ 3 && inRange 1 272 (bitsOf v 24 16) && inRange 1 128 (bitsOf v 7 0)
  else if off = MEM_ECC_LIM then bitsOf v 7 0 ≠ 0 && inRange 2 15 (bitsOf v 11 8)
  else if off = MEM_SCRUB then inRange 1 64 (bitsOf v 15 8)
  else if off = MEM_MARCH_CTRL then bitsOf v 15 8 ≠ 0
  else if oneOf MEM_BANK_CFG 384 off then !(v.testBit 0 && v.testBit 2)
  else if off = MB_XWAIT_TIME then bitsOf v 15 0 ≠ 0
  else if oneOf CORE_ALLOC 8 off then inRange 0 64 (bitsOf v 6 0)
  else if off = CLK_AVS then decide (bitsOf v 21 16 ≤ bitsOf v 5 0) && decide (bitsOf v 5 0 ≤ bitsOf v 29 24) && inRange 0 60 (bitsOf v 29 24)
  else if off = CLK_AGE_CFG then
    decide (bitsOf v 23 16 < bitsOf v 7 0) && decide (bitsOf v 7 0 < bitsOf v 15 8) && bitsOf v 31 24 ≠ 0
  else if off = CLK_IN_FILT then filtersOk 3 v
  else if off = HIF_XSPI_CFG then inRange 8 30 (bitsOf v 28 24) && bitsOf v 15 8 ≠ 0 && bitsOf v 1 0 ≠ 3
  else if oneOf HIF_I2C_CFG 2 off then bitsOf v 1 0 ≠ 3 && inRange 25 35 (bitsOf v 15 8)
  else if oneOf HIF_GPIO_FILT 2 off then filtersOk 8 v
  else if oneOf HIF_NTC_CFG 4 off then bitsOf v 31 16 ≠ 0 && bitsOf v 15 1 ≠ 0
  else true

/-- Every field of `v` is in its range, by the value alone. -/
def valueOk (off v : Nat) : Bool := valueOkFront off v && valueOkPanel off v && valueOkBack off v

/-- A register that takes only some multiples: the survey's flash slots (R583), the buffers of layers and maps (R172, R270). -/
def aligned (off v : Nat) : Bool :=
  if (List.range 2).any (fun t => oneOf (SRV_SLOT t) 2 off) then v % 65536 = 0
  else if oneOf LAY_PADDR 16 off || off = CMP_MAP_ADDR then v % 64 = 0
  else true

/-- A host write of the value would be accepted for the value itself (R546). -/
def recallOk (off v : Nat) : Bool := !reservedBad off v && valueOk off v && aligned off v

end Sys2Proof.Machine
end

