-- ==== Sys2Proof/Machine/Boot.lean ====
section
/-! DEFINITION. The boot sequence (spec/02_modes.md R50 to R57, with R74 and R77 check 22, R138, R276, R300, R371, R389, R445, R451, R581): steps, halts and the recall of Keep (R411, R431, R546, R584). -/

namespace Sys2Proof.Machine

/-! ## Steps and codes (R52, R53) -/

/-- Boot step `n` has completed. -/
def Device.bootDone (d : Device) (n : Nat) : Bool := (d.rd GLB_BOOT_STEPS).testBit n

/-- The code of the lowest-numbered step that has started and not completed (R52). -/
def Device.bootShow (d : Device) : Device :=
  if !d.boot.running then d else
    match (List.range 12).find? (fun n => d.boot.started.testBit n && !d.bootDone n) with
    | some n => (d.put GLB_BOOT_STAT_code n).segCode 1 n
    | none => d

/-- The boot halts with a code (R54): the rails go down, and a transition that waits for the repeated check is abandoned. -/
def Device.bootHalt (d : Device) (code err : Nat) : Device :=
  let d : Device := { d with boot := { d.boot with running := false } }
  let d := (((d.put GLB_BOOT_STAT_halted 1).put GLB_BOOT_STAT_code code).put GLB_BOOT_STAT_err err).segCode 2 code
  let d := if d.trans.isNone then d else
    ((({ d with trans := none }).put GLB_MODE_STAT_aborted err).put GLB_MODE_STAT_busy 0).put GLB_MODE_STAT_target d.mode
  d.disStart false

/-- A step starts: what its start does. -/
def Device.bootStart (d : Device) (n : Nat) : Device :=
  let d : Device := { d with boot := { d.boot with started := onBit d.boot.started n } }
  if n = 3 then d.put KEEP_STAT_state 1
  else if n = 8 then d.layOut
  else if n = 9 then (if d.get HVP_FLT_crack = 1 then d.raiseCode 0x16 0 else d.seqStart 0)
  else if n = 10 then ({ d with link := { d.link with inTrans := d.trans.isSome, failed := [] } }).trainAll
  else d

/-- Step `n` is complete, and the steps of a list start. -/
def Device.bootNext (d : Device) (n : Nat) (starts : List Nat) : Device :=
  let d := d.wr GLB_BOOT_STEPS (onBit (d.rd GLB_BOOT_STEPS) n)
  (eachOf starts (fun k d => if d.boot.running then d.bootStart k else d) d).bootShow

/-! ## Step 4: retired banks (R54, R388, R389) -/

/-- The use of a bank after the march (R388). -/
def firstUse (i : Nat) : Nat :=
  if i < 4 then 1 else if i < 20 then 2 else if i < 24 then 3 else if i < 40 then 4 else if i < 48 then 5
  else if i < 56 then 6 else if i = 56 then 7 else if i < 63 then 2 else if i = 63 then 8 else if i < 368 then 0 else 14

/-- The banks of R388 that are pinned for good. -/
def firstPinned (i : Nat) : Bool := decide (i < 4) || inRange 20 56 i || i = 63

/-- Every bank serves itself, with its fixed use. -/
def Device.banksBegin (d : Device) : Device :=
  eachOf (List.range 384) (fun i d =>
    (d.wr (MEM_BANK_INFO i) (i + firstUse i * 0x10000 + b2n (firstPinned i) * 2 ^ 29)).put (MEM_BANK_CFG_pin i) (b2n (firstPinned i))) d

/-- Bank `f` is retired: a physical bank from the high end of the range serves it and leaves the range. -/
def Device.retire (d : Device) (failing : List Nat) (f : Nat) : Device × Option (Nat × Nat) :=
  match ((List.range 368).reverse).find? (fun p => d.bankFree p && !failing.contains p) with
  | some p =>
    ((((d.put (MEM_BANK_INFO_retired f) 1).put (MEM_BANK_INFO_failing f) 1).put (MEM_BANK_INFO_phys f) p).bankUse p 15, some (f, p))
  | none => (d, none)

/-- Boot step 4 (R54): up to eight failing banks are retired and recorded, more halt the boot. -/
def Device.bootMarch (d : Device) (failing : List Nat) (work : Bool) : Device :=
  let bad := failing.filter (fun i => decide (i < 384))
  if work || bad.any (fun i => decide (i < 4)) || 8 < bad.length then d.bootHalt 0x82 0 else
    let d := ({ d with mem := { d.mem with pond := [], pondUe := [] } }).banksBegin
    let r := bad.foldl (fun (p : Device × List (Nat × Nat)) f =>
      let q := p.1.retire bad f
      (q.1, p.2 ++ q.2.toList)) (d, [])
    let d := r.1
    let d := if r.2.isEmpty then d else
      d.recSave 8 (leBytes 4 r.2.length ++ r.2.flatMap (fun e => leBytes 2 e.1 ++ leBytes 2 e.2) ++ List.replicate (32 - 4 * r.2.length) 0)
    d.bootNext 4 [5]

/-! ## Step 5: the boot slots (R50) -/

/-- How far a slot gets: 0 no header, 1 digest, signature or key hash, 2 version, 3 accepted. -/
def slotGrade (enforced : Bool) (minVersion : Nat) (x : BootSlotScan) : Nat :=
  if !x.header then 0
  else if !x.digestOk || x.sigOk = some false || (enforced && (x.sigOk.isNone || !x.keyHashOk)) then 1
  else if x.version < minVersion then 2
  else 3

/-- Boot step 5: the slot named by GLB_BOOT_CFG.slot first, then the other. -/
def Device.bootSlots (d : Device) (a b : BootSlotScan) (slow : Bool) : Device :=
  let grade := slotGrade (d.bootWord 0 % 2 = 1) (d.bootWord 20)
  let first := d.get GLB_BOOT_CFG_slot
  let scan (s : Nat) : BootSlotScan := if s = 0 then a else b
  let g0 := grade (scan first)
  let g1 := grade (scan (1 - first))
  let d := if slow then d.put HIF_XSPI_CFG_mode 2 else d
  if g0 = 3 ∨ g1 = 3 then
    let slot := if g0 = 3 then first else 1 - first
    let d : Device := { d with boot := { d.boot with fwVersion := (scan slot).version } }
    (d.put GLB_BOOT_STAT_boot_slot slot).bootNext 5 [6]
  else
    let g := Nat.max g0 g1
    if g = 0 then d.bootHalt 0x83 0 else if g = 1 then d.bootHalt 0x84 eAuth else d.bootHalt 0x85 eSeq

/-- Boot step 6: Walern firmware runs on IK0 to IK4, IK0 writes the channel table, and HPD rises (R110, R451). -/
def Device.bootFirmware (d : Device) : Device :=
  let d := eachOf (List.range 5) (fun k d => (d.put (CORE_STAT_state k) 1).put (CORE_CTRL_run k) 1) d
  let d : Device := { d with boot := { d.boot with hpdRaised := true } }
  (d.channelTable.hpdSync).bootNext 6 [7, 8]

/-! ## Step 7: the Prism image (R51, R77, R138, R581) -/

/-- The totals of the default raster that R138 and R581 choose among. -/
def Device.defaultTotal (d : Device) : Option Nat :=
  let v := d.actView
  let fits (t : Nat) : Bool :=
    let w := v.with TMG_HTOTAL t
    w.meetsR25 d.limitStep && (List.range w.set.stripes.length).all (fun i => w.lineFits i)
  ((List.range 16384).drop (d.hact + 64)).find? fits

/-- The raster of R138: the recalled one if it meets R97 and R25, else the default one; none if no default total fits (R581). -/
def Device.bootRaster (d : Device) : Option Device :=
  let v := d.actView
  if (d.recBody 1).isSome && v.r97.all (fun b => b) && v.meetsR25 d.limitStep then some (d.put TMG_STAT_dflt 0)
  else
    match d.defaultTotal with
    | none => none
    | some t =>
      let d := (((d.wr TMG_HFP 16).wr TMG_HSYNC 16).wr TMG_HTOTAL t).wr TMG_VFP 2
      some (((d.wr TMG_VSYNC 2).wr TMG_VTOTAL (d.vact + 8)).put TMG_STAT_dflt 1)

/-- The active set is in place: check 22, then its banks; the failing check otherwise. -/
def Device.bootAdopt (d : Device) : Except ImgFail Device :=
  match d.bootRaster with
  | none => .error { check := 22, code := eRange, section_ := 0xFF, off := 0 }
  | some d =>
    if !d.bootLimits d.actView then .error { check := 22, code := eRange, section_ := 0xFF, off := 0 }
    else
      let r := d.placeActive
      if r.2 then .ok r.1 else .error { check := 0, code := eFull, section_ := 0xFF, off := 0 }

/-- Load one Prism slot into the active set (R51): checks 1 to 22. -/
def Device.bootImage (d : Device) (slot : Nat) : Except ImgFail Device :=
  let a := d.bootWord (12 + 4 * slot)
  let b : ImgBytes := fun i => d.flashRd (a + i)
  match imgCheck21 b (d.imgCtx none) with
  | .error f => .error f
  | .ok _ =>
    let p := parseImage b
    let d : Device := { d with act := p }
    let d := eachOf p.presets (fun e d => (d.wr e.1 e.2).wrF e.1 e.2) d
    let d := ((d.wr FAB_ACT_VER p.version).wrDigest FAB_ACT_DIG p.digest).put GLB_BOOT_STAT_prism_slot slot
    d.bootAdopt

/-- The check repeated after halt 0x87 (R54) on the image that host software has loaded into the mirror set. -/
def Device.bootMirror (d : Device) : Except ImgFail Device :=
  let d := d.freeMirror
  let d : Device := { d with act := d.mir }
  let d := eachOf msRegs (fun o d => d.wrF o (d.rd o)) d
  let d := eachOf (List.range 8) (fun i d => d.wr (FAB_ACT_DIG i) (d.rd (FAB_MIR_DIG i))) (d.wr FAB_ACT_VER (d.rd FAB_MIR_VER))
  d.bootAdopt

/-- The end of boot step 7 with an accepted set: what follows from it, and the status glass's claim (R371). -/
def Device.bootSet (d : Device) : Device :=
  let d := ((d.wr FAB_IMG_STAT 0xFF000002).wr FAB_IMG_FAIL_OFF 0).linkAdopt
  let d := ((d.put CLK_STAT_plls 31).put CLK_STAT_acl (((List.range 12).map (fun g =>
    if d.claimedLanes.any (fun n => n / 8 == g) then 2 ^ g else 0)).sum)).fabSync
  (d.rlimSync.wideBoot).bootNext 7 (if d.bootDone 8 then [9, 11] else [])

/-- A check of boot step 7 fails: it is recorded as for a staged image. -/
def Device.bootImgFail (d : Device) (f : ImgFail) : Device :=
  (d.wr FAB_IMG_STAT (2 + f.check * 0x100 + f.code * 0x10000 + f.section_ % 256 * 0x1000000)).wr FAB_IMG_FAIL_OFF f.off

/-- Boot step 7: a mirror set that is valid when the check is repeated, else the slot of GLB_BOOT_CFG, else the other. -/
def Device.bootPrism (d : Device) : Device :=
  let first := d.get GLB_BOOT_CFG_slot
  if d.get FAB_MIR_STAT_valid = 1 then
    match d.bootMirror with
    | .ok d => d.bootSet
    | .error f => (d.bootImgFail f).bootHalt 0x87 f.code
  else
    match d.bootImage first with
    | .ok d => d.bootSet
    | .error f0 =>
      let d := d.bootImgFail f0
      match d.bootImage (1 - first) with
      | .ok d => d.bootSet
      | .error f => (d.bootImgFail f).bootHalt 0x87 f.code

/-! ## Step 8 (R56, R380) -/

/-- Boot step 8: every region is initialised and every tile queue is empty. -/
def Device.bootStore (d : Device) (uncorrectable : Bool) : Device :=
  if uncorrectable then d.bootHalt 0x88 0 else
    let d : Device := { d.fsInit with trn := { d.trn with tiles := [], knots := [] } }
    d.bootNext 8 (if d.bootDone 7 then [9, 11] else [])

/-! ## Step 11: the maps, the calibration and the integrator cores (R276, R300, R445) -/

/-- The calibration of R300: an index version later than the record's. -/
def Device.bootCalibrate (d : Device) : Device :=
  match d.mapEntry 0 with
  | some e => if e.valid && seqNewer e.version (d.rd SRV_CAL_VER) then d.calibrate e.version true else d
  | none => d

/-- IK0 loads each entry whose autostart flag is set (R445). -/
def Device.bootCores (d : Device) : Device :=
  eachOf [5, 6, 7] (fun k d =>
    match d.loaderEntry k with
    | some (_, _, _, _, _, flags) => if flags.testBit 0 then (d.loadBegin k none).loadFinish false else d
    | none => d) d

/-- One map of boot step 11: a failure of type 3 is logged, of another type it is noted with its code. -/
def Device.bootMap (d : Device) (op t : Nat) (flashErr : Bool) (bad : List (Nat × Nat)) : Device × List (Nat × Nat) :=
  match d.mapRun op t flashErr with
  | (d, none) => (d, bad)
  | (d, some f) =>
    if t = 3 then (((d.logEntry (d.freeWord 0) (d.freeWord 1) (Config.freeNat d.free 7 % 8) 0 []).drawn), bad)
    else (d, bad ++ [(t, f.code)])

/-- The boot is complete: the mirror set equals the active one, and LIVE follows unless the hold bit is set (R57, R74). -/
def Device.bootFinish (d : Device) : Device :=
  let d := d.mirrorRefill.put GLB_BOOT_STAT_done 1
  let d : Device := { d with boot := { d.boot with running := false } }
  if d.trans.isSome then ((d.put GLB_BOOT_STAT_code 0x0D).segCode 1 0x0D)
  else if d.get GLB_BOOT_CFG_hold = 1 then (d.put GLB_BOOT_STAT_code 0x0C).segCode 1 0x0C
  else
    (((({ d with trans := some { target := 2, cause := 7, master := 2 } }).put GLB_MODE_STAT_busy 1).put GLB_MODE_STAT_target 2).put
      GLB_BOOT_STAT_code 0x0D).segCode 1 0x0D

/-- Every step has completed: the boot is over. -/
def Device.bootCheck (d : Device) : Device :=
  if d.boot.running && d.bootDone 9 && d.bootDone 10 && d.bootDone 11 then d.bootFinish else d

/-- Boot step 11, or its repetition after halt 0x89 by op 2 on each failed type. -/
def Device.bootMaps (d : Device) (flashErr : Bool) : Device :=
  let again := !d.cmp.failed.isEmpty
  let types := if again then d.cmp.failed else (List.range 4).filter (fun t => (d.mapEntry t).any (fun e => e.valid))
  let r := types.foldl (fun (p : Device × List (Nat × Nat)) t => p.1.bootMap (if again then 2 else 1) t flashErr p.2) (d, [])
  let d : Device := { r.1 with cmp := { r.1.cmp with failed := r.2.map (fun e => e.1) } }
  match r.2 with
  | e :: _ => d.bootHalt 0x89 e.2
  | [] => ((d.bootCalibrate.bootCores).bootNext 11 []).bootCheck

/-! ## Commands -/

/-- BOOT_STEP_COMPLETE: the operation of step `n`, which has started, ends with the outcome `o`. Step 3 ends with KEEP_RECALL_COMPLETE. -/
def execBootStepComplete (n : Nat) (o : BootOutcome) (s : State) : Out :=
  s.run (fun d =>
    if !d.power.coreOn || !d.boot.running || !d.boot.started.testBit n || d.bootDone n then d else
    match n with
    | 2 => ((d.put CLK_STAT_plls 15).put CLK_STAT_xtal 1).bootNext 2 [3]
    | 4 => match o with
      | .march failing work => d.bootMarch failing work
      | _ => d.bootMarch [] false
    | 5 => match o with
      | .bootSlots a b slow => d.bootSlots a b slow
      | _ => d
    | 6 => d.bootFirmware
    | 7 => d.bootPrism
    | 8 => match o with
      | .frameStore ue => d.bootStore ue
      | _ => d.bootStore false
    | 9 => if d.seqDone then (d.bootNext 9 [10]).bootCheck else d
    | 10 =>
      if d.lanesSettled then (((d.put TMG_SCAN_run 1).rasterStart).bootNext 10 []).bootCheck else d
    | 11 => match o with
      | .maps err => d.bootMaps err
      | _ => d.bootMaps false
    | _ => d)

/-- BOOT_FW_START_TIMEOUT: 50 ms after authentication the firmware does not run (R52, code 0x86). -/
def execBootFwStartTimeout (s : State) : Out :=
  s.run (fun d => if d.power.coreOn && d.boot.running && d.boot.started.testBit 6 && !d.bootDone 6 then d.bootHalt 0x86 0 else d)

/-- A request for LIVE after halt 0x87 or 0x89 repeats the failed check and the steps after it (R54). -/
def Device.bootRepeat (d : Device) : Device :=
  let step := if d.get GLB_BOOT_STAT_code = 0x87 then 7 else 11
  let d := (d.put GLB_BOOT_STAT_halted 0).put GLB_BOOT_STAT_err 0
  let again := (List.range 12).filter (fun n => decide (step ≤ n) && n ≠ 8 && d.boot.started.testBit n)
  let d : Device := { d with boot := { d.boot with running := true, started := again.foldl offBit d.boot.started } }
  let d := d.wr GLB_BOOT_STEPS (again.foldl offBit (d.rd GLB_BOOT_STEPS))
  (if step = 7 then d.bootStart 7 else (d.bootStart 9).bootStart 11).bootShow

/-! ## The recall of Keep (R411, R412, R423, R431, R546, R584) -/

/-- Pages and records: the volatile store is kept, or copied from the shadow (R411). -/
def Device.recallPages (d : Device) : Device :=
  let k := d.keep
  let bad := (List.range 1024).filter (fun p => k.badShadow.testBit p)
  if k.aoHeld && k.dep.isSome then
    let d := eachOf bad (fun p d => d.kDirty p) d
    d.put KEEP_STAT_vol_kept 1
  else
    let d : Device := { d with keep := { k with
      vol := Sparse.overlay keepDef (fun a => a / 256 ≠ 417) k.vol k.shadow, pwVol := k.pwShadow, dirty := 0 } }
    let d := (d.kSync).put KEEP_STAT_vol_kept 0
    let d := eachOf bad (fun p d => d.wr (KEEP_PAGE_BAD (p / 32)) (onBit (d.rd (KEEP_PAGE_BAD (p / 32))) (p % 32))) d
    if bad.isEmpty then d else d.put KEEP_EVT_page_bad 1

/-- The passwords and KEEP_RGN of the password record; without one no region has a password, and pw_lost is set (R418). -/
def Device.recallPasswords (d : Device) : Device :=
  match d.keep.pwVol with
  | some r =>
    let pw := (List.range 16).foldl (fun m j => Sparse.set (fun _ => 0) m j (r.pw.getD j 0)) ([] : Sparse Nat)
    let d : Device := { d with keep := { d.keep with pw := pw } }
    eachOf (List.range 16) (fun j d => d.wr (KEEP_RGN j) (r.rgn.getD j 0)) d
  | none =>
    let d : Device := { d with keep := { d.keep with pw := [] } }
    d.put KEEP_EVT_pw_lost 1

/-- The registers of the register record: each value is loaded unless a host write would refuse it for itself (R546). -/
def Device.recallRegs (d : Device) : Device :=
  match d.recBody 1 with
  | none => d
  | some b =>
    eachOf (List.range recordRegs.length) (fun i d =>
      let off := recordRegs.getD i 0
      let v := leNat ((b.drop (4 * i)).take 4)
      if recallOk off v then d.wr off v else d) d

/-- DPRX_EDID and DPRX_EDID_LEN of port `p` from record 4 + p, which the port serves (R126, R421). -/
def Device.recallEdid (d : Device) (p : Nat) : Device :=
  match d.recBody (4 + p) with
  | none => d
  | some b =>
    let d := (d.setPort p { d.portX p with served := b }).wr (DPRX_EDID_LEN p) b.length
    eachOf (List.range (b.length / 4)) (fun i d => d.wr (DPRX_EDID p i) (leNat ((b.drop (4 * i)).take 4))) d

/-- The sequence number of log entry `s`, when its CRC matches (R430). -/
def Device.logSeqAt (d : Device) (s : Nat) : Option Nat :=
  let b := d.kBytes (logAddr s) 32
  if crc16 (b.take 30) = leNat (b.drop 30) then some (leNat (b.take 4)) else none

/-- The head is set after the valid entry with the newest sequence number (R431). -/
def Device.recallLog (d : Device) : Device :=
  let newest := (List.range 2048).foldl (fun (acc : Option (Nat × Nat)) s =>
    match d.logSeqAt s, acc with
    | some q, none => some (s, q)
    | some q, some a => if seqNewer q a.2 then some (s, q) else some a
    | none, a => a) none
  match newest with
  | some e => (d.put KEEP_LOG_HEAD_head ((e.1 + 1) % 2048)).wr KEEP_LOG_SEQ ((e.2 + 1) % 2 ^ 32)
  | none => d

/-- Counters 0 and 1, and the count base (R584); counter 2 counts the wakes (R428). -/
def Device.recallCounts (d : Device) (kept wake : Bool) : Device :=
  let d := if wake then d.ctrAdd 2 1 else d
  let base := d.kBase
  match d.keep.dep with
  | none => d.kWr (417 * 256 + 8) (leBytes 4 0)
  | some p =>
    let base := if kept then base else p.mark
    let d := d.ctrAdd 0 ((p.seq + 2 ^ 32 - base % 2 ^ 32) % 2 ^ 32)
    let d := if p.kind = 2 && seqNewer p.seq base then d.ctrAdd 1 1 else d
    d.kWr (417 * 256 + 8) (leBytes 4 p.seq)

/-- Everything the recall loads, once the pages are in place. -/
def Device.recallLoad (d : Device) : Device :=
  let d := eachOf (List.range 32) (fun id d =>
    match d.recPlace 2 id with
    | some p => d.recTwin (d.recResolve p id).2.2
    | none => d) d
  let d := (d.recallPasswords.recallRegs).recallLog
  let d := eachOf (List.range 4) (fun p d => d.recallEdid p) d
  let cfg := d.bootWord 28
  let d := if reservedBad GLB_BOOT_CFG cfg then d else d.wr GLB_BOOT_CFG cfg
  let cause := d.kRd (417 * 256)
  ((d.calSync).wr GLB_MODE_CAUSE (cause % 128)).put KEEP_STAT_dep ((d.keep.dep.map (fun p => p.kind)).getD 0)

/-- The recall ends (R411): Keep opens, the counts are made, and the boot goes on, halts, or goes back to DARK (R49). -/
def Device.recallEnd (d : Device) : Device :=
  let kept := d.keep.aoHeld && d.keep.dep.isSome
  let pf := d.keep.dep.any (fun p => p.kind = 2)
  let d : Device := { d.recallPages with keep := { d.recallPages.keep with recalling := false } }
  let d := d.recallLoad
  let d := (d.put KEEP_STAT_clk_lost (b2n d.keep.clkLost)).put KEEP_STAT_state 0
  let cause := d.get GLB_MODE_CAUSE_cause
  let d := d.recallCounts kept (decide (cause < 5))
  match d.trans with
  | some t => if t.phase == .storeWait then d.storeBegin t else d
  | none =>
    if !d.boot.running then d
    else if (d.recBody 0).isNone then d.bootHalt 0x81 0
    else
      let d := d.bootNext 3 []
      if pf && cause = 4 && d.get GLB_WAKE_CFG_supply_en = 0 then
        d.downStart { target := 0, cause := 0xB, master := 2 }
      else (d.bootStart 4).bootShow

/-- KEEP_RECALL_COMPLETE. -/
def execKeepRecallComplete (s : State) : Out :=
  s.run (fun d => if d.power.coreOn && d.keep.recalling && d.get KEEP_STAT_state = 1 then d.recallEnd else d)

end Sys2Proof.Machine
end

