-- ==== Sys2Proof/Machine/Modes.lean ====
section
/-! DEFINITION. The commands of the modes (spec/02_modes.md R32 to R49, R155; spec/20_electrical_package.md R554 to R557): requests, transitions, supplies, wakes, power-fail. -/

namespace Sys2Proof.Machine

/-! ## Requests (R33, R34, R40, R41, R54, R155) -/

/-- The boot is complete and held, or halted where a request for LIVE may repeat a check (R54, R57). -/
def Device.mayLive (d : Device) : Bool :=
  let code := d.get GLB_BOOT_STAT_code
  !d.boot.running && (d.get GLB_BOOT_STAT_done = 1 ||
    (d.get GLB_BOOT_STAT_halted = 1 && (code = 0x87 || code = 0x89) && d.hv.dis == .idle))

/-- A host request for mode `t` is among the transitions of R33; values 6 and 7 are left to the range check. -/
def Device.modePermits (d : Device) (t : Nat) : Bool :=
  let mode := d.mode
  match t with
  | 0 => mode ≠ 0
  | 1 => mode ≠ 0
  | 2 => mode = 3 || mode = 4 || (mode = 1 && d.mayLive)
  | 3 => mode = 2
  | 4 => (mode = 2 || (mode = 1 && !d.boot.running && d.get GLB_BOOT_STAT_done = 1)) && d.senseRoles
  | 5 => false
  | _ => true

/-- The start of a transition from TADPOLE to LIVE or LOUPE (R155): untrained lanes are trained, then scan-out starts. -/
def Device.scanBegin (d : Device) : Device :=
  let todo := d.claimedLanes.filter (fun n => !d.laneTrained n)
  let d : Device := { d with link := { d.link with inTrans := true, failed := [] } }
  (eachOf todo (fun n d => d.trainStart n true false true) d).scanJoin

/-- A request out of LOUPE discards the rest of the measurement (R41). -/
def Device.loupeDrop (d : Device) : Device :=
  if d.mode ≠ 4 then d else
    { d with srv := { d.srv with ops := d.srv.ops.filter (fun (o : SenseOp) => !o.loupe), sums := [],
                                 loupeNext := d.sweepOps * (d.get SRV_SENSE_repeat + 1) } }

/-- An accepted request of master `m` for mode `t` begins. -/
def Device.modeBegin (d : Device) (t m : Nat) : Device :=
  let cause := reqCause m
  if t = 0 then d.downStart { target := 0, cause := cause, master := m }
  else if t = 1 ∧ d.mode ≠ 4 then d.downStart { target := 1, cause := cause, master := m, restart := true }
  else
    let d : Device := { d with trans := some { target := t, cause := cause, master := m } }
    let d := ((d.put GLB_MODE_STAT_busy 1).put GLB_MODE_STAT_target t).loupeDrop
    let d : Device := if t = 3 then { d with dprx := (List.range 4).foldl (fun l p =>
        Sparse.set (fun _ => {}) l p { Sparse.get (fun _ => ({} : PortX)) l p with writing := false }) d.dprx } else d
    if d.mode ≠ 1 then d
    else if d.get GLB_BOOT_STAT_halted = 1 then d.bootRepeat
    else d.scanBegin

/-- A write of GLB_MODE_REQ (R33, R34, R364, R375). -/
def Device.modeReq (d : Device) (m v : Nat) : Device :=
  let t := v % 8
  d.guarded m GLB_MODE_REQ
    [(!among m 0x387, ePerm), (!d.modePermits t, eState), (decide (5 < t) || reservedBad GLB_MODE_REQ v, eRange),
     (t = 4 && !d.actView.levelsFit (d.get SRV_SENSE_levels), eRange), (d.get GLB_MODE_STAT_busy = 1, eBusy)]
    (fun d => ((d.put GLB_MODE_REQ_target t).put GLB_MODE_STAT_aborted 0).modeBegin t m)

/-- MODE_REQ_DARK. -/
def execModeReqDark (m : Master) (s : State) : Out := s.run (fun d => d.modeReq m 0)

/-- MODE_REQ_TADPOLE. -/
def execModeReqTadpole (m : Master) (s : State) : Out := s.run (fun d => d.modeReq m 1)

/-- MODE_REQ_LIVE. -/
def execModeReqLive (m : Master) (s : State) : Out := s.run (fun d => d.modeReq m 2)

/-- MODE_REQ_GECKO. -/
def execModeReqGecko (m : Master) (s : State) : Out := s.run (fun d => d.modeReq m 3)

/-- MODE_REQ_LOUPE. -/
def execModeReqLoupe (m : Master) (s : State) : Out := s.run (fun d => d.modeReq m 4)

/-! ## Effects at a vertical swap point (R36, R38, R41, R43, R549) -/

/-- What entering LIVE from mode `prev` adds. -/
def Device.enterLive (d : Device) (prev : Nat) : Device :=
  let d := if (prev = 1 ∨ prev = 4) ∧ d.rd GLB_BOOT_TIME = 0 then d.wr GLB_BOOT_TIME ((d.us - d.boot.resetUs) % 2 ^ 32) else d
  if prev = 5 then
    let d := (d.newtAccount.tilesEmpty).grow 32 1
    ({ d with flt := { d.flt with regenUs := some d.us, step := 0, first := false } }).put FLT_STAT_engine 0
  else if prev = 3 then
    if d.getF TMG_CTRL_src = 0 then d.put TMG_STAT_raster 1
    else { d with ras := { d.ras with wait := .input } }
  else d.rasterSrc

/-- What entering LOUPE from mode `prev` adds (R41, R244, R291). -/
def Device.enterLoupe (d : Device) (prev : Nat) : Device :=
  let d := (d.tilesFinal.rampEnd).put SRV_STAT_loupe 1
  ({ d with loupeFrom := prev, srv := { d.srv with loupeNext := 0, sums := [] } }).rasterSrc

/-- Lanes that failed during the transition raise their faults in the new mode (R155, R335). -/
def Device.failedLanes (d : Device) : Device :=
  let l := d.link.failed
  let d : Device := { d with link := { d.link with inTrans := false, failed := [] } }
  eachOf l (fun n d => d.raiseCode 0x23 (n / 8) n) d

/-- A transition takes effect. -/
def Device.modeEffect (d : Device) (t : Trans) : Device :=
  let prev := d.mode
  let d := (d.swapDiscard).leaveTadpole
  let d := if prev = 4 then d.surveyAbandon else d
  let d := ({ d with trans := none }).setMode t.target t.cause
  let d := if t.target = 2 then d.enterLive prev
    else if t.target = 3 then ({ d with ras := { d.ras with wait := .no } }).put TMG_STAT_raster 3
    else if t.target = 4 then d.enterLoupe prev
    else (d.put GLB_BOOT_STAT_code 0x0C).segCode 1 0x0C
  d.failedLanes

/-- The transition in progress may take effect: a vertical swap point has passed, no swap is taking effect, and nothing it waits for is left. -/
def Device.transDue (d : Device) : Option Trans :=
  match d.trans with
  | some t =>
    if t.phase == .swapPoint && d.power.coreOn && !d.rasterStopped && d.ras.vsp && !d.swap.window && !d.boot.running &&
      (d.mode ≠ 1 || d.lanesSettled) then some t else none
  | none => none

/-- MODE_TRANSITION_EFFECT: a request, Panel Replay or a regeneration takes effect. -/
def execModeTransitionEffect (s : State) : Out :=
  s.run (fun d => match d.transDue with
    | some t => if t.cause = 7 ∨ t.cause = 9 then d else d.modeEffect t
    | none => d)

/-- LOUPE_RETURN: the planner has ended the survey (R291). -/
def execLoupeReturn (s : State) : Out :=
  s.run (fun d => match d.transDue with
    | some t => if t.cause = 9 then (d.modeEffect t).put SRV_IRQ_loupe 1 else d
    | none => d)

/-- BOOT_ENTER_LIVE (R57). -/
def execBootEnterLive (s : State) : Out :=
  s.run (fun d => match d.transDue with
    | some t => if t.cause = 7 then d.modeEffect t else d
    | none => d)

/-! ## Supplies, wakes and resets (R44 to R49, R412, R432, R554 to R556) -/

/-- The cause at an application of supplies (R412). -/
def Device.supplyCause (d : Device) : Nat :=
  match d.keep.dep with
  | none => 0
  | some p => if p.kind = 0 then 0 else if p.kind = 1 ∧ d.keep.aoHeld then d.power.wake.cause.getD 4 else 4

/-- The always-on island wakes the device: after a loss of VDD_AO the Keep clock resumes first (R432). -/
def Device.islandWake (d : Device) (cause : Nat) : Device :=
  let d : Device := if d.keep.aoHeld then d else
    { d.wr KEEP_CLK ((d.keep.dep.map (fun p => p.clock)).getD 0) with keep := { d.keep with clkLost := true } }
  d.wakeUp cause

/-- A wake source fires while no core die runs: it wakes, or is latched during the minimum low time of PWRUP_EN. -/
def Device.wakeBy (d : Device) (latch : WakeLatch → WakeLatch) (cause : Nat) : Device :=
  if d.power.hold10 then { d with power := { d.power with wake := latch d.power.wake } }
  else if d.power.pwrupEn then d
  else d.islandWake cause

/-- A DARK entry has been accepted and the core die still runs (R45). -/
def Device.darkEntry (d : Device) : Bool := d.power.coreOn && (d.mode = 0 || d.trans.any (fun t => t.target = 0))

/-- SUPPLY_APPLIED (R49). -/
def execSupplyApplied (s : State) : Out :=
  s.run (fun d =>
    if d.power.coreOn then d else
      let d : Device := { d with power := { d.power with sysRst := false } }
      d.wakeBy (fun w => { w with supply := true }) d.supplyCause)

/-- The core die leaves reset with the cause of page 417 (R36, R412, R554). -/
def Device.coreStart (d : Device) : Device := d.tadpole false (d.kRd (417 * 256) % 128)

/-- SYS_RST_RELEASE: the core die leaves reset once its supplies are good, or the release wakes the device (R554, R556). -/
def execSysRstRelease (s : State) : Out :=
  s.run (fun d =>
    if !d.power.sysRst then d else
      let d : Device := { d with power := { d.power with sysRst := false } }
      if d.power.coreOn then { d with power := { d.power with wake := { d.power.wake with supply := true } } }
      else if d.power.pwrupEn then (if d.power.coreGood then d.coreStart else d)
      else d.wakeBy (fun w => { w with supply := true }) d.supplyCause)

/-- SYS_RST_ASSERT: SYS_RST_N low beyond its filter is a power-fail while the core die runs (R556). -/
def execSysRstAssert (vkeep : Bool) (s : State) : Out :=
  s.run (fun d =>
    let d : Device := { d with power := { d.power with sysRst := true } }
    if d.power.coreOn then d.powerFail vkeep else d)

/-- POWER_FAIL: a monitor of R557 reports its supply below the threshold. -/
def execPowerFail (_src : PfSupply) (vkeep : Bool) (s : State) : Out :=
  s.run (fun d => if d.power.coreOn then d.powerFail vkeep else d)

/-- The filter time of an encoding in nanoseconds (R47). -/
def filterNs (f : Nat) : Nat := [20, 50, 100, 200, 500, 1000, 2000].getD f 2000

/-- WAKE_PIN: a low level of `ns` nanoseconds on WAKE0_N or WAKE1_N (R45, R47). -/
def execWakePin (pin : Fin 2) (ns : Nat) (s : State) : Out :=
  s.run (fun d =>
    let cfg := if d.power.coreOn then d.rd GLB_WAKE_CFG else d.power.aoWakeCfg
    let latch (w : WakeLatch) : WakeLatch := if pin.val = 0 then { w with pin0 := true } else { w with pin1 := true }
    if !cfg.testBit pin || ns ≤ filterNs (bitsOf cfg 10 8) then d
    else if d.darkEntry then { d with power := { d.power with wake := latch d.power.wake } }
    else if d.power.coreOn then d
    else d.wakeBy latch (1 + pin.val))

/-- WAKE_ALARM: the Keep clock is at or past the alarm time, with the alarm enabled. -/
def execWakeAlarm (s : State) : Out :=
  s.run (fun d =>
    let cfg := if d.power.coreOn then d.rd GLB_WAKE_CFG else d.power.aoWakeCfg
    let alarm := if d.power.coreOn then d.rd GLB_WAKE_ALARM else d.power.aoWakeAlarm
    if !cfg.testBit 2 || decide (d.rd KEEP_CLK < alarm) then d
    else if d.darkEntry then { d with power := { d.power with wake := { d.power.wake with alarm := true } } }
    else if d.power.coreOn then d
    else d.wakeBy (fun w => { w with alarm := true }) 3)

/-- PWRUP_HOLD_EXPIRE: the minimum low time ends, and a latched event wakes the device (R45). -/
def execPwrupHoldExpire (s : State) : Out :=
  s.run (fun d =>
    if !d.power.hold10 then d else
      let d : Device := { d with power := { d.power with hold10 := false } }
      match d.power.wake.cause with
      | none => d
      | some c => d.islandWake (if c = 4 then d.supplyCause else c))

/-- CORE_SUPPLIES_GOOD: the four supplies of the core die have been good for 100 us (R554). -/
def execCoreSuppliesGood (s : State) : Out :=
  s.run (fun d =>
    if !d.power.pwrupEn || d.power.coreOn then d else
      let d : Device := { d with power := { d.power with coreGood := true } }
      if d.power.sysRst then d else d.coreStart)

/-- VDD_AO_LOSS: the volatile store and the island's state are lost, and a running core die with them (R411, R412). -/
def execVddAoLoss (s : State) : Out :=
  s.run (fun d =>
    let d : Device := { d with trans := none, keep := { d.keep with store := none } }
    let d := if d.power.coreOn then (d.setMode 0 0xB).darkOff else d
    let d := d.wr KEEP_CLK 0
    { d with keep := { d.keep with vol := [], pwVol := none, dirty := 0, aoHeld := false },
             power := { d.power with wake := {}, pwrupEn := false, hold10 := false, coreGood := false, aoWakeCfg := 0, aoWakeAlarm := 0 } })

/-- K_REGISTER_SAVE: running firmware saves the accepted writes of K registers (R48, R138, R374). -/
def execKRegisterSave (s : State) : Out :=
  s.run (fun d => if d.power.coreOn && (d.rd GLB_BOOT_STEPS).testBit 6 then d.kSaveRegs else d)

end Sys2Proof.Machine
end

