-- ==== Sys2Proof/Machine/RegRead.lean ====
section
/-! DEFINITION. Reading a register (R7, R9-R12): values that are computed or banked, reads with an effect, and reads that a master may not make. -/

namespace Sys2Proof.Machine

/-- The registers banked per master whose copy is a word of its own (R545). -/
def bankedRegs : List Nat :=
  [ERR_CTRL, KEEP_PTR, KEEP_AUTH, KEEP_CTR_SEL, KEEP_REC_PG, KEEP_CTR_HI] ++ (List.range 5).map KEEP_LOG_DATA ++
  [LAY_PAL_IDX, LAY_BUF_RES, LAY_BUF_ADDR, FAB_ACT_ADDR, FAB_OWN_QUERY, FAB_POOL_CLAIM, TRN_KNOT_SEL, TRN_TQ_SEL,
   SRV_CAL_CNT_HI, CLK_MON_SEL, CLK_EYE_SEL]

/-- FLT_LATE_SUM (R518). -/
def Device.lateSum (d : Device) : Nat :=
  let any (reg : Nat → Nat) (n mask : Nat) : Bool := (List.range n).any (fun i => d.rd (reg i) &&& mask ≠ 0)
  let bits : List Bool :=
    [any DPRX_LATE 4 1, d.rd TMG_LATE ≠ 0, d.rd FAB_LATE ≠ 0, d.rd TRN_LATE ≠ 0, d.rd SRV_LATE ≠ 0, any ACL_LANE_LATE 96 7,
     d.rd HVP_LATE ≠ 0, d.rd KEEP_LATE ≠ 0, any MB_EVT 64 0x700, d.rd CORE_LATE ≠ 0, d.get HIF_XSPI_STAT_late = 1,
     (List.range 2).any (fun i => d.get (HIF_I2C_STAT_late i) = 1), d.rd FLT_LATE ≠ 0]
  ((List.range 13).map (fun i => b2n (bits.getD i false) * 2 ^ i)).sum

/-- FAB_POOL_STAT: units that nobody owns, and units that the active image claims. -/
def Device.poolStat (d : Device) : Nat :=
  let free := ((List.range 512).filter (fun i => (d.owner 4 i).isNone)).length
  let image := ((List.range 512).filter (fun i => (d.act.claimOn 4 i).isSome)).length
  free + image * 0x10000

/-- CLK_MON_DATA of a monitor: its reading, and 1 in bit 16 for a critical path (R534). -/
def Device.monData (d : Device) (i : Nat) : Nat := d.clk.mon.getD i 0 % 65536 + b2n (decide (62 ≤ i)) * 0x10000

/-- What a read of the register at `off` by master `m` returns, without its effect. Write-only fields read 0. -/
def Device.value (d : Device) (m off : Nat) : Nat :=
  match regAt off with
  | none => 0
  | some (r, i, _) =>
    if bankedRegs.contains off then d.rdB m off
    else if off = ERR_CODE then d.rd (ERR_VIEW_CODE m)
    else if off = ERR_ADDR then d.rd (ERR_VIEW_ADDR m)
    else if off = LAY_PAL_DATA0 ∨ off = LAY_PAL_DATA1 then d.palRead m (off = LAY_PAL_DATA1)
    else if off = FAB_OWN_RESULT then d.ownResult (d.rdB m FAB_OWN_QUERY)
    else if off = FAB_POOL_STAT then d.poolStat
    else if off = TRN_KNOT_DATA then Sparse.get (fun _ => 0) d.trn.knots (knotOfSel (d.rdB m TRN_KNOT_SEL))
    else if off = TRN_TSTAT then d.gridStat
    else if r.off = TRN_TQ_DATA 0 then d.tileWord (d.rdB m TRN_TQ_SEL) i
    else if off = MBX_DB_SELF then d.rd (MBX_DB_STAT m)
    else if off = MBX_DB_MASK_SELF then d.rd (MBX_DB_MASK m)
    else if off = CORE_MTIME_HI then Sparse.get (fun _ => 0) d.ik.mtimeHi m
    else if off = FLT_LATE_SUM then d.lateSum
    else if off = CLK_MON_DATA then d.monData (d.rdB m CLK_MON_SEL)
    else maskOut 32 (d.rd off) r.wo

/-- Master `m` may not read the register at `off` (R459, R462, R480, R487). -/
def readShut (m off base : Nat) : Bool :=
  if base = ERR_VIEW_CODE 0 ∨ base = ERR_VIEW_ADDR 0 ∨ base = ERR_CNT 0 ∨ base = MBX_DB_STAT 0 ∨ base = MBX_DB_MASK 0 then !among m 0x4005
  else if off = MBX_DB_SELF ∨ off = MBX_DB_MASK_SELF then decide (9 < m)
  else if base = MBX_LOCK_PEEK 0 then !among m 0x43FF
  else m = 1 && decide (0x1A8000 ≤ off ∧ off < 0x1AA000)

/-- A plain read: the value is returned, and read-clear fields are cleared (R7). -/
def Device.readPlain (d : Device) (m off : Nat) (r : RegRow) : Device :=
  if readShut m off r.off then (d.reply m 0).reject m off ePerm
  else
    let d := d.reply m (d.value m off)
    if r.rc = 0 then d else d.wr off (maskOut 32 (d.rd off) r.rc)

/-- Run a command of its own on the device alone. -/
def Device.via (d : Device) (f : State → Out) : Device :=
  match f { toDevice := d, pending := [] } with
  | .next s => s.toDevice
  | _ => d

/-- A read of any register but FAB_ACT_DATA, on the die that holds it. -/
def Device.readDirect (d : Device) (m : Master) (off : Nat) : Device :=
  match regAt off with
  | none => (d.reply m 0).reject m off eUnimpl
  | some (r, i, _) =>
    if r.off = MB_RX 0 then d.mbRecv m i
    else if r.off = MBX_LOCK 0 then d.lockRead i [m.val]
    else if off = CORE_MTIME_LO then d.mtimeRead m
    else if off = KEEP_DATA then d.via (execKeepDataRead m)
    else if off = KEEP_CTR_LO then d.via (execCounterRead m)
    else if off = SRV_CAL_CNT_LO then (d.reply m (d.rd off)).wrB m SRV_CAL_CNT_HI (d.rd SRV_CAL_CNT_HI)
    else d.readPlain m off r

/-- A read of FAB_ACT_DATA: the active copy of a register with MS fields; of another one, what a direct read does (R82). -/
def Device.readActive (d : Device) (m : Master) : Device :=
  let off := d.rdB m FAB_ACT_ADDR
  if onHvDie off && d.bridge.lost && (regAt off).isSome then (d.reply m 0xFFFFFFFF).reject m off eState
  else if isMirror off then d.reply m (d.activeCopy off) else d.readDirect m off

/-- A read of a register of either die, which has reached it. -/
def Device.readAt (d : Device) (m : Master) (off : Nat) : Device :=
  if off = FAB_ACT_DATA then d.readActive m else d.readDirect m off

end Sys2Proof.Machine
end

