-- ==== Sys2Proof/Machine/RegWrite.lean ====
section
/-! DEFINITION. Writing a register (R7-R10, R14, R545): who may write it, what its state refuses, the commands that registers carry, and what a plain write stores. -/

namespace Sys2Proof.Machine

/-! ## Who may write (R109, R163, R185, R221, R247, R270, R302, R341, R366, R372, R401, R403, R434, R449, R496, R521, R540) -/

/-- The writers of a HIF register (R496). -/
def hifWriters (off : Nat) : Nat :=
  if off = HIF_SP_CFG ∨ off = HIF_SP_IRQ_EN then 0x7
  else if off = HIF_XSPI_CFG then 0x5
  else if 0x1A0044 ≤ off ∧ off < 0x1A00A0 then mFlash
  else if 0x1A00C0 ≤ off ∧ off < 0x1A0100 then mI2c
  else if oneOf HIF_NTC_CFG 4 off then 0x25
  else if 0x1A8000 ≤ off then 0x1
  else mGpio

/-- The writers of a CORE register of instance `k` whose first instance is `base` (R446, R449). -/
def coreWriters (off base k : Nat) : Nat :=
  if base = CORE_WDOG 0 then (if isWalern k then 0 else 0x7) ||| 2 ^ (2 + k)
  else if base = CORE_FSWIN 0 ∨ base = CORE_MTIMECMP_LO 0 ∨ base = CORE_MTIMECMP_HI 0 then 2 ^ (2 + k)
  else if off = CORE_IRQ ∨ off = CORE_IRQ_EN then 0x5
  else 0x7FFF

/-- The masters that may write the register at `off` by its chapter; every master where no rule names the writers. -/
def writersOf (off base i : Nat) : Nat :=
  match off / 0x10000 with
  | 2 | 3 | 4 | 14 => mLinks
  | 5 => mFabric
  | 6 => mSide
  | 8 => if off = FAB_ACT_ADDR ∨ off = FAB_OWN_QUERY ∨ off = FAB_ACT_DATA ∨ off = FAB_LATE then 0x7FFF else mFabric
  | 10 =>
    if off = TRN_KICK_RANGE then mKick else if off = TRN_TCFG then 0x5 else if off = TRN_TQ_SEL then 0x43FF
    else if off = TRN_IRQ ∨ off = TRN_LATE then 0x7FFF else mFabric
  | 11 => mFabric
  | 12 => mSurvey
  | 16 => mHv
  | 17 => mSide
  | 18 => if off = MEM_GLASS ∨ off = MEM_WIN_WP ∨ off = MEM_ECC_LIM ∨ off = MEM_SCRUB then 0x5 else mFabric
  | 20 => mKeepRead
  | 21 => if off = MBX_CFG ∨ off = MB_XWAIT_TIME ∨ off = MB_ACK_TIME then 0x5 else 0x7FFF
  | 22 => coreWriters off base i
  | 23 => mSide
  | 24 => 0x5
  | 25 => if off = CLK_IRQ ∨ off = CLK_IRQ_EN then mFabric else if off = CLK_MON_SEL then 0x4015 else 0x5
  | 26 => hifWriters off
  | _ => 0x7FFF

/-! ## What a write is refused for by the state (R12, R81, R126, R157, R205, R241, R270, R302, R366, R375, R396, R419, R444) -/

/-- The registers whose reset value is K and which a write may change (R12, R419). -/
def isK (off base : Nat) : Bool :=
  recordRegs.contains off || off = GLB_BOOT_CFG || base = DPRX_EDID_LEN 0 || base = DPRX_EDID 0 0

/-- A GECKO total that R157 refuses: below TMG_VTOTAL, below 24 Hz, or against R25. -/
def Device.geckoBad (d : Device) (v : Nat) : Bool :=
  v ≠ 0 && (decide (v < d.get TMG_VTOTAL_lines) ||
    decide (d.getF TMG_PCLK_rate * 10000 < 24 * d.get TMG_HTOTAL_width * v) || !d.actView.meetsR25 d.limitStep)

/-- The five diffusion weights would pass 256, with the values in force or those awaiting their swap point (R270). -/
def Device.diffBad (d : Device) (off v : Nat) : Bool :=
  let sum (w0 w1 : Nat) : Nat := ((List.range 4).map (fun j => bitsOf w0 (8 * j + 7) (8 * j))).sum + bitsOf w1 7 0
  if off = CMP_DITH_W0 then decide (256 < sum v (d.rd CMP_DITH_W1)) || decide (256 < sum v (d.rdF CMP_DITH_W1))
  else if off = CMP_DITH_W1 then decide (256 < sum (d.rd CMP_DITH_W0) v) || decide (256 < sum (d.rdF CMP_DITH_W0) v)
  else false

/-- Error diffusion needs pool units in every dither facet (R205). -/
def Device.diffNoPool (d : Device) : Bool := d.act.stripes.any (fun s => s.slots.any (fun c => c.kind = 10 && c.pool = 0))

/-- A bank that the fabric or the transition engine uses. -/
def Device.fabricBank (d : Device) (i : Nat) : Bool :=
  let u := d.get (MEM_BANK_INFO_use i)
  decide (4 ≤ u ∧ u ≤ 7) || decide (9 ≤ u ∧ u ≤ 12)

/-- A bank that R388 or R389 pins. -/
def Device.pinHeld (d : Device) (i : Nat) : Bool :=
  firstPinned i || (decide (64 ≤ i ∧ i < 368) && d.fabricBank i && d.get (MEM_BANK_INFO_pinned i) = 1)

/-- What stops a MEM_BANK_CFG write (R396). -/
def Device.bankChecks (d : Device) (m i v : Nat) : List (Bool × Nat) :=
  let ret := v.testBit 0
  let pin := v.testBit 1
  let rel := v.testBit 2
  [(!(among m 0x5 || (among m mIntegrator && (d.bankMaster i).isSome)), ePerm), (d.pinHeld i && !pin, eLocked),
   (rel && pin, eState), (ret && (pin || d.fabricBank i), eBusy),
   (!rel && d.get (MEM_BANK_CFG_release i) = 1 && d.underDestroy i, eBusy)]

/-- What stops an HVP write by the state of the sequence (R366). -/
def Device.hvpChecks (d : Device) (off v : Nat) : List (Bool × Nat) :=
  let s := d.get HVP_STAT_state
  let psm := oneOf HVP_PSM_CFG 4 off
  let seq : Bool := off = HVP_SEQ_CFG
  [((seq || oneOf HVP_SEQ_DLY 8 off || oneOf HVP_RAIL 4 off || psm) && s ≠ 0 && s ≠ 3, eBusy),
   (s = 3 && (psm || (seq && bitsOf v HVP_SEQ_CFG_en.hi HVP_SEQ_CFG_en.lo ≠ d.get HVP_SEQ_CFG_en)), eBusy),
   (oneOf HVP_RAIL 4 off && d.breaksLive off v, eRange)]

/-- What stops a write by the state of its unit. -/
def Device.stateChecks (d : Device) (m off v base i : Nat) : List (Bool × Nat) :=
  if base = DPRX_EDID_LEN 0 ∨ base = DPRX_EDID 0 0 then [((d.portX i).commit.isSome, eBusy)]
  else if off = TMG_GECKO then [(d.geckoBad v, eRange)]
  else if off = FAB_SWAP_ARM then [(d.get FAB_SWAP_STAT_pending = 1, eBusy)]
  else if off = FAB_ACT_DATA then [(true, eState)]
  else if off = FAB_ACT_ADDR then [(v = FAB_ACT_DATA, eRange)]
  else if off = FAB_OWN_QUERY then [(decide (classSize (bitsOf v 23 16) ≤ bitsOf v 9 0), eRange)]
  else if off = TRN_FREEZE ∨ base = TRN_BAND 0 then [(d.trnBad off v, eRange)]
  else if base = CMP_DEF_W 0 then [(decide (256 < bitsOf v 7 0 + bitsOf v 15 8 + bitsOf v 23 16), eRange)]
  else if off = CMP_DITH_W0 ∨ off = CMP_DITH_W1 then [(d.diffBad off v, eRange)]
  else if off = CMP_DITH then [(v.testBit 4 && d.diffNoPool, eState)]
  else if off = SRV_SENSE ∨ off = SRV_SENSE_T ∨ base = SRV_LVL 0 then
    [(d.getF SRV_CTRL_en = 1 || d.get SRV_CTRL_en = 1 || d.get SRV_STAT_loupe = 1, eBusy),
     (off = SRV_SENSE && !d.actView.levelsFit (bitsOf v SRV_SENSE_levels.hi SRV_SENSE_levels.lo), eRange)]
  else if off / 0x10000 = 16 then d.hvpChecks off v
  else if base = MEM_BANK_CFG 0 then d.bankChecks m i v
  else if off = FAB_IMG_ADDR then [(v % 64 ≠ 0, eAlign)]
  else if off = FAB_IMG_LEN then [(decide (6291456 < v), eRange)]
  else if off = KEEP_PTR then [(v.testBit 18, eRange)]
  else if off = MBX_CFG then [(v % 2 = 0 && d.get MBX_CFG_lock = 1, eLocked)]
  else if base = MB_EVT 0 then [((d.mbEnd i m).isNone, ePerm)]
  else if off = MBX_DB_SELF ∨ off = MBX_DB_MASK_SELF then [(decide (9 < m), ePerm)]
  else if base = CORE_BOOT 0 then [(!isWalern i && !among m 0x7, ePerm), (isWalern i || d.coreState i ≠ 0, eState)]
  else if off = CLK_MON_SEL then [(decide (215 < bitsOf v 7 0), eRange)]
  else if off = ERR_CTRL then [(v.testBit 0 && 1 < m, eState)]
  else []

/-! ## Commands that registers carry -/

/-- HVP_CMD (R366). -/
def Device.hvpCmd (d : Device) (m : Master) (v : Nat) : Device :=
  match v % 4 with
  | 0 => d.hvGuarded m HVP_CMD [(!among m mHv, ePerm)] (fun d => d)
  | 1 => d.via (execPowerUp m)
  | 2 => d.via (execDischarge m)
  | _ => d.hvGuarded m HVP_CMD [(!among m mHv, ePerm), (true, eRange)] (fun d => d)

/-- ACL_CMD (R341): op, lane, return lane and spare; a lane or return lane that does not exist is out of range. -/
def Device.aclCmd (d : Device) (m : Master) (v : Nat) : Device :=
  let op := bitsOf v 2 0
  let lane := bitsOf v 14 8
  let n : Lane := Fin.ofNat 96 lane
  let bad : Bool := (op ≠ 0 && op ≠ 5 && op ≠ 7 && 95 < lane) || (op = 5 && 23 < bitsOf v 20 16)
  if bad then d.guarded m ACL_CMD (d.aclChecks m ++ [(true, eRange)]) (fun d => d)
  else match op with
    | 1 => d.via (execLaneFullTrain m n)
    | 2 => d.via (execLaneFastRetrain m n)
    | 3 => d.via (execSparePlannedMove m n (Fin.ofNat 4 (bitsOf v 25 24)))
    | 4 => d.via (execSparePlannedReturn m n)
    | 5 => d.via (execReturnLaneRegrant m (Fin.ofNat 24 (bitsOf v 20 16)))
    | 6 => d.via (execLaneOff m n)
    | 7 => d.via (execTrainAllLanes m)
    | _ => d.guarded m ACL_CMD [(!among m mLink, ePerm)] (fun d => d)

/-- MEM_MARCH_CMD (R401). -/
def Device.marchCmd (d : Device) (m : Master) (v : Nat) : Device :=
  match v % 4 with
  | 0 => d.guarded m MEM_MARCH_CMD [(!among m 0x385, ePerm)] (fun d => d)
  | 1 => d.via (execMarchPreserving m)
  | 2 => d.via (execMarchDestroying m)
  | _ => d.via (execMarchAbort m)

/-- KEEP_CMD (R433). -/
def Device.keepCmd (d : Device) (m : Master) (v : Nat) : Device :=
  let j : Fin 16 := Fin.ofNat 16 (bitsOf v 11 8)
  match v % 8 with
  | 0 => d.hvGuarded m KEEP_CMD (d.keepCmdChecks m) (fun d => d)
  | 1 => d.via (execKeepStoreCmd m)
  | 2 => d.via (execKeepUnlock m j)
  | 3 => d.via (execKeepLock m j)
  | 4 => d.via (execKeepSetPassword m j)
  | 5 => d.via (execKeepLockAll m)
  | 6 => d.via (execKeepStageRelease m)
  | _ => d.hvGuarded m KEEP_CMD (d.keepCmdChecks m ++ [(true, eRange)]) (fun d => d)

/-- KEEP_REC_CMD (R425). -/
def Device.keepRecCmd (d : Device) (m : Master) (v : Nat) : Device :=
  let id := bitsOf v 15 8
  let who := bitsOf v 19 16
  match v % 4 with
  | 0 => d.hvGuarded m KEEP_REC_CMD [(!among m 0x53FF, ePerm)] (fun d => d)
  | 1 => d.via (execRecordResolve m id (v.testBit 20) who)
  | 2 => d.via (execRecordCommit m id (bitsOf v 31 21) (v.testBit 20) who)
  | _ => d.hvGuarded m KEEP_REC_CMD (d.recChecks m 3 id (bitsOf v 31 21) (v.testBit 20) who) (fun d => d)

/-- KEEP_CTR_CMD (R427). -/
def Device.keepCtrCmd (d : Device) (m : Master) (v : Nat) : Device :=
  match v % 4 with
  | 0 => d.hvGuarded m KEEP_CTR_CMD [(!among m mKeepRead, ePerm)] (fun d => d)
  | 1 => d.via (execCounterAdd m (bitsOf v 31 8))
  | 2 => d.via (execCounterClear m)
  | _ => d.hvGuarded m KEEP_CTR_CMD [(!mayCount m (d.ctrSel m), ePerm), (d.kClosed, eState), (true, eRange)] (fun d => d)

/-- HIF_DMA_CMD (R491). -/
def Device.dmaCmd (d : Device) (m v : Nat) : Device :=
  match v % 4 with
  | 0 => d.guarded m HIF_DMA_CMD [(!among m mFlash, ePerm)] (fun d => d)
  | 1 => d.dmaStart m (bitsOf v 5 4) (bitsOf v 9 8)
  | 2 => d.dmaAbort m
  | _ => d.guarded m HIF_DMA_CMD [(!among m mFlash, ePerm), (true, eRange)] (fun d => d)

/-- MB_CHAN is written through its own command (R450); bit 0 of the other one-bit commands starts nothing when 0. -/
def Device.bitCmd (d : Device) (m off v mask : Nat) (f : Device → Device) : Device :=
  if v.testBit 0 then f d else d.guarded m off [(!among m mask, ePerm)] (fun d => d)

/-- Registers of the display side that carry a command or a rule of their own. -/
def Device.writeFront (m : Master) (off v base i : Nat) : Option (Device → Device) :=
  if off = GLB_MODE_REQ then some (fun d => d.modeReq m v)
  else if off = ERR_CLR then some (fun d => d.errClear m v)
  else if base = DPRX_CTRL 0 then some (fun d => d.dprxCtrl m i v)
  else if base = DPRX_EDID_CMD 0 then some (fun d => d.bitCmd m off v mLinks (fun d => d.edidCommit m i))
  else if off = TAP_CTRL then some (fun d => d.tapCtrl m v)
  else if off = TAP_AUX_CMD then some (fun d => d.auxCmd m v)
  else if off = TAP_LOOP then some (fun d => d.tapLoop m v [])
  else if off = TMG_SCAN then some (fun d => d.scanWrite m v)
  else if off = TMG_TEST then some (fun d => d.testWrite m v)
  else if classOf off == .live then some (fun d => d.liveWrite m off v)
  else if isMirror off then some (fun d => d.msWrite m off v)
  else if base = LAY_SRC 0 then some (fun d => d.laySrc m i v)
  else if off = LAY_BUF_CMD then some (fun d => d.layBufCmd m v)
  else if off = FAB_IMG_CMD then some (fun d => d.imgCmd m (v % 4))
  else if off = FAB_SWAP_CTRL then some (fun d => d.swapCtrl m v)
  else if off = FAB_POOL_CLAIM then some (fun d => d.poolWrite m v)
  else if off = TRN_KNOT_DATA then some (fun d => d.knotWrite m v)
  else if base = TRN_TGRID 0 then some (fun d => d.gridWrite m i v)
  else if off = TRN_KICK_CMD then some (fun d => d.kickCmd m v)
  else if off = CMP_MAP_CMD then some (fun d => d.mapCmd m v)
  else if off = SRV_CTRL then some (fun d => d.srvCtrl m v)
  else if off = SRV_CMD then some (fun d => d.srvCmd m v)
  else if base = CHK_CTRL 0 then some (fun d => d.chkCtrl m i v)
  else if base = CHK_RECT_X 0 then some (fun d => d.chkRect m off v d.hact)
  else if base = CHK_RECT_Y 0 then some (fun d => d.chkRect m off v d.vact)
  else none

/-- The other registers that carry a command or a rule of their own. -/
def Device.writeBack (m : Master) (off v base i : Nat) : Option (Device → Device) :=
  if off = ACL_CMD then some (fun d => d.aclCmd m v)
  else if off = ACL_CP_CMD then some (fun d => d.bitCmd m off v mLink (fun d => d.via (execIntegratorPacketSend m)))
  else if off = HVP_CMD then some (fun d => d.hvpCmd m v)
  else if off = SEG_CFG then some (fun d => d.segCfg m v)
  else if off = MEM_MARCH_CMD then some (fun d => d.marchCmd m v)
  else if off = KEEP_CMD then some (fun d => d.keepCmd m v)
  else if off = KEEP_PW then some (fun d => d.via (execKeepPasswordWord m v))
  else if off = KEEP_DATA then some (fun d => d.via (execKeepDataWrite m v))
  else if off = KEEP_REC_CMD then some (fun d => d.keepRecCmd m v)
  else if off = KEEP_CTR_CMD then some (fun d => d.keepCtrCmd m v)
  else if off = KEEP_LOG_CMD then some (fun d => d.bitCmd m off v mKeepRead (fun d => d.via (execLogAppend m)))
  else if off = KEEP_CLK_SET then some (fun d => d.via (execClockSet m v))
  else if base = KEEP_RGN 0 then some (fun d => d.via (execKeepRegionWrite m (Fin.ofNat 16 i) v))
  else if base = KEEP_STAGE 0 then some (fun d => d.via (execKeepStageWrite m (Fin.ofNat 256 i) v))
  else if base = MB_CHAN 0 then some (fun d => d.via (execChannelBind m (Fin.ofNat 64 i) v))
  else if base = MB_TX 0 then some (fun d => d.mbSend m i v)
  else if off = MBX_DB_RING then some (fun d => d.dbRing m v)
  else if base = MBX_LOCK 0 then some (fun d => d.lockWrite m i v)
  else if off = MBX_LOCK_CLR then some (fun d => d.lockClear m v)
  else if base = CORE_CTRL 0 then some (fun d => d.coreCtrl m i (v.testBit 0) (v.testBit 1))
  else if base = CORE_ALLOC 0 then some (fun d => d.coreAlloc m i (v % 128))
  else if base = CORE_KICK 0 then some (fun d => d.coreKick m i)
  else if off = FLT_RAISE then some (fun d => d.fltRaise m v)
  else if off = CLK_SSC then some (fun d => d.sscWrite m v)
  else if off = CLK_FCLK then some (fun d => d.via (execFclkStepRequest m (Fin.ofNat 4 (v % 4))))
  else if off = CLK_EYE_SEL then some (fun d => d.eyeWrite m v)
  else if off = HIF_XSPI_CMD then some (fun d => d.xspiCmd m (v % 8) (bitsOf v 11 8))
  else if off = HIF_DMA_CMD then some (fun d => d.dmaCmd m v)
  else if base = HIF_I2C_CMD 0 then some (fun d => d.i2cCmd m i v)
  else if off = HIF_GPIO_EN then some (fun d => d.gpioEnable m v)
  else none

/-! ## Plain writes -/

/-- What a plain write leaves: writable bits take the value, write-1-to-clear bits clear, the others stay (R7). -/
def RegRow.written (r : RegRow) (old v : Nat) : Nat := maskOut 32 old (r.rw ||| (v &&& r.w1c)) ||| (v &&& r.rw)

/-- Store a value in its home and follow it in what depends on it. -/
def Device.store (d : Device) (m off v : Nat) (r : RegRow) (i : Nat) : Device :=
  if bankedRegs.contains off then d.wrB m off v
  else if off = MBX_DB_SELF then d.wr (MBX_DB_STAT m) (maskOut 32 (d.rd (MBX_DB_STAT m)) v)
  else if off = MBX_DB_MASK_SELF then d.wr (MBX_DB_MASK m) v
  else
    let new := r.written (d.rd off) v
    if r.cls == .frame then d.wrFrame off new
    else
      let d := if recordRegs.contains off || off = GLB_BOOT_CFG then (d.wr off new).kNote off else d.wr off new
      if off = HVP_FLT then (if d.hv.crackHigh then d.put HVP_FLT_crack 1 else d)
      else if off = LAY_FAULT then d.degrSync
      else if r.off = MEM_BANK_CFG 0 then
        (d.put (MEM_BANK_INFO_pinned i) (d.get (MEM_BANK_CFG_pin i))).put (MEM_BANK_INFO_released i) (d.get (MEM_BANK_CFG_release i))
      else d

/-- The checks of R7 and R8 for a write by master `m`. -/
def Device.writeForm (d : Device) (m off v : Nat) (r : RegRow) : List (Bool × Nat) :=
  [(r.rc ≠ 0 || (r.w1c = 0 && decide ((v &&& r.ro) ≠ (d.value m off &&& r.ro))), ePerm), (maskOut 32 v r.fields ≠ 0, eRange)]

/-- A write of a register that holds no command. -/
def Device.writePlain (d : Device) (m off v : Nat) (r : RegRow) (i : Nat) : Device :=
  let checks := [(!aligned off v, eAlign), (!among m (if r.off = MEM_BANK_CFG 0 then 0x7FFF else writersOf off r.off i), ePerm),
    (isK off r.off && d.kRegShut m, eAuth), (!valueOk off v, eRange)] ++ d.stateChecks m off v r.off i ++ d.writeForm m off v r
  d.guarded m off checks (fun d => d.store m off v r i)

/-- A write whose own checks join those of R7 and R8: the code of least rank is reported (R14). -/
def Device.writeJoined (d : Device) (m off v : Nat) (r : RegRow) (f : Device → Device) : Device :=
  match firstFail (d.writeForm m off v r) with
  | none => f d
  | some c =>
    let e := (f (d.wr (ERR_VIEW_CODE m) 0)).get (ERR_VIEW_CODE_code m)
    if e ≠ 0 ∧ errRank e ≤ errRank c then f d else d.reject m off c

/-- A write that has reached the register's die: R10, then the register's own rule. -/
def Device.writeAt (d : Device) (m : Master) (off v : Nat) : Device :=
  match regAt off with
  | none => d.reject m off eUnimpl
  | some (r, i, _) =>
    match Device.writeFront m off v r.off i, Device.writeBack m off v r.off i with
    | some f, _ => d.writeJoined m off v r f
    | none, some f => d.writeJoined m off v r f
    | none, none => d.writePlain m off v r i

end Sys2Proof.Machine
end

