-- ==== Sys2Proof/Machine/HostBus.lean ====
section
/-! DEFINITION. How accesses reach the registers: the register hub and its posted HV-die writes (R9, R10, R17 to R19), BAR0 requests (R474), the side port's register window (R485, R486) and DBG_ACCESS (R499). -/

namespace Sys2Proof.Machine

/-! ## The hub: single register accesses (R9, R10, R18) -/

/-- A master by its number. -/
def masterOf (m : Nat) : Master := Fin.ofNat 15 m

/-- One HV-die access more is posted, or stalls behind 16 posted ones (R18). -/
def Device.hvPost (d : Device) (m off v : Nat) : Device :=
  if d.bridge.posted.length < 16 ∧ d.bridge.stalled.isEmpty then
    { d with bridge := { d.bridge with posted := d.bridge.posted ++ [{ master := m, off := off, val := v }] } }
  else { d with bridge := { d.bridge with stalled := d.bridge.stalled ++ [{ master := m, off := off, val := some v }] } }

/-- A write of `v` at BAR0 offset `off` with byte enables `be`. -/
def Device.busWrite (d : Device) (m : Master) (off v be : Nat) : Device :=
  if !d.power.coreOn || 0x4000000 ≤ off then d
  else if off % 4 ≠ 0 ∨ be ≠ 15 then d.reject m off eAlign
  else if 0x1000000 ≤ off then d.pondAt m off (some v) .none .ok
  else if (regAt off).isNone then d.reject m off eUnimpl
  else if onHvDie off then (if d.bridge.lost then d.reject m off eState else (d.hvPost m off v).spSync)
  else d.writeAt m off v

/-- An earlier HV-die access of the master, or a full posting queue, holds a read back (R18). -/
def Device.hvHeld (d : Device) (m : Nat) : Bool :=
  decide (16 ≤ d.bridge.posted.length) || !d.bridge.stalled.isEmpty || d.bridge.posted.any (fun p => p.master == m)

/-- A read at BAR0 offset `off`. -/
def Device.busRead (d : Device) (m : Master) (off : Nat) : Device :=
  if !d.power.coreOn || 0x4000000 ≤ off then d
  else if off % 4 ≠ 0 then (d.reply m 0xFFFFFFFF).reject m off eAlign
  else if 0x1000000 ≤ off then d.pondAt m off none .none .ok
  else if onHvDie off && (regAt off).isSome then
    if d.bridge.lost then (d.reply m 0xFFFFFFFF).reject m off eState
    else if d.hvHeld m then
      { d with bridge := { d.bridge with stalled := d.bridge.stalled ++ [{ master := m, off := off, val := none }] } }
    else d.readAt m off
  else d.readAt m off

/-- REGISTER_WRITE: `be` is the byte-enable mask. -/
def execRegisterWrite (m : Master) (off val be : Nat) (s : State) : Out :=
  s.run (fun d => d.busWrite m off (val % 2 ^ 32) be)

/-- READ_CLEAR: a read of any register; fields that clear on reading clear. -/
def execReadClear (m : Master) (off : Nat) (s : State) : Out := s.run (fun d => d.busRead m off)

/-! ## Posted writes and the bridge (R18, R19) -/

/-- A posted write takes effect on the HV die. -/
def Device.hvApply (d : Device) (p : HvWrite) : Device := d.writeAt (masterOf p.master) p.off p.val

/-- HV_WRITE_COMPLETE: the oldest posted write takes effect and frees its place. -/
def execHvWriteComplete (s : State) : Out :=
  s.run (fun d =>
    match d.bridge.posted with
    | [] => d
    | p :: rest =>
      let d : Device := { d with bridge := { d.bridge with posted := rest } }
      (d.hvApply p).spSync)

/-- The stalled accesses before and after the first that may proceed now: a write needs room, a read also that nothing of its master is posted; none passes an earlier access of its master. -/
def Device.hvNext (d : Device) : List HvStall → List HvStall → Option (HvStall × List HvStall)
  | _, [] => none
  | before, e :: rest =>
    let own := before.any (fun b => b.master == e.master)
    let room := decide (d.bridge.posted.length < 16)
    if !own && room && (e.val.isSome || !d.bridge.posted.any (fun p => p.master == e.master)) then some (e, before ++ rest)
    else d.hvNext (before ++ [e]) rest

/-- HV_ACCESS_UNSTALL: the first stalled access that may proceed is posted, or performed (R18). -/
def execHvAccessUnstall (s : State) : Out :=
  s.run (fun d =>
    match d.hvNext [] d.bridge.stalled with
    | none => d
    | some (e, rest) =>
      let d : Device := { d with bridge := { d.bridge with stalled := rest } }
      match e.val with
      | some v =>
        let d : Device := { d with bridge := { d.bridge with posted := d.bridge.posted ++ [{ master := e.master, off := e.off, val := v }] } }
        d.spSync
      | none => d.readAt (masterOf e.master) e.off)

/-- Everything outstanding on the bridge completes, in order. -/
def Device.hvDrain (d : Device) : Device :=
  let posted := d.bridge.posted
  let stalled := d.bridge.stalled
  let d : Device := { d with bridge := { d.bridge with posted := [], stalled := [] } }
  let d := eachOf posted (fun p d => d.hvApply p) d
  (eachOf stalled (fun e d => match e.val with
    | some v => d.hvApply ⟨e.master, e.off, v⟩
    | none => d.readAt (masterOf e.master) e.off) d).spSync

/-- What each die does when it treats the bridge as lost (R19): outstanding accesses fail, the HV die discharges under R357, fault 0x1B is raised. -/
def Device.bridgeLose (d : Device) : Device :=
  if d.bridge.lost then d else
    let posted := d.bridge.posted
    let stalled := d.bridge.stalled
    let d : Device := { d with bridge := { d.bridge with lost := true, fails := 0, posted := [], stalled := [] } }
    let d := eachOf posted (fun p d => d.reject p.master p.off eState) d
    let d := eachOf stalled (fun e d => (if e.val.isNone then d.reply e.master 0xFFFFFFFF else d).reject e.master e.off eState) d
    let d := d.spSync
    let d := if d.hv.dis == .opening then ({ d with hv := { d.hv with disBridge := true } }).disOpen else d.disStart true
    d.raiseCode 0x1B 0

/-- A valid transfer: a repeat that succeeds is counted, and a lost bridge is restored (R19, R507, R514). -/
def Device.bridgeGood (d : Device) : Device :=
  let was := d.bridge.lost
  let d : Device := { d with bridge := { d.bridge with lost := false, fails := 0, repeats := d.bridge.repeats + b2n (d.bridge.fails ≠ 0) } }
  if was && d.flt.opened.any (fun r => r.flt.code == 0x1B) then d.afterDischarge else d

/-- HV_BRIDGE_TRANSFER; `ok`: its CRC-8 is right. The third failure in a row loses the bridge. -/
def execHvBridgeTransfer (ok : Bool) (s : State) : Out :=
  s.run (fun d =>
    if !d.power.coreOn then d
    else if ok then d.bridgeGood
    else if d.bridge.lost then d
    else if 2 ≤ d.bridge.fails then d.bridgeLose
    else { d with bridge := { d.bridge with fails := d.bridge.fails + 1 } })

/-- HV_BRIDGE_LOST. -/
def execHvBridgeLost (s : State) : Out := s.run (fun d => if d.power.coreOn then d.bridgeLose else d)

/-! ## Accesses whose sender waits for them: BAR0 requests, the side port, the debug port, a core -/

/-- A Pond access that has waited for the wake of its bank and for the copy windows of the march (R395, R398): the copy holds the segment's content in the window of the copy-back. -/
def Device.pondDirect (d : Device) (m a n : Nat) (val : Option (List Nat)) : Device × PondEnd :=
  let i := a / 131072
  if d.underDestroy i then (d, .failed eBusy)
  else
    let d : Device := if d.get (MEM_BANK_INFO_retained i) = 1 then
        ({ d with mem := { d.mem with waking := d.mem.waking.filter (fun b => b != i) } }).put (MEM_BANK_INFO_retained i) 0 else d
    let a := if d.mem.march.stage == .copyBack && d.inCopyWindow a then d.marchSlot + a % 4096 else a
    match val with
    | some v => (d.pondWr a v, .done)
    | none =>
      let d := d.pondEcc a .ok
      if d.mem.pondUe.contains (d.pondMap a / 8) then (d, .ecc) else (d.reply m (leNat (d.pondBytes a n)), .done)

/-- A Pond window DWORD of masters 0 and 14 (R475). -/
def Device.pondDword (d : Device) (m off : Nat) (val : Option Nat) : Device :=
  let a := off - 0x1000000
  let d := if val.isNone then d.reply m 0 else d
  if m ≠ 0 ∧ m ≠ 14 then d.reject m off ePerm
  else match d.pondRight a val.isSome with
    | some c => d.reject m off c
    | none =>
      let r := d.pondDirect m a 4 (val.map (leBytes 4))
      match r.2 with
      | .failed c => r.1.reject m off c
      | .ecc => (r.1.reply m (r.1.freeWord 0x394)).drawn
      | _ => r.1

/-- Accesses to the HV die of a master that waits: what is outstanding completes first where the master has something outstanding or the queue is full (R18). -/
def Device.hvTurn (d : Device) (m off : Nat) (write : Bool) : Device :=
  let full : Bool := decide (16 ≤ d.bridge.posted.length) || !d.bridge.stalled.isEmpty
  if onHvDie off && (regAt off).isSome && (full || (!write && d.bridge.posted.any (fun p => p.master == m))) then d.hvDrain else d

/-- A DWORD read that completes. -/
def Device.dwordRead (d : Device) (m : Master) (off : Nat) : Device :=
  if off % 4 = 0 ∧ 0x1000000 ≤ off ∧ off < 0x4000000 then d.pondDword m off none else (d.hvTurn m off false).busRead m off

/-- A DWORD write; one to the HV die is posted. -/
def Device.dwordWrite (d : Device) (m : Master) (off v : Nat) : Device :=
  if off % 4 = 0 ∧ 0x1000000 ≤ off ∧ off < 0x4000000 then d.pondDword m off (some v) else (d.hvTurn m off true).busWrite m off v 15

/-- The code with which an access rejected itself, E_OK where it did not. -/
def Device.codeOf (d : Device) (m : Nat) (f : Device → Device) : Nat := (f (d.wr (ERR_VIEW_CODE m) 0)).get (ERR_VIEW_CODE_code m)

/-- ACTIVE_COPY_READ: a read of FAB_ACT_DATA (R82). -/
def execActiveCopyRead (m : Master) (s : State) : Out :=
  s.run (fun d =>
    if !d.power.coreOn then d
    else if d.bridge.lost then d.readAt m FAB_ACT_DATA
    else (d.hvTurn m (d.rdB m FAB_ACT_ADDR) false).readAt m FAB_ACT_DATA)

/-! ## BAR0 (R474) -/

/-- One DWORD of a request by the host: `i` counts it from the start, `part` lists those with partial byte enables. -/
def Device.bar0Dword (d : Device) (a : Nat) (write : Option (List Nat)) (part : List Nat) (i : Nat) : Device :=
  let off := a + 4 * i
  match write with
  | some w =>
    if part.contains i then d.reject 0 off eAlign else if off % 4 ≠ 0 then d.reject 0 off eAlign
    else d.dwordWrite 0 off (w.getD i 0 % 2 ^ 32)
  | none =>
    let d := if part.contains i then (d.reply 0 0xFFFFFFFF).reject 0 off eAlign else d.dwordRead 0 off
    { d with hif := { d.hif with bar0 := d.hif.bar0 ++ [d.answer 0] } }

/-- BAR0_REQUEST: `n` DWORDs from byte offset `a`, the words of a write, and the DWORDs with partial byte enables. -/
def execBar0Request (a : Nat) (write : Option (List Nat)) (n : Nat) (part : List Nat) (s : State) : Out :=
  s.run (fun d =>
    if !d.barOpen then d
    else if 16 < n || 0x4000000 < a + 4 * n then d.bump HIF_PCI_EVT_urs
    else
      let d : Device := if write.isNone then { d with hif := { d.hif with bar0 := [] } } else d
      eachOf (List.range n) (fun i d => d.bar0Dword a write part i) d)

/-! ## The side port's register window (R485, R486) -/

/-- The slot of a register-window address is not mapped (R484). -/
def spUnmapped (a : Nat) : Bool := decide (11 ≤ bitsOf a 18 15)

/-- A register-window access that saw BUSY_N low. -/
def Device.spBusyOn (d : Device) : Device := { d.bump HIF_SP_EVT_busies with hif := { d.hif with spBusy := true } }

/-- SIDE_PORT_HIGH_WRITE: one 32-bit access with the held low half. -/
def execSidePortHighWrite (a val : Nat) (s : State) : Out :=
  s.run (fun d =>
    if !d.power.coreOn then d else
      let off := spOffset a
      if d.get HIF_SP_STAT_write = 1 then d.spBusyOn
      else
        let d : Device := { d with hif := { d.hif with spBusy := false } }
        if spUnmapped a then
          let d : Device := { d with hif := { d.hif with lowHeld := d.hif.lowHeld.filter (fun h => h.1 != off) } }
          (d.reject 1 off eUnimpl).spSync
        else match d.hif.lowHeld with
          | none => (d.reject 1 off eSeq).bump HIF_SP_EVT_seqs
          | some (o, low) =>
            if o ≠ off then (d.reject 1 off eSeq).bump HIF_SP_EVT_seqs
            else (({ d with hif := { d.hif with lowHeld := none } }).dwordWrite 1 off (low + val % 65536 * 65536)).spSync)

/-- The 32-bit read of a register-window low half. -/
def Device.spRead (d : Device) (a : Nat) : Device :=
  let off := spOffset a
  if spUnmapped a then (d.reply 1 0).reject 1 off eUnimpl else d.dwordRead 1 off

/-- A low-half read returns its half and latches the other. -/
def Device.spReturn (d : Device) (off v : Nat) : Device :=
  { d with hif := { d.hif with spBusy := false, spData := v % 65536, readLatch := some (off, v / 65536), heldRead := none } }

/-- SIDE_PORT_LOW_READ; `ready`: the data is there at the access time. Otherwise the controller completes the read and holds its data. -/
def execSidePortLowRead (a : Nat) (ready : Bool) (s : State) : Out :=
  s.run (fun d =>
    if !d.power.coreOn then d else
      let off := spOffset a
      let fresh (d : Device) : Device :=
        let d := d.spRead a
        if ready then (d.spReturn off (d.answer 1)).spSync
        else (({ d with hif := { d.hif with heldRead := some (off, d.answer 1, false) } }).spBusyOn).spSync
      match d.hif.heldRead with
      | some (o, v, true) => if o = off then (d.spReturn off v).spSync else fresh d
      | some (o, _, false) => if o = off then d.spBusyOn else fresh d
      | none => fresh d)

/-- SIDE_PORT_READ_READY: the data of the busy read is there. -/
def execSidePortReadReady (s : State) : Out :=
  s.run (fun d =>
    match d.hif.heldRead with
    | some (o, v, false) => ({ d with hif := { d.hif with heldRead := some (o, v, true), spBusy := false } }).spSync
    | _ => d)

/-! ## The debug port (R499) -/

/-- DBG_ACCESS: Update-DR with an operation (0 none, 1 read, 2 write), the BAR0 offset and the data. -/
def execDbgAccess (op off data : Nat) (s : State) : Out :=
  s.run (fun d =>
    if !d.power.coreOn || d.get HIF_JTAG_STAT_instr ≠ 0x10 then d else
      let off := bitsOf off 25 2 * 4
      if op = 1 then
        let code := d.codeOf 14 (fun d => d.dwordRead 14 off)
        let d := d.dwordRead 14 off
        { d with hif := { d.hif with dbgData := d.answer 14, dbgStatus := code } }
      else if op = 2 then
        let code := d.codeOf 14 (fun d => d.dwordWrite 14 off (data % 2 ^ 32))
        let d := d.dwordWrite 14 off (data % 2 ^ 32)
        { d with hif := { d.hif with dbgStatus := code } }
      else d)

end Sys2Proof.Machine
end

