-- ==== Sys2Proof/Machine/Rv32.lean ====
section
/-! DEFINITION. The RV32IMC encodings and arithmetic of the Ikiush cores (R436): the expansion of compressed instructions, immediates, and the integer operations. -/

namespace Sys2Proof.Machine

/-! ## Building and reading 32-bit encodings -/

/-- Sign extension of `n` bits to 32. -/
def sx (n v : Nat) : Nat := codeOf 32 (signedOf n v)

/-- The I format. -/
def encI (imm rs1 f3 rd op : Nat) : Nat := imm % 4096 * 2 ^ 20 + rs1 * 2 ^ 15 + f3 * 2 ^ 12 + rd * 2 ^ 7 + op

/-- The R format. -/
def encR (f7 rs2 rs1 f3 rd : Nat) : Nat := f7 * 2 ^ 25 + rs2 * 2 ^ 20 + rs1 * 2 ^ 15 + f3 * 2 ^ 12 + rd * 2 ^ 7 + 0x33

/-- A store. -/
def encS (imm rs2 rs1 f3 : Nat) : Nat :=
  bitsOf imm 11 5 * 2 ^ 25 + rs2 * 2 ^ 20 + rs1 * 2 ^ 15 + f3 * 2 ^ 12 + bitsOf imm 4 0 * 2 ^ 7 + 0x23

/-- A branch. -/
def encB (imm rs2 rs1 f3 : Nat) : Nat :=
  bitsOf imm 12 12 * 2 ^ 31 + bitsOf imm 10 5 * 2 ^ 25 + rs2 * 2 ^ 20 + rs1 * 2 ^ 15 + f3 * 2 ^ 12 + bitsOf imm 4 1 * 2 ^ 8 +
    bitsOf imm 11 11 * 2 ^ 7 + 0x63

/-- A jump and link. -/
def encJ (imm rd : Nat) : Nat :=
  bitsOf imm 20 20 * 2 ^ 31 + bitsOf imm 10 1 * 2 ^ 21 + bitsOf imm 11 11 * 2 ^ 20 + bitsOf imm 19 12 * 2 ^ 12 + rd * 2 ^ 7 + 0x6F

/-- The immediates of the formats, sign-extended. -/
def immI (w : Nat) : Nat := sx 12 (bitsOf w 31 20)
def immS (w : Nat) : Nat := sx 12 (bitsOf w 31 25 * 32 + bitsOf w 11 7)
def immB (w : Nat) : Nat := sx 13 (bitsOf w 31 31 * 4096 + bitsOf w 7 7 * 2048 + bitsOf w 30 25 * 32 + bitsOf w 11 8 * 2)
def immJ (w : Nat) : Nat := sx 21 (bitsOf w 31 31 * 0x100000 + bitsOf w 19 12 * 4096 + bitsOf w 20 20 * 2048 + bitsOf w 30 21 * 2)

/-! ## Compressed instructions -/

/-- Registers x8 to x15. -/
def creg (v : Nat) : Nat := 8 + v % 8

/-- The jump offset of C.J and C.JAL. -/
def cjImm (w : Nat) : Nat :=
  sx 12 (bitsOf w 12 12 * 2048 + bitsOf w 11 11 * 16 + bitsOf w 10 9 * 256 + bitsOf w 8 8 * 1024 + bitsOf w 7 7 * 64 +
    bitsOf w 6 6 * 128 + bitsOf w 5 3 * 2 + bitsOf w 2 2 * 32)

/-- The branch offset of C.BEQZ and C.BNEZ. -/
def cbImm (w : Nat) : Nat :=
  sx 9 (bitsOf w 12 12 * 256 + bitsOf w 11 10 * 8 + bitsOf w 6 5 * 64 + bitsOf w 4 3 * 2 + bitsOf w 2 2 * 32)

/-- Quadrant 0. -/
def expand0 (w : Nat) : Option Nat :=
  let a := creg (bitsOf w 9 7)
  let b := creg (bitsOf w 4 2)
  let u := bitsOf w 12 10 * 8 + bitsOf w 6 6 * 4 + bitsOf w 5 5 * 64
  match bitsOf w 15 13 with
  | 0 =>
    let imm := bitsOf w 12 11 * 16 + bitsOf w 10 7 * 64 + bitsOf w 6 6 * 4 + bitsOf w 5 5 * 8
    if imm = 0 then none else some (encI imm 2 0 b 0x13)
  | 2 => some (encI u a 2 b 0x03)
  | 6 => some (encS u b a 2)
  | _ => none

/-- Quadrant 1. -/
def expand1 (w : Nat) : Option Nat :=
  let rd := bitsOf w 11 7
  let a := creg (bitsOf w 9 7)
  let b := creg (bitsOf w 4 2)
  let six := bitsOf w 12 12 * 32 + bitsOf w 6 2
  let imm := sx 6 six
  match bitsOf w 15 13 with
  | 0 => some (encI imm rd 0 rd 0x13)
  | 1 => some (encJ (cjImm w) 1)
  | 2 => some (encI imm 0 0 rd 0x13)
  | 3 =>
    if six = 0 then none
    else if rd = 2 then
      some (encI (sx 10 (bitsOf w 12 12 * 512 + bitsOf w 6 6 * 16 + bitsOf w 5 5 * 64 + bitsOf w 4 3 * 128 + bitsOf w 2 2 * 32)) 2 0 2 0x13)
    else some (imm % 2 ^ 20 * 4096 + rd * 2 ^ 7 + 0x37)
  | 4 =>
    match bitsOf w 11 10 with
    | 0 => if w.testBit 12 then none else some (encI (bitsOf w 6 2) a 5 a 0x13)
    | 1 => if w.testBit 12 then none else some (encI (0x400 + bitsOf w 6 2) a 5 a 0x13)
    | 2 => some (encI imm a 7 a 0x13)
    | _ =>
      if w.testBit 12 then none
      else match bitsOf w 6 5 with
        | 0 => some (encR 0x20 b a 0 a)
        | 1 => some (encR 0 b a 4 a)
        | 2 => some (encR 0 b a 6 a)
        | _ => some (encR 0 b a 7 a)
  | 5 => some (encJ (cjImm w) 0)
  | 6 => some (encB (cbImm w) 0 a 0)
  | _ => some (encB (cbImm w) 0 a 1)

/-- Quadrant 2. -/
def expand2 (w : Nat) : Option Nat :=
  let rd := bitsOf w 11 7
  let b := bitsOf w 6 2
  match bitsOf w 15 13 with
  | 0 => if w.testBit 12 then none else some (encI b rd 1 rd 0x13)
  | 2 => if rd = 0 then none else some (encI (bitsOf w 12 12 * 32 + bitsOf w 6 4 * 4 + bitsOf w 3 2 * 64) 2 2 rd 0x03)
  | 4 =>
    if !w.testBit 12 then
      (if b = 0 then (if rd = 0 then none else some (encI 0 rd 0 0 0x67)) else some (encR 0 b 0 0 rd))
    else if b = 0 then (if rd = 0 then none else some (encI 0 rd 0 1 0x67))
    else some (encR 0 b rd 0 rd)
  | 6 => some (encS (bitsOf w 12 9 * 4 + bitsOf w 8 7 * 64) b 2 2)
  | _ => none

/-- The 32-bit instruction that a compressed one stands for; none where it is illegal, reserved, or C.EBREAK, which takes the same exception (R436). -/
def expandC (w : Nat) : Option Nat :=
  match w % 4 with
  | 0 => expand0 w
  | 1 => expand1 w
  | 2 => expand2 w
  | _ => none

/-! ## Arithmetic -/

/-- The operations of OP and OP-IMM; `alt`: SUB and SRA. -/
def rvAlu (f3 : Nat) (alt : Bool) (a b : Nat) : Nat :=
  match f3 with
  | 0 => if alt then (a + 2 ^ 32 - b) % 2 ^ 32 else (a + b) % 2 ^ 32
  | 1 => a * 2 ^ (b % 32) % 2 ^ 32
  | 2 => b2n (decide (signedOf 32 a < signedOf 32 b))
  | 3 => b2n (decide (a < b))
  | 4 => a ^^^ b
  | 5 => if alt then codeOf 32 (signedOf 32 a / 2 ^ (b % 32)) else a / 2 ^ (b % 32)
  | 6 => a ||| b
  | _ => a &&& b

/-- The operations of the M extension; a division by 0 gives all ones and the dividend, the signed overflow the dividend and 0. -/
def rvMul (f3 a b : Nat) : Nat :=
  let sa := signedOf 32 a
  let sb := signedOf 32 b
  match f3 with
  | 0 => a * b % 2 ^ 32
  | 1 => codeOf 32 (sa * sb / 2 ^ 32)
  | 2 => codeOf 32 (sa * (b : Int) / 2 ^ 32)
  | 3 => a * b / 2 ^ 32
  | 4 => if b = 0 then 2 ^ 32 - 1 else codeOf 32 (sa.tdiv sb)
  | 5 => if b = 0 then 2 ^ 32 - 1 else a / b
  | 6 => if b = 0 then a else codeOf 32 (sa.tmod sb)
  | _ => if b = 0 then a else a % b

/-- The condition of a branch; none for a reserved one. -/
def rvTaken (f3 a b : Nat) : Option Bool :=
  match f3 with
  | 0 => some (a == b)
  | 1 => some (a != b)
  | 4 => some (decide (signedOf 32 a < signedOf 32 b))
  | 5 => some (decide (signedOf 32 b ≤ signedOf 32 a))
  | 6 => some (decide (a < b))
  | 7 => some (decide (b ≤ a))
  | _ => none

end Sys2Proof.Machine
end

