-- ==== Sys2Proof/Machine/CoreExec.lean ====
section
/-! DEFINITION. An Ikiush core executing instructions: its memory accesses (R437 to R439, R442), its CSRs and exceptions (R436), WFI and FENCE.I. -/

namespace Sys2Proof.Machine

/-! ## Memory accesses (R437-R439, R442) -/

/-- A byte range cut at the boundaries of 64-bit words. -/
def wordParts (a n : Nat) : List (Nat × Nat) :=
  if n ≤ 8 - a % 8 then [(a, n)] else [(a, 8 - a % 8), (a + (8 - a % 8), n - (8 - a % 8))]

/-- A read of Pond by master `m` at a core address: the bytes, or none where it is rejected. -/
def Device.corePondRead (d : Device) (m a n : Nat) : Device × Option Nat :=
  let o := a - 0x1000000
  if !d.pondMay m o n false then (d.reject m a ePerm, none)
  else
    let r := (wordParts o n).foldl (fun (r : Device × Option (List Nat)) p =>
      match r.2 with
      | none => r
      | some bs =>
        let x := r.1.pondDirect m p.1 p.2 none
        match x.2 with
        | .done => (x.1, some (bs ++ leBytes p.2 (x.1.answer m)))
        | .failed c => (x.1.reject m a c, none)
        | _ => (x.1.reject m a eState, none)) (d, some [])
    (r.1, r.2.map leNat)

/-- A write of Pond by master `m`; false where it is rejected. -/
def Device.corePondWrite (d : Device) (m a : Nat) (bs : List Nat) : Device × Bool :=
  let o := a - 0x1000000
  if !d.pondMay m o bs.length true then (d.reject m a ePerm, false)
  else if (wordParts o bs.length).any (fun p => d.underDestroy (p.1 / 131072)) then (d.reject m a eBusy, false)
  else
    (eachOf (wordParts o bs.length) (fun p d =>
      (d.pondDirect m p.1 p.2 (some ((bs.drop (p.1 - o)).take p.2))).1) d, true)

/-- The frame-store address of an aperture address (R437). -/
def Device.apertureAt (d : Device) (k a : Nat) : Nat := d.get (CORE_FSWIN_base k) * 0x100000 + (a - 0x4000000)

/-- A read of `n` bytes by core `k`: the value, or none where it faults (R439). Register reads are full 32-bit reads (R9). -/
def Device.coreRead (d : Device) (k a n : Nat) : Device × Option Nat :=
  let m := 2 + k
  if a < 0x1000000 then
    if n = 4 ∧ a % 4 = 0 then
      let code := d.codeOf m (fun d => d.dwordRead (masterOf m) a)
      let d := d.dwordRead (masterOf m) a
      (d, if code = 0 then some (d.answer m) else none)
    else (d.reject m a eAlign, none)
  else if a + n ≤ 0x4000000 then d.corePondRead m a n
  else if 0x4000000 ≤ a ∧ a + n ≤ 0x4100000 then
    let f := d.apertureAt k a
    let d := d.fsReadCheck f n true
    if d.fsBad f n then (d.rejectAt m 1 f eState, none) else (d, some (leNat (d.fsBytes f n)))
  else (d, none)

/-- A write of `n` bytes by core `k`; false where it faults (R439). -/
def Device.coreWrite (d : Device) (k a n v : Nat) : Device × Bool :=
  let m := 2 + k
  if a < 0x1000000 then
    if n = 4 ∧ a % 4 = 0 then
      let code := d.codeOf m (fun d => d.dwordWrite (masterOf m) a v)
      (d.dwordWrite (masterOf m) a v, code = 0)
    else (d.reject m a eAlign, false)
  else if a + n ≤ 0x4000000 then d.corePondWrite m a (leBytes n v)
  else if 0x4000000 ≤ a ∧ a + n ≤ 0x4100000 then
    let bs := atAddr (d.apertureAt k a) (leBytes n v)
    let f (d : Device) : Device := if isWalern k then d.fsWrite m bs else d.winWrite m bs
    (f d, d.codeOf m f = 0)
  else (d, false)

/-! ## Exceptions -/

/-- An access fault: CORE_FAULT and CORE_EVT take it, and the core its trap; cause 1 fetch, 5 load, 7 store (R439). -/
def Device.coreFault (d : Device) (k cause a : Nat) : Device :=
  ((d.wr (CORE_FAULT k) a).bump (CORE_EVT_faults k)).takeTrap k false cause a

/-- The illegal-instruction exception (R436). -/
def Device.coreIllegal (d : Device) (k w : Nat) : Device := d.takeTrap k false 2 (if Config.mtvalBits then w else 0)

/-! ## Fetching (R438) -/

/-- The bytes of an address as memory holds them now; registers are not looked at again. -/
def Device.fetchPeek (d : Device) (k a old : Nat) : Nat :=
  if a < 0x1000000 then old
  else if a < 0x4000000 then leNat (d.pondBytes (a - 0x1000000) 2)
  else leNat (d.fsBytes (d.apertureAt k a) 2)

/-- A halfword of code. The prefetch buffer may still hold, or may have replaced, one that was fetched before and has changed since: a free choice. -/
def Device.coreFetch (d : Device) (k a : Nat) : Device × Option Nat :=
  let x := d.core k
  let b0 := Sparse.get (fun _ => 0) x.prefetch a
  let b1 := Sparse.get (fun _ => 0) x.prefetch (a + 1)
  let keep (d : Device) (v : Nat) : Device :=
    let x := d.core k
    d.setCore k { x with prefetch := Sparse.put (Sparse.put x.prefetch a (v % 256 + 1)) (a + 1) (v / 256 + 1) }
  if b0 ≠ 0 ∧ b1 ≠ 0 then
    let old := b0 - 1 + (b1 - 1) * 256
    let now := d.fetchPeek k a old
    if now = old then (d, some old)
    else if Config.freeBool d.free then (d.drawn, some old) else (keep d.drawn now, some now)
  else
    let r := if a < 0x1000000 then
        let r := d.coreRead k (a / 4 * 4) 4
        (r.1, r.2.map (fun v => v / 2 ^ (8 * (a % 4)) % 65536))
      else d.coreRead k a 2
    match r.2 with
    | some v => (keep r.1 v, some v)
    | none => (r.1, none)

/-! ## CSRs (R436) -/

/-- Two of a 64-bit count's words. -/
def loW (v : Nat) : Nat := v % 2 ^ 32
def hiW (v : Nat) : Nat := v / 2 ^ 32 % 2 ^ 32

/-- A CSR's value; none for an address that is not implemented. -/
def Device.csrRead (d : Device) (k : Nat) (x : CoreX) (a : Nat) : Option Nat :=
  match a with
  | 0x301 => some 0x40001104
  | 0xF14 => some k
  | 0x300 => some (b2n x.mie * 8 + b2n x.mpie * 128)
  | 0x305 => some x.mtvec
  | 0x304 => some (b2n x.meie * 2048 + b2n x.mtie * 128)
  | 0x344 => some (b2n (d.meip k) * 2048 + b2n (d.mtip k) * 128)
  | 0x341 => some x.mepc
  | 0x342 => some x.mcause
  | 0x343 => some x.mtval
  | 0x340 => some x.mscratch
  | 0xB00 => some (loW x.mcycle)
  | 0xB80 => some (hiW x.mcycle)
  | 0xB02 => some (loW x.minstret)
  | 0xB82 => some (hiW x.minstret)
  | _ => none

/-- A CSR write: bits that the table does not give keep their value. -/
def CoreX.csrWrite (x : CoreX) (a v : Nat) : CoreX :=
  match a with
  | 0x300 => { x with mie := v.testBit 3, mpie := v.testBit 7 }
  | 0x305 => { x with mtvec := v / 64 * 64 + v % 2 }
  | 0x304 => { x with meie := v.testBit 11, mtie := v.testBit 7 }
  | 0x341 => { x with mepc := v / 2 * 2 }
  | 0x342 => { x with mcause := v }
  | 0x343 => { x with mtval := v }
  | 0x340 => { x with mscratch := v }
  | 0xB00 => { x with mcycle := hiW x.mcycle * 2 ^ 32 + v }
  | 0xB80 => { x with mcycle := v * 2 ^ 32 + loW x.mcycle }
  | 0xB02 => { x with minstret := hiW x.minstret * 2 ^ 32 + v }
  | 0xB82 => { x with minstret := v * 2 ^ 32 + loW x.minstret }
  | _ => x

/-! ## Retiring -/

/-- A general register: x0 reads 0. -/
def CoreX.reg (x : CoreX) (r : Nat) : Nat := if r = 0 then 0 else (Sparse.get (fun _ => (0 : Word)) x.x r).toNat

/-- Write a general register; a write of x0 is discarded. -/
def CoreX.setReg (x : CoreX) (r v : Nat) : CoreX :=
  if r = 0 then x else { x with x := Sparse.set (fun _ => (0 : Word)) x.x r (Word.of v) }

/-- An instruction retires: its result, its count, and where the pc goes. A core that the instruction itself put in reset stays there. -/
def Device.coreRetire (d : Device) (k rd : Nat) (v : Option Nat) (pc : Nat) : Device :=
  if d.coreState k = 0 then d else
    let x := d.core k
    let x := match v with
      | some v => x.setReg rd v
      | none => x
    d.setCore k { x with pc := pc % 2 ^ 32, minstret := (x.minstret + 1) % 2 ^ 64 }

/-- The core stops until an enabled interrupt is pending; one that is pending already lets it go on (R436, R443). -/
def Device.coreWait (d : Device) (k pc : Nat) : Device :=
  let d := d.coreRetire k 0 none pc
  if (d.pendingCause k).isSome || d.coreState k ≠ 1 then d else d.put (CORE_STAT_state k) 2

/-- FENCE.I: the prefetch buffer is emptied (R438). -/
def Device.coreFenceI (d : Device) (k pc : Nat) : Device :=
  (d.setCore k { d.core k with prefetch := [] }).coreRetire k 0 none pc

/-! ## Executing -/

/-- A load: width 1, 2 or 4 bytes, sign-extended below funct3 4. -/
def Device.coreLoad (d : Device) (k w rd f3 a next : Nat) : Device :=
  if f3 = 3 ∨ 5 < f3 then d.coreIllegal k w else
    let n := 2 ^ (f3 % 4)
    let r := d.coreRead k a n
    match r.2 with
    | none => r.1.coreFault k 5 a
    | some v => r.1.coreRetire k rd (some (if f3 < 4 then sx (8 * n) v else v)) next

/-- A store. -/
def Device.coreStore (d : Device) (k w f3 a v next : Nat) : Device :=
  if 2 < f3 then d.coreIllegal k w else
    let n := 2 ^ f3
    let r := d.coreWrite k a n (v % 2 ^ (8 * n))
    if r.2 then r.1.coreRetire k 0 none next else r.1.coreFault k 7 a

/-- A Zicsr instruction: `x` as it stood before the instruction was counted. -/
def Device.coreCsr (d : Device) (k w : Nat) (x : CoreX) (next : Nat) : Device :=
  let f3 := bitsOf w 14 12
  let a := bitsOf w 31 20
  let rs1 := bitsOf w 19 15
  let src := if 4 ≤ f3 then rs1 else x.reg rs1
  let writes : Bool := f3 % 4 = 1 || rs1 ≠ 0
  match d.csrRead k x a with
  | none => d.coreIllegal k w
  | some old =>
    if writes && a = 0xF14 then d.coreIllegal k w
    else
      let new := if f3 % 4 = 1 then src else if f3 % 4 = 2 then old ||| src else maskOut 32 old src
      let d := d.coreRetire k (bitsOf w 11 7) (some old) next
      if writes then d.setCore k ((d.core k).csrWrite a new) else d

/-- MRET: the interrupt enable and the pc come back. -/
def Device.coreMret (d : Device) (k : Nat) : Device :=
  let x := d.core k
  (d.setCore k { x with mie := x.mpie, mpie := true }).coreRetire k 0 none x.mepc

/-- Opcode SYSTEM: WFI, MRET and the CSR instructions; ECALL, EBREAK and every other word are illegal (R436). -/
def Device.coreSystem (d : Device) (k w : Nat) (x : CoreX) (next : Nat) : Device :=
  if w = 0x10500073 then d.coreWait k next
  else if w = 0x30200073 then d.coreMret k
  else if bitsOf w 14 12 % 4 = 0 then d.coreIllegal k w
  else d.coreCsr k w x next

/-- One 32-bit instruction, `len` bytes long where it stands; `bits` is what was fetched. -/
def Device.coreRun (d : Device) (k w len bits : Nat) (x : CoreX) : Device :=
  let next := (x.pc + len) % 2 ^ 32
  let rd := bitsOf w 11 7
  let f3 := bitsOf w 14 12
  let f7 := bitsOf w 31 25
  let a := x.reg (bitsOf w 19 15)
  let b := x.reg (bitsOf w 24 20)
  match w % 128 with
  | 0x37 => d.coreRetire k rd (some (w / 4096 * 4096)) next
  | 0x17 => d.coreRetire k rd (some ((x.pc + w / 4096 * 4096) % 2 ^ 32)) next
  | 0x6F => d.coreRetire k rd (some next) (x.pc + immJ w)
  | 0x67 => if f3 = 0 then d.coreRetire k rd (some next) ((a + immI w) % 2 ^ 32 / 2 * 2) else d.coreIllegal k bits
  | 0x63 =>
    match rvTaken f3 a b with
    | none => d.coreIllegal k bits
    | some t => d.coreRetire k 0 none (if t then x.pc + immB w else next)
  | 0x03 => d.coreLoad k bits rd f3 ((a + immI w) % 2 ^ 32) next
  | 0x23 => d.coreStore k bits f3 ((a + immS w) % 2 ^ 32) b next
  | 0x13 =>
    if (f3 = 1 ∧ f7 ≠ 0) ∨ (f3 = 5 ∧ f7 ≠ 0 ∧ f7 ≠ 0x20) then d.coreIllegal k bits
    else d.coreRetire k rd (some (rvAlu f3 (f3 = 5 && f7 = 0x20) a (immI w))) next
  | 0x33 =>
    if f7 = 1 then d.coreRetire k rd (some (rvMul f3 a b)) next
    else if f7 = 0 ∨ (f7 = 0x20 ∧ (f3 = 0 ∨ f3 = 5)) then d.coreRetire k rd (some (rvAlu f3 (f7 = 0x20) a b)) next
    else d.coreIllegal k bits
  | 0x0F => if f3 = 0 then d.coreRetire k 0 none next else if f3 = 1 then d.coreFenceI k next else d.coreIllegal k bits
  | 0x73 => d.coreSystem k w x next
  | _ => d.coreIllegal k bits

/-- Cycles pass: at least one for an instruction, how many more is not stated. -/
def Device.coreCycles (d : Device) (k : Nat) : Device :=
  let x := d.core k
  (d.setCore k { x with mcycle := (x.mcycle + 1 + Config.freeNat d.free (2 ^ 64 - 1)) % 2 ^ 64 }).drawn

/-- One instruction of core `k` at its pc. -/
def Device.coreStep (d : Device) (k : Nat) : Device :=
  let x := d.core k
  let d := d.coreCycles k
  let r := d.coreFetch k x.pc
  match r.2 with
  | none => r.1.coreFault k 1 x.pc
  | some lo =>
    if lo % 4 ≠ 3 then
      match expandC lo with
      | none => r.1.coreIllegal k lo
      | some w => r.1.coreRun k w 2 lo x
    else
      let a := (x.pc + 2) % 2 ^ 32
      let r := r.1.coreFetch k a
      match r.2 with
      | none => r.1.coreFault k 1 a
      | some hi =>
        let w := lo + hi * 65536
        r.1.coreRun k w 4 w x

/-- CORE_INSTRUCTION: a running core executes the instruction at its pc. -/
def execCoreInstruction (k : CoreId) (s : State) : Out :=
  s.run (fun d => if d.power.coreOn && d.coreState k = 1 then d.coreStep k else d)

/-- CORE_WFI: a running core executes WFI. -/
def execCoreWfi (k : CoreId) (s : State) : Out :=
  s.run (fun d => if d.power.coreOn && d.coreState k = 1 then (d.coreCycles k).coreWait k ((d.core k).pc + 4) else d)

/-- FENCE_I: a running core executes FENCE.I. -/
def execFenceI (k : CoreId) (s : State) : Out :=
  s.run (fun d => if d.power.coreOn && d.coreState k = 1 then (d.coreCycles k).coreFenceI k ((d.core k).pc + 4) else d)

end Sys2Proof.Machine
end

