-- ==== Sys2Proof/Machine/Dispatch.lean ====
section
/-! DEFINITION. The meaning of every command: one arm per constructor of Instr, each one call of its meaning. -/

namespace Sys2Proof.Machine

/-- The effect of a command on everything but the queue. -/
def exec (i : Instr) (s : State) : Host.Outcome State Fault Refusal :=
  match i with
  | .registerWrite m off val be => Sys2Proof.Machine.execRegisterWrite m off val be s
  | .readClear m off => Sys2Proof.Machine.execReadClear m off s
  | .hvAccessUnstall => Sys2Proof.Machine.execHvAccessUnstall s
  | .hvWriteComplete => Sys2Proof.Machine.execHvWriteComplete s
  | .hvBridgeTransfer ok => Sys2Proof.Machine.execHvBridgeTransfer ok s
  | .hvBridgeLost => Sys2Proof.Machine.execHvBridgeLost s
  | .modeReqDark m => Sys2Proof.Machine.execModeReqDark m s
  | .modeReqTadpole m => Sys2Proof.Machine.execModeReqTadpole m s
  | .modeReqLive m => Sys2Proof.Machine.execModeReqLive m s
  | .modeReqGecko m => Sys2Proof.Machine.execModeReqGecko m s
  | .modeReqLoupe m => Sys2Proof.Machine.execModeReqLoupe m s
  | .modeTransitionEffect => Sys2Proof.Machine.execModeTransitionEffect s
  | .panelReplayEntry p => Sys2Proof.Machine.execPanelReplayEntry p s
  | .panelReplayExit p => Sys2Proof.Machine.execPanelReplayExit p s
  | .loupeReturn => Sys2Proof.Machine.execLoupeReturn s
  | .supplyApplied => Sys2Proof.Machine.execSupplyApplied s
  | .sysRstRelease => Sys2Proof.Machine.execSysRstRelease s
  | .sysRstAssert vkeep => Sys2Proof.Machine.execSysRstAssert vkeep s
  | .powerFail src vkeep => Sys2Proof.Machine.execPowerFail src vkeep s
  | .wakePin pin ns => Sys2Proof.Machine.execWakePin pin ns s
  | .wakeAlarm => Sys2Proof.Machine.execWakeAlarm s
  | .pwrupHoldExpire => Sys2Proof.Machine.execPwrupHoldExpire s
  | .bootStepComplete n o => Sys2Proof.Machine.execBootStepComplete n o s
  | .bootFwStartTimeout => Sys2Proof.Machine.execBootFwStartTimeout s
  | .bootEnterLive => Sys2Proof.Machine.execBootEnterLive s
  | .keepRecallComplete => Sys2Proof.Machine.execKeepRecallComplete s
  | .imgCheckDecode m => Sys2Proof.Machine.execImgCheckDecode m s
  | .imgCheckOnly m => Sys2Proof.Machine.execImgCheckOnly m s
  | .imgAbort m => Sys2Proof.Machine.execImgAbort m s
  | .imgOpComplete decoding => Sys2Proof.Machine.execImgOpComplete decoding s
  | .msWrite m off val => Sys2Proof.Machine.execMsWrite m off val s
  | .activeCopyRead m => Sys2Proof.Machine.execActiveCopyRead m s
  | .swapRequest m after cancel => Sys2Proof.Machine.execSwapRequest m after cancel s
  | .swapCancel m after => Sys2Proof.Machine.execSwapCancel m after s
  | .islandReady n ecc => Sys2Proof.Machine.execIslandReady n ecc s
  | .swapArm => Sys2Proof.Machine.execSwapArm s
  | .islandDone n => Sys2Proof.Machine.execIslandDone n s
  | .swapTakeEffect => Sys2Proof.Machine.execSwapTakeEffect s
  | .swapDoneTimeout => Sys2Proof.Machine.execSwapDoneTimeout s
  | .mirrorRefillComplete => Sys2Proof.Machine.execMirrorRefillComplete s
  | .liveWrite m off val => Sys2Proof.Machine.execLiveWrite m off val s
  | .liveTmgWrite m off val => Sys2Proof.Machine.execLiveTmgWrite m off val s
  | .heldWrite m order val => Sys2Proof.Machine.execHeldWrite m order val s
  | .zorderApply m val => Sys2Proof.Machine.execZorderApply m val s
  | .paletteWrite m val => Sys2Proof.Machine.execPaletteWrite m val s
  | .layerEnableWrite m val => Sys2Proof.Machine.execLayerEnableWrite m val s
  | .verticalSwapPoint bad => Sys2Proof.Machine.execVerticalSwapPoint bad s
  | .frameStartDecision lag latePassed => Sys2Proof.Machine.execFrameStartDecision lag latePassed s
  | .throughFrameStart => Sys2Proof.Machine.execThroughFrameStart s
  | .lateLimit tie => Sys2Proof.Machine.execLateLimit tie s
  | .localFrameStart usable => Sys2Proof.Machine.execLocalFrameStart usable s
  | .glassLineStart => Sys2Proof.Machine.execGlassLineStart s
  | .lineDeadline t => Sys2Proof.Machine.execLineDeadline t s
  | .packedLineComplete t lag tie => Sys2Proof.Machine.execPackedLineComplete t lag tie s
  | .creditReturn t j => Sys2Proof.Machine.execCreditReturn t j s
  | .facetDataArrive t f => Sys2Proof.Machine.execFacetDataArrive t f s
  | .noinHoldExpire e => Sys2Proof.Machine.execNoinHoldExpire e s
  | .scanRun m => Sys2Proof.Machine.execScanRun m s
  | .scanStop m => Sys2Proof.Machine.execScanStop m s
  | .testRasterWrite m val => Sys2Proof.Machine.execTestRasterWrite m val s
  | .chkLearn m w val => Sys2Proof.Machine.execChkLearn m w val s
  | .chkWindowResult => Sys2Proof.Machine.execChkWindowResult s
  | .dprxCapChange m p val => Sys2Proof.Machine.execDprxCapChange m p val s
  | .hpdEnableClear m p val => Sys2Proof.Machine.execHpdEnableClear m p val s
  | .hpdPulseEnd p => Sys2Proof.Machine.execHpdPulseEnd p s
  | .dprxLinkLock p rate lanes tie => Sys2Proof.Machine.execDprxLinkLock p rate lanes tie s
  | .dprxLockLoss p => Sys2Proof.Machine.execDprxLockLoss p s
  | .dprxRelockTimeout p => Sys2Proof.Machine.execDprxRelockTimeout p s
  | .dprxFrameStart p f since skew lineHz => Sys2Proof.Machine.execDprxFrameStart p f since skew lineHz s
  | .dprxLineReceive p samples corr uncorr => Sys2Proof.Machine.execDprxLineReceive p samples corr uncorr s
  | .selectiveUpdate p x y w h pixels => Sys2Proof.Machine.execSelectiveUpdate p x y w h pixels s
  | .edidCommit m p => Sys2Proof.Machine.execEdidCommit m p s
  | .edidCommitDone p => Sys2Proof.Machine.execEdidCommitDone p s
  | .dprxAuxRead p off n => Sys2Proof.Machine.execDprxAuxRead p off n s
  | .tapEnable m val => Sys2Proof.Machine.execTapEnable m val s
  | .tapDisable m val => Sys2Proof.Machine.execTapDisable m val s
  | .tapSrcChange m src => Sys2Proof.Machine.execTapSrcChange m src s
  | .tapLinkParamChange m rate lanes ssc => Sys2Proof.Machine.execTapLinkParamChange m rate lanes ssc s
  | .tapDownstreamHpd level rate lanes => Sys2Proof.Machine.execTapDownstreamHpd level rate lanes s
  | .tapAuxNativeRead m addr len => Sys2Proof.Machine.execTapAuxNativeRead m addr len s
  | .tapAuxNativeWrite m addr len => Sys2Proof.Machine.execTapAuxNativeWrite m addr len s
  | .tapAuxI2cRead m addr len => Sys2Proof.Machine.execTapAuxI2cRead m addr len s
  | .tapAuxI2cWrite m addr len => Sys2Proof.Machine.execTapAuxI2cWrite m addr len s
  | .tapAuxReply r data => Sys2Proof.Machine.execTapAuxReply r data s
  | .tapAuxTimeout => Sys2Proof.Machine.execTapAuxTimeout s
  | .loopbackStart m rate => Sys2Proof.Machine.execLoopbackStart m rate s
  | .loopbackStop m errs => Sys2Proof.Machine.execLoopbackStop m errs s
  | .layerAllocate m granules => Sys2Proof.Machine.execLayerAllocate m granules s
  | .layerFree m h => Sys2Proof.Machine.execLayerFree m h s
  | .layerBufferRelease h => Sys2Proof.Machine.execLayerBufferRelease h s
  | .layerUnderrun n t x => Sys2Proof.Machine.execLayerUnderrun n t x s
  | .poolClaim m val => Sys2Proof.Machine.execPoolClaim m val s
  | .poolRelease m => Sys2Proof.Machine.execPoolRelease m s
  | .knotWrite m val => Sys2Proof.Machine.execKnotWrite m val s
  | .gridWrite m k val => Sys2Proof.Machine.execGridWrite m k val s
  | .gridStale tie => Sys2Proof.Machine.execGridStale tie s
  | .kickRetarget m => Sys2Proof.Machine.execKickRetarget m s
  | .kickSettle m => Sys2Proof.Machine.execKickSettle m s
  | .kickFreeze m => Sys2Proof.Machine.execKickFreeze m s
  | .kickUnfreeze m => Sys2Proof.Machine.execKickUnfreeze m s
  | .mapLoad m t => Sys2Proof.Machine.execMapLoad m t s
  | .mapCheckAdopt m t => Sys2Proof.Machine.execMapCheckAdopt m t s
  | .mapOpComplete err => Sys2Proof.Machine.execMapOpComplete err s
  | .sensingEnable m val => Sys2Proof.Machine.execSensingEnable m val s
  | .senseTimerExpire => Sys2Proof.Machine.execSenseTimerExpire s
  | .senseOpStart => Sys2Proof.Machine.execSenseOpStart s
  | .senseReturnDeadline tie => Sys2Proof.Machine.execSenseReturnDeadline tie s
  | .surveyStage m => Sys2Proof.Machine.execSurveyStage m s
  | .surveyApply m => Sys2Proof.Machine.execSurveyApply m s
  | .surveySave m types => Sys2Proof.Machine.execSurveySave m types s
  | .surveySenseNow m => Sys2Proof.Machine.execSurveySenseNow m s
  | .surveyRestartSweep m => Sys2Proof.Machine.execSurveyRestartSweep m s
  | .surveyEndLoupe m => Sys2Proof.Machine.execSurveyEndLoupe m s
  | .surveyCmdComplete err => Sys2Proof.Machine.execSurveyCmdComplete err s
  | .integratorSaveTimer => Sys2Proof.Machine.execIntegratorSaveTimer s
  | .laneFullTrain m n => Sys2Proof.Machine.execLaneFullTrain m n s
  | .laneFastRetrain m n => Sys2Proof.Machine.execLaneFastRetrain m n s
  | .sparePlannedMove m n k => Sys2Proof.Machine.execSparePlannedMove m n k s
  | .sparePlannedReturn m n => Sys2Proof.Machine.execSparePlannedReturn m n s
  | .returnLaneRegrant m r => Sys2Proof.Machine.execReturnLaneRegrant m r s
  | .laneOff m n => Sys2Proof.Machine.execLaneOff m n s
  | .trainAllLanes m => Sys2Proof.Machine.execTrainAllLanes m s
  | .laneWakeDone n => Sys2Proof.Machine.execLaneWakeDone n s
  | .laneLockTimeout n => Sys2Proof.Machine.execLaneLockTimeout n s
  | .eqPresetDone n growth fom ceased => Sys2Proof.Machine.execEqPresetDone n growth fom ceased s
  | .eqHoldDone n => Sys2Proof.Machine.execEqHoldDone n s
  | .mrkSend => Sys2Proof.Machine.execMrkSend s
  | .capsBurst b tie => Sys2Proof.Machine.execCapsBurst b tie s
  | .statusBurst b tie ackTie => Sys2Proof.Machine.execStatusBurst b tie ackTie s
  | .senseBurst b tie => Sys2Proof.Machine.execSenseBurst b tie s
  | .returnSlotEnd r j guard => Sys2Proof.Machine.execReturnSlotEnd r j guard s
  | .jamRetryTimer r => Sys2Proof.Machine.execJamRetryTimer r s
  | .configResendTimer n => Sys2Proof.Machine.execConfigResendTimer n s
  | .controlPacketResend n => Sys2Proof.Machine.execControlPacketResend n s
  | .integratorPacketSend m => Sys2Proof.Machine.execIntegratorPacketSend m s
  | .powerUp m => Sys2Proof.Machine.execPowerUp m s
  | .discharge m => Sys2Proof.Machine.execDischarge m s
  | .railGood n mon tie => Sys2Proof.Machine.execRailGood n mon tie s
  | .seqDelayExpire => Sys2Proof.Machine.execSeqDelayExpire s
  | .pgTimeout => Sys2Proof.Machine.execPgTimeout s
  | .vinBelowWarn => Sys2Proof.Machine.execVinBelowWarn s
  | .vinRecover tie => Sys2Proof.Machine.execVinRecover tie s
  | .brownoutWaitExpire => Sys2Proof.Machine.execBrownoutWaitExpire s
  | .railFaultDetect k n => Sys2Proof.Machine.execRailFaultDetect k n s
  | .hvOvertemp temp => Sys2Proof.Machine.execHvOvertemp temp s
  | .psmSample k v => Sys2Proof.Machine.execPsmSample k v s
  | .dischargeHoldEnd => Sys2Proof.Machine.execDischargeHoldEnd s
  | .railDischarged n mon tie => Sys2Proof.Machine.execRailDischarged n mon tie s
  | .bleedTimeout => Sys2Proof.Machine.execBleedTimeout s
  | .pfHoldExpire => Sys2Proof.Machine.execPfHoldExpire s
  | .crackMeasure ohm => Sys2Proof.Machine.execCrackMeasure ohm s
  | .segFrameStart => Sys2Proof.Machine.execSegFrameStart s
  | .segBlinkToggle ram => Sys2Proof.Machine.execSegBlinkToggle ram s
  | .segWideSet m val => Sys2Proof.Machine.execSegWideSet m val s
  | .segWideClear m val => Sys2Proof.Machine.execSegWideClear m val s
  | .bar2Write a bs => Sys2Proof.Machine.execBar2Write a bs s
  | .bar2Read a n ecc => Sys2Proof.Machine.execBar2Read a n ecc s
  | .eccWriteback w => Sys2Proof.Machine.execEccWriteback w s
  | .scrubRead found => Sys2Proof.Machine.execScrubRead found s
  | .pondWindowAccess m off val pa found => Sys2Proof.Machine.execPondWindowAccess m off val pa found s
  | .pondRetry pa => Sys2Proof.Machine.execPondRetry pa s
  | .bankRetentionEnter n => Sys2Proof.Machine.execBankRetentionEnter n s
  | .bankWakeDone n => Sys2Proof.Machine.execBankWakeDone n s
  | .marchPreserving m => Sys2Proof.Machine.execMarchPreserving m s
  | .marchDestroying m => Sys2Proof.Machine.execMarchDestroying m s
  | .marchAbort m => Sys2Proof.Machine.execMarchAbort m s
  | .marchIntervalExpire => Sys2Proof.Machine.execMarchIntervalExpire s
  | .marchCopyinDone ecc => Sys2Proof.Machine.execMarchCopyinDone ecc s
  | .marchTestDone fail => Sys2Proof.Machine.execMarchTestDone fail s
  | .marchCopybackDone => Sys2Proof.Machine.execMarchCopybackDone s
  | .marchBankDone fail => Sys2Proof.Machine.execMarchBankDone fail s
  | .keepStoreCmd m => Sys2Proof.Machine.execKeepStoreCmd m s
  | .keepUnlock m j => Sys2Proof.Machine.execKeepUnlock m j s
  | .keepLock m j => Sys2Proof.Machine.execKeepLock m j s
  | .keepSetPassword m j => Sys2Proof.Machine.execKeepSetPassword m j s
  | .keepLockAll m => Sys2Proof.Machine.execKeepLockAll m s
  | .keepStageRelease m => Sys2Proof.Machine.execKeepStageRelease m s
  | .keepAutoStore => Sys2Proof.Machine.execKeepAutoStore s
  | .keepSnapshot => Sys2Proof.Machine.execKeepSnapshot s
  | .keepStoreComplete tie => Sys2Proof.Machine.execKeepStoreComplete tie s
  | .keepStoreTimeout => Sys2Proof.Machine.execKeepStoreTimeout s
  | .keepDataRead m => Sys2Proof.Machine.execKeepDataRead m s
  | .keepDataWrite m val => Sys2Proof.Machine.execKeepDataWrite m val s
  | .keepPasswordWord m val => Sys2Proof.Machine.execKeepPasswordWord m val s
  | .keepRegionWrite m j val => Sys2Proof.Machine.execKeepRegionWrite m j val s
  | .recordResolve m id forEn who => Sys2Proof.Machine.execRecordResolve m id forEn who s
  | .recordCommit m id len forEn who => Sys2Proof.Machine.execRecordCommit m id len forEn who s
  | .recordCommitDone => Sys2Proof.Machine.execRecordCommitDone s
  | .keepStageWrite m n val => Sys2Proof.Machine.execKeepStageWrite m n val s
  | .counterAdd m amount => Sys2Proof.Machine.execCounterAdd m amount s
  | .counterClear m => Sys2Proof.Machine.execCounterClear m s
  | .counterUpdateDone => Sys2Proof.Machine.execCounterUpdateDone s
  | .counterRead m => Sys2Proof.Machine.execCounterRead m s
  | .logAppend m => Sys2Proof.Machine.execLogAppend m s
  | .clockSet m val => Sys2Proof.Machine.execClockSet m val s
  | .keepClockTick vkeep => Sys2Proof.Machine.execKeepClockTick vkeep s
  | .coreRun m k => Sys2Proof.Machine.execCoreRun m k s
  | .coreReset m k => Sys2Proof.Machine.execCoreReset m k s
  | .coreHalt m k => Sys2Proof.Machine.execCoreHalt m k s
  | .coreResume m k => Sys2Proof.Machine.execCoreResume m k s
  | .coreInstruction k => Sys2Proof.Machine.execCoreInstruction k s
  | .coreWfi k => Sys2Proof.Machine.execCoreWfi k s
  | .fenceI k => Sys2Proof.Machine.execFenceI k s
  | .coreInterrupt k => Sys2Proof.Machine.execCoreInterrupt k s
  | .mtimerMatch k => Sys2Proof.Machine.execMtimerMatch k s
  | .mtimeRead m => Sys2Proof.Machine.execMtimeRead m s
  | .coreKick m k => Sys2Proof.Machine.execCoreKick m k s
  | .watchdogExpire k tie => Sys2Proof.Machine.execWatchdogExpire k tie s
  | .bankAssign m k n => Sys2Proof.Machine.execBankAssign m k n s
  | .bankReturn m k => Sys2Proof.Machine.execBankReturn m k s
  | .channelBind m c val => Sys2Proof.Machine.execChannelBind m c val s
  | .channelTableLock m => Sys2Proof.Machine.execChannelTableLock m s
  | .mailboxSend m c val => Sys2Proof.Machine.execMailboxSend m c val s
  | .mailboxReceive m c => Sys2Proof.Machine.execMailboxReceive m c s
  | .mailboxAckTimeout c ab tie => Sys2Proof.Machine.execMailboxAckTimeout c ab tie s
  | .mailboxXwait c tie => Sys2Proof.Machine.execMailboxXwait c tie s
  | .doorbellRing m val => Sys2Proof.Machine.execDoorbellRing m val s
  | .lockAcquireRead m n tied => Sys2Proof.Machine.execLockAcquireRead m n tied s
  | .lockRelease m n val => Sys2Proof.Machine.execLockRelease m n val s
  | .lockForceClear m val => Sys2Proof.Machine.execLockForceClear m val s
  | .ping c => Sys2Proof.Machine.execPing c s
  | .commit c => Sys2Proof.Machine.execCommit c s
  | .loadCore c => Sys2Proof.Machine.execLoadCore c s
  | .loadCoreComplete bad => Sys2Proof.Machine.execLoadCoreComplete bad s
  | .pcieFunctionReset k => Sys2Proof.Machine.execPcieFunctionReset k s
  | .pcieD3hot enter => Sys2Proof.Machine.execPcieD3hot enter s
  | .bar0Request a write n part => Sys2Proof.Machine.execBar0Request a write n part s
  | .poisonedWrite => Sys2Proof.Machine.execPoisonedWrite s
  | .msixTrigger v w1c => Sys2Proof.Machine.execMsixTrigger v w1c s
  | .errorClear m val => Sys2Proof.Machine.execErrorClear m val s
  | .sidePortPondAccess a val pa found => Sys2Proof.Machine.execSidePortPondAccess a val pa found s
  | .sidePortLowWrite a val => Sys2Proof.Machine.execSidePortLowWrite a val s
  | .sidePortHighWrite a val => Sys2Proof.Machine.execSidePortHighWrite a val s
  | .sidePortLowRead a ready => Sys2Proof.Machine.execSidePortLowRead a ready s
  | .sidePortHighRead a => Sys2Proof.Machine.execSidePortHighRead a s
  | .sidePortReadReady => Sys2Proof.Machine.execSidePortReadReady s
  | .xspiRead m len => Sys2Proof.Machine.execXspiRead m len s
  | .xspiProgram m len => Sys2Proof.Machine.execXspiProgram m len s
  | .xspiSectorErase m => Sys2Proof.Machine.execXspiSectorErase m s
  | .xspiBlockErase m => Sys2Proof.Machine.execXspiBlockErase m s
  | .xspiReadStatus m => Sys2Proof.Machine.execXspiReadStatus m s
  | .xspiSoftwareReset m => Sys2Proof.Machine.execXspiSoftwareReset m s
  | .xspiOpComplete status late => Sys2Proof.Machine.execXspiOpComplete status late s
  | .xspiBusyTimeout status => Sys2Proof.Machine.execXspiBusyTimeout status s
  | .dmaStart m ss ds => Sys2Proof.Machine.execDmaStart m ss ds s
  | .dmaAbort m => Sys2Proof.Machine.execDmaAbort m s
  | .dmaComplete stop => Sys2Proof.Machine.execDmaComplete stop s
  | .i2cTransaction m n val => Sys2Proof.Machine.execI2cTransaction m n val s
  | .i2cComplete n nack pecBad data => Sys2Proof.Machine.execI2cComplete n nack pecBad data s
  | .i2cClockLowTimeout n tie => Sys2Proof.Machine.execI2cClockLowTimeout n tie s
  | .gpioEnable m val => Sys2Proof.Machine.execGpioEnable m val s
  | .gpioEdge p rise => Sys2Proof.Machine.execGpioEdge p rise s
  | .ntcSample k c => Sys2Proof.Machine.execNtcSample k c s
  | .jtagUpdateIr ir => Sys2Proof.Machine.execJtagUpdateIr ir s
  | .dbgAccess op off data => Sys2Proof.Machine.execDbgAccess op off data s
  | .dbgCapture running => Sys2Proof.Machine.execDbgCapture running s
  | .faultRaise code inst obj => Sys2Proof.Machine.execFaultRaise code inst obj s
  | .integratorFault m val => Sys2Proof.Machine.execIntegratorFault m val s
  | .recoveryComplete tie => Sys2Proof.Machine.execRecoveryComplete tie s
  | .recoveryBudgetEnd => Sys2Proof.Machine.execRecoveryBudgetEnd s
  | .regenAttemptStart => Sys2Proof.Machine.execRegenAttemptStart s
  | .regenStepDone found => Sys2Proof.Machine.execRegenStepDone found s
  | .regenTimeout => Sys2Proof.Machine.execRegenTimeout s
  | .accountingFlush => Sys2Proof.Machine.execAccountingFlush s
  | .pllLockLoss k => Sys2Proof.Machine.execPllLockLoss k s
  | .sscHopEnable m val => Sys2Proof.Machine.execSscHopEnable m val s
  | .sscHop => Sys2Proof.Machine.execSscHop s
  | .fclkStepRequest m req => Sys2Proof.Machine.execFclkStepRequest m req s
  | .fclkStepEffect => Sys2Proof.Machine.execFclkStepEffect s
  | .avsStep => Sys2Proof.Machine.execAvsStep s
  | .avsMonitor mv => Sys2Proof.Machine.execAvsMonitor mv s
  | .monitorSample vals => Sys2Proof.Machine.execMonitorSample vals s
  | .marginReplan after70 => Sys2Proof.Machine.execMarginReplan after70 s
  | .presetTrial n p fomUp hdrUp => Sys2Proof.Machine.execPresetTrial n p fomUp hdrUp s
  | .eyeMeasure m val => Sys2Proof.Machine.execEyeMeasure m val s
  | .eyeMeasureDone horiz vert fom lost => Sys2Proof.Machine.execEyeMeasureDone horiz vert fom lost s
  | .kRegisterSave => Sys2Proof.Machine.execKRegisterSave s
  | .vddAoLoss => Sys2Proof.Machine.execVddAoLoss s
  | .coreSuppliesGood => Sys2Proof.Machine.execCoreSuppliesGood s
  | .pcieLinkUp speed width bme fnMask => Sys2Proof.Machine.execPcieLinkUp speed width bme fnMask s
  | .videoStreamLoss p => Sys2Proof.Machine.execVideoStreamLoss p s
  | .testLogicReset => Sys2Proof.Machine.execTestLogicReset s

end Sys2Proof.Machine
end

