-- ==== Sys2Proof/Safety.lean ====
section
/-! DEFINITION. The terms that statements use: what a command answers, what it leaves alone, and the invariants of the block. -/

namespace Sys2Proof.Machine

/-! ## What a command answers -/

/-- Command `i` answers, at `s`, the next state whose device is `e` and whose queue is as it was. -/
def Gives (i : Instr) (s : State) (e : Device) : Prop := exec i s = .next { s with toDevice := e }

/-- Command `i` answers, at `s`, a next state whose device satisfies `P` and whose queue is as it was. -/
def Yields (i : Instr) (s : State) (P : Device → Prop) : Prop := ∃ e, exec i s = .next { s with toDevice := e } ∧ P e

/-! ## What stays -/

/-- Two fields share no bit. -/
def Fld.apart (f g : Fld) : Prop := f.off ≠ g.off ∨ f.hi < g.lo ∨ g.hi < f.lo

/-- A whole register, as a field. -/
def whole (off : Nat) : Fld := ⟨off, 31, 0⟩

/-- From `d` to `e`, each listed field takes its listed value, every field of a register that shares no bit with a listed one reads as before, and nothing but registers changes: memories, queues and the internal state of every unit stay. -/
def Device.sets (d e : Device) (l : List (Fld × Nat)) : Prop :=
  (∀ p ∈ l, e.get p.1 = p.2) ∧ (∀ g : Fld, (∀ p ∈ l, g.apart p.1) → e.get g = d.get g) ∧ e = { d with regs := e.regs }

/-- From `d` to `e`, every register whose offset is not in the list reads as before. -/
def Device.onlyRegs (d e : Device) (l : List Nat) : Prop := ∀ o, o ∉ l → e.rd o = d.rd o

/-- Every byte of every memory reads as before: the frame store, Pond, both stores of Keep, and the flash device. -/
def Device.sameMem (d e : Device) : Prop :=
  (∀ a, e.fsRd a = d.fsRd a) ∧ (∀ a, Sparse.get pondDef e.mem.pond a = Sparse.get pondDef d.mem.pond a) ∧
  (∀ a, e.kRd a = d.kRd a) ∧ (∀ a, Sparse.get keepDef e.keep.shadow a = Sparse.get keepDef d.keep.shadow a) ∧
  (∀ a, e.flashRd a = d.flashRd a)

/-! ## What changes beside registers -/

/-- From `d` to `e`, master `m`'s copy of the banked register at `off` becomes `v`; every other copy and everything else stays. -/
def Device.setsBank (d e : Device) (m : Master) (off v : Nat) : Prop :=
  e.rdB m off = v ∧ (∀ (k : Master) (o : Nat), k ≠ m ∨ o ≠ off → e.rdB k o = d.rdB k o) ∧ e = { d with bank := e.bank }

/-- From `d` to `e`, master `m`'s read returns `v`; what the others read last, and everything else, stays. -/
def Device.replies (d e : Device) (m : Master) (v : Nat) : Prop :=
  e.answer m = v ∧ (∀ k : Master, k ≠ m → e.answer k = d.answer k) ∧ e = { d with rdata := e.rdata }

/-- From `d` to `e`, an access of master `m` to the address `addr` of a space is rejected with `code` (R14, R15, R479): an empty latch takes the code, the address and the space, a full one sets ovf and keeps all three; the access is counted in ERR_CNT; nothing else changes. -/
def Device.rejects (d e : Device) (m : Master) (space addr code : Nat) : Prop :=
  e.get (ERR_CNT_cnt m) = Nat.min (d.get (ERR_CNT_cnt m) + 1) 0xFFFF ∧
  (d.get (ERR_VIEW_CODE_code m) = 0 → e.rd (ERR_VIEW_CODE m) = code + space * 0x1000 ∧ e.rd (ERR_VIEW_ADDR m) = addr) ∧
  (d.get (ERR_VIEW_CODE_code m) ≠ 0 → e.get (ERR_VIEW_CODE_ovf m) = 1 ∧ e.get (ERR_VIEW_CODE_code m) = d.get (ERR_VIEW_CODE_code m) ∧
    e.rd (ERR_VIEW_ADDR m) = d.rd (ERR_VIEW_ADDR m)) ∧
  (∀ g : Fld, g.off ≠ ERR_VIEW_CODE m → g.off ≠ ERR_VIEW_ADDR m → g.apart (ERR_CNT_cnt m) → e.get g = d.get g) ∧
  e = { d with regs := e.regs }

/-- From `d` to `e`, the bytes `bs` stand in the volatile store of Keep from address `a` on; every other byte stays, and of everything else only the dirty pages and their count in KEEP_STAT change (R406): the pages written become dirty, but for page 417. -/
def Device.keepBytes (d e : Device) (a : Nat) (bs : List Nat) : Prop :=
  (∀ x, e.kRd x = if a ≤ x ∧ x < a + bs.length then bs.getD (x - a) 0 % 256 else d.kRd x) ∧
  (∀ page, e.keep.dirty.testBit page = (d.keep.dirty.testBit page || decide (page ≠ 417 ∧ ∃ i < bs.length, (a + i) / 256 = page))) ∧
  (∀ g : Fld, g.apart KEEP_STAT_dirty → e.get g = d.get g) ∧
  e = { d with regs := e.regs, keep := { d.keep with vol := e.keep.vol, dirty := e.keep.dirty, since := e.keep.since } }

/-! ## Cores -/

/-- Core `k` runs, and the 32-bit instruction `w` stands at its pc in Pond where it may fetch it: readable to its master, no ECC error, no test and no retention in the way, and nothing prefetched. -/
def Device.fetches (d : Device) (k : CoreId) (w : Nat) : Prop :=
  let o := (d.core k).pc - 0x1000000
  d.power.coreOn = true ∧ d.coreState k = 1 ∧ (d.core k).prefetch = [] ∧ (d.core k).pc % 4 = 0 ∧ 0x1000000 ≤ (d.core k).pc ∧ (d.core k).pc < 0x4000000 ∧
  w % 4 = 3 ∧ w = leNat (d.pondBytes o 4) ∧ d.pondMay (2 + k) o 2 false = true ∧ d.pondMay (2 + k) (o + 2) 2 false = true ∧
  d.mem.march.stage = .idle ∧ d.get (MEM_BANK_INFO_retained (o / 131072)) = 0 ∧ d.pondMap o / 8 ∉ d.mem.pondUe

/-- From `d` to `e`, core `k` has retired one instruction: register `rd` takes `v` (x0 stays 0), the pc goes to `pc`, and minstret counts it; the core's other registers and CSRs, every other core, every register of the block and every memory stay. The cycles it took are free. -/
def Device.retires (d e : Device) (k : CoreId) (rd v pc : Nat) : Prop :=
  (∀ r < 32, (e.core k).reg r = if r = rd ∧ r ≠ 0 then v % 2 ^ 32 else (d.core k).reg r) ∧ (e.core k).pc = pc % 2 ^ 32 ∧
  (e.core k).minstret = ((d.core k).minstret + 1) % 2 ^ 64 ∧
  e.core k = { d.core k with x := (e.core k).x, pc := (e.core k).pc, minstret := (e.core k).minstret, mcycle := (e.core k).mcycle, prefetch := (e.core k).prefetch } ∧
  (∀ j, j ≠ k.val → e.core j = d.core j) ∧ (∀ m, m ≠ 2 + k.val → e.answer m = d.answer m) ∧
  e = { d with ik := { d.ik with cores := e.ik.cores }, rdata := e.rdata, free := e.free }

/-! ## Modes, power and boot -/

/-- NEWT, with no transition in progress. -/
def Device.inNewt (d : Device) : Prop := d.mode = 5 ∧ d.trans = none

/-- From `d` to `e`, a transition has taken effect: the mode and its cause are in force, nothing waits, and memories stay. -/
def Device.arrived (d e : Device) (t : Trans) : Prop :=
  e.mode = t.target ∧ e.get GLB_MODE_CAUSE_cause = t.cause ∧ e.get GLB_MODE_CAUSE_prev = d.mode ∧ e.get GLB_MODE_STAT_busy = 0 ∧
  e.get GLB_MODE_STAT_target = t.target ∧ e.trans = none ∧ e.mem = d.mem ∧ e.keep = d.keep

/-- From `d` to `e`, a wake of `cause`: PWRUP_EN is high, the wake latches are clear, and page 417 of Keep holds the cause (R45, R584). -/
def Device.woken (d e : Device) (cause : Nat) : Prop :=
  e.power.pwrupEn = true ∧ e.power.coreOn = false ∧ e.power.coreGood = false ∧ e.power.hold10 = false ∧ e.power.wake = {} ∧
  (∀ i < 4, e.kRd (417 * 256 + i) = cause / 256 ^ i % 256) ∧
  (∀ a, (a < 417 * 256 ∨ 417 * 256 + 8 ≤ a) → e.kRd a = d.kRd a) ∧
  (d.keep.aoHeld = true → e.rd KEEP_CLK = d.rd KEEP_CLK) ∧ e.keep.shadow = d.keep.shadow

/-- From `d` to `e`, the core die has left reset into TADPOLE and boot runs: the frame store and Pond are empty, Keep, the flash device and the clock stay. -/
def Device.startsUp (d e : Device) : Prop :=
  e.power.coreOn = true ∧ e.mode = 1 ∧ e.boot = { running := true, started := 4, resetUs := d.us } ∧ e.keep.recalling = true ∧
  e.mem.fs = [] ∧ e.mem.pond = [] ∧ e.keep.vol = d.keep.vol ∧ e.keep.shadow = d.keep.shadow ∧ e.hif.flash = d.hif.flash ∧
  e.rd KEEP_CLK = d.rd KEEP_CLK ∧ e.rd GLB_MODE_CAUSE = d.kRd (417 * 256) % 128

/-- From `d` to `e`, the core die is off in DARK with a cause: what it held is lost, the shadow of Keep and the flash device stay. -/
def Device.goesDark (d e : Device) (cause : Nat) : Prop :=
  e.power.coreOn = false ∧ e.power.pwrupEn = false ∧ e.power.hold10 = true ∧ e.mode = 0 ∧ e.get GLB_MODE_CAUSE_cause = cause ∧
  e.trans = none ∧ e.mem.fs = [] ∧ e.mem.pond = [] ∧ e.keep.store = none ∧ e.keep.shadow = d.keep.shadow ∧ e.hif.flash = d.hif.flash

/-! ## Invariants -/

/-- Every memory is in its canonical form: the frame store against the default of the layout in force, Pond, the two stores of Keep, the snapshot of a store under way, and the flash device. -/
def Device.memWf (d : Device) : Prop :=
  Sparse.wf (fsDef d.mem.lay) d.mem.fs = true ∧ Sparse.wf pondDef d.mem.pond = true ∧ Sparse.wf keepDef d.keep.vol = true ∧
  Sparse.wf keepDef d.keep.shadow = true ∧ (∀ k, d.keep.store = some k → Sparse.wf keepDef k.data = true) ∧ Sparse.wf flashDef d.hif.flash = true

/-- The registers are stored in their canonical form: what each holds, the values in force, and the copies of the banked ones. -/
def Device.regsWf (d : Device) : Prop :=
  Sparse.wf resetOf d.regs = true ∧ Sparse.wf resetOf d.force = true ∧ Sparse.wf bankDef d.bank = true

/-- The link map of a set names lanes, return lanes and slots that exist, for at most 96 stripes, and has at most 4 spares (R69, check 14 of R77). -/
def PrismSet.linkOk (p : PrismSet) : Prop :=
  p.lanes.length ≤ 96 ∧ p.spares.length ≤ 4 ∧ (∀ e ∈ p.lanes, e.lane < 96 ∧ e.ret < 24 ∧ e.slot < 4) ∧ (∀ e ∈ p.spares, e.lane < 96)

/-- Both sets, and a checked set that is being decoded, have sound link maps. -/
def Device.linkFits (d : Device) : Prop :=
  d.act.linkOk ∧ d.mir.linkOk ∧ ∀ o, d.img.op = some o → ∀ p, o.set = some p → p.linkOk

/-- The mode is one of the six of R3, and so is the target of every transition and the mode a LOUPE survey returns to; a checked set that is being decoded presets mirror-set registers only (check 20 of R77). -/
def Device.modeOk (d : Device) : Prop :=
  d.rd GLB_MODE < 6 ∧ (∀ t, d.trans = some t → t.target < 6) ∧ d.loupeFrom < 6 ∧
  ∀ o, d.img.op = some o → ∀ p, o.set = some p → ∀ e ∈ p.presets, e.1 ∈ msRegs

end Sys2Proof.Machine
end

