-- ==== Sys2Proof/Certificates/Slice0/Obligations.lean ====
section
/-! DEFINITION. The statements about the block, for the provers. Each says, in its docstring, the rules of the spec it follows. -/

open Sys2Proof Sys2Proof.Machine

/-- A step is the command at the front of the queue, with the queue's rest behind it.
For every command c and state s, step of s with c at the front of its queue is exec of c on s with the queue's rest. On an empty queue a microsecond passes, which is the model's choice (assumption 1): the time moves on and nothing else does. The command table gives no row any bits, so no word spells a command. -/
def Obligations.StepTakesTheFrontCommand : Prop :=
  (∀ (c : Instr) (rest : List Instr) (s : State), step { s with pending := c :: rest } = exec c { s with pending := rest }) ∧
  (∀ s : State, s.pending = [] → step s = .next { s with us := s.us + 1 }) ∧
  (∀ (nbits w : Nat) (s : State), decodeTableWord nbits w = none ∧ s.withFetchWord nbits w = s)

/-- From every state, the commands that wait are served one by one, first in first out, with no fault and no refusal, until the queue is empty; a command never puts another one into the queue. -/
def Obligations.TheQueueEmptiesInOrder : Prop :=
  ∀ (n : Nat) (s : State), n ≤ s.pending.length → ∃ e : Device, core.run n s = .next { toDevice := e, pending := s.pending.drop n }

/-- The state after reset: TADPOLE (mode 1) with the boot running, the identity, mode and boot registers and GLB_WAKE_CFG at the reset values of their tables, an empty queue and an idle bridge; and every invariant of the block holds. -/
def Obligations.ResetIsTheStartOfBoot : Prop :=
  State.reset.pending = [] ∧ State.reset.toDevice.mode = 1 ∧ State.reset.trans = none ∧ State.reset.boot.running = true ∧
  State.reset.toDevice.rd GLB_ID = 0x18120 ∧ State.reset.toDevice.rd GLB_REV = 0x102 ∧ State.reset.toDevice.rd GLB_MODE = 1 ∧ State.reset.toDevice.rd GLB_MODE_STAT = 1 ∧
  State.reset.toDevice.rd GLB_BOOT_STAT = 2 ∧ State.reset.toDevice.rd GLB_BOOT_STEPS = 2 ∧ State.reset.toDevice.rd GLB_WAKE_CFG = 0x501 ∧
  State.reset.bridge.posted = [] ∧ State.reset.bridge.stalled = [] ∧ State.reset.bridge.lost = false ∧
  State.reset.toDevice.memWf ∧ State.reset.toDevice.regsWf ∧ State.reset.toDevice.linkFits ∧ State.reset.toDevice.modeOk

/-- R9, R10: an access that is not a full 32-bit access on a 32-bit boundary is rejected with E_ALIGN, and a rejected read returns 0xFFFFFFFF; an access to an offset where no register is implemented is rejected with E_UNIMPL, and a read of it returns 0.
A rejection latches the first error of its master with the offset, counts it, and changes nothing else. -/
def Obligations.BadAccessesAreRejected : Prop :=
  (∀ (m : Master) (off val be : Nat) (s : State), s.power.coreOn = true → off < 0x4000000 → (off % 4 ≠ 0 ∨ be ≠ 15) →
    Yields (.registerWrite m off val be) s (fun e => s.toDevice.rejects e m 0 off eAlign)) ∧
  (∀ (m : Master) (off : Nat) (s : State), s.power.coreOn = true → off < 0x4000000 → off % 4 ≠ 0 →
    Yields (.readClear m off) s (fun e => ∃ d, s.toDevice.replies d m 0xFFFFFFFF ∧ d.rejects e m 0 off eAlign)) ∧
  (∀ (a val : Nat) (s : State), s.toDevice.barOpen = true → a + 4 ≤ 0x4000000 →
    Yields (.bar0Request a (some [val]) 1 [0]) s (fun e => s.toDevice.rejects e 0 0 a eAlign) ∧
    Yields (.bar0Request a none 1 [0]) s (fun e => e.hif.bar0 = [0xFFFFFFFF] ∧
      ∃ d, ({ s.toDevice with hif := { s.hif with bar0 := [0xFFFFFFFF] } }).replies d 0 0xFFFFFFFF ∧ d.rejects e 0 0 a eAlign)) ∧
  (∀ (m : Master) (off val : Nat) (s : State), s.power.coreOn = true → off % 4 = 0 → off < 0x1000000 → regAt off = none →
    Yields (.registerWrite m off val 15) s (fun e => s.toDevice.rejects e m 0 off eUnimpl) ∧
    Yields (.readClear m off) s (fun e => ∃ d, s.toDevice.replies d m 0 ∧ d.rejects e m 0 off eUnimpl))

/-- R3: GLB_MODE reports the operating mode in bits 2 to 0; bits 31 to 3 read 0, and the values 6 and 7 never appear.
A read of GLB_MODE returns the mode, and every step keeps the mode, the target of the transition in progress and the mode a survey returns to among the six. -/
def Obligations.ModeStaysLegal : Prop :=
  (∀ s s' : State, s.toDevice.modeOk → step s = .next s' → s'.toDevice.modeOk) ∧
  (∀ (m : Master) (s : State), s.power.coreOn = true → s.toDevice.modeOk →
    Yields (.readClear m GLB_MODE) s (fun e => s.toDevice.replies e m s.toDevice.mode) ∧ s.toDevice.mode < 6)

/-- Every step keeps every memory in its canonical form: the frame store, Pond, both stores of Keep, the snapshot of a store, and the flash device. -/
def Obligations.MemoriesStayCanonical : Prop :=
  ∀ s s' : State, s.toDevice.memWf → step s = .next s' → s'.toDevice.memWf

/-- Every step keeps the registers in their canonical form: what each holds, the values in force, and the copies of the banked ones. -/
def Obligations.RegistersStayCanonical : Prop :=
  ∀ s s' : State, s.toDevice.regsWf → step s = .next s' → s'.toDevice.regsWf

/-- Every step keeps the link maps of the sets sound: lanes below 96, return lanes below 24, slots below 4, at most 96 stripes and 4 spares. Check 14 of R77 keeps every other map out. -/
def Obligations.SetsFitTheLink : Prop :=
  ∀ s s' : State, s.toDevice.linkFits → step s = .next s' → s'.toDevice.linkFits

/-- R7, R9, R10, R18: single register accesses.
A plain register holds what is written to it and reads it back; a write of ones clears write-1-to-clear bits; a read clears clear-on-read fields; a write to the HV die is posted, or stalls behind 16 posted ones. -/
def Obligations.RegisterAccessesTakeEffect : Prop :=
  (∀ (m : Master) (val : Nat) (s : State), s.power.coreOn = true → among m mGpio = true → val < 2 ^ 32 →
    Yields (.registerWrite m HIF_GPIO_EDGE val 15) s (fun e => s.toDevice.sets e [(whole HIF_GPIO_EDGE, val)])) ∧
  (∀ (m : Master) (val : Nat) (s : State), s.power.coreOn = true → among m mGpio = true → val < 2 ^ 32 → reservedBad HIF_IRQ val = false →
    Yields (.registerWrite m HIF_IRQ val 15) s (fun e => s.toDevice.sets e [(whole HIF_IRQ, maskOut 32 (s.toDevice.rd HIF_IRQ) val)])) ∧
  (∀ (m : Master) (off val : Nat) (s : State), s.power.coreOn = true → s.bridge.lost = false → onHvDie off = true → (regAt off).isSome = true →
    off % 4 = 0 → off < 0x1000000 → val < 2 ^ 32 → s.bridge.stalled = [] →
    (s.bridge.posted.length < 16 →
      Yields (.registerWrite m off val 15) s (fun e => e.bridge = { s.bridge with posted := s.bridge.posted ++ [{ master := m, off := off, val := val }] } ∧
        (∀ o, o ≠ HIF_SP_STAT → e.rd o = s.toDevice.rd o) ∧ e = { s.toDevice with regs := e.regs, bridge := e.bridge })) ∧
    (16 ≤ s.bridge.posted.length →
      Yields (.registerWrite m off val 15) s (fun e => e.bridge = { s.bridge with stalled := [{ master := m, off := off, val := some val }] } ∧
        (∀ o, o ≠ HIF_SP_STAT → e.rd o = s.toDevice.rd o) ∧ e = { s.toDevice with regs := e.regs, bridge := e.bridge }))) ∧
  (∀ (m : Master) (s : State), s.power.coreOn = true →
    Yields (.readClear m HIF_GPIO_EDGE) s (fun e => s.toDevice.replies e m (s.toDevice.rd HIF_GPIO_EDGE)) ∧
    Yields (.readClear m GLB_ID) s (fun e => s.toDevice.replies e m (s.toDevice.rd GLB_ID)) ∧
    Yields (.readClear m HIF_PCI_EVT) s (fun e => ∃ d, s.toDevice.replies d m (s.toDevice.rd HIF_PCI_EVT) ∧ d.sets e [(whole HIF_PCI_EVT, 0)])) ∧
  (∀ (m : Master) (i : Fin 5) (s : State), s.power.coreOn = true → s.bridge.lost = false → s.toDevice.hvHeld m = true →
    Gives (.readClear m (SEG_RAM i)) s { s.toDevice with bridge := { s.bridge with stalled := s.bridge.stalled ++ [{ master := m, off := SEG_RAM i, val := none }] } })

/-- R18, R19: posted writes take effect in their order, stalled accesses follow when there is room, and the bridge is lost and restored. -/
def Obligations.BridgeKeepsOrder : Prop :=
  (∀ (m : Master) (i : Fin 5) (val : Nat) (l : List HvWrite) (s : State), s.power.coreOn = true → s.bridge.lost = false → among m mSide = true →
    val < 2 ^ 32 → s.bridge.posted = { master := m, off := SEG_RAM i, val := val } :: l →
    Yields .hvWriteComplete s (fun e => e.bridge = { s.bridge with posted := l } ∧ e.rd (SEG_RAM i) = val ∧
      (∀ o, o ≠ SEG_RAM i → o ≠ HIF_SP_STAT → e.rd o = s.toDevice.rd o) ∧ e = { s.toDevice with regs := e.regs, bridge := e.bridge })) ∧
  (∀ (m : Master) (off val : Nat) (s : State), s.bridge.posted.length < 16 → s.bridge.stalled = [{ master := m, off := off, val := some val }] →
    Yields .hvAccessUnstall s (fun e =>
      e.bridge = { s.bridge with posted := s.bridge.posted ++ [{ master := m, off := off, val := val }], stalled := [] } ∧
      (∀ o, o ≠ HIF_SP_STAT → e.rd o = s.toDevice.rd o) ∧ e = { s.toDevice with regs := e.regs, bridge := e.bridge })) ∧
  (∀ (m : Master) (i : Fin 5) (s : State), s.bridge.posted = [] → s.bridge.stalled = [{ master := m, off := SEG_RAM i, val := none }] →
    Yields .hvAccessUnstall s (fun e => ({ s.toDevice with bridge := { s.bridge with stalled := [] } }).replies e m (s.toDevice.rd (SEG_RAM i)))) ∧
  (∀ s : State, s.power.coreOn = true → s.bridge.lost = false →
    Gives (.hvBridgeTransfer true) s { s.toDevice with bridge := { s.bridge with fails := 0, repeats := s.bridge.repeats + (if s.bridge.fails = 0 then 0 else 1) } } ∧
    (s.bridge.fails < 2 → Gives (.hvBridgeTransfer false) s { s.toDevice with bridge := { s.bridge with fails := s.bridge.fails + 1 } }) ∧
    (2 ≤ s.bridge.fails → s.toDevice.mode ≠ 5 → Yields (.hvBridgeTransfer false) s (fun e => e.bridge.lost = true ∧ e.bridge.posted = [] ∧ e.bridge.stalled = [] ∧ e.inNewt))) ∧
  (∀ s : State, s.power.coreOn = true → s.bridge.lost = false → s.toDevice.mode ≠ 5 →
    Yields .hvBridgeLost s (fun e => e.bridge.lost = true ∧ e.bridge.posted = [] ∧ e.bridge.stalled = [] ∧ e.inNewt))

/-- R82, R474, R485, R486, R499: the other ways to the registers.
FAB_ACT_DATA reads the active copy; a BAR0 request is performed DWORD by DWORD; the side port joins and splits halves; the debug port reads. -/
def Obligations.OtherWaysToRegisters : Prop :=
  (∀ (m : Master) (off : Nat) (s : State), s.power.coreOn = true → s.toDevice.rdB m FAB_ACT_ADDR = off → isMirror off = true → onHvDie off = false →
    Yields (.activeCopyRead m) s (fun e => s.toDevice.replies e m (s.toDevice.activeCopy off))) ∧
  (∀ (val : Nat) (s : State), s.toDevice.barOpen = true → val < 2 ^ 32 →
    Yields (.bar0Request HIF_GPIO_EDGE (some [val]) 1 []) s (fun e => s.toDevice.sets e [(whole HIF_GPIO_EDGE, val)])) ∧
  (∀ s : State, s.toDevice.barOpen = true →
    Yields (.bar0Request HIF_GPIO_EDGE none 1 []) s (fun e => e.hif.bar0 = [s.toDevice.rd HIF_GPIO_EDGE] ∧
      ({ s.toDevice with hif := { s.hif with bar0 := e.hif.bar0 } }).replies e 0 (s.toDevice.rd HIF_GPIO_EDGE))) ∧
  (∀ (a low val : Nat) (s : State), s.power.coreOn = true → s.toDevice.get HIF_SP_STAT_write = 0 → spUnmapped a = false → spOffset a = HIF_GPIO_EDGE →
    s.hif.lowHeld = some (HIF_GPIO_EDGE, low) → low < 65536 → val < 65536 →
    Yields (.sidePortHighWrite a val) s (fun e => e.rd HIF_GPIO_EDGE = low + val * 65536 ∧ e.get HIF_SP_STAT_low = 0 ∧
      (∀ o, o ≠ HIF_GPIO_EDGE → o ≠ HIF_SP_STAT → e.rd o = s.toDevice.rd o) ∧
      e = { s.toDevice with regs := e.regs, hif := { s.hif with lowHeld := none, spBusy := false } })) ∧
  (∀ (a : Nat) (s : State), s.power.coreOn = true → spUnmapped a = false → spOffset a = HIF_GPIO_EDGE → s.hif.heldRead = none →
    Yields (.sidePortLowRead a true) s (fun e => e.hif = { s.hif with spBusy := false, spData := s.toDevice.rd HIF_GPIO_EDGE % 65536, readLatch := some (HIF_GPIO_EDGE, s.toDevice.rd HIF_GPIO_EDGE / 65536) } ∧ (∀ o, o ≠ HIF_SP_STAT → e.rd o = s.toDevice.rd o) ∧ e = { s.toDevice with regs := e.regs, hif := e.hif }) ∧
    Yields (.sidePortLowRead a false) s (fun e => e.hif = { s.hif with spBusy := true, heldRead := some (HIF_GPIO_EDGE, s.toDevice.rd HIF_GPIO_EDGE, false) } ∧
      e.get HIF_SP_EVT_busies = Nat.min (s.toDevice.get HIF_SP_EVT_busies + 1) 0xFFFF ∧
      s.toDevice.onlyRegs e [HIF_SP_EVT, HIF_SP_STAT] ∧ e = { s.toDevice with regs := e.regs, hif := e.hif })) ∧
  (∀ (off v : Nat) (s : State), s.hif.heldRead = some (off, v, false) →
    Yields .sidePortReadReady s (fun e => e.hif = { s.hif with heldRead := some (off, v, true), spBusy := false } ∧ e.get HIF_SP_STAT_read = 1 ∧
      (∀ o, o ≠ HIF_SP_STAT → e.rd o = s.toDevice.rd o) ∧ e = { s.toDevice with regs := e.regs, hif := e.hif })) ∧
  (∀ (data : Nat) (s : State), s.power.coreOn = true → s.toDevice.get HIF_JTAG_STAT_instr = 0x10 →
    Yields (.dbgAccess 1 HIF_GPIO_EDGE data) s (fun e =>
      ({ s.toDevice with hif := { s.hif with dbgData := s.toDevice.rd HIF_GPIO_EDGE, dbgStatus := eOk } }).replies e 14 (s.toDevice.rd HIF_GPIO_EDGE)))

/-- R75, R76, R77, R80: image operations start under R76, end with the first failing check of R77 or with the image decoded into the mirror set alone, and are aborted; the active set stays. -/
def Obligations.ImagesAreChecked : Prop :=
  (∀ (m : Master) (s : State), s.power.coreOn = true → (∀ x ∈ s.toDevice.imgChecks m 1, x.1 = false) →
    Yields (.imgCheckDecode m) s (fun e => ({ s.toDevice with img := { s.img with op := some { op := 1, master := m } } }).sets e [(whole FAB_IMG_STAT, 0xFF000001)])) ∧
  (∀ (m : Master) (s : State), s.power.coreOn = true → (∀ x ∈ s.toDevice.imgChecks m 2, x.1 = false) →
    Yields (.imgCheckOnly m) s (fun e => ({ s.toDevice with img := { s.img with op := some { op := 2, master := m } } }).sets e [(whole FAB_IMG_STAT, 0xFF000001)])) ∧
  (∀ (m : Master) (o : ImgOp) (s : State), s.power.coreOn = true → among m mFabric = true → s.img.op = some o →
    Yields (.imgAbort m) s (fun e => ({ s.toDevice with img := { s.img with op := none } }).sets e
      ((if o.set.isSome then [(FAB_MIR_STAT_valid, 0)] else []) ++ [(whole FAB_IMG_STAT, 0xFF0A0002), (whole FAB_IMG_FAIL_OFF, 0)]))) ∧
  (∀ (m : Master) (o : ImgOp) (f : ImgFail) (b : Bool) (s : State), s.img.op = some o → o.master = m → o.set = none →
    imgCheck21 (fun i => s.toDevice.fsRd (s.toDevice.rd FAB_IMG_ADDR + i)) (s.toDevice.imgCtx (some (s.toDevice.rd FAB_IMG_LEN))) = .error f → f.code < 256 →
    Yields (.imgOpComplete b) s (fun e => ∃ d,
      ({ s.toDevice with img := { s.img with op := none } }).sets d
        [(whole FAB_IMG_STAT, (2 + f.check * 0x100 + f.code * 0x10000 + f.section_ % 256 * 0x1000000) % 2 ^ 32), (whole FAB_IMG_FAIL_OFF, f.off % 2 ^ 32)] ∧
      d.rejects e m 0 FAB_IMG_CMD f.code ∧ e.mir = s.mir ∧ e.act = s.act)) ∧
  (∀ (o : ImgOp) (b : Bool) (s : State), s.img.op = some o → o.set = none → o.op = 2 →
    imgCheck21 (fun i => s.toDevice.fsRd (s.toDevice.rd FAB_IMG_ADDR + i)) (s.toDevice.imgCtx (some (s.toDevice.rd FAB_IMG_LEN))) = .ok () →
    Yields (.imgOpComplete b) s (fun e => ({ s.toDevice with img := { s.img with op := none } }).sets e
      [(whole FAB_IMG_STAT, 0xFF000002), (whole FAB_IMG_FAIL_OFF, 0)])) ∧
  (∀ (o : ImgOp) (p : PrismSet) (d : Device) (b : Bool) (s : State), s.img.op = some o → o.set = some p →
    ({ s.toDevice with img := { s.img with op := none } }).imgDecode p = some d →
    Yields (.imgOpComplete b) s (fun e => e.mir = p ∧ e.act = s.act ∧ e.get FAB_MIR_STAT_valid = 1 ∧ e.get FAB_MIR_STAT_src = 1 ∧ e.get FAB_MIR_STAT_dirty = 0 ∧
      e.rd FAB_IMG_STAT = 0xFF000002 ∧ e.img.op = none ∧ e.force = s.force ∧ e.mem = s.mem))

/-- R81, R84, R86, R87, R88, R90, R91, R93: the swap.
Writes of mirror-set registers change the mirror copy alone; a swap is requested, prepared, armed and takes effect as an exchange of the two sets and of both copies of every mirror-set register; it is cancelled or abandoned without either. -/
def Obligations.SwapExchangesSets : Prop :=
  (∀ (m : Master) (off val : Nat) (s : State), s.power.coreOn = true → s.bridge.lost = false → off ∈ msRegs → among m (msMasters off) = true → val < 2 ^ 32 →
    msAccepts off val = true → s.toDevice.get FAB_SWAP_STAT_pending = 0 → s.toDevice.get FAB_SWAP_STAT_refill = 0 → s.toDevice.decoding = false →
    Yields (.msWrite m off val) s (fun e => s.toDevice.sets e [(whole off, val), (FAB_MIR_STAT_dirty, 1)])) ∧
  (∀ (m : Master) (after : Bool) (s : State), s.power.coreOn = true → among m mFabric = true → (∀ x ∈ s.toDevice.swapChecks false, x.1 = false) →
    Yields (.swapRequest m after false) s (fun e => ({ s.toDevice with swap := { master := m, after := after } }).sets e
      [(FAB_SWAP_CTRL_after, if after then 1 else 0), (FAB_SWAP_STAT_pending, 1), (FAB_SWAP_STAT_defer, 0)])) ∧
  (∀ (m : Master) (after : Bool) (s : State), s.power.coreOn = true → among m mFabric = true → s.toDevice.get FAB_SWAP_STAT_pending = 1 →
    s.toDevice.get FAB_SWAP_STAT_armed = 0 →
    Yields (.swapCancel m after) s (fun e => ({ s.toDevice with swap := {} }).sets e
      [(FAB_SWAP_CTRL_after, if after then 1 else 0), (FAB_SWAP_STAT_pending, 0), (FAB_SWAP_STAT_result, eSeq)])) ∧
  (∀ (i : Nat) (s : State), s.toDevice.get FAB_SWAP_STAT_pending = 1 → s.toDevice.get FAB_SWAP_STAT_armed = 0 → i ∈ s.toDevice.swapIslands →
    Gives (.islandReady i false) s { s.toDevice with swap := { s.swap with ready := onBit s.swap.ready i } } ∧
    Yields (.islandReady i true) s (fun e => ({ s.toDevice with swap := {} }).sets e
      [(FAB_SWAP_STAT_pending, 0), (FAB_SWAP_STAT_armed, 0), (FAB_SWAP_STAT_result, eState),
       (FAB_SWAP_EVT_abandoned, Nat.min (s.toDevice.get FAB_SWAP_EVT_abandoned + 1) 0xFF), (FAB_MIR_STAT_valid, 0)])) ∧
  (∀ s : State, s.toDevice.get FAB_SWAP_STAT_pending = 1 → s.toDevice.get FAB_SWAP_STAT_armed = 0 → s.toDevice.rasterStopped = false →
    (s.toDevice.notReady = 0 → Yields .swapArm s (fun e => e.get FAB_SWAP_STAT_armed = 1 ∧ e.get FAB_SWAP_STAT_pending = 1 ∧ e.swap = s.swap ∧ e.act = s.act ∧ e.mir = s.mir)) ∧
    (s.toDevice.notReady ≠ 0 → s.toDevice.get FAB_SWAP_STAT_defer < 3 →
      Yields .swapArm s (fun e => s.toDevice.sets e [(FAB_SWAP_STAT_defer, s.toDevice.get FAB_SWAP_STAT_defer + 1),
        (FAB_SWAP_EVT_deferrals, Nat.min (s.toDevice.get FAB_SWAP_EVT_deferrals + 1) 0xFFFF), (FAB_SWAP_HS_notready, Nat.min s.toDevice.notReady 255)]))) ∧
  (∀ (i : Nat) (s : State), s.toDevice.swapFlips = true → i ∈ s.toDevice.swapIslands →
    Gives (.islandDone i) s { s.toDevice with swap := { s.swap with done := onBit s.swap.done i } }) ∧
  (∀ s : State, s.toDevice.swapFlips = true → s.toDevice.allDone = true →
    Yields .swapTakeEffect s (fun e => e.act = s.mir ∧ e.mir = s.act ∧ (∀ o ∈ msRegs, e.rdF o = s.toDevice.rd o ∧ e.rd o = s.toDevice.rdF o) ∧
      e.rd FAB_SWAP_CNT = (s.toDevice.rd FAB_SWAP_CNT + 1) % 2 ^ 32 ∧ e.rd FAB_SWAP_FRAME = s.toDevice.rd TMG_FRAME_CNT ∧
      e.rd FAB_ACT_VER = s.toDevice.rd FAB_MIR_VER ∧ e.rd FAB_MIR_VER = s.toDevice.rd FAB_ACT_VER ∧
      e.get FAB_SWAP_STAT_pending = 0 ∧ e.get FAB_SWAP_STAT_armed = 0 ∧ e.get FAB_SWAP_STAT_result = eOk ∧
      (s.swap.after = true → e.get FAB_MIR_STAT_src = 3) ∧ (s.swap.after = false → e.get FAB_SWAP_STAT_refill = 1) ∧ e.swap = {})) ∧
  (∀ s : State, s.power.coreOn = true → s.toDevice.mode ≠ 5 → s.toDevice.get FAB_SWAP_STAT_pending = 1 → s.swap.window = true → s.toDevice.allDone = false →
    Yields .swapDoneTimeout s Device.inNewt) ∧
  (∀ s : State, s.toDevice.get FAB_SWAP_STAT_refill = 1 →
    Yields .mirrorRefillComplete s (fun e => e.mir = s.act ∧ e.act = s.act ∧ (∀ o ∈ msRegs, e.rd o = s.toDevice.rdF o) ∧ e.rd FAB_MIR_VER = s.toDevice.rd FAB_ACT_VER ∧
      (∀ i < 8, e.rd (FAB_MIR_DIG i) = s.toDevice.rd (FAB_ACT_DIG i)) ∧ e.get FAB_SWAP_STAT_refill = 0 ∧ e.get FAB_MIR_STAT_src = 2 ∧
      e.get FAB_MIR_STAT_valid = 1 ∧ e.get FAB_MIR_STAT_dirty = 0 ∧ e.force = s.force))

/-- R97, R98, R99, R101, R174, R175: live registers act at once.
A live write changes its register and marks what it touches; in the active lines of a frame it tears the frame and is counted; held halves wait for their second half. -/
def Obligations.LiveWritesActAtOnce : Prop :=
  (∀ (m : Master) (i : Fin 16) (val : Nat) (s : State), s.power.coreOn = true → among m mSide = true → reservedBad (LAY_POS i) val = false → val < 2 ^ 32 →
    bitsOf val 13 0 ≤ 8191 → bitsOf val 28 16 ≤ 4351 →
    (s.toDevice.tearsNow = false →
      Yields (.liveWrite m (LAY_POS i) val) s (fun e => ({ s.toDevice with ras := { s.ras with dirty := e.ras.dirty } }).sets e [(whole (LAY_POS i), val)])) ∧
    (s.toDevice.tearsNow = true → s.ras.layTorn = false →
      Yields (.liveWrite m (LAY_POS i) val) s (fun e => e.rd (LAY_POS i) = val ∧ e.ras.layTorn = true ∧
        e.rd FAB_TEAR_CNT = Nat.min (s.toDevice.rd FAB_TEAR_CNT / 65536 + 1) 65535 * 65536 + s.toDevice.rd FAB_TEAR_CNT % 65536 ∧
        (∀ o, o ≠ LAY_POS i → o ≠ FAB_TEAR_CNT → e.rd o = s.toDevice.rd o) ∧ e = { s.toDevice with regs := e.regs, ras := e.ras }))) ∧
  (∀ (m : Master) (off val : Nat) (s : State), s.power.coreOn = true → off ∈ tmgLive → among m mFabric = true → s.toDevice.kRegShut m = false → val < 2 ^ 32 →
    tmgOk off val = true → s.toDevice.breaksLive off val = false → reservedBad off val = false → s.toDevice.roBad off val = false →
    Yields (.liveTmgWrite m off val) s (fun e => e.rd off = val ∧ off ∈ e.keep.kUnsaved ∧ (∀ o ∈ tmgLive, o ≠ off → e.rd o = s.toDevice.rd o) ∧
      (s.toDevice.tearsNow = true → s.ras.torn = 0 → e.ras.torn = 2 ∧
        e.rd FAB_TEAR_CNT = Nat.min (s.toDevice.rd FAB_TEAR_CNT % 65536 + 1) 65535 + s.toDevice.rd FAB_TEAR_CNT / 65536 * 65536) ∧
      (s.toDevice.tearsNow = false → e.ras = s.ras) ∧
      s.toDevice.onlyRegs e [off, FAB_TEAR_CNT, CLK_RLIM] ∧ e = { s.toDevice with regs := e.regs, ras := e.ras, keep := { s.keep with kUnsaved := e.keep.kUnsaved } })) ∧
  (∀ (m : Master) (order : Bool) (val : Nat) (s : State), s.power.coreOn = true → among m mSide = true → val < 2 ^ 32 →
    reservedBad (if order then LAY_ZORDER_LO else LAY_PAL_DATA0) val = false →
    Yields (.heldWrite m order val) s (fun e => heldOf (if order then e.lay.heldOrder else e.lay.heldPal) m = some val ∧
      (∀ k, k ≠ m.val → heldOf e.lay.heldOrder k = heldOf s.lay.heldOrder k ∧ heldOf e.lay.heldPal k = heldOf s.lay.heldPal k) ∧
      e = { s.toDevice with lay := { s.lay with heldOrder := e.lay.heldOrder, heldPal := e.lay.heldPal } })) ∧
  (∀ (m : Master) (lo val : Nat) (s : State), s.power.coreOn = true → among m mSide = true → val < 2 ^ 32 → lo < 2 ^ 32 → reservedBad LAY_ZORDER_HI val = false →
    heldOf s.lay.heldOrder m = some lo → (∀ i < 16, ∃ p < 16, orderAt lo val p = i) → s.toDevice.tearsNow = false →
    Yields (.zorderApply m val) s (fun e => heldOf e.lay.heldOrder m = none ∧
      ({ s.toDevice with lay := { s.lay with heldOrder := e.lay.heldOrder }, ras := { s.ras with dirty := e.ras.dirty } }).sets e
        [(whole LAY_ZORDER_LO, lo), (whole LAY_ZORDER_HI, val)])) ∧
  (∀ (m : Master) (lo val : Nat) (s : State), s.power.coreOn = true → among m mSide = true → val < 2 ^ 32 → reservedBad LAY_PAL_DATA1 val = false →
    heldOf s.lay.heldPal m = some lo → (s.toDevice.rdB m LAY_PAL_IDX).testBit 16 = false →
    Yields (.paletteWrite m val) s (fun e =>
      e.palAt (s.toDevice.palKey m) = bitsOf lo 11 0 + bitsOf lo 27 16 * 2 ^ 12 + bitsOf val 11 0 * 2 ^ 24 + bitsOf val 27 16 * 2 ^ 36 ∧
      (∀ k, k ≠ s.toDevice.palKey m → e.palAt k = s.toDevice.palAt k) ∧ heldOf e.lay.heldPal m = none ∧ e.bank = s.bank ∧
      (∀ o, o ≠ FAB_TEAR_CNT → e.rd o = s.toDevice.rd o) ∧ e = { s.toDevice with regs := e.regs, ras := e.ras, lay := e.lay })) ∧
  (∀ (m : Master) (val : Nat) (s : State), s.power.coreOn = true → among m mSide = true → val < 65536 → s.toDevice.tearsNow = false →
    (∀ i < 16, val.testBit i = true → (s.toDevice.rd LAY_FAULT).testBit i = false ∧
      ((s.toDevice.rd LAY_EN).testBit i = true ∨
        s.toDevice.get (LAY_SRC_bound i) = 1 ∧ s.toDevice.get (LAY_SIZE_width i) ≠ 0 ∧ s.toDevice.get (LAY_SIZE_height i) ≠ 0)) →
    Yields (.layerEnableWrite m val) s (fun e => ({ s.toDevice with ras := { s.ras with dirty := e.ras.dirty } }).sets e [(whole LAY_EN, val)]))

/-- R176, R177, R178, R179, R183: the layer pool hands out the lowest run that fits and takes buffers back; a buffer that scan-out has left is reported; a layer that ran dry is dropped for the rest of the frame. -/
def Obligations.LayerPoolServes : Prop :=
  (∀ (m : Master) (n h g : Nat) (s : State), s.power.coreOn = true → among m mSide = true → s.toDevice.get MEM_FS_STAT_init = 1 → 0 < n → n ≤ 544 →
    (List.range 64).find? (fun h => s.toDevice.get (LAY_BUF_INFO_alloc h) = 0) = some h → s.toDevice.poolRun n = some g → g < 16384 →
    Yields (.layerAllocate m n) s (fun e => e.rd (LAY_BUF_INFO h) = 0x80000000 + m.val * 0x1000000 + g * 0x400 + n ∧
      e.rdB m LAY_BUF_RES = 0x80 + h ∧ e.rdB m LAY_BUF_ADDR = (s.toDevice.rgnBase 9 + g * 65536) % 2 ^ 32 ∧
      (∀ o, o ≠ LAY_BUF_INFO h → o ≠ LAY_POOL_STAT → e.rd o = s.toDevice.rd o) ∧ e = { s.toDevice with regs := e.regs, bank := e.bank })) ∧
  (∀ (m : Master) (h : Fin 64) (s : State), s.power.coreOn = true → among m mSide = true → s.toDevice.get (LAY_BUF_INFO_alloc h) = 1 →
    (m.val = 0 ∨ s.toDevice.get (LAY_BUF_INFO_master h) = m) → (s.toDevice.rd (LAY_BUF_REF (h / 32))).testBit (h % 32) = false →
    Yields (.layerFree m h) s (fun e => e.rd (LAY_BUF_INFO h) = 0 ∧ e.rdB m LAY_BUF_RES = 0 ∧
      (∀ o, o ≠ LAY_BUF_INFO h → o ≠ LAY_POOL_STAT → e.rd o = s.toDevice.rd o) ∧ e = { s.toDevice with regs := e.regs, bank := e.bank })) ∧
  (∀ (h : Fin 64) (s : State), s.toDevice.bufUsed h = false → (s.toDevice.rd (LAY_BUF_REF (h / 32))).testBit (h % 32) = true →
    s.toDevice.get (LAY_BUF_INFO_master h) < 10 →
    Yields (.layerBufferRelease h) s (fun e => s.toDevice.sets e
      [(⟨LAY_BUF_REF (h / 32), h % 32, h % 32⟩, 0), (⟨LAY_REL_PEND (h / 32), h % 32, h % 32⟩, 1), (LAY_IRQ_rel, 1),
       (⟨MBX_DB_STAT (s.toDevice.get (LAY_BUF_INFO_master h)), s.toDevice.get LAY_CFG_rel_db, s.toDevice.get LAY_CFG_rel_db⟩, 1)])) ∧
  (∀ (i : Fin 16) (t : Lane) (x : Nat) (s : State), s.power.coreOn = true → s.ras.active = true → s.lay.dropped.testBit i = false →
    (s.toDevice.rd LAY_EN).testBit i = true → (s.toDevice.rdF (LAY_SRC i)).testBit 31 = true →
    Yields (.layerUnderrun i t x) s (fun e => e.lay.dropped = onBit s.lay.dropped i ∧ e.lay.dropAt = some (t.val, i.val, x) ∧ e.get LAY_IRQ_drop = 1 ∧
      e.get (LAY_DROP_CNT_cnt i) = Nat.min (s.toDevice.get (LAY_DROP_CNT_cnt i) + 1) 0xFFFF)) ∧
  (∀ (m : Master) (val : Nat) (s : State), s.power.coreOn = true → among m mIntegrator = true → (s.toDevice.rdB m FAB_POOL_CLAIM).testBit 31 = false →
    val < 2 ^ 32 → val.testBit 31 = true → reservedBad FAB_POOL_CLAIM val = false → bitsOf val 25 16 ≠ 0 → bitsOf val 8 0 + bitsOf val 25 16 ≤ 512 →
    (∀ i < bitsOf val 25 16, s.toDevice.owner 4 (bitsOf val 8 0 + i) = none) →
    Yields (.poolClaim m val) s (fun e => ({ s.toDevice with claims := e.claims }).setsBank e m FAB_POOL_CLAIM val ∧
      e.claims = s.claims ++ (List.range (bitsOf val 25 16)).map (fun i => { feature := 10, cls := 4, idx := bitsOf val 8 0 + i, master := m }))) ∧
  (∀ (m : Master) (s : State), s.power.coreOn = true → among m mIntegrator = true → reservedBad FAB_POOL_CLAIM (offBit (s.toDevice.rdB m FAB_POOL_CLAIM) 31) = false →
    Yields (.poolRelease m) s (fun e => ({ s.toDevice with claims := e.claims }).setsBank e m FAB_POOL_CLAIM (offBit (s.toDevice.rdB m FAB_POOL_CLAIM) 31) ∧
      ∀ c, c ∈ e.claims ↔ c ∈ s.claims ∧ ¬ (c.feature = 10 ∧ c.master = m.val)))

/-- R406, R407, R408, R409: the stores of Keep, from the command or the timer through the snapshot to the end.
A store that a command or the timer starts waits for its snapshot; the snapshot freezes a DARK or power-fail store's Keep; a store that completes leaves the snapshot's pages in the shadow; one that times out leaves the shadow as it was. -/
def Obligations.KeepStoresRun : Prop :=
  (∀ (m : Master) (s : State), s.power.coreOn = true → s.bridge.lost = false → among m mKeepStore = true → s.toDevice.kClosed = false →
    s.keep.store = none →
    Yields (.keepStoreCmd m) s (fun e => ({ s.toDevice with keep := { s.keep with store := some { kind := 0 } } }).sets e [(KEEP_STAT_state, 2)])) ∧
  (∀ s : State, s.power.coreOn = true → s.toDevice.modeIn 0x3E = true → s.toDevice.kClosed = false → s.toDevice.get KEEP_CTRL_auto ≠ 0 →
    s.keep.dirty ≠ 0 →
    (s.keep.store = none →
      Yields .keepAutoStore s (fun e => ({ s.toDevice with keep := { s.keep with store := some { kind := 0 } } }).sets e [(KEEP_STAT_state, 2)])) ∧
    (s.keep.store ≠ none → Gives .keepAutoStore s { s.toDevice with keep := { s.keep with waitAuto := true } })) ∧
  (∀ (k : KeepStore) (s : State), s.keep.store = some k → k.snapped = false → s.keep.ctrBusy = none →
    Yields .keepSnapshot s (fun e =>
      (∃ k', e.keep.store = some k' ∧ k'.kind = k.kind ∧ k'.snapped = true ∧ k'.pages = s.keep.dirty ∧ k'.data = s.keep.vol ∧
        k'.pw = s.keep.pwVol ∧ k'.clock = s.toDevice.rd KEEP_CLK) ∧
      e.keep.since = 0 ∧ e.keep.frozen = (s.keep.frozen || decide (k.kind ≠ 0)) ∧ (k.kind ≠ 0 → e.keep.commit = none) ∧
      e = { s.toDevice with keep := { s.keep with store := e.keep.store, since := 0, frozen := e.keep.frozen, commit := e.keep.commit } })) ∧
  (∀ (k : KeepStore) (s : State), s.keep.store = some k → k.snapped = true → s.trans = none → s.toDevice.mode ≠ 0 →
    s.keep.waitPw = false → s.keep.waitAuto = false → s.keep.frozen = false → s.toDevice.memWf →
    Yields (.keepStoreComplete false) s (fun e =>
      (∀ a, Sparse.get keepDef e.keep.shadow a =
        if k.pages.testBit (a / 256) then Sparse.get keepDef k.data a else Sparse.get keepDef s.keep.shadow a) ∧
      (∀ page < 1024, e.keep.dirty.testBit page = ((s.keep.dirty.testBit page && !k.pages.testBit page) || s.keep.since.testBit page)) ∧
      (∃ r, e.keep.dep = some r ∧ r.kind = k.kind ∧ r.clock = k.clock ∧ r.mark = k.mark) ∧ e.keep.store = none ∧ e.keep.vol = s.keep.vol ∧
      ({ s.toDevice with keep := e.keep }).sets e
        [(KEEP_STAT_dirty, popCount 1024 e.keep.dirty), (KEEP_STAT_err, 0), (KEEP_IRQ_store_done, 1), (KEEP_STAT_state, 0)])) ∧
  (∀ (k : KeepStore) (s : State), s.keep.store = some k → k.snapped = true → s.power.coreOn = true → s.trans = none → s.toDevice.mode ≠ 0 →
    s.keep.waitPw = false → s.keep.waitAuto = false → s.toDevice.get FLT_CTRL_log_s1 = 0 →
    Yields .keepStoreTimeout s (fun e => e.keep.store = none ∧ e.get KEEP_STAT_err = eState ∧ e.get KEEP_EVT_store_fail = 1 ∧
      e.get KEEP_IRQ_store_fail = 1 ∧ e.get FLT_LAST_code = 0x74 ∧ e.keep.shadow = s.keep.shadow ∧ e.keep.dep = s.keep.dep ∧
      e.get KEEP_STAT_state = (if s.keep.frozen then 4 else 0)))

/-- R416, R417, R418, R433: a password is entered in four words, opens or changes a region, and every change of the password record starts its store. -/
def Obligations.KeepPasswordsOpenRegions : Prop :=
  (∀ (m : Master) (val : Nat) (s : State), s.power.coreOn = true → s.bridge.lost = false → among m mKeepRead = true → bitsOf val 31 18 = 0 →
    bitsOf val 17 16 = (if s.toDevice.pwReady m then [] else s.toDevice.pwWords m).length →
    Yields (.keepPasswordWord m val) s (fun e =>
      e.pwWords m = (if s.toDevice.pwReady m then [] else s.toDevice.pwWords m) ++ [bitsOf val 15 0] ∧
      (∀ k ≠ m.val, e.pwWords k = s.toDevice.pwWords k) ∧ e = { s.toDevice with keep := { s.keep with pwLatch := e.keep.pwLatch } })) ∧
  (∀ (m : Master) (j : Fin 16) (s : State), s.power.coreOn = true → s.bridge.lost = false → among m mKeepRead = true → s.toDevice.kClosed = false →
    s.toDevice.pwHeld m = false → s.toDevice.pwReady m = true →
    (s.toDevice.kPw j = 0 ∨ s.toDevice.kPw j = pwValue (s.toDevice.pwWords m)) →
    Yields (.keepUnlock m j) s (fun e => e.pwWords m = [] ∧ ∃ l,
      ({ s.toDevice with keep := { s.keep with pwLatch := l } }).setsBank e m KEEP_AUTH (onBit (s.toDevice.rdB m KEEP_AUTH) j))) ∧
  (∀ (m : Master) (j : Fin 16) (s : State), s.power.coreOn = true → s.bridge.lost = false → among m mKeepRead = true → s.toDevice.kClosed = false →
    Yields (.keepLock m j) s (fun e => s.toDevice.setsBank e m KEEP_AUTH (offBit (s.toDevice.rdB m KEEP_AUTH) j))) ∧
  (∀ (m : Master) (s : State), s.power.coreOn = true → s.bridge.lost = false → among m mKeepRead = true → s.toDevice.kClosed = false →
    Yields (.keepLockAll m) s (fun e => s.toDevice.setsBank e m KEEP_AUTH 0)) ∧
  (∀ (m : Master) (s : State), s.power.coreOn = true → s.bridge.lost = false → among m mKeepRead = true → s.toDevice.kClosed = false →
    Gives (.keepStageRelease m) s { s.toDevice with keep := { s.keep with stageOwner := if s.keep.stageOwner = some m.val then none else s.keep.stageOwner } }) ∧
  (∀ (m : Master) (j : Fin 16) (s : State), s.power.coreOn = true → s.bridge.lost = false → among m mKeepOwner = true → s.toDevice.kClosed = false →
    s.toDevice.pwAuthorised m j = true → s.toDevice.pwReady m = true → s.keep.store = none →
    Yields (.keepSetPassword m j) s (fun e => e.kPw j = pwValue (s.toDevice.pwWords m) ∧ (∀ k ≠ j.val, e.kPw k = s.toDevice.kPw k) ∧
      e.get (KEEP_RGN_pw j) = (if pwValue (s.toDevice.pwWords m) = 0 then 0 else 1) ∧
      (∃ r, e.keep.pwVol = some r ∧ ∀ k < 16, r.pw.getD k 0 = e.kPw k ∧ r.rgn.getD k 0 = e.rd (KEEP_RGN k)) ∧
      e.keep.dirty.testBit 418 = true ∧ e.keep.store = some { kind := 0 } ∧ e.get KEEP_STAT_state = 2 ∧ e.keep.vol = s.keep.vol)) ∧
  (∀ (m : Master) (j : Fin 16) (val : Nat) (s : State), s.power.coreOn = true → s.bridge.lost = false → among m mKeepOwner = true →
    s.toDevice.kClosed = false → s.toDevice.pwAuthorised m j = true → s.toDevice.kRegShut m = false → s.keep.store = none → val < 2 ^ 32 →
    bitsOf val 29 29 = s.toDevice.get (KEEP_RGN_pw j) → bitsOf val 28 26 = 0 → bitsOf val 15 10 = 0 →
    (j.val < 8 → bitsOf val 9 0 = s.toDevice.get (KEEP_RGN_first j) ∧ bitsOf val 25 16 = s.toDevice.get (KEEP_RGN_count j)) →
    (8 ≤ j.val → bitsOf val 25 16 = 0 ∨ 512 ≤ bitsOf val 9 0 ∧ bitsOf val 9 0 + bitsOf val 25 16 ≤ 1024 ∧
      ∀ i < 16, i ≠ j.val → rangesMeet (bitsOf val 9 0) (bitsOf val 25 16) (s.toDevice.get (KEEP_RGN_first i)) (s.toDevice.get (KEEP_RGN_count i)) = false) →
    Yields (.keepRegionWrite m j val) s (fun e => e.rd (KEEP_RGN j) = val ∧ (∀ k ≠ j.val, e.rd (KEEP_RGN k) = s.toDevice.rd (KEEP_RGN k)) ∧
      (∀ k, e.kPw k = s.toDevice.kPw k) ∧ e.keep.store = some { kind := 0 } ∧ e.keep.dirty.testBit 418 = true ∧ e.keep.vol = s.keep.vol))

/-- R413, R414: a word of Keep is read or written at the master's pointer, which then advances by 4; no other byte changes. -/
def Obligations.KeepWordsMove : Prop :=
  (∀ (m : Master) (s : State), s.power.coreOn = true → s.bridge.lost = false → among m mKeepRead = true → s.keep.recalling = false →
    s.toDevice.rdB m KEEP_PTR < 0x40000 →
    (512 ≤ s.toDevice.rdB m KEEP_PTR / 256 → s.toDevice.kRegion (s.toDevice.rdB m KEEP_PTR / 256) ≠ none) →
    (∀ j, s.toDevice.kRegion (s.toDevice.rdB m KEEP_PTR / 256) = some j → s.toDevice.kReadShut m j = false) →
    Yields (.keepDataRead m) s (fun e => ∃ d, s.toDevice.replies d m
      (if 418 ≤ s.toDevice.rdB m KEEP_PTR / 256 ∧ s.toDevice.rdB m KEEP_PTR / 256 < 512 then 0
       else leNat (s.toDevice.kBytes (s.toDevice.rdB m KEEP_PTR) 4)) ∧
      d.setsBank e m KEEP_PTR (s.toDevice.rdB m KEEP_PTR + 4))) ∧
  (∀ (m : Master) (val : Nat) (s : State), s.power.coreOn = true → s.bridge.lost = false → among m mKeepRead = true → s.keep.recalling = false →
    s.keep.frozen = false → s.toDevice.rdB m KEEP_PTR < 0x40000 → val < 2 ^ 32 →
    (s.toDevice.rdB m KEEP_PTR / 256 < 128 ∧ among m mWalern = true ∨
      512 ≤ s.toDevice.rdB m KEEP_PTR / 256 ∧ m.val ≤ 9 ∧ s.toDevice.kRegion (s.toDevice.rdB m KEEP_PTR / 256) ≠ none) →
    (∀ j, s.toDevice.kRegion (s.toDevice.rdB m KEEP_PTR / 256) = some j → s.toDevice.kWriteShut m j = false) →
    Yields (.keepDataWrite m val) s (fun e => ∃ d, s.toDevice.keepBytes d (s.toDevice.rdB m KEEP_PTR) (leBytes 4 val) ∧
      d.setsBank e m KEEP_PTR (s.toDevice.rdB m KEEP_PTR + 4)))

/-- R420, R423, R424, R425: records go through KEEP_STAGE.
A resolve copies the body of the copy it takes; a commit writes the other copy but for its sequence number, which comes last. -/
def Obligations.RecordsGoThroughTheStage : Prop :=
  (∀ (m : Master) (i : Fin 256) (val : Nat) (s : State), s.power.coreOn = true → s.bridge.lost = false → among m 0x53FF = true → s.keep.recalling = false →
    (s.keep.stageOwner = none ∨ s.keep.stageOwner = some m.val) → s.keep.commit = none → val < 2 ^ 32 →
    Yields (.keepStageWrite m i val) s (fun e =>
      ({ s.toDevice with keep := { s.keep with stageOwner := some m.val } }).sets e [(whole (KEEP_STAGE i), val)])) ∧
  (∀ (m : Master) (id : Nat) (forEn : Bool) (who : Master) (p : RecPlace) (c : Nat × List Nat) (s : State), id < 256 → s.power.coreOn = true →
    s.bridge.lost = false → (∀ x ∈ s.toDevice.recChecks m 1 id 0 forEn who, x.1 = false) → s.toDevice.recPlace m id = some p →
    (s.toDevice.recResolve p id).2.2.twin = false → (s.toDevice.recResolve p id).2.2.count = false → s.toDevice.recTaken p id = some c →
    Yields (.recordResolve m id forEn who) s (fun e => e.stageBytes c.2.length = c.2 ∧ e.rd KEEP_REC_SEQ = c.1 ∧
      e.get KEEP_REC_STAT_busy = 0 ∧ e.get KEEP_REC_STAT_done = 1 ∧ e.get KEEP_REC_STAT_absent = 0 ∧ e.get KEEP_IRQ_rec_done = 1 ∧
      s.toDevice.onlyRegs e ([KEEP_REC_STAT, KEEP_REC_SEQ, KEEP_IRQ] ++ (List.range 256).map KEEP_STAGE) ∧ e = { s.toDevice with regs := e.regs, keep := { s.keep with stageOwner := none } })) ∧
  (∀ (m : Master) (id len : Nat) (forEn : Bool) (who : Master) (p : RecPlace) (s : State), id < 256 → len < 2048 → s.power.coreOn = true →
    s.bridge.lost = false → (∀ x ∈ s.toDevice.recChecks m 2 id len forEn who, x.1 = false) → s.toDevice.recPlace m id = some p →
    (s.toDevice.recResolve p id).2.2.twin = false → (s.toDevice.recResolve p id).2.2.count = false →
    Yields (.recordCommit m id len forEn who) s (fun e =>
      e.keep.commit = some { master := m, id := id, addr := (s.toDevice.recTarget p id).1, len := len, seq := (s.toDevice.recTarget p id).2 } ∧
      e.get KEEP_REC_STAT_busy = 1 ∧ e.keep.stageOwner = none ∧ s.toDevice.onlyRegs e [KEEP_STAT, KEEP_REC_STAT] ∧ e = { s.toDevice with regs := e.regs, keep := e.keep } ∧ e.keep.shadow = s.keep.shadow ∧
      ∃ d, s.toDevice.keepBytes d ((s.toDevice.recTarget p id).1 + 4)
        ((recBytes p id (s.toDevice.recTarget p id).2 (s.toDevice.stageBytes len)).drop 4) ∧ e.keep.vol = d.keep.vol)) ∧
  (∀ (c : RecCommit) (s : State), s.keep.commit = some c → s.mbx.commitFor = none →
    Yields .recordCommitDone s (fun e => ∃ d, s.toDevice.keepBytes d c.addr (leBytes 4 c.seq) ∧
      ({ d with keep := { d.keep with commit := none } }).sets e
        [(KEEP_REC_STAT_busy, 0), (KEEP_REC_STAT_done, 1), (KEEP_REC_STAT_err, 0), (KEEP_IRQ_rec_done, 1)]))

/-- R426, R427, R428, R429, R431, R432: updates of the spread counters are served in their order of arrival; an update that is done leaves exactly its counter changed, by exactly its amount, saturating at 2^64 - 1.
The log of Keep takes an entry at its head, and the Keep clock is set forward and counts the seconds. -/
def Obligations.CountersLogAndClockAdvance : Prop :=
  (∀ (m : Master) (amount : Nat) (s : State), s.power.coreOn = true → s.bridge.lost = false → s.toDevice.kClosed = false →
    mayCount m (s.toDevice.ctrSel m) = true → amount < 2 ^ 24 → s.keep.ctrBusy = none →
    Gives (.counterAdd m amount) s { s.toDevice with keep := { s.keep with ctrBusy := some { index := s.toDevice.ctrSel m, clear := false, amount := amount } } }) ∧
  (∀ (m : Master) (u : CtrUpdate) (s : State), s.power.coreOn = true → s.bridge.lost = false → s.toDevice.kClosed = false →
    mayCount m (s.toDevice.ctrSel m) = true → s.keep.ctrBusy = some u →
    Gives (.counterClear m) s { s.toDevice with keep := { s.keep with ctrQueue := s.keep.ctrQueue ++ [{ index := s.toDevice.ctrSel m, clear := true, amount := 0 }] } }) ∧
  (∀ (u : CtrUpdate) (s : State), s.keep.ctrBusy = some u →
    Yields .counterUpdateDone s (fun e =>
      e.ctrVal u.index = (if u.clear then 0 else Nat.min (s.toDevice.ctrVal u.index + u.amount) (2 ^ 64 - 1)) ∧
      (∀ c, c ≠ u.index → e.ctrVal c = s.toDevice.ctrVal c) ∧
      (∀ a, (∀ k < 2, a < ctrAddr u.index k ∨ ctrAddr u.index k + 14 ≤ a) → e.kRd a = s.toDevice.kRd a) ∧
      s.toDevice.onlyRegs e [KEEP_STAT, KEEP_EVT] ∧ e = { s.toDevice with regs := e.regs, keep := e.keep })) ∧
  (∀ (m : Master) (s : State), s.power.coreOn = true → s.bridge.lost = false → s.keep.recalling = false →
    Yields (.counterRead m) s (fun e => ∃ d, s.toDevice.replies d m (s.toDevice.ctrVal (s.toDevice.ctrSel m) % 2 ^ 32) ∧
      d.setsBank e m KEEP_CTR_HI (s.toDevice.ctrVal (s.toDevice.ctrSel m) / 2 ^ 32))) ∧
  (∀ (m : Master) (s : State), s.power.coreOn = true → s.bridge.lost = false → s.toDevice.kClosed = false → among m mWalern = true →
    Yields (.logAppend m) s (fun e => ∃ d b, b.length = 32 ∧
      b.take 8 = leBytes 4 (s.toDevice.rd KEEP_LOG_SEQ) ++ leBytes 4 (s.toDevice.rd KEEP_CLK) ∧
      (b.drop 8).take 20 = (List.range 5).flatMap (fun i => leBytes 4 (s.toDevice.rdB m (KEEP_LOG_DATA i))) ∧
      leNat (b.drop 30) = crc16 (b.take 30) ∧ s.toDevice.keepBytes d (logAddr (s.toDevice.get KEEP_LOG_HEAD_head)) b ∧
      d.sets e [(KEEP_LOG_HEAD_head, (s.toDevice.get KEEP_LOG_HEAD_head + 1) % 2048),
        (whole KEEP_LOG_SEQ, (s.toDevice.rd KEEP_LOG_SEQ + 1) % 2 ^ 32)])) ∧
  (∀ (m : Master) (val : Nat) (s : State), s.power.coreOn = true → s.bridge.lost = false → (m.val = 0 ∨ m.val = 2) → s.keep.recalling = false →
    s.toDevice.rd KEEP_CLK ≤ val → val < 2 ^ 32 →
    Yields (.clockSet m val) s (fun e => ({ s.toDevice with keep := { s.keep with clkLost := false } }).sets e
      [(whole KEEP_CLK, val), (KEEP_STAT_clk_lost, 0)])) ∧
  (∀ (vkeep : Bool) (s : State), s.power.coreOn = false →
    Yields (.keepClockTick vkeep) s (fun e => s.toDevice.sets e
      [(whole KEEP_CLK, (s.toDevice.rd KEEP_CLK + 1) % 2 ^ 32), (KEEP_STAT_vkeep_ok, if vkeep then 1 else 0)])) ∧
  (∀ (vkeep : Bool) (u : CtrUpdate) (s : State), s.power.coreOn = true → s.toDevice.mode = 2 → s.toDevice.kClosed = false → s.keep.ctrBusy = some u →
    Yields (.keepClockTick vkeep) s (fun e =>
      ({ s.toDevice with keep := { s.keep with ctrQueue := s.keep.ctrQueue ++ [({ index := 3, clear := false, amount := 1 } : CtrUpdate)] } }).sets e
        [(whole KEEP_CLK, (s.toDevice.rd KEEP_CLK + 1) % 2 ^ 32), (KEEP_STAT_vkeep_ok, if vkeep then 1 else 0)]))

/-- R369, R370, R371, R372: a half second of the blink redraws the status glass from what the last positive frame took; SEG_CFG.wide claims the balls of lines 36 to 39 and gives them up at the next positive frame. -/
def Obligations.StatusGlassChanges : Prop :=
  (∀ (ram : Bool) (s : State), s.toDevice.mode ≠ 0 →
    Yields (.segBlinkToggle ram) s (fun e =>
      e.seg = (if ram then { s.seg with ramLit := !s.seg.ramLit } else { s.seg with codeLit := !s.seg.codeLit }) ∧
      e.rd (SEG_SHOWN 0) = (if s.seg.host then (if !s.seg.blinkOn || e.seg.ramLit then s.seg.ram.getD 0 0 else 0)
        else if s.seg.code / 256 < 2 || e.seg.codeLit then codeBits (s.seg.code / 256) (s.seg.code % 256) else 0) % 2 ^ 32 ∧
      (∀ i < 3, e.rd (SEG_SHOWN (i + 1)) = (if !s.seg.blinkOn || e.seg.ramLit then s.seg.ram.getD (i + 1) 0 else 0) % 2 ^ 32) ∧
      (∀ o, (∀ i < 5, o ≠ SEG_SHOWN i) → e.rd o = s.toDevice.rd o) ∧ e = { s.toDevice with regs := e.regs, seg := e.seg })) ∧
  (∀ (m : Master) (val : Nat) (s : State), s.power.coreOn = true → s.bridge.lost = false → among m 0x385 = true → s.toDevice.kRegShut m = false →
    val < 2 ^ 32 → val.testBit 16 = true → segCfgBad val = false → s.toDevice.wideHeld = true → s.seg.wideRelease = false →
    Yields (.segWideSet m val) s (fun e => ({ s.toDevice with keep := e.keep }).sets e [(whole SEG_CFG, val), (SEG_STAT_narrow, 0)] ∧
      e.keep = { s.keep with kUnsaved := e.keep.kUnsaved } ∧ SEG_CFG ∈ e.keep.kUnsaved)) ∧
  (∀ (m : Master) (val : Nat) (s : State), s.power.coreOn = true → s.bridge.lost = false → among m 0x385 = true → s.toDevice.kRegShut m = false →
    val < 2 ^ 32 → val.testBit 16 = true → segCfgBad val = false → (s.toDevice.wideHeld = false ∨ s.seg.wideRelease = true) → s.toDevice.wideTaken = false →
    Yields (.segWideSet m val) s (fun e => e.rd SEG_CFG = val ∧ e.get SEG_STAT_narrow = 0 ∧ e.wideHeld = true ∧ e.seg = { s.seg with wideRelease := false } ∧
      (∀ j < 4, { feature := 6, cls := 8, idx := 36 + j, master := m } ∈ e.claims) ∧
      s.toDevice.onlyRegs e [SEG_CFG, SEG_STAT] ∧ e = { s.toDevice with regs := e.regs, seg := e.seg, claims := e.claims, keep := { s.keep with kUnsaved := e.keep.kUnsaved } })) ∧
  (∀ (m : Master) (val : Nat) (s : State), s.power.coreOn = true → s.bridge.lost = false → among m 0x385 = true → s.toDevice.kRegShut m = false →
    val < 2 ^ 32 → val.testBit 16 = false → segCfgBad val = false →
    Yields (.segWideClear m val) s (fun e => ({ s.toDevice with keep := e.keep, seg := { s.seg with wideRelease := s.toDevice.wideHeld } }).sets e
      [(whole SEG_CFG, val), (SEG_STAT_narrow, 0)] ∧ e.keep = { s.keep with kUnsaved := e.keep.kUnsaved } ∧ SEG_CFG ∈ e.keep.kUnsaved))

/-- R382, R383, R384, R387: windowed accesses of the host to the frame store, and what keeps its words correct. -/
def Obligations.FrameStoreWindowsWork : Prop :=
  (∀ (a : Nat) (bs : List (Option Nat)) (s : State), s.toDevice.barOpen = true → a + bs.length ≤ 2 ^ 32 →
    (∀ b ∈ enabled a bs, s.toDevice.wpDrops b.1 = false ∧ b.1 / 8 ∉ s.mem.fsUe ∧ b.1 / 8 ∉ s.mem.fsCe ∧ b.1 / 8 ∉ s.mem.writeback) →
    Yields (.bar2Write a bs) s (fun e =>
      (∀ x, e.fsRd x = match (if a ≤ x then bs.getD (x - a) none else none) with
        | some b => b % 256
        | none => s.toDevice.fsRd x) ∧
      e = { s.toDevice with mem := { s.mem with fs := e.mem.fs } })) ∧
  (∀ (a : Nat) (bs : List (Option Nat)) (b : Nat × Nat) (l : List (Nat × Nat)) (s : State), s.toDevice.barOpen = true → a + bs.length ≤ 2 ^ 32 →
    enabled a bs = b :: l → (∀ c ∈ enabled a bs, s.toDevice.wpDrops c.1 = true) →
    Yields (.bar2Write a bs) s (fun e => s.toDevice.rejects e 0 1 b.1 ePerm)) ∧
  (∀ (a n : Nat) (s : State), s.toDevice.barOpen = true → a + n ≤ 2 ^ 32 →
    (∀ w ∈ wordsOf a n, w ∉ s.mem.fsUe ∧ w ∉ s.mem.fsCe) →
    Gives (.bar2Read a n []) s { s.toDevice with mem := { s.mem with bar2 := s.toDevice.fsBytes a n, poison := false } }) ∧
  (∀ (w : Nat) (s : State), w ∈ s.mem.writeback →
    Yields (.eccWriteback w) s (fun e => w ∉ e.mem.writeback ∧ w ∉ e.mem.fsCe ∧
      (∀ v, v ≠ w → (v ∈ e.mem.writeback ↔ v ∈ s.mem.writeback) ∧ (v ∈ e.mem.fsCe ↔ v ∈ s.mem.fsCe)) ∧
      e = { s.toDevice with mem := { s.mem with writeback := e.mem.writeback, fsCe := e.mem.fsCe } })) ∧
  (∀ s : State, s.toDevice.scrubOn = true → s.mem.scrub < 2 ^ 29 - 1 → s.mem.scrub ∉ s.mem.fsUe → s.mem.scrub ∉ s.mem.fsCe → s.mem.scrub ∉ s.mem.writeback →
    Gives (.scrubRead .ok) s { s.toDevice with mem := { s.mem with scrub := s.mem.scrub + 1 } } ∧
    Yields (.scrubRead .corr) s (fun e => ({ s.toDevice with mem := { s.mem with scrub := s.mem.scrub + 1, fsCe := s.mem.fsCe ++ [s.mem.scrub], writeback := s.mem.writeback ++ [s.mem.scrub] } }).sets e
      [(MEM_ECC_CNT_corr, Nat.min (s.toDevice.get MEM_ECC_CNT_corr + 1) 0xFFFF)])) ∧
  (∀ s : State, s.toDevice.scrubOn = true → s.mem.scrub = 2 ^ 29 - 1 → s.mem.scrub ∉ s.mem.fsUe → s.mem.scrub ∉ s.mem.fsCe →
    Yields (.scrubRead .ok) s (fun e => ({ s.toDevice with mem := { s.mem with scrub := 0 } }).sets e
      [(MEM_FS_STAT_passes, (s.toDevice.get MEM_FS_STAT_passes + 1) % 65536)]))

/-- R390, R392, R395, R475: the Pond window of the host and the debug master: a word read, a word written, a retained bank woken, an access repeated, and the entry to retention and its end. -/
def Obligations.PondWindowWorks : Prop :=
  (∀ (m : Master) (a : Nat) (s : State), (m.val = 0 ∨ m.val = 14) → s.power.coreOn = true → a % 4 = 0 → a < 0x3000000 →
    s.toDevice.underDestroy (a / 131072) = false → s.toDevice.inCopyWindow a = false →
    (s.toDevice.get (MEM_BANK_INFO_retained (a / 131072)) = 0 →
      (s.toDevice.pondMap a / 8 ∉ s.mem.pondUe →
        Yields (.pondWindowAccess m (0x1000000 + a) none .none .ok) s (fun e => s.toDevice.replies e m (leNat (s.toDevice.pondBytes a 4)))) ∧
      (∀ v, v < 2 ^ 32 → s.toDevice.pondRight a true = none →
        Yields (.pondWindowAccess m (0x1000000 + a) (some v) .none .ok) s (fun e =>
          (∀ x, Sparse.get pondDef e.mem.pond x = if s.toDevice.pondMap a ≤ x ∧ x < s.toDevice.pondMap a + 4
            then Byte.of ((leBytes 4 v).getD (x - s.toDevice.pondMap a) 0) else Sparse.get pondDef s.mem.pond x) ∧
          e = { s.toDevice with mem := { s.mem with pond := e.mem.pond } }))) ∧
    (s.toDevice.get (MEM_BANK_INFO_retained (a / 131072)) = 1 → a / 131072 ∉ s.mem.waking →
      Gives (.pondWindowAccess m (0x1000000 + a) none .none .ok) s { s.toDevice with mem := { s.mem with
        waking := s.mem.waking ++ [a / 131072], retry := s.mem.retry ++ [{ master := m, off := a, val := none }] } })) ∧
  (∀ (m : Master) (a : Nat) (s : State), s.mem.retry = [{ master := m, off := a, val := none }] → a / 131072 ∉ s.mem.waking →
    s.toDevice.underDestroy (a / 131072) = false → s.toDevice.inCopyWindow a = false →
    s.toDevice.get (MEM_BANK_INFO_retained (a / 131072)) = 0 → s.toDevice.pondMap a / 8 ∉ s.mem.pondUe →
    Yields (.pondRetry .none) s (fun e => ({ s.toDevice with mem := { s.mem with retry := [] } }).replies e m (leNat (s.toDevice.pondBytes a 4)))) ∧
  (∀ (i : Fin 384) (s : State), s.power.coreOn = true → s.toDevice.get (MEM_BANK_CFG_ret i) = 1 → s.toDevice.get (MEM_BANK_INFO_test i) = 0 →
    i.val ∉ s.mem.waking → Yields (.bankRetentionEnter i) s (fun e => s.toDevice.sets e [(MEM_BANK_INFO_retained i, 1)])) ∧
  (∀ (i : Fin 384) (s : State), i.val ∈ s.mem.waking →
    Yields (.bankWakeDone i) s (fun e => ({ s.toDevice with mem := { s.mem with waking := e.mem.waking } }).sets e [(MEM_BANK_INFO_retained i, 0)] ∧
      ∀ j, j ∈ e.mem.waking ↔ j ∈ s.mem.waking ∧ j ≠ i.val))

/-- R398, R400, R401: the march over Pond. A preserving pass moves a segment to its slot, tests it and moves it back; a destroying run leaves its bank holding 0; a pass ends with MEM_MARCH_STAT and its interrupt.
The moves are stated of a Pond in its canonical form, which MemoriesStayCanonical keeps. -/
def Obligations.MarchRuns : Prop :=
  (∀ (m : Master) (n : Nat) (s : State), s.power.coreOn = true → among m 0x385 = true → s.toDevice.get MEM_MARCH_STAT_busy = 0 →
    s.toDevice.modeIn 0x1E = true → s.toDevice.marchNext 0 = some n →
    Yields (.marchPreserving m) s (fun e => ({ s.toDevice with mem := { s.mem with march := { s.mem.march with master := m, stage := .copyIn } } }).sets e
      [(MEM_MARCH_STAT_busy, 1), (MEM_MARCH_STAT_done, 0), (MEM_MARCH_STAT_mode, 0), (MEM_MARCH_STAT_fail, 0), (MEM_MARCH_STAT_err, 0),
       (MEM_MARCH_STAT_bank, n / 32), (MEM_MARCH_STAT_segment, n % 32), (MEM_BANK_INFO_test (n / 32), 1)])) ∧
  (∀ (m : Master) (i : Nat) (s : State), s.power.coreOn = true → among m 0x385 = true → s.toDevice.get MEM_MARCH_STAT_busy = 0 →
    s.toDevice.modeIn 0x1E = true → s.toDevice.released 0 = some i →
    (among m mIntegrator = false ∨ ∀ b < 384, s.toDevice.get (MEM_BANK_CFG_release b) = 1 → s.toDevice.bankMaster b = none ∨ s.toDevice.bankMaster b = some m.val) →
    Yields (.marchDestroying m) s (fun e => ({ s.toDevice with mem := { s.mem with march := { s.mem.march with master := m, stage := .bank } } }).sets e
      [(MEM_MARCH_STAT_busy, 1), (MEM_MARCH_STAT_done, 0), (MEM_MARCH_STAT_mode, 1), (MEM_MARCH_STAT_fail, 0), (MEM_MARCH_STAT_err, 0),
       (MEM_MARCH_STAT_bank, i), (MEM_MARCH_STAT_segment, 0), (MEM_BANK_INFO_test i, 1)])) ∧
  (∀ (m : Master) (s : State), s.power.coreOn = true → among m 0x385 = true → s.toDevice.get MEM_MARCH_STAT_busy = 1 →
    (s.mem.march.stage = .wait →
      Yields (.marchAbort m) s (fun e => ({ s.toDevice with mem := { s.mem with march := { s.mem.march with stage := .idle, aborting := false, full := false } } }).sets e
        [(MEM_BANK_INFO_test (s.toDevice.get MEM_MARCH_STAT_bank), 0), (MEM_MARCH_STAT_busy, 0), (MEM_MARCH_STAT_done, 1),
         (MEM_MARCH_STAT_err, eOk), (MEM_IRQ_march_done, 1)])) ∧
    (s.mem.march.stage ≠ .wait → Gives (.marchAbort m) s { s.toDevice with mem := { s.mem with march := { s.mem.march with aborting := true } } })) ∧
  (∀ (n : Nat) (s : State), s.mem.march.stage = .wait →
    s.toDevice.marchNext (s.toDevice.get MEM_MARCH_STAT_bank * 32 + s.toDevice.get MEM_MARCH_STAT_segment + 1) = some n →
    Yields .marchIntervalExpire s (fun e => ({ s.toDevice with mem := { s.mem with march := { s.mem.march with stage := .copyIn } } }).sets e
      [(MEM_MARCH_STAT_bank, n / 32), (MEM_MARCH_STAT_segment, n % 32), (MEM_BANK_INFO_test (n / 32), 1)])) ∧
  (∀ s : State, s.mem.march.stage = .copyIn → s.toDevice.memWf →
    Yields (.marchCopyinDone []) s (fun e =>
      (∀ x, Sparse.get pondDef e.mem.pond x = if s.toDevice.marchSlot ≤ x ∧ x < s.toDevice.marchSlot + 4096
        then Sparse.get pondDef s.mem.pond (x - s.toDevice.marchSlot + s.toDevice.marchSeg) else Sparse.get pondDef s.mem.pond x) ∧
      e = { s.toDevice with mem := { s.mem with pond := e.mem.pond, pondUe := e.mem.pondUe, march := { s.mem.march with stage := .test } } })) ∧
  (∀ s : State, s.mem.march.stage = .test →
    Gives (.marchTestDone none) s { s.toDevice with mem := { s.mem with march := { s.mem.march with stage := .copyBack } } }) ∧
  (∀ s : State, s.mem.march.stage = .copyBack → s.mem.march.full = false → s.mem.march.aborting = false → s.toDevice.memWf →
    s.toDevice.marchNext (s.toDevice.get MEM_MARCH_STAT_bank * 32 + s.toDevice.get MEM_MARCH_STAT_segment + 1) ≠ none →
    Yields .marchCopybackDone s (fun e =>
      (∀ x, Sparse.get pondDef e.mem.pond x = if s.toDevice.marchSeg ≤ x ∧ x < s.toDevice.marchSeg + 4096
        then Sparse.get pondDef s.mem.pond (x - s.toDevice.marchSeg + s.toDevice.marchSlot) else Sparse.get pondDef s.mem.pond x) ∧
      ({ s.toDevice with mem := { s.mem with pond := e.mem.pond, pondUe := e.mem.pondUe, march := { s.mem.march with stage := .wait } } }).sets e
        [(MEM_BANK_INFO_test (s.toDevice.get MEM_MARCH_STAT_bank), 0)])) ∧
  (∀ s : State, s.mem.march.stage = .bank → s.mem.march.aborting = false → s.toDevice.released (s.toDevice.get MEM_MARCH_STAT_bank + 1) = none →
    Yields (.marchBankDone none) s (fun e =>
      (∀ x, Sparse.get pondDef e.mem.pond x = if x / 131072 = s.toDevice.get MEM_MARCH_STAT_bank then 0 else Sparse.get pondDef s.mem.pond x) ∧
      ({ s.toDevice with mem := { s.mem with pond := e.mem.pond, pondUe := e.mem.pondUe, march := { s.mem.march with stage := .idle, aborting := false, full := false } } }).sets e
        [(MEM_BANK_INFO_test (s.toDevice.get MEM_MARCH_STAT_bank), 0), (MEM_MARCH_STAT_busy, 0), (MEM_MARCH_STAT_done, 1),
         (MEM_MARCH_STAT_err, eOk), (MEM_IRQ_march_done, 1)]))

/-- R229, R238, R243, R246, R270, R273, R274, R275: knots and the temperature grid are written, a stale grid is reported, and a kick waits for its pass.
A map operation starts under its checks and ends with its version adopted, or with its first failing check and the command's master told. -/
def Obligations.ShapingAndMapsAreLoaded : Prop :=
  (∀ (m : Master) (val : Nat) (s : State), s.power.coreOn = true → among m mFabric = true → val < 2 ^ 32 → reservedBad TRN_KNOT_DATA val = false →
    s.toDevice.knotShut (bitsOf (s.toDevice.rdB m TRN_KNOT_SEL) 24 24) = false →
    Yields (.knotWrite m val) s (fun e => ∃ l, Sparse.get (fun _ => 0) l (knotOfSel (s.toDevice.rdB m TRN_KNOT_SEL)) = val ∧
      (∀ k, k ≠ knotOfSel (s.toDevice.rdB m TRN_KNOT_SEL) → Sparse.get (fun _ => 0) l k = Sparse.get (fun _ => 0) s.trn.knots k) ∧
      ((s.toDevice.rdB m TRN_KNOT_SEL).testBit 28 = false → e = { s.toDevice with trn := { s.trn with knots := l } }) ∧
      ((s.toDevice.rdB m TRN_KNOT_SEL).testBit 28 = true →
        ({ s.toDevice with trn := { s.trn with knots := l } }).setsBank e m TRN_KNOT_SEL (knotAdvance (s.toDevice.rdB m TRN_KNOT_SEL) % 2 ^ 32)))) ∧
  (∀ (m : Master) (k : Fin 144) (val : Nat) (s : State), s.power.coreOn = true → among m s.toDevice.gridMasters = true → val < 2 ^ 16 →
    -640 ≤ signedOf 16 val → signedOf 16 val ≤ 2000 →
    Yields (.gridWrite m k val) s (fun e =>
      ({ s.toDevice with trn := { s.trn with gridUs := s.us }, force := e.force }).sets e [(whole (TRN_TGRID k), val), (TRN_TSTAT_stale, 0)] ∧
      e.rdF (TRN_TGRID k) = (if s.toDevice.rasterStopped then val else s.toDevice.rdF (TRN_TGRID k)) ∧
      (∀ o, o ≠ TRN_TGRID k → e.rdF o = s.toDevice.rdF o))) ∧
  (∀ s : State, s.power.coreOn = true →
    Yields (.gridStale true) s (fun e => s.toDevice.sets e [(TRN_LATE_grid, 1), (TRN_IRQ_late, 1)]) ∧
    (s.toDevice.get TRN_TSTAT_stale = 0 → Yields (.gridStale false) s (fun e => e.get TRN_TSTAT_stale = 1 ∧ e.get TRN_IRQ_stale = 1 ∧ e.get FLT_LAST_code = 0x44))) ∧
  (∀ (i : Instr) (op : Nat) (m : Master) (s : State), (i, op) ∈ [(Instr.kickRetarget m, 1), (.kickSettle m, 2), (.kickFreeze m, 3), (.kickUnfreeze m, 4)] →
    s.power.coreOn = true → among m mKick = true → s.toDevice.get TRN_KICK_RANGE_first ≤ s.toDevice.get TRN_KICK_RANGE_last →
    s.toDevice.get TRN_KICK_RANGE_last < s.toDevice.tileCount → s.trn.kick = none →
    Gives i s { s.toDevice with trn := { s.trn with kick := some (op, s.toDevice.get TRN_KICK_RANGE_first, s.toDevice.get TRN_KICK_RANGE_last) } }) ∧
  (∀ (i : Instr) (op : Nat) (m : Master) (t : Fin 4) (s : State), (i, op) ∈ [(Instr.mapLoad m t, 1), (.mapCheckAdopt m t, 2)] →
    s.power.coreOn = true → among m mFabric = true → s.cmp.op = none → (t.val < 2 → s.toDevice.modeIn 0x1C = false) →
    (t.val = 3 → (s.toDevice.trnOn = false ∨ s.toDevice.getF TRN_CTRL_knot_sel ≠ 0) ∧ s.toDevice.get TRN_CTRL_knot_sel = s.toDevice.getF TRN_CTRL_knot_sel) →
    (op = 2 → 2 ≤ t.val → s.toDevice.meetsScan (s.toDevice.rd CMP_MAP_ADDR) (s.toDevice.mapLen t) = false) →
    Yields i s (fun e => ({ s.toDevice with cmp := { s.cmp with op := some { master := m, op := op, type := t } } }).sets e
      ((if t = 0 then [(SRV_STAT_stage_valid, 0)] else []) ++ [(whole CMP_MAP_STAT, t.val * 2 ^ 24 + 1)]))) ∧
  (∀ (o : MapOp) (m : Master) (f : MapFail) (d : Device) (err : Bool) (s : State), s.cmp.op = some o → o.master = m → o.type < 4 →
    ({ s.toDevice with cmp := { s.cmp with op := none } }).mapRun o.op o.type err = (d, some f) → f.check < 256 → f.code < 256 → f.off < 2 ^ 32 →
    Yields (.mapOpComplete err) s (fun e => ∃ x, d.sets x [(whole CMP_MAP_STAT, o.type * 2 ^ 24 + f.check * 65536 + f.code * 256 + 2), (whole CMP_MAP_FAIL, f.off)] ∧
      x.rejects e m 0 CMP_MAP_CMD f.code)) ∧
  (∀ (o : MapOp) (h : MapEntry) (s : State), s.cmp.op = some o → o.op = 2 → o.type < 2 → s.toDevice.mapHead o.type = .ok h → h.version < 2 ^ 32 →
    s.toDevice.mapBody o.type h (s.toDevice.mapInPlace o.type) = .ok () →
    Yields (.mapOpComplete false) s (fun e => e.rd (CMP_MAP_VER o.type) = h.version ∧ e.rd CMP_MAP_STAT = o.type * 2 ^ 24 + 2 ∧ e.rd CMP_MAP_FAIL = 0 ∧
      e.cmp = { s.cmp with op := none } ∧ e.mem = s.mem))

/-- R128, R129, R131, R132: the tap claims its lanes, follows the sink and its parameters, changes its source at a frame start, and gives its lanes up. -/
def Obligations.TapFollowsItsControl : Prop :=
  (∀ (m : Master) (val : Nat) (s : State), s.power.coreOn = true → among m mLinks = true → val < 2 ^ 32 → val.testBit 0 = true →
    1 ≤ bitsOf val 19 16 → bitsOf val 19 16 ≤ 4 → bitsOf val 21 20 ≠ 3 → s.toDevice.dptxHeld 8 = false → reservedBad TAP_CTRL val = false → s.toDevice.roBad TAP_CTRL val = false →
    s.toDevice.get TAP_CTRL_en = 0 → s.tap.closing = false → s.toDevice.get TAP_STAT_hpd = 0 →
    Yields (.tapEnable m val) s (fun e => e.rd TAP_CTRL = val ∧ e.tap = { s.tap with src := bitsOf val 5 4, change := false, closing := false } ∧
      e.get TAP_STAT_trained = 0 ∧ (∀ j < 4, { feature := 8, cls := 9, idx := j, master := m } ∈ e.claims) ∧
      s.toDevice.onlyRegs e [TAP_CTRL, TAP_STAT, TAP_IRQ] ∧ e = { s.toDevice with regs := e.regs, tap := e.tap, claims := e.claims })) ∧
  (∀ (m : Master) (val : Nat) (s : State), s.power.coreOn = true → among m mLinks = true → val < 2 ^ 32 → val.testBit 0 = false →
    1 ≤ bitsOf val 19 16 → bitsOf val 19 16 ≤ 4 → bitsOf val 21 20 ≠ 3 → reservedBad TAP_CTRL val = false → s.toDevice.roBad TAP_CTRL val = false →
    s.toDevice.get TAP_CTRL_en = 1 →
    (s.toDevice.get TAP_STAT_video = 1 →
      Yields (.tapDisable m val) s (fun e => ({ s.toDevice with tap := { s.tap with change := false, closing := true } }).sets e [(whole TAP_CTRL, val)])) ∧
    (s.toDevice.get TAP_STAT_video = 0 →
      Yields (.tapDisable m val) s (fun e => e.rd TAP_CTRL = val ∧ e.tapOn = false ∧ e.get TAP_STAT_trained = 0 ∧ (∀ c ∈ e.claims, c.feature ≠ 8) ∧
      s.toDevice.onlyRegs e [TAP_CTRL, TAP_STAT] ∧ e = { s.toDevice with regs := e.regs, tap := e.tap, claims := e.claims }))) ∧
  (∀ (m : Master) (p : Port) (s : State), s.power.coreOn = true → among m mLinks = true → s.toDevice.get TAP_CTRL_en = 1 → s.toDevice.dptxHeld 8 = false →
    1 ≤ s.toDevice.get TAP_CTRL_max_rate → s.toDevice.get TAP_CTRL_max_rate ≤ 4 → s.toDevice.get TAP_CTRL_max_lanes ≠ 3 →
    reservedBad TAP_CTRL (setBits (s.toDevice.rd TAP_CTRL) 5 4 p) = false → s.toDevice.roBad TAP_CTRL (setBits (s.toDevice.rd TAP_CTRL) 5 4 p) = false →
    Yields (.tapSrcChange m p) s (fun e => ({ s.toDevice with tap := { s.tap with change := decide (p.val ≠ s.tap.src) } }).sets e [(TAP_CTRL_src, p)])) ∧
  (∀ (m : Master) (rate lanes ssc : Nat) (s : State), s.power.coreOn = true → among m mLinks = true → 1 ≤ rate → rate ≤ 4 → lanes < 3 → ssc < 2 →
    s.toDevice.get TAP_CTRL_en = 1 → s.toDevice.dptxHeld 8 = false → s.toDevice.get TAP_STAT_hpd = 0 →
    reservedBad TAP_CTRL (s.toDevice.rd TAP_CTRL) = false → s.toDevice.roBad TAP_CTRL (s.toDevice.rd TAP_CTRL) = false →
    Yields (.tapLinkParamChange m rate lanes ssc) s (fun e => ({ s.toDevice with tap := { s.tap with change := decide (s.toDevice.get TAP_CTRL_src ≠ s.tap.src) } }).sets e
      [(TAP_CTRL_max_rate, rate), (TAP_CTRL_max_lanes, lanes), (TAP_CTRL_ssc, ssc)])) ∧
  (∀ (rate : Nat) (s : State), s.power.coreOn = true → s.toDevice.get TAP_STAT_hpd = 0 → s.toDevice.get TAP_CTRL_en = 1 → 1 ≤ rate → rate ≤ 4 →
    1 ≤ s.toDevice.get TAP_CTRL_max_rate →
    Yields (.tapDownstreamHpd true rate 4) s (fun e => e.get TAP_STAT_hpd = 1 ∧ e.get TAP_IRQ_hpd = 1 ∧ e.get TAP_STAT_trained = 1 ∧
      e.get TAP_STAT_rate = Nat.min (s.toDevice.get TAP_CTRL_max_rate) rate ∧ e.get TAP_STAT_lanes = Nat.min (tapLanes (s.toDevice.get TAP_CTRL_max_lanes)) 4 ∧
      e.get TAP_STAT_video = 0 ∧
      s.toDevice.onlyRegs e [TAP_STAT, TAP_IRQ, TAP_LAT] ∧ e = { s.toDevice with regs := e.regs, free := e.free, tap := e.tap })) ∧
  (∀ (rate lanes : Nat) (s : State), s.power.coreOn = true → s.toDevice.get TAP_STAT_hpd = 1 → s.toDevice.get TAP_STAT_trained = 1 → s.tap.closing = false →
    Yields (.tapDownstreamHpd false rate lanes) s (fun e => e.get TAP_STAT_hpd = 0 ∧ e.get TAP_IRQ_loss = 1 ∧ e.get TAP_STAT_trained = 0 ∧ e.get TAP_STAT_video = 0 ∧
      e.get TAP_EVT_losses = Nat.min (s.toDevice.get TAP_EVT_losses + 1) 0xFF ∧ e.claims = s.claims ∧
      s.toDevice.onlyRegs e [TAP_STAT, TAP_IRQ, TAP_EVT] ∧ e = { s.toDevice with regs := e.regs, tap := e.tap }))

/-- R133: an AUX transaction to the downstream sink starts, repeats a deferred request, and ends with its reply. -/
def Obligations.AuxTransactionsRun : Prop :=
  (∀ (i : Instr) (op : Nat) (m : Master) (addr : Nat) (len : Fin 16) (s : State),
    (i, op) ∈ [(Instr.tapAuxNativeRead m addr len, 0), (.tapAuxNativeWrite m addr len, 1), (.tapAuxI2cRead m addr len, 2), (.tapAuxI2cWrite m addr len, 3)] →
    addr < 2 ^ 20 → s.power.coreOn = true → among m mLinks = true → s.toDevice.get TAP_STAT_hpd = 1 → s.toDevice.get TAP_AUX_STAT_busy = 0 →
    Yields i s (fun e => ({ s.toDevice with tap := { s.tap with aux := some { op := op, addr := addr, len := len.val + 1, data := if op % 2 = 1 then s.toDevice.auxBytes (len.val + 1) else [] } } }).sets e
      [(whole TAP_AUX_STAT, 1)])) ∧
  (∀ (x : AuxOp) (data : List Nat) (s : State), s.tap.aux = some x →
    Yields (.tapAuxReply .nack data) s (fun e => ({ s.toDevice with tap := { s.tap with aux := none } }).sets e [(whole TAP_AUX_STAT, 6), (TAP_IRQ_aux_done, 1)]) ∧
    (x.defers < 6 → Gives (.tapAuxReply .defer data) s { s.toDevice with tap := { s.tap with aux := some { x with defers := x.defers + 1 } } }) ∧
    (x.defers = 6 → Yields (.tapAuxReply .defer data) s (fun e => ({ s.toDevice with tap := { s.tap with aux := none } }).sets e [(whole TAP_AUX_STAT, 10), (TAP_IRQ_aux_done, 1)])) ∧
    (x.op % 2 = 1 → Yields (.tapAuxReply .ack data) s (fun e => ({ s.toDevice with tap := { s.tap with aux := none } }).sets e [(whole TAP_AUX_STAT, 2), (TAP_IRQ_aux_done, 1)])) ∧
    (x.op = 0 → x.len ≤ 16 → x.len ≤ data.length → (∀ b ∈ data, b < 256) →
      Yields (.tapAuxReply .ack data) s (fun e => e.auxBytes x.len = data.take x.len ∧ e.rd TAP_AUX_STAT = 2 ∧ e.get TAP_IRQ_aux_done = 1 ∧
        s.toDevice.onlyRegs e ([TAP_AUX_STAT, TAP_IRQ] ++ (List.range 4).map TAP_AUX_DATA) ∧ e = { s.toDevice with regs := e.regs, tap := { s.tap with aux := none } })) ∧
    Yields .tapAuxTimeout s (fun e => ({ s.toDevice with tap := { s.tap with aux := none } }).sets e [(whole TAP_AUX_STAT, 14), (TAP_IRQ_aux_done, 1)]))

/-- R471, R476, R478, R479, R481, R482: the PCIe function.
The link comes up, D3hot is entered and left, a reset of the function returns what R478 lists for master 0 to reset, a poisoned write is counted, a vector's message is sent or left pending, and ERR_CLR clears the latch. -/
def Obligations.PcieFunctionActs : Prop :=
  (∀ (speed width : Nat) (bme fn : Bool) (s : State), s.power.coreOn = true → speed < 16 → width < 8 →
    Yields (.pcieLinkUp speed width bme fn) s (fun e => ({ s.toDevice with hif := { s.hif with fnMask := fn } }).sets e
      [(HIF_PCI_STAT_speed, speed), (HIF_PCI_STAT_width, width), (HIF_PCI_STAT_dstate, 0), (HIF_PCI_STAT_up, 1), (HIF_PCI_STAT_bme, if bme then 1 else 0)])) ∧
  (∀ (b : Bool) (s : State), s.power.coreOn = true → s.toDevice.get HIF_PCI_STAT_up = 1 →
    Yields (.pcieD3hot b) s (fun e => s.toDevice.sets e [(HIF_PCI_STAT_dstate, if b then 3 else 0)])) ∧
  (∀ (k : PcieReset) (s : State), s.power.coreOn = true →
    Yields (.pcieFunctionReset k) s (fun e => e.get HIF_PCI_STAT_dstate = 0 ∧ e.get HIF_PCI_STAT_bme = 0 ∧ (k ≠ .flr → e.rd HIF_PCI_STAT = 0) ∧
      (k = .flr → e.get HIF_PCI_EVT_flrs = Nat.min (s.toDevice.get HIF_PCI_EVT_flrs + 1) 0xFF ∧ e.get HIF_PCI_STAT_up = s.toDevice.get HIF_PCI_STAT_up) ∧
      (∀ v < 64, e.rd (MSIX_CTRL v) = 1 ∧ e.rd (MSIX_ADDR_LO v) = 0 ∧ e.rd (MSIX_ADDR_HI v) = 0 ∧ e.rd (MSIX_DATA v) = 0) ∧
      e.rd (ERR_VIEW_CODE 0) = 0 ∧ e.rd (ERR_VIEW_ADDR 0) = 0 ∧ e.rd (MBX_DB_STAT 0) = 0 ∧ e.rdB 0 KEEP_AUTH = 0 ∧ e.keep.stageOwner ≠ some 0 ∧
      (∀ n < 128, s.toDevice.lockVal n = 1 → e.lockVal n = 0) ∧ (∀ n < 128, s.toDevice.lockVal n ≠ 1 → e.lockVal n = s.toDevice.lockVal n) ∧
      e.mem = s.mem ∧ e.keep = { s.keep with stageOwner := e.keep.stageOwner })) ∧
  (∀ s : State, s.toDevice.barOpen = true →
    Yields .poisonedWrite s (fun e => ({ s.toDevice with hif := { s.hif with aerPoisoned := true } }).sets e
      [(HIF_PCI_EVT_poisoned, Nat.min (s.toDevice.get HIF_PCI_EVT_poisoned + 1) 0xFF)])) ∧
  (∀ (v : Fin 64) (w1c : Bool) (s : State), s.power.coreOn = true → v.val ≤ 50 → s.toDevice.vecCond v = true → s.hif.conds.testBit v = false →
    (s.toDevice.msgOpen v = true →
      Yields (.msixTrigger v w1c) s (fun e => e.hif.msg = some (s.toDevice.rd (MSIX_ADDR_LO v) + s.toDevice.rd (MSIX_ADDR_HI v) * 2 ^ 32, s.toDevice.rd (MSIX_DATA v)) ∧
        e.hif = { s.hif with conds := onBit s.hif.conds v, msg := e.hif.msg } ∧
        ({ s.toDevice with hif := e.hif }).sets e [(⟨MSIX_PBA (v / 32), v % 32, v % 32⟩, 0)])) ∧
    (s.toDevice.msgOpen v = false →
      Yields (.msixTrigger v w1c) s (fun e => ({ s.toDevice with hif := { s.hif with conds := onBit s.hif.conds v } }).sets e
        [(⟨MSIX_PBA (v / 32), v % 32, v % 32⟩, 1)]))) ∧
  (∀ (m : Master) (s : State), s.power.coreOn = true →
    Yields (.errorClear m 1) s (fun e => s.toDevice.sets e [(whole (ERR_VIEW_CODE m), 0), (whole (ERR_VIEW_ADDR m), 0)]))

/-- R488, R489, R490: the flash commands start, and their ends read, program and erase the flash device; an end that never came leaves only the bytes it was changing open. -/
def Obligations.FlashCommandsAct : Prop :=
  (∀ (m : Master) (len : Fin 16) (i : Instr) (op n : Nat) (s : State),
    (i, op, n) ∈ [(Instr.xspiRead m len, 1, len.val), (.xspiProgram m len, 2, len.val), (.xspiSectorErase m, 3, 0), (.xspiBlockErase m, 4, 0),
      (.xspiReadStatus m, 5, 0), (.xspiSoftwareReset m, 6, 0)] →
    s.power.coreOn = true → among m mFlash = true → s.hif.xspi = none →
    (op = 2 → s.toDevice.rd HIF_XSPI_ADDR % 256 + n < 256) → (op = 3 → s.toDevice.rd HIF_XSPI_ADDR % 4096 = 0) →
    (op = 4 → s.toDevice.rd HIF_XSPI_ADDR % 65536 = 0) →
    (2 ≤ op → op ≤ 4 → s.toDevice.flashInUse (flashSpan op n (s.toDevice.rd HIF_XSPI_ADDR)).1 (flashSpan op n (s.toDevice.rd HIF_XSPI_ADDR)).2 = false) →
    Yields i s (fun e => ({ s.toDevice with hif := { s.hif with xspi := some { master := m, op := op, len := n, addr := s.toDevice.rd HIF_XSPI_ADDR, data := s.toDevice.xspiData.take (n + 1) } } }).sets e
      [(HIF_XSPI_STAT_busy, 1), (HIF_XSPI_STAT_done, 0), (HIF_XSPI_STAT_late, 0), (HIF_XSPI_STAT_err, 0)])) ∧
  (∀ (o : FlashOp) (status : Nat) (s : State), s.hif.xspi = some o → 1 ≤ o.op → o.op ≤ 6 → (o.op = 1 → o.len < 16) → status < 256 →
    Yields (.xspiOpComplete status false) s (fun e => e.hif.xspi = none ∧ e.get HIF_XSPI_STAT_busy = 0 ∧ e.get HIF_XSPI_STAT_done = 1 ∧
      e.get HIF_XSPI_STAT_err = eOk ∧ e.get HIF_IRQ_xspi = 1 ∧ (2 ≤ o.op → o.op ≤ 5 → e.get HIF_XSPI_STAT_status = status) ∧
      (o.op = 1 → e.xspiData = s.toDevice.flashBytes o.addr (o.len + 1) ++ s.toDevice.xspiData.drop (o.len + 1)) ∧
      (∀ a, e.flashRd a =
        if o.op = 2 then (if o.addr ≤ a ∧ a < o.addr + o.data.length then s.toDevice.flashRd a &&& o.data.getD (a - o.addr) 0 else s.toDevice.flashRd a)
        else if (flashSpan o.op o.len o.addr).1 ≤ a ∧ a < (flashSpan o.op o.len o.addr).1 + (flashSpan o.op o.len o.addr).2 ∧ o.op ≠ 1 then 0xFF
        else s.toDevice.flashRd a) ∧
      s.toDevice.onlyRegs e ([HIF_XSPI_STAT, HIF_IRQ] ++ (List.range 4).map HIF_XSPI_DATA) ∧ e = { s.toDevice with regs := e.regs, hif := { s.hif with xspi := none, flash := e.hif.flash } })) ∧
  (∀ (m : Master) (o : FlashOp) (status : Nat) (s : State), s.hif.xspi = some o → o.master = m → 2 ≤ o.op → o.op ≤ 4 →
    Yields (.xspiBusyTimeout status) s (fun e => e.hif.xspi = none ∧ e.get HIF_XSPI_STAT_busy = 0 ∧ e.get HIF_XSPI_STAT_done = 1 ∧
      e.get HIF_XSPI_STAT_err = eState ∧ e.get HIF_IRQ_xspi = 1 ∧ (s.toDevice.get (ERR_VIEW_CODE_code m) = 0 → e.get (ERR_VIEW_CODE_code m) = eState) ∧
      (∀ a, (a < (flashSpan o.op o.len o.addr).1 ∨ (flashSpan o.op o.len o.addr).1 + (flashSpan o.op o.len o.addr).2 ≤ a) → e.flashRd a = s.toDevice.flashRd a) ∧
      s.toDevice.onlyRegs e [HIF_XSPI_STAT, HIF_IRQ, ERR_VIEW_CODE m, ERR_VIEW_ADDR m] ∧ e = { s.toDevice with regs := e.regs, free := e.free, hif := e.hif }))

/-- R491: a DMA transfer starts, is aborted, and leaves at its destination the bytes of its source.
The completion is stated of words without ECC errors, and for Pond of a march that has redirected no segment. -/
def Obligations.DmaMovesBytes : Prop :=
  (∀ (m : Master) (ss ds : Fin 4) (s : State), s.power.coreOn = true → (∀ x ∈ s.toDevice.dmaChecks m ss ds, x.1 = false) →
    Yields (.dmaStart m ss ds) s (fun e => ({ s.toDevice with hif := { s.hif with dma := some { master := m, srcSpace := ss, dstSpace := ds, src := s.toDevice.rd HIF_DMA_SRC, dst := s.toDevice.rd HIF_DMA_DST, len := s.toDevice.rd HIF_DMA_LEN } } }).sets e
      [(HIF_DMA_STAT_busy, 1), (HIF_DMA_STAT_done, 0), (HIF_DMA_STAT_err, 0), (HIF_DMA_STAT_master, m)])) ∧
  (∀ (m : Master) (x : Dma) (s : State), s.power.coreOn = true → among m mFlash = true → s.hif.dma = some x →
    Gives (.dmaAbort m) s { s.toDevice with hif := { s.hif with dma := some { x with aborted := true } } }) ∧
  (∀ (x : Dma) (s : State), s.hif.dma = some x → x.len < 2 ^ 32 → x.srcSpace < 3 → x.dstSpace < 3 → s.toDevice.dmaReach x = x.len →
    (x.srcSpace = 0 → ∀ w ∈ wordsOf x.src x.len, w ∉ s.mem.fsUe ∧ w ∉ s.mem.fsCe) →
    (x.dstSpace = 0 → ∀ w ∈ wordsOf x.dst x.len, w ∉ s.mem.fsUe ∧ w ∉ s.mem.fsCe) →
    s.mem.march.patches = [] → s.mem.march.stage ≠ .test →
    Yields (.dmaComplete none) s (fun e =>
      (∀ i < x.len,
        let b := if x.srcSpace = 0 then s.toDevice.fsRd (x.src + i) else if x.srcSpace = 1 then s.toDevice.pondRd (x.src + i) else s.toDevice.flashRd (x.src + i)
        (x.dstSpace = 0 → e.fsRd (x.dst + i) = b) ∧ (x.dstSpace = 1 → e.pondRd (x.dst + i) = b) ∧
        (x.dstSpace = 2 → e.flashRd (x.dst + i) = s.toDevice.flashRd (x.dst + i) &&& b)) ∧
      (∀ a, (x.dstSpace = 0 → x.dst ≤ a → x.dst + x.len ≤ a) → e.fsRd a = s.toDevice.fsRd a) ∧
      (∀ a, (x.dstSpace = 1 → x.dst ≤ a → x.dst + x.len ≤ a) → e.pondRd a = s.toDevice.pondRd a) ∧
      (∀ a, (x.dstSpace = 2 → x.dst ≤ a → x.dst + x.len ≤ a) → e.flashRd a = s.toDevice.flashRd a) ∧
      e.hif.dma = none ∧ e.get HIF_DMA_STAT_busy = 0 ∧ e.get HIF_DMA_STAT_done = 1 ∧ e.get HIF_DMA_STAT_err = eOk ∧ e.rd HIF_DMA_DONE = x.len ∧
      e.get HIF_IRQ_dma = 1))

/-- R492, R493, R494, R495: the I2C controllers, the pins and the temperature inputs. -/
def Obligations.SlowInterfacesAct : Prop :=
  (∀ (m : Master) (n : Fin 2) (val : Nat) (s : State), s.power.coreOn = true → among m mI2c = true → val < 2 ^ 16 → val.testBit 7 = false →
    bitsOf val 11 8 ≤ 8 → bitsOf val 15 12 ≤ 8 → (bitsOf val 11 8 ≠ 0 ∨ bitsOf val 15 12 ≠ 0) → s.toDevice.i2cBusy n = none →
    Yields (.i2cTransaction m n val) s (fun e => e.i2cBusy n = some ⟨m, bitsOf val 6 0, bitsOf val 11 8, bitsOf val 15 12⟩ ∧
      (∀ k, k ≠ n.val → e.i2cBusy k = s.toDevice.i2cBusy k) ∧
      ({ s.toDevice with hif := { s.hif with i2c := e.hif.i2c } }).sets e [(whole (HIF_I2C_STAT n), 1)])) ∧
  (∀ (n : Fin 2) (x : I2c) (data : List Nat) (s : State), s.toDevice.i2cBusy n = some x → x.rlen ≤ 8 → x.rlen ≤ data.length → (∀ b ∈ data, b < 256) →
    Yields (.i2cComplete n none false data) s (fun e => e.i2cBusy n = none ∧ e.get (HIF_I2C_STAT_busy n) = 0 ∧ e.get (HIF_I2C_STAT_done n) = 1 ∧
      e.get (HIF_I2C_STAT_err n) = eOk ∧ (∀ i < x.rlen, ((leBytes 4 (e.rd (HIF_I2C_RDATA n 0)) ++ leBytes 4 (e.rd (HIF_I2C_RDATA n 1))).getD i 0) = data.getD i 0) ∧
      (x.rlen = 0 → e.rd (HIF_I2C_RDATA n 0) = s.toDevice.rd (HIF_I2C_RDATA n 0)) ∧
      s.toDevice.onlyRegs e [HIF_I2C_STAT n, HIF_IRQ, HIF_I2C_RDATA n 0, HIF_I2C_RDATA n 1] ∧ e = { s.toDevice with regs := e.regs, hif := e.hif })) ∧
  (∀ (m : Master) (n : Fin 2) (x : I2c) (s : State), s.toDevice.i2cBusy n = some x → x.master = m →
    Yields (.i2cClockLowTimeout n true) s (fun e => s.toDevice.sets e [(HIF_I2C_STAT_late n, 1)]) ∧
    Yields (.i2cClockLowTimeout n false) s (fun e => e.i2cBusy n = none ∧ e.get (HIF_I2C_STAT_done n) = 1 ∧ e.get (HIF_I2C_STAT_err n) = eState ∧
      (s.toDevice.get (ERR_VIEW_CODE_code m) = 0 → e.get (ERR_VIEW_CODE_code m) = eState) ∧
      s.toDevice.onlyRegs e [HIF_I2C_STAT n, HIF_IRQ, ERR_VIEW_CODE m, ERR_VIEW_ADDR m] ∧ e = { s.toDevice with regs := e.regs, hif := e.hif })) ∧
  (∀ (m : Master) (val : Nat) (s : State), s.power.coreOn = true → among m mGpio = true → val < 65536 →
    (∀ p < 16, val.testBit p = true → (s.toDevice.rd HIF_GPIO_EN).testBit p = false → s.toDevice.imageServes 7 7 p = false → s.toDevice.owner 7 p = none) →
    Yields (.gpioEnable m val) s (fun e => ({ s.toDevice with claims := e.claims }).sets e [(whole HIF_GPIO_EN, val)] ∧
      (∀ c ∈ e.claims, c.feature = 7 → val.testBit c.idx = true) ∧ (∀ c : RunClaim, c.feature ≠ 7 → (c ∈ e.claims ↔ c ∈ s.claims)))) ∧
  (∀ (p : Fin 16) (rise : Bool) (s : State), s.power.coreOn = true → (s.toDevice.rd HIF_GPIO_IN).testBit p ≠ rise →
    Yields (.gpioEdge p rise) s (fun e => s.toDevice.sets e ([(⟨HIF_GPIO_IN, p, p⟩, if rise then 1 else 0)] ++
      (if (s.toDevice.rd HIF_GPIO_EN).testBit p && (bitsOf (s.toDevice.rd HIF_GPIO_EDGE) (2 * p + 1) (2 * p)).testBit (if rise then 0 else 1)
        then [(⟨HIF_IRQ, p, p⟩, 1)] else [])))) ∧
  (∀ (k : Fin 4) (c : Nat) (s : State), s.power.coreOn = true → s.toDevice.get (HIF_NTC_CFG_en k) = 1 → c < 4096 →
    Yields (.ntcSample k c) s (fun e => e.get (HIF_NTC_c k) = c ∧ e.get (HIF_NTC_valid k) = 1 ∧ e.get (HIF_NTC_open k) = (if c = 4095 then 1 else 0) ∧
      e.get (HIF_NTC_short k) = (if c < 16 then 1 else 0) ∧ (∀ o, o ≠ HIF_NTC k → e.rd o = s.toDevice.rd o) ∧ e = { s.toDevice with regs := e.regs }))

/-- R484, R485, R497, R498, R499: the side port's halves and Pond accesses, and the test access port. -/
def Obligations.SideAndTestPortsAct : Prop :=
  (∀ (a val : Nat) (s : State), s.power.coreOn = true → val < 65536 →
    Yields (.sidePortLowWrite a val) s (fun e => e.hif = { s.hif with lowHeld := some (spOffset a, val), spBusy := false } ∧ e.get HIF_SP_STAT_low = 1 ∧
      (∀ o, o ≠ HIF_SP_STAT → e.rd o = s.toDevice.rd o) ∧ e = { s.toDevice with regs := e.regs, hif := e.hif })) ∧
  (∀ (a v : Nat) (s : State), s.power.coreOn = true → s.hif.readLatch = some (spOffset a, v) →
    Gives (.sidePortHighRead a) s { s.toDevice with hif := { s.hif with spData := v, spBusy := false, readLatch := none } }) ∧
  (∀ (a : Nat) (s : State), s.power.coreOn = true → s.hif.readLatch = none →
    Yields (.sidePortHighRead a) s (fun e => e.hif.spData = 0xFFFF ∧ e.get (ERR_CNT_cnt 1) = Nat.min (s.toDevice.get (ERR_CNT_cnt 1) + 1) 0xFFFF ∧
      e.get HIF_SP_EVT_seqs = Nat.min (s.toDevice.get HIF_SP_EVT_seqs + 1) 0xFFFF ∧
      s.toDevice.onlyRegs e [HIF_SP_EVT, HIF_SP_STAT, ERR_VIEW_CODE 1, ERR_VIEW_ADDR 1, ERR_CNT 1] ∧ e = { s.toDevice with regs := e.regs, hif := e.hif })) ∧
  (∀ (a val : Nat) (s : State), s.power.coreOn = true → a < 0x80000 → val < 65536 →
    (let w := 368 * 131072 + 1048576 * s.toDevice.get HIF_SP_CFG_page + 2 * a
     s.toDevice.underDestroy (w / 131072) = false → s.toDevice.get (MEM_BANK_INFO_retained (w / 131072)) = 0 → s.toDevice.inCopyWindow w = false →
     Yields (.sidePortPondAccess a (some val) .none .ok) s (fun e =>
       (∀ x, Sparse.get pondDef e.mem.pond x = if s.toDevice.pondMap w ≤ x ∧ x < s.toDevice.pondMap w + 2
         then Byte.of (val / 256 ^ (x - s.toDevice.pondMap w)) else Sparse.get pondDef s.mem.pond x) ∧
       e = { s.toDevice with mem := { s.mem with pond := e.mem.pond }, hif := { s.hif with spBusy := false } }) ∧
     (s.toDevice.pondMap w / 8 ∉ s.mem.pondUe →
       Yields (.sidePortPondAccess a none .none .ok) s (fun e =>
         ({ s.toDevice with hif := { s.hif with spBusy := false, spData := leNat (s.toDevice.pondBytes w 2) } }).replies e 1 (leNat (s.toDevice.pondBytes w 2)))))) ∧
  (∀ (ir : Nat) (s : State), s.power.coreOn = true → ir < 256 →
    (bscanCode ir = false ∨ s.toDevice.get HVP_STAT_state = 0 →
      Yields (.jtagUpdateIr ir) s (fun e => ({ s.toDevice with hif := { s.hif with bscan := bscanCode ir } }).sets e
        [(HIF_JTAG_STAT_instr, if ir ≤ 6 ∨ ir = 0x10 then ir else 0xFF), (HIF_JTAG_STAT_refused, 0)])) ∧
    (bscanCode ir = true → s.toDevice.get HVP_STAT_state ≠ 0 →
      Yields (.jtagUpdateIr ir) s (fun e => ({ s.toDevice with hif := { s.hif with bscan := false } }).sets e
        [(HIF_JTAG_STAT_instr, 0xFF), (HIF_JTAG_STAT_refused, 1)]))) ∧
  (∀ s : State, s.power.coreOn = true →
    Yields .testLogicReset s (fun e => ({ s.toDevice with hif := { s.hif with bscan := false } }).sets e [(HIF_JTAG_STAT_instr, 2)])) ∧
  (∀ (running : Bool) (s : State), s.power.coreOn = true → s.toDevice.get HIF_JTAG_STAT_instr = 0x10 →
    Gives (.dbgCapture running) s { s.toDevice with hif := { s.hif with captured := (s.hif.dbgData, if running then 0xFF else s.hif.dbgStatus) } })

/-- R450, R451, R452, R453, R455, R456: channels are bound and the table locked; a word sent is appended and rings the receiver's doorbell; a word received is the oldest; the timers report. -/
def Obligations.MailboxesCarryWords : Prop :=
  (∀ (m : Master) (c : Fin 64) (val : Nat) (s : State), s.power.coreOn = true → (m.val = 2 ∨ m.val = 0 ∧ 16 ≤ c.val ∧ (s.toDevice.rd GLB_BOOT_STEPS).testBit 6 = true) →
    s.toDevice.get MBX_CFG_lock = 0 → s.toDevice.mode = 1 → val < 2 ^ 32 → chanBad val = false →
    Yields (.channelBind m c val) s (fun e => e.rd (MB_CHAN c) = val ∧ e.rd (MB_EVT c) = 0 ∧ e.mbQueue c true = [] ∧ e.mbQueue c false = [] ∧
      e.get (MB_STAT_cnt_ab c) = 0 ∧ e.get (MB_STAT_cnt_ba c) = 0 ∧
      (∀ k : Fin 64, k ≠ c → e.rd (MB_CHAN k) = s.toDevice.rd (MB_CHAN k) ∧ e.mbQueue k true = s.toDevice.mbQueue k true ∧ e.mbQueue k false = s.toDevice.mbQueue k false) ∧
      s.toDevice.onlyRegs e [MB_CHAN c, MB_EVT c, MB_STAT c] ∧ e = { s.toDevice with regs := e.regs, mbx := e.mbx })) ∧
  (∀ (m : Master) (s : State), s.power.coreOn = true → among m 5 = true →
    Yields (.channelTableLock m) s (fun e => s.toDevice.sets e [(MBX_CFG_lock, 1)])) ∧
  (∀ (m : Master) (c : Fin 64) (ab : Bool) (val : Nat) (s : State), s.power.coreOn = true → s.toDevice.mbEnd c m = some ab →
    s.toDevice.get (MB_CHAN_en c) = 1 → (s.toDevice.mbQueue c ab).length < 8 → val < 2 ^ 32 →
    s.toDevice.get (MB_CHAN_a c) < 10 → s.toDevice.get (MB_CHAN_b c) < 10 →
    Yields (.mailboxSend m c val) s (fun e => e.mbQueue c ab = s.toDevice.mbQueue c ab ++ [Word.of val] ∧ e.mbQueue c (!ab) = s.toDevice.mbQueue c (!ab) ∧
      (∀ k, k ≠ c.val → e.mbQueue k true = s.toDevice.mbQueue k true ∧ e.mbQueue k false = s.toDevice.mbQueue k false) ∧
      e.get (if ab then MB_STAT_cnt_ab c else MB_STAT_cnt_ba c) = (s.toDevice.mbQueue c ab).length + 1 ∧
      (e.rd (MBX_DB_STAT (s.toDevice.get (if ab then MB_CHAN_b c else MB_CHAN_a c)))).testBit (s.toDevice.get (if ab then MB_CHAN_db_b c else MB_CHAN_db_a c)) = true ∧
      s.toDevice.onlyRegs e [MB_STAT c, MBX_DB_STAT (s.toDevice.get (if ab then MB_CHAN_b c else MB_CHAN_a c))] ∧ e = { s.toDevice with regs := e.regs, mbx := e.mbx })) ∧
  (∀ (m : Master) (c : Fin 64) (ab : Bool) (w : Word) (l : List Word) (s : State), s.power.coreOn = true → s.toDevice.mbEnd c m = some (!ab) →
    s.toDevice.get (MB_CHAN_en c) = 1 → s.toDevice.mbQueue c ab = w :: l →
    Yields (.mailboxReceive m c) s (fun e => e.answer m = w.toNat ∧ e.mbQueue c ab = l ∧ e.mbQueue c (!ab) = s.toDevice.mbQueue c (!ab) ∧
      e.get (MB_STAT_xwait c) = 0 ∧ (∀ k, k ≠ c.val → e.mbQueue k true = s.toDevice.mbQueue k true ∧ e.mbQueue k false = s.toDevice.mbQueue k false) ∧
      s.toDevice.onlyRegs e [MB_STAT c] ∧ e = { s.toDevice with regs := e.regs, mbx := e.mbx, rdata := e.rdata })) ∧
  (∀ (c : Fin 64) (ab : Bool) (s : State), s.power.coreOn = true → s.toDevice.mbQueue c ab ≠ [] → s.toDevice.get MB_ACK_TIME_t ≠ 0 → qKey c ab ∉ s.mbx.ackStopped →
    Yields (.mailboxAckTimeout c ab true) s (fun e => s.toDevice.sets e [(if ab then MB_EVT_late_ab c else MB_EVT_late_ba c, 1)]) ∧
    (s.toDevice.get (MB_CHAN_a c) < 10 → s.toDevice.get (MB_CHAN_b c) < 10 →
      Yields (.mailboxAckTimeout c ab false) s (fun e => ({ s.toDevice with mbx := { s.mbx with ackStopped := s.mbx.ackStopped ++ [qKey c ab] } }).sets e
        [(if ab then MB_EVT_ack_ab c else MB_EVT_ack_ba c, 1),
         (whole (MBX_DB_STAT (s.toDevice.get (if ab then MB_CHAN_a c else MB_CHAN_b c))),
          onBit (s.toDevice.rd (MBX_DB_STAT (s.toDevice.get (if ab then MB_CHAN_a c else MB_CHAN_b c)))) (s.toDevice.get (if ab then MB_CHAN_db_a c else MB_CHAN_db_b c)) % 2 ^ 32)]))) ∧
  (∀ (c : Fin 64) (s : State), s.power.coreOn = true → s.toDevice.mbQueue c true ≠ [] → s.toDevice.mbQueue c false ≠ [] →
    s.toDevice.get (MB_STAT_xwait c) = 0 → s.toDevice.get (MB_CHAN_a c) < 10 → s.toDevice.get (MB_CHAN_b c) < 10 →
    Yields (.mailboxXwait c false) s (fun e => e.get (MB_STAT_xwait c) = 1 ∧ e.get (MB_EVT_xwait c) = 1 ∧
      (e.rd (MBX_DB_STAT (s.toDevice.get (MB_CHAN_a c)))).testBit 31 = true ∧ (e.rd (MBX_DB_STAT (s.toDevice.get (MB_CHAN_b c)))).testBit 31 = true ∧ e.mbx = s.mbx ∧
      s.toDevice.onlyRegs e [MB_STAT c, MB_EVT c, MBX_DB_STAT (s.toDevice.get (MB_CHAN_a c)), MBX_DB_STAT (s.toDevice.get (MB_CHAN_b c))] ∧ e = { s.toDevice with regs := e.regs }))

/-- R459, R460, R462, R463, R464: a doorbell bit is set; a free lock goes to the master that reads it, a held one stays; a lock is released by its owner or by force. -/
def Obligations.DoorbellsAndLocksAct : Prop :=
  (∀ (m : Master) (val : Nat) (s : State), s.power.coreOn = true → among m 0x43FF = true → val < 2 ^ 12 → val / 32 % 8 = 0 →
    bitsOf val 11 8 ≤ 9 → bitsOf val 4 0 < 31 →
    Yields (.doorbellRing m val) s (fun e => s.toDevice.sets e [(⟨MBX_DB_STAT (bitsOf val 11 8), bitsOf val 4 0, bitsOf val 4 0⟩, 1)])) ∧
  (∀ (m : Master) (n : Fin 128) (s : State), s.power.coreOn = true → m.val ≤ 9 →
    (s.toDevice.lockVal n = 0 →
      Yields (.lockAcquireRead m n []) s (fun e => e.lockVal n = m.val + 1 ∧ e.rd (MBX_LOCK_PEEK n) = m.val + 1 ∧ e.answer m = 0 ∧
        (∀ k : Fin 128, k ≠ n → e.lockVal k = s.toDevice.lockVal k) ∧ s.toDevice.onlyRegs e [MBX_LOCK n, MBX_LOCK_PEEK n] ∧ e = { s.toDevice with regs := e.regs, rdata := e.rdata })) ∧
    (s.toDevice.lockVal n ≠ 0 → Yields (.lockAcquireRead m n []) s (fun e => s.toDevice.replies e m (s.toDevice.lockVal n)))) ∧
  (∀ (m k : Master) (n : Fin 128) (s : State), s.power.coreOn = true → m.val ≤ 9 → k.val ≤ 9 → m ≠ k → s.toDevice.lockVal n = 0 →
    Sparse.get (fun _ => 0) s.mbx.lastWin n = m.val + 1 →
    Yields (.lockAcquireRead m n [k]) s (fun e => e.lockVal n = k.val + 1 ∧ e.answer k = 0 ∧ e.answer m = k.val + 1 ∧
      e.get MBX_LOCK_EVT_ties = Nat.min (s.toDevice.get MBX_LOCK_EVT_ties + 1) 0xFFFF ∧
      s.toDevice.onlyRegs e [MBX_LOCK n, MBX_LOCK_PEEK n, MBX_LOCK_EVT] ∧ e = { s.toDevice with regs := e.regs, rdata := e.rdata, free := e.free, mbx := e.mbx })) ∧
  (∀ (m : Master) (n : Fin 128) (s : State), s.power.coreOn = true → m.val ≤ 9 → s.toDevice.lockVal n = m.val + 1 →
    Yields (.lockRelease m n 0) s (fun e => s.toDevice.sets e [(whole (MBX_LOCK n), 0), (whole (MBX_LOCK_PEEK n), 0)])) ∧
  (∀ (m : Master) (n : Fin 128) (s : State), s.power.coreOn = true → among m 0x45 = true → s.toDevice.lockVal n ≠ 0 →
    Yields (.lockForceClear m n) s (fun e => s.toDevice.sets e
      [(whole (MBX_LOCK n), 0), (whole (MBX_LOCK_PEEK n), 0), (MBX_LOCK_EVT_forced, Nat.min (s.toDevice.get MBX_LOCK_EVT_forced + 1) 0xFFFF)]))

/-- R465, R467, R468, R469: Walern firmware answers PING, commits a record for its sender and loads an integrator core. -/
def Obligations.FirmwareServesMessages : Prop :=
  (∀ (c : Fin 6) (h : Word) (l : List Word) (s : State), s.power.coreOn = true → s.toDevice.owesOn c = false →
    s.toDevice.get (CORE_STAT_state (if onSupervisor c then 0 else c)) ≠ 0 → s.toDevice.mbQueue c true = h :: l →
    bitsOf h.toNat 31 24 = 1 → bitsOf h.toNat 15 0 = 0 → (s.toDevice.mbQueue c false).length ≤ 5 →
    Yields (.ping c) s (fun e => e.mbQueue c true = l ∧
      e.mbQueue c false = s.toDevice.mbQueue c false ++ [Word.of (0x81000200 + bitsOf h.toNat 23 16 * 0x10000), Word.of (s.toDevice.rd GLB_REV), Word.of s.boot.fwVersion] ∧
      s.toDevice.onlyRegs e [MB_STAT c, MBX_DB_STAT (s.toDevice.get (MB_CHAN_a c))] ∧ e = { s.toDevice with regs := e.regs, mbx := e.mbx })) ∧
  (∀ (c : Fin 6) (h w crc : Word) (l : List Word) (s : State), s.power.coreOn = true → s.bridge.lost = false → onSupervisor c = true → s.toDevice.owesOn c = false →
    s.mbx.commitFor = none → s.toDevice.mbQueue c true = h :: w :: crc :: l → bitsOf h.toNat 31 24 = 2 → bitsOf h.toNat 15 0 = 0x200 →
    (s.toDevice.mbQueue c false).length ≤ 7 → bitsOf w.toNat 7 0 ∈ [0, 2, 9, 10] → crc32 (s.toDevice.stageBytes (bitsOf w.toNat 26 16)) = crc.toNat →
    (∀ x ∈ s.toDevice.recChecks 2 2 (bitsOf w.toNat 7 0) (bitsOf w.toNat 26 16) true (if c.val = 0 then 0 else 1), x.1 = false) →
    Yields (.commit c) s (fun e => e.mbQueue c true = l ∧ e.mbQueue c false = s.toDevice.mbQueue c false ∧ e.mbx.commitFor = some (c.val, bitsOf h.toNat 23 16) ∧
      (∃ r, e.keep.commit = some r ∧ r.master = 2 ∧ r.id = bitsOf w.toNat 7 0 ∧ r.len = bitsOf w.toNat 26 16) ∧ e.get KEEP_REC_STAT_busy = 1)) ∧
  (∀ (c : Fin 6) (h w : Word) (l : List Word) (addr len entry crc banks flags f : Nat) (s : State), s.power.coreOn = true → onSupervisor c = true →
    s.toDevice.owesOn c = false → s.ik.load = none → s.hif.dma = none → s.toDevice.mbQueue c true = h :: w :: l → bitsOf h.toNat 31 24 = 3 →
    bitsOf h.toNat 15 0 = 0x100 → (s.toDevice.mbQueue c false).length ≤ 7 → 5 ≤ w.toNat → w.toNat ≤ 7 → s.toDevice.coreState w.toNat = 0 →
    s.toDevice.loaderEntry w.toNat = some (addr, len, entry, crc, banks, flags) → 0 < banks → banks ≤ 64 → len ≤ banks * 131072 →
    s.toDevice.get (CORE_ALLOC_count w.toNat) = 0 → s.toDevice.bankRun banks = some f →
    Yields (.loadCore c) s (fun e => e.mbQueue c true = l ∧
      e.ik.load = some { core := w.toNat, addr := addr, len := len, entry := entry, crc := crc, pin := flags.testBit 1, reply := some (c.val, bitsOf h.toNat 23 16) } ∧
      e.get (CORE_ALLOC_count w.toNat) = banks ∧ e.get (CORE_ALLOC_first w.toNat) = f)) ∧
  (∀ (j : CoreLoad) (s : State), s.power.coreOn = true → s.ik.load = some j → 5 ≤ j.core → j.core ≤ 7 → j.reply = none → j.pin = false →
    crc32 (s.toDevice.flashBytes j.addr j.len) = j.crc → j.entry % 2 = 0 → j.entry < s.toDevice.get (CORE_ALLOC_count j.core) * 131072 →
    s.mem.march.patches = [] → s.mem.march.stage ≠ .test →
    Yields (.loadCoreComplete false) s (fun e => e.coreState j.core = 1 ∧ e.get (CORE_CTRL_run j.core) = 1 ∧ e.get (CORE_STAT_load_err j.core) = 0 ∧ e.ik.load = none ∧
      (e.core j.core).pc = 0x1000000 + s.toDevice.get (CORE_ALLOC_first j.core) * 131072 + j.entry ∧
      (∀ i < j.len, e.pondRd (s.toDevice.get (CORE_ALLOC_first j.core) * 131072 + i) = s.toDevice.flashRd (j.addr + i)) ∧
      (∀ a, (a < s.toDevice.get (CORE_ALLOC_first j.core) * 131072 ∨ s.toDevice.get (CORE_ALLOC_first j.core) * 131072 + j.len ≤ a) → e.pondRd a = s.toDevice.pondRd a)))

/-- R441, R443, R444, R446, R447, R448, R449: banks are assigned and returned; a core is run, halted, resumed and reset; the watchdog is kicked and expires. -/
def Obligations.CoresAreControlled : Prop :=
  (∀ (m : Master) (k : CoreId) (n f : Nat) (s : State), s.power.coreOn = true → among m 7 = true → 5 ≤ k.val → s.toDevice.coreState k = 0 →
    s.toDevice.get (CORE_ALLOC_count k) = 0 → 0 < n → n ≤ 64 → s.toDevice.bankRun n = some f →
    Yields (.bankAssign m k n) s (fun e => s.toDevice.sets e
      ([(whole (CORE_ALLOC k), n + f * 0x10000)] ++ (List.range n).map (fun i => (MEM_BANK_INFO_use (f + i), 13))))) ∧
  (∀ (m : Master) (k : CoreId) (s : State), s.power.coreOn = true → among m 7 = true → 5 ≤ k.val → s.toDevice.coreState k = 0 →
    Yields (.bankReturn m k) s (fun e => e.rd (CORE_ALLOC k) = 0 ∧
      (∀ i < s.toDevice.get (CORE_ALLOC_count k), e.get (MEM_BANK_INFO_use (s.toDevice.get (CORE_ALLOC_first k) + i)) = 0))) ∧
  (∀ (m : Master) (k : CoreId) (s : State), s.power.coreOn = true → among m 7 = true → 5 ≤ k.val → s.toDevice.coreState k = 0 →
    s.toDevice.get (CORE_CTRL_halt k) = 0 → s.toDevice.bootBad k = false →
    Yields (.coreRun m k) s (fun e => e.core k = { pc := s.toDevice.rd (CORE_BOOT k) } ∧ (∀ j, j ≠ k.val → e.core j = s.toDevice.core j) ∧
      ({ s.toDevice with ik := { s.ik with cores := e.ik.cores } }).sets e
        [(CORE_STAT_state k, 1), (CORE_STAT_wdog k, 0), (CORE_CTRL_run k, 1), (CORE_CTRL_halt k, 0)])) ∧
  (∀ (m : Master) (k : CoreId) (s : State), s.power.coreOn = true → among m 7 = true → 5 ≤ k.val → s.toDevice.coreState k ≠ 0 →
    Yields (.coreReset m k) s (fun e => e.coreState k = 0 ∧ e.get (CORE_CTRL_run k) = 0 ∧ e.core k = {} ∧
      e.get (CORE_EVT_resets k) = Nat.min (s.toDevice.get (CORE_EVT_resets k) + 1) 0xFF ∧ e.rd (MBX_DB_STAT (2 + k)) = 0 ∧ e.rd (ERR_VIEW_CODE (2 + k)) = 0 ∧
      (∀ n < 128, e.lockVal n = if s.toDevice.lockVal n = 2 + k.val + 1 then 0 else s.toDevice.lockVal n) ∧
      (∀ c, c ∈ e.claims ↔ c ∈ s.claims ∧ c.master ≠ 2 + k.val) ∧ e.keep.stageOwner ≠ some (2 + k.val) ∧ e.mem = s.mem)) ∧
  (∀ (m : Master) (k : CoreId) (s : State), s.power.coreOn = true → among m 0x4007 = true → 5 ≤ k.val → s.toDevice.coreState k = 1 →
    s.toDevice.get (CORE_CTRL_run k) = 1 → s.toDevice.bootBad k = false →
    Yields (.coreHalt m k) s (fun e => e.core k = { s.toDevice.core k with wasWaiting := false } ∧ (∀ j, j ≠ k.val → e.core j = s.toDevice.core j) ∧
      ({ s.toDevice with ik := { s.ik with cores := e.ik.cores } }).sets e [(CORE_CTRL_halt k, 1), (CORE_STAT_state k, 3)])) ∧
  (∀ (m : Master) (k : CoreId) (s : State), s.power.coreOn = true → among m 0x4007 = true → 5 ≤ k.val → s.toDevice.coreState k = 3 →
    s.toDevice.get (CORE_CTRL_run k) = 1 → s.toDevice.bootBad k = false →
    Yields (.coreResume m k) s (fun e => s.toDevice.sets e [(CORE_CTRL_halt k, 0), (CORE_STAT_state k, if (s.toDevice.core k).wasWaiting then 2 else 1)])) ∧
  (∀ (m : Master) (k : CoreId) (s : State), s.power.coreOn = true →
    (m.val = 2 + k.val → Gives (.coreKick m k) s s.toDevice) ∧
    (m.val ≠ 2 + k.val → Yields (.coreKick m k) s (fun e => s.toDevice.rejects e m 0 (CORE_KICK k) ePerm))) ∧
  (∀ (k : CoreId) (s : State), s.power.coreOn = true → s.toDevice.get (CORE_WDOG_ms k) ≠ 0 →
    Yields (.watchdogExpire k true) s (fun e => s.toDevice.sets e [(⟨CORE_LATE, k, k⟩, 1)]) ∧
    (5 ≤ k.val → Yields (.watchdogExpire k false) s (fun e => e.coreState k = 0 ∧ e.get (CORE_STAT_wdog k) = 1 ∧ (e.rd CORE_IRQ).testBit k = true ∧
      e.get (CORE_EVT_expiries k) = Nat.min (s.toDevice.get (CORE_EVT_expiries k) + 1) 0xFF)) ∧
    (k.val < 5 → s.toDevice.mode ≠ 5 → Yields (.watchdogExpire k false) s Device.inNewt))

/-- R436, R438, R440, R443: a core executes.
The instruction that stands at its pc has the effect RV32IM gives it, WFI and FENCE.I theirs; a pending interrupt that is enabled is taken; the machine timer reaches its compare value and is read. -/
def Obligations.CoresExecute : Prop :=
  (∀ (k : CoreId) (w : Nat) (s : State), s.toDevice.fetches k w →
    let x := s.toDevice.core k
    let a := x.reg (bitsOf w 19 15)
    let b := x.reg (bitsOf w 24 20)
    (w % 128 = 0x37 → Yields (.coreInstruction k) s (fun e => s.toDevice.retires e k (bitsOf w 11 7) (w / 4096 * 4096) (x.pc + 4))) ∧
    (w % 128 = 0x6F → Yields (.coreInstruction k) s (fun e => s.toDevice.retires e k (bitsOf w 11 7) (x.pc + 4) (x.pc + immJ w))) ∧
    (w % 128 = 0x13 → bitsOf w 14 12 ≠ 1 → bitsOf w 14 12 ≠ 5 →
      Yields (.coreInstruction k) s (fun e => s.toDevice.retires e k (bitsOf w 11 7) (rvAlu (bitsOf w 14 12) false a (immI w)) (x.pc + 4))) ∧
    (w % 128 = 0x33 → bitsOf w 31 25 = 0 →
      Yields (.coreInstruction k) s (fun e => s.toDevice.retires e k (bitsOf w 11 7) (rvAlu (bitsOf w 14 12) false a b) (x.pc + 4))) ∧
    (w % 128 = 0x33 → bitsOf w 31 25 = 1 →
      Yields (.coreInstruction k) s (fun e => s.toDevice.retires e k (bitsOf w 11 7) (rvMul (bitsOf w 14 12) a b) (x.pc + 4))) ∧
    (∀ t, w % 128 = 0x63 → rvTaken (bitsOf w 14 12) a b = some t →
      Yields (.coreInstruction k) s (fun e => s.toDevice.retires e k 0 0 (if t then x.pc + immB w else x.pc + 4)))) ∧
  (∀ (k : CoreId) (s : State), s.power.coreOn = true → s.toDevice.coreState k = 1 →
    (s.toDevice.pendingCause k = none →
      Yields (.coreWfi k) s (fun e => ∃ d, s.toDevice.retires d k 0 0 ((s.toDevice.core k).pc + 4) ∧ d.sets e [(CORE_STAT_state k, 2)])) ∧
    (s.toDevice.pendingCause k ≠ none → Yields (.coreWfi k) s (fun e => s.toDevice.retires e k 0 0 ((s.toDevice.core k).pc + 4))) ∧
    Yields (.fenceI k) s (fun e => s.toDevice.retires e k 0 0 ((s.toDevice.core k).pc + 4) ∧ (e.core k).prefetch = [])) ∧
  (∀ (k : CoreId) (c : Nat) (s : State), s.power.coreOn = true → (s.toDevice.coreState k = 1 ∨ s.toDevice.coreState k = 2) → s.toDevice.pendingCause k = some c →
    ((s.toDevice.core k).mie = true →
      Yields (.coreInterrupt k) s (fun e => e.core k = { s.toDevice.core k with mepc := (s.toDevice.core k).pc, mcause := c + 2 ^ 31, mtval := 0, mpie := true, mie := false, pc := (e.core k).pc } ∧
        (e.core k).pc = (if (s.toDevice.core k).mtvec % 4 = 1 then ((s.toDevice.core k).mtvec / 4 * 4 + 4 * c) % 2 ^ 32 else (s.toDevice.core k).mtvec / 4 * 4) ∧
        (∀ j, j ≠ k.val → e.core j = s.toDevice.core j) ∧
        ({ s.toDevice with ik := { s.ik with cores := e.ik.cores } }).sets e [(CORE_STAT_cause k, c), (CORE_STAT_state k, 1)])) ∧
    ((s.toDevice.core k).mie = false → Yields (.coreInterrupt k) s (fun e => s.toDevice.sets e [(CORE_STAT_state k, 1)]))) ∧
  (∀ (k : CoreId) (s : State), s.power.coreOn = true →
    Yields (.mtimerMatch k) s (fun e => e.us = Nat.max s.us (s.boot.resetUs + s.toDevice.mtimecmp k) ∧ e.mtip k = true ∧ e = { s.toDevice with us := e.us })) ∧
  (∀ (m : Master) (s : State), s.power.coreOn = true →
    Yields (.mtimeRead m) s (fun e => Sparse.get (fun _ => 0) e.ik.mtimeHi m = s.toDevice.mtime / 2 ^ 32 ∧
      ({ s.toDevice with ik := { s.ik with mtimeHi := e.ik.mtimeHi } }).replies e m (s.toDevice.mtime % 2 ^ 32)))

/-- R329, R331, R335, R338, R341: the operations of ACL_CMD.
A training begins on one lane or on every claimed lane; a planned move or return sends SELECT on both lanes and waits for its swap point; the drivers of a return lane are silenced; a lane is turned off. -/
def Obligations.LanesAreCommanded : Prop :=
  (∀ (i : Instr) (op : Nat) (full : Bool) (m : Master) (n : Lane) (s : State),
    (i, op, full) ∈ [(Instr.laneFullTrain m n, 1, true), (.laneFastRetrain m n, 2, false)] → s.power.coreOn = true → among m mLink = true →
    s.toDevice.get ACL_CMD_STAT_busy = 0 → s.toDevice.laneClaimed n = true → s.toDevice.linkFits →
    Yields i s (fun e =>
      e.lane n = { s.toDevice.lane n with full := full, again := false, retry := false, sweep := [], scores := [], holding := false, resending := false, missing := 0, unacked := [], presetAt := none } ∧
      (∀ j, j ≠ n.val → e.lane j = s.toDevice.lane j) ∧ e.link = { s.link with lanes := e.link.lanes, cmdLane := n, cmdMaster := m } ∧
      ({ s.toDevice with link := e.link }).sets e ([(ACL_CMD_STAT_busy, 1), (ACL_CMD_STAT_done, 0), (ACL_CMD_STAT_op, op), (ACL_CMD_STAT_err, 0), (ACL_LANE_STAT_state n, 1),
        (if full then (ACL_LANE_EVT_fulls n, Nat.min (s.toDevice.get (ACL_LANE_EVT_fulls n) + 1) 0xFF) else (ACL_LANE_EVT_fasts n, Nat.min (s.toDevice.get (ACL_LANE_EVT_fasts n) + 1) 0xFF))] ++
        (match s.toDevice.laneSpare n with
          | some k => if s.toDevice.get (ACL_SPARE_state k) = 3 then [] else [(ACL_SPARE_state k, 1)]
          | none => [])))) ∧
  (∀ (m : Master) (n : Lane) (k : Fin 4) (t : Nat) (s : State), s.power.coreOn = true → among m mLink = true → s.toDevice.get ACL_CMD_STAT_busy = 0 →
    s.toDevice.laneStripe n = some t → s.toDevice.spareNames k t = true → s.toDevice.laneState (s.act.spares.getD k {}).lane = 5 →
    (s.toDevice.get (ACL_SPARE_state k) = 3 → s.toDevice.get (ACL_SPARE_stripe k) = t) →
    Yields (.sparePlannedMove m n k) s (fun e => e.link.plan = some { stripe := t, spare := k, back := false } ∧
      (∀ j, j = n.val ∨ j = (s.act.spares.getD k {}).lane → ∃ x ∈ (e.lane j).unacked, x.target = t ∧ x.op = 4 ∧ x.data = [1, (s.toDevice.rd TMG_FRAME_CNT + 1) % 256]) ∧
      (∀ j, j ≠ n.val → j ≠ (s.act.spares.getD k {}).lane → e.lane j = s.toDevice.lane j) ∧ e.link.rets = s.link.rets ∧
      ({ s.toDevice with link := e.link }).sets e [(ACL_CMD_STAT_busy, 1), (ACL_CMD_STAT_done, 0), (ACL_CMD_STAT_op, 3), (ACL_CMD_STAT_err, 0)])) ∧
  (∀ (m : Master) (n : Lane) (k t : Nat) (s : State), s.power.coreOn = true → among m mLink = true → s.toDevice.get ACL_CMD_STAT_busy = 0 →
    s.toDevice.laneStripe n = some t → s.toDevice.spareOf t = some k → 4 ≤ s.toDevice.laneState n → s.toDevice.laneState n ≠ 6 → s.toDevice.get (ACL_LANE_STAT_in0 n) = 1 →
    Yields (.sparePlannedReturn m n) s (fun e => e.link.plan = some { stripe := t, spare := k, back := true } ∧
      (∀ j, j = n.val ∨ j = (s.act.spares.getD k {}).lane → ∃ x ∈ (e.lane j).unacked, x.target = t ∧ x.op = 4 ∧ x.data = [0, (s.toDevice.rd TMG_FRAME_CNT + 1) % 256]) ∧
      (∀ j, j ≠ n.val → j ≠ (s.act.spares.getD k {}).lane → e.lane j = s.toDevice.lane j) ∧ e.link.rets = s.link.rets ∧
      ({ s.toDevice with link := e.link }).sets e [(ACL_CMD_STAT_busy, 1), (ACL_CMD_STAT_done, 0), (ACL_CMD_STAT_op, 4), (ACL_CMD_STAT_err, 0)])) ∧
  (∀ (m : Master) (r : RetLane) (s : State), s.power.coreOn = true → among m mLink = true → s.toDevice.get ACL_CMD_STAT_busy = 0 →
    Yields (.returnLaneRegrant m r) s (fun e => (e.ret r).proc = .silent ∧ (e.ret r).silenced = 15 ∧ (e.ret r).wait = 2 ∧ (e.ret r).byCmd = true ∧
      (∀ j, j ≠ r.val → e.ret j = s.toDevice.ret j) ∧
      ({ s.toDevice with link := e.link }).sets e [(ACL_CMD_STAT_busy, 1), (ACL_CMD_STAT_done, 0), (ACL_CMD_STAT_op, 5), (ACL_CMD_STAT_err, 0), (ACL_RET_STAT_granted r, 0)])) ∧
  (∀ (m : Master) (n : Lane) (s : State), s.power.coreOn = true → among m mLink = true → s.toDevice.get ACL_CMD_STAT_busy = 0 → s.toDevice.laneClaimed n = true →
    s.toDevice.mode = 1 → s.toDevice.linkFits →
    Yields (.laneOff m n) s (fun e => e.lane n = { seq := (s.toDevice.lane n).seq } ∧ (∀ j, j ≠ n.val → e.lane j = s.toDevice.lane j) ∧
      ({ s.toDevice with link := e.link }).sets e ([(ACL_CMD_STAT_busy, 0), (ACL_CMD_STAT_done, 1), (ACL_CMD_STAT_op, 6), (ACL_CMD_STAT_err, 0), (ACL_IRQ_cmd_done, 1), (ACL_LANE_STAT_state n, 0)] ++
        (match s.toDevice.laneSpare n with
          | some k => if s.toDevice.get (ACL_SPARE_state k) = 3 then [] else [(ACL_SPARE_state k, 1)]
          | none => [])))) ∧
  (∀ (m : Master) (s : State), s.power.coreOn = true → among m mLink = true → s.toDevice.get ACL_CMD_STAT_busy = 0 → s.toDevice.mode = 1 →
    s.toDevice.claimedLanes ≠ [] → s.toDevice.linkFits →
    Yields (.trainAllLanes m) s (fun e => e.get ACL_CMD_STAT_busy = 1 ∧ e.get ACL_CMD_STAT_done = 0 ∧ e.get ACL_CMD_STAT_op = 7 ∧
      (∀ n < 96, s.toDevice.laneClaimed n = true → e.laneState n = 1 ∧ (e.lane n).full = true ∧ (e.lane n).retry = true ∧
        e.get (ACL_LANE_EVT_fulls n) = Nat.min (s.toDevice.get (ACL_LANE_EVT_fulls n) + 1) 0xFF) ∧
      (∀ n < 96, s.toDevice.laneClaimed n = false → e.laneState n = s.toDevice.laneState n ∧ e.lane n = s.toDevice.lane n) ∧
      s.toDevice.onlyRegs e ([ACL_CMD_STAT] ++ (List.range 96).map ACL_LANE_STAT ++ (List.range 96).map ACL_LANE_EVT ++ (List.range 8).map ACL_SPARE) ∧ e = { s.toDevice with regs := e.regs, link := e.link }))

/-- R309, R317, R328, R331, R334, R335: the phases of a training.
The wake ends in LOCK with the scrambler seeded and CONFIG sent; a fast retrain that does not lock is followed by a full training; a full one measures its presets, announces the best and, at the end of the hold, the lane is up. -/
def Obligations.LanesTrain : Prop :=
  (∀ (n : Lane) (s : State), s.toDevice.laneState n = 1 →
    (s.toDevice.laneStripe n = none →
      Yields (.laneWakeDone n) s (fun e => e.lane n = { s.toDevice.lane n with scram := 2 ^ 58 - 1 } ∧ (∀ j, j ≠ n.val → e.lane j = s.toDevice.lane j) ∧
        ({ s.toDevice with link := { s.link with lanes := e.link.lanes } }).sets e [(ACL_LANE_STAT_state n, 2)])) ∧
    (∀ t, s.toDevice.laneStripe n = some t → s.toDevice.linkFits →
      Yields (.laneWakeDone n) s (fun e => (e.lane n).scram = 2 ^ 58 - 1 ∧ e.laneState n = 2 ∧
        (e.get (ACL_RET_STAT_granted (s.act.lanes.getD t {}).ret)).testBit (s.act.lanes.getD t {}).slot = true ∧
        (∃ x ∈ (e.lane (s.toDevice.stripeLane t)).unacked, x.target = t ∧ x.op = 1 ∧ x.data = s.toDevice.configData t false) ∧
        s.toDevice.onlyRegs e [ACL_LANE_STAT n, ACL_RET_STAT (s.act.lanes.getD t {}).ret] ∧ e = { s.toDevice with regs := e.regs, link := e.link }))) ∧
  (∀ (n : Lane) (s : State), s.toDevice.laneState n = 2 → (s.toDevice.lane n).full = false → s.toDevice.linkFits →
    Yields (.laneLockTimeout n) s (fun e => e.laneState n = 1 ∧ (e.lane n).full = true ∧ (e.lane n).again = true ∧ (∀ j, j ≠ n.val → e.lane j = s.toDevice.lane j) ∧
      e.get (ACL_LANE_EVT_fulls n) = Nat.min (s.toDevice.get (ACL_LANE_EVT_fulls n) + 1) 0xFF ∧ s.toDevice.onlyRegs e ([ACL_LANE_STAT n, ACL_LANE_EVT n] ++ (List.range 8).map ACL_SPARE) ∧ e = { s.toDevice with regs := e.regs, link := { s.link with lanes := e.link.lanes } })) ∧
  (∀ (n : Lane) (p : Nat) (rest : List Nat) (growth fom : Nat) (ceased : Bool) (s : State), s.toDevice.laneState n = 3 → (s.toDevice.lane n).sweep = p :: rest → p < 8 →
    (let scores := (s.toDevice.lane n).scores ++ [(p, if ceased then 2 ^ 32 else growth, fom)]
     let next := rest.headD (presetBest scores)
     let seq := (s.toDevice.lane n).seq
     let at_ := (s.link.mrk + 2) % 256
     Yields (.eqPresetDone n growth fom ceased) s (fun e =>
       e.lane n = { s.toDevice.lane n with sweep := rest, scores := scores, holding := rest.isEmpty || (s.toDevice.lane n).holding, presetAt := some (next, at_), seq := (seq + 1) % 256, unacked := (s.toDevice.lane n).unacked ++ [{ target := (s.toDevice.laneStripe n).getD 0xFF, op := 5, data := [next, at_], seq := seq }] } ∧
       (∀ j, j ≠ n.val → e.lane j = s.toDevice.lane j) ∧
       ({ s.toDevice with link := { s.link with lanes := e.link.lanes } }).sets e [(⟨ACL_LANE_EQ n, 4 * p + 3, 4 * p⟩, if ceased then 15 else Nat.min growth 15)]))) ∧
  (∀ (n : Lane) (s : State), s.toDevice.laneState n = 3 → (s.toDevice.lane n).holding = true → presetBest (s.toDevice.lane n).scores < 8 →
    s.toDevice.get ACL_CMD_STAT_busy = 0 → s.toDevice.linkFits →
    Yields (.eqHoldDone n) s (fun e => e.laneState n = (if (s.toDevice.laneSpare n).isSome then 5 else 4) ∧ e.get (ACL_LANE_STAT_preset n) = presetBest (s.toDevice.lane n).scores ∧
      e.get (ACL_LANE_STAT_err n) = 0 ∧
      e.lane n = { s.toDevice.lane n with presetAt := none, holding := false, sweep := [], full := false, again := false, retry := false, missing := 0 } ∧
      (∀ j, j ≠ n.val → e.lane j = s.toDevice.lane j)))

/-- R312, R326, R328, R329, R330, R334: return frames.
A return frame begins, and presets announced for its count change; a CAPS or STATUS burst that is valid is taken; a slot without one counts as missing, and at the limit the driver is lost. -/
def Obligations.ReturnFramesAreHeard : Prop :=
  (∀ s : State, s.power.coreOn = true → (∀ r < 24, (s.toDevice.ret r).proc = .idle) →
    Yields .mrkSend s (fun e => e.link.mrk = (s.link.mrk + 1) % 256 ∧
      (∀ r < 24, e.get (ACL_RET_STAT_heard r) = (s.toDevice.ret r).heardNow % 16 ∧
        e.ret r = { s.toDevice.ret r with violLast := (s.toDevice.ret r).violNow, violNow := 0, heardNow := 0, signal := if (s.toDevice.ret r).signalNow then (s.toDevice.ret r).signal + 1 else 0, signalNow := false, wait := (s.toDevice.ret r).wait - 1 }) ∧
      (∀ n < 96, ∀ p f, (s.toDevice.lane n).presetAt = some (p, f) → f = (s.link.mrk + 1) % 256 → e.get (ACL_LANE_STAT_preset n) = p % 8 ∧ (e.lane n).presetAt = none) ∧
      (∀ n < 96, (∀ p, (s.toDevice.lane n).presetAt ≠ some (p, (s.link.mrk + 1) % 256)) → e.get (ACL_LANE_STAT_preset n) = s.toDevice.get (ACL_LANE_STAT_preset n) ∧ e.lane n = s.toDevice.lane n) ∧
      s.toDevice.onlyRegs e ((List.range 96).map ACL_LANE_STAT ++ (List.range 24).map ACL_RET_STAT) ∧ e = { s.toDevice with regs := e.regs, link := e.link })) ∧
  (∀ (b : Burst) (st : Nat) (s : State),
    (s.toDevice.ret b.ret).silenced.testBit b.slot = false → (s.toDevice.ret b.ret).phase.find? (fun e => e.1 == b.slot.val) = none →
    b.codeErr = false → b.guard = false → b.crc = linkCrc16 b.body → s.toDevice.slotStripe b.ret b.slot = some st →
    s.toDevice.laneState (s.act.lanes.getD st {}).lane = 4 → (s.toDevice.lane (s.act.lanes.getD st {}).lane).prompted = true →
    Yields (.capsBurst b false) s (fun e =>
      e.ret b.ret = { s.toDevice.ret b.ret with heardNow := onBit (s.toDevice.ret b.ret).heardNow b.slot, phase := Sparse.put (s.toDevice.ret b.ret).phase b.slot b.phase, await := (s.toDevice.ret b.ret).await && decide ((s.toDevice.ret b.ret).proc ≠ .grant b.slot) } ∧
      (∀ j, j ≠ b.ret.val → e.ret j = s.toDevice.ret j) ∧
      e.lane (s.act.lanes.getD st {}).lane = { s.toDevice.lane (s.act.lanes.getD st {}).lane with missing := 0, prompted := false, resending := false } ∧
      (∀ j, j ≠ (s.act.lanes.getD st {}).lane → e.lane j = s.toDevice.lane j) ∧
      ({ s.toDevice with link := e.link }).sets e [(whole (ACL_LANE_CAPS (s.act.lanes.getD st {}).lane), capsWord (b.body.drop 2))])) ∧
  (∀ (b : Burst) (st : Nat) (s : State),
    (s.toDevice.ret b.ret).silenced.testBit b.slot = false → (s.toDevice.ret b.ret).phase.find? (fun e => e.1 == b.slot.val) = none →
    b.codeErr = false → b.guard = false → b.crc = linkCrc16 b.body → s.toDevice.slotStripe b.ret b.slot = some st → st < 96 →
    (∀ x ∈ b.body, x < 256) → s.toDevice.laneState (s.act.lanes.getD st {}).lane = 4 → (s.toDevice.lane (s.act.lanes.getD st {}).lane).status = [] →
    (b.body.getD 2 0).testBit 0 = true → (∀ e ∈ s.act.spares, e.mask.testBit st = false) → s.toDevice.linkFits →
    (let n := (s.act.lanes.getD st {}).lane
     Yields (.statusBurst b false false) s (fun e =>
       e.rd (ACL_LANE_DRV n) = leNat ((b.body.drop 3).take 2) + b.body.getD 2 0 % 64 * 0x10000 + b.body.getD 5 0 * 0x1000000 ∧
       e.get (ACL_LANE_STAT_in0 n) = 1 ∧ e.get (ACL_LANE_STAT_in1 n) = b.body.getD 2 0 / 2 % 2 ∧ e.get (ACL_LANE_STAT_in_use n) = b.body.getD 2 0 / 4 % 2 ∧
       e.laneState n = 4 ∧ (e.lane n).status = b.body.drop 2 ∧ (e.lane n).missing = 0 ∧
       (∀ x ∈ (e.lane (s.toDevice.stripeLane st)).unacked, x.target = st → 128 ≤ (b.body.getD 6 0 + 256 - x.seq) % 256) ∧
       s.toDevice.onlyRegs e [ACL_LANE_STAT n, ACL_LANE_DRV n] ∧ e = { s.toDevice with regs := e.regs, link := e.link }))) ∧
  (∀ (r : RetLane) (j : Fin 4) (st : Nat) (s : State), s.power.coreOn = true → (s.toDevice.get (ACL_RET_STAT_granted r)).testBit j = true →
    (s.toDevice.ret r).heardNow.testBit j = false → (s.toDevice.ret r).silenced.testBit j = false → s.toDevice.slotStripe r j = some st →
    s.toDevice.laneState (s.act.lanes.getD st {}).lane = 4 → (s.toDevice.lane (s.act.lanes.getD st {}).lane).resending = false → s.toDevice.linkFits →
    (let n := (s.act.lanes.getD st {}).lane
     ((s.toDevice.lane n).missing + 1 < s.toDevice.get ACL_CTRL_miss →
       Yields (.returnSlotEnd r j false) s (fun e => e.lane n = { s.toDevice.lane n with missing := (s.toDevice.lane n).missing + 1 } ∧ (∀ i, i ≠ n → e.lane i = s.toDevice.lane i) ∧
         ({ s.toDevice with link := { s.link with lanes := e.link.lanes } }).sets e [(ACL_RET_EVT_missing r, Nat.min (s.toDevice.get (ACL_RET_EVT_missing r) + 1) 0xFF)])) ∧
     (s.toDevice.get ACL_CTRL_miss ≤ (s.toDevice.lane n).missing + 1 → s.flt.opened = none → s.toDevice.mode ≠ 5 → s.hif.bscan = false →
       Yields (.returnSlotEnd r j false) s (fun e => (e.lane n).resending = true ∧ e.get ACL_IRQ_lost = 1 ∧
         e.get (ACL_LANE_EVT_losses n) = Nat.min (s.toDevice.get (ACL_LANE_EVT_losses n) + 1) 0xFF ∧
         e.flt.opened = some { flt := catalogue 0x21 (n / 8) n, tickUs := s.us }))))

/-- R318, R328, R330, R331, R342: the timers of the link and the integrator's packet.
A jammed return lane is tried again; CONFIG is sent again; the oldest unacknowledged control packet is sent again, and after its last resending the lane retrains; an integrator-defined packet is sent from ACL_CP_HDR and ACL_CP_DATA. -/
def Obligations.LinkTimersAct : Prop :=
  (∀ (r : RetLane) (s : State), s.flt.jammed.contains r.val = true → (s.toDevice.ret r).proc = .idle →
    Yields (.jamRetryTimer r) s (fun e => (e.ret r).proc = .silent ∧ (e.ret r).silenced = 15 ∧ (e.ret r).wait = 2 ∧ (e.ret r).byCmd = false ∧
      (∀ j, j ≠ r.val → e.ret j = s.toDevice.ret j) ∧ ({ s.toDevice with link := e.link }).sets e [(ACL_RET_STAT_granted r, 0)])) ∧
  (∀ (n : Lane) (t : Nat) (s : State), s.toDevice.laneStripe n = some t →
    (s.toDevice.laneState n = 2 ∨ (s.toDevice.laneState n = 4 ∧ (s.toDevice.lane n).resending = true)) →
    Yields (.configResendTimer n) s (fun e =>
      (∃ x ∈ (e.lane (s.toDevice.stripeLane t)).unacked, x.target = t ∧ x.op = 1 ∧ x.data = s.toDevice.configData t false) ∧
      (e.lane (s.act.lanes.getD t {}).lane).prompted = true ∧
      ({ s.toDevice with link := e.link }).sets e [(ACL_RET_STAT_granted (s.act.lanes.getD t {}).ret,
        onBit (s.toDevice.get (ACL_RET_STAT_granted (s.act.lanes.getD t {}).ret)) (s.act.lanes.getD t {}).slot % 16)])) ∧
  (∀ (n : Lane) (k : CtlPkt) (rest : List CtlPkt) (s : State), (s.toDevice.lane n).unacked = k :: rest → s.toDevice.laneRuns n = true →
    (k.resends < 3 →
      Yields (.controlPacketResend n) s (fun e => e.lane n = { s.toDevice.lane n with unacked := { k with resends := k.resends + 1 } :: rest } ∧
        (∀ j, j ≠ n.val → e.lane j = s.toDevice.lane j) ∧
        ({ s.toDevice with link := { s.link with lanes := e.link.lanes } }).sets e [(ACL_LANE_EVT_resends n, Nat.min (s.toDevice.get (ACL_LANE_EVT_resends n) + 1) 0xFF)])) ∧
    (3 ≤ k.resends → k.integrator = false → s.toDevice.linkFits →
      Yields (.controlPacketResend n) s (fun e => e.laneState n = 1 ∧ (e.lane n).full = false ∧ (e.lane n).unacked = [] ∧
        e.get (ACL_LANE_EVT_fasts n) = Nat.min (s.toDevice.get (ACL_LANE_EVT_fasts n) + 1) 0xFF ∧
      s.toDevice.onlyRegs e ([ACL_LANE_STAT n, ACL_LANE_EVT n] ++ (List.range 8).map ACL_SPARE) ∧ (∀ j, j ≠ n.val → e.lane j = s.toDevice.lane j) ∧ e = { s.toDevice with regs := e.regs, link := e.link }))) ∧
  (∀ (m : Master) (s : State), s.power.coreOn = true → among m mLink = true → 0x10 ≤ s.toDevice.get ACL_CP_HDR_opcode → s.toDevice.get ACL_CP_HDR_opcode ≤ 0x1F →
    s.toDevice.laneClaimed (s.toDevice.get ACL_CP_HDR_lane) = true → s.link.intPkt = none →
    (let n := s.toDevice.get ACL_CP_HDR_lane
     Yields (.integratorPacketSend m) s (fun e =>
       e.lane n = { s.toDevice.lane n with seq := ((s.toDevice.lane n).seq + 1) % 256, unacked := (s.toDevice.lane n).unacked ++ [{ target := s.toDevice.get ACL_CP_HDR_target, op := s.toDevice.get ACL_CP_HDR_opcode, data := (List.range (2 * s.toDevice.get ACL_CP_HDR_blocks)).flatMap (fun i => leBytes 4 (s.toDevice.rd (ACL_CP_DATA i))), seq := (s.toDevice.lane n).seq, integrator := true }] } ∧
       (∀ j, j ≠ n → e.lane j = s.toDevice.lane j) ∧ e = { s.toDevice with link := { s.link with lanes := e.link.lanes, intPkt := some n } })))

/-- R108, R110, R111, R119, R120, R135: a port and its source.
New capabilities are shown with an HPD pulse, a port whose hpd_en is cleared drops its link, and a link locks, loses lock and fails to lock again in time. -/
def Obligations.PortsFollowTheirSource : Prop :=
  (∀ (m : Master) (p : Port) (val : Nat) (s : State), s.power.coreOn = true → among m mLinks = true → s.toDevice.kRegShut m = false → val < 2 ^ 32 →
    1 ≤ bitsOf val 3 0 → bitsOf val 3 0 ≤ 4 → bitsOf val 5 4 ≠ 3 → (val.testBit 10 = true → val.testBit 9 = true) →
    reservedBad (DPRX_CTRL p) val = false → s.toDevice.roBad (DPRX_CTRL p) val = false → val.testBit 16 = true →
    ((bitsOf (s.toDevice.rd (DPRX_CTRL p)) 10 8 ≠ bitsOf val 10 8 ∨ bitsOf (s.toDevice.rd (DPRX_CTRL p)) 5 4 ≠ bitsOf val 5 4 ∨ bitsOf (s.toDevice.rd (DPRX_CTRL p)) 3 0 ≠ bitsOf val 3 0) →
      s.toDevice.get (DPRX_STAT_hpd p) = 1 →
      Yields (.dprxCapChange m p val) s (fun e => e.rd (DPRX_CTRL p) = val ∧ (e.portX p).pulse = true ∧ e.get (DPRX_STAT_hpd p) = 0 ∧ e.power.hpd.testBit p = false ∧
        ((bitsOf val 3 0 < s.toDevice.get (DPRX_STAT_rate p) ∨ portLanes (bitsOf val 5 4) < s.toDevice.get (DPRX_STAT_lanes p)) → e.get (DPRX_STAT_trained p) = 0) ∧
        (s.toDevice.get (DPRX_STAT_rate p) ≤ bitsOf val 3 0 → s.toDevice.get (DPRX_STAT_lanes p) ≤ portLanes (bitsOf val 5 4) →
          e.get (DPRX_STAT_trained p) = s.toDevice.get (DPRX_STAT_trained p)) ∧ DPRX_CTRL p ∈ e.keep.kUnsaved))) ∧
  (∀ (m : Master) (p : Port) (val : Nat) (s : State), s.power.coreOn = true → among m mLinks = true → s.toDevice.kRegShut m = false → val < 2 ^ 32 →
    val.testBit 16 = false → 1 ≤ bitsOf val 3 0 → bitsOf val 3 0 ≤ 4 → bitsOf val 5 4 ≠ 3 → (val.testBit 10 = true → val.testBit 9 = true) →
    reservedBad (DPRX_CTRL p) val = false → s.toDevice.roBad (DPRX_CTRL p) val = false → (s.toDevice.rd (DPRX_CTRL p)).testBit 16 = true →
    Yields (.hpdEnableClear m p val) s (fun e => e.rd (DPRX_CTRL p) = val ∧ e.get (DPRX_STAT_hpd p) = 0 ∧ e.power.hpd.testBit p = false ∧
      e.get (DPRX_STAT_trained p) = 0 ∧ e.get (DPRX_STAT_stream p) = 0 ∧ e.get (DPRX_STAT_pr p) = 0 ∧ e.get (DPRX_STAT_valid p) = 0)) ∧
  (∀ (p : Port) (s : State), (s.toDevice.portX p).pulse = true → s.toDevice.get (DPRX_CTRL_hpd_en p) = 1 → s.boot.hpdRaised = true → s.toDevice.mode ≠ 0 →
    (p.val = 3 → s.toDevice.get TAP_LOOP_run = 0) →
    Yields (.hpdPulseEnd p) s (fun e => (e.portX p).pulse = false ∧ e.get (DPRX_STAT_hpd p) = 1 ∧ e.power.hpd.testBit p = true ∧
      s.toDevice.onlyRegs e ((List.range 4).map DPRX_STAT) ∧ e = { s.toDevice with regs := e.regs, dprx := e.dprx, power := { s.power with hpd := e.power.hpd } })) ∧
  (∀ (p : Port) (rate lanes : Nat) (s : State), s.power.coreOn = true → s.toDevice.get (DPRX_STAT_hpd p) = 1 → 1 ≤ rate → rate ≤ s.toDevice.get (DPRX_CTRL_max_rate p) → rate ≤ 4 →
    (lanes = 1 ∨ lanes = 2 ∨ lanes = 4) → lanes ≤ portLanes (s.toDevice.get (DPRX_CTRL_max_lanes p)) →
    Yields (.dprxLinkLock p rate lanes false) s (fun e => e.portX p = { s.toDevice.portX p with relock := false, pulsed := false } ∧
      (∀ k, k ≠ p.val → e.portX k = s.toDevice.portX k) ∧
      ({ s.toDevice with dprx := e.dprx }).sets e [(DPRX_STAT_trained p, 1), (DPRX_STAT_rate p, rate), (DPRX_STAT_lanes p, lanes), (DPRX_STAT_lost p, 0)])) ∧
  (∀ (p : Port) (s : State), s.power.coreOn = true → s.toDevice.get (DPRX_STAT_trained p) = 1 →
    Yields (.dprxLockLoss p) s (fun e => (e.portX p).relock = true ∧ e.get (DPRX_STAT_trained p) = 0 ∧ e.get (DPRX_STAT_rate p) = 0 ∧ e.get (DPRX_STAT_stream p) = 0 ∧
      e.get (DPRX_STAT_valid p) = 0 ∧ e.get (DPRX_LINK_EVT_losses p) = Nat.min (s.toDevice.get (DPRX_LINK_EVT_losses p) + 1) 0xFF ∧
      e.get (DPRX_LINK_EVT_retrains p) = Nat.min (s.toDevice.get (DPRX_LINK_EVT_retrains p) + 1) 0xFF ∧ e.power = s.power)) ∧
  (∀ (p : Port) (s : State), (s.toDevice.portX p).relock = true → (s.toDevice.portX p).pulse = false → (s.toDevice.portX p).pulsed = false →
    Yields (.dprxRelockTimeout p) s (fun e => e.portX p = { s.toDevice.portX p with relock := false, pulsed := true, pulse := true } ∧
      e.get (DPRX_STAT_lost p) = 1 ∧ e.get (DPRX_IRQ_lost p) = 1 ∧ e.get (DPRX_STAT_hpd p) = 0 ∧ e.power.hpd.testBit p = false ∧
      e.get (DPRX_LINK_EVT_timeouts p) = Nat.min (s.toDevice.get (DPRX_LINK_EVT_timeouts p) + 1) 0xFF)) ∧
  (∀ (p : Port) (s : State), s.power.coreOn = true → s.toDevice.get (DPRX_STAT_stream p) = 1 → s.toDevice.get (DPRX_STAT_pr p) = 0 →
    Yields (.videoStreamLoss p) s (fun e => e.get (DPRX_STAT_stream p) = 0 ∧ e.get (DPRX_STAT_valid p) = 0 ∧ e.get (DPRX_STAT_trained p) = s.toDevice.get (DPRX_STAT_trained p)))

/-- R113, R114, R116, R117, R121, R378: a frame that starts latches its format and is valid if R114 finds it so, one that starts too early is discarded, and a received line is counted and stored. -/
def Obligations.FramesAreLatched : Prop :=
  (∀ (p : Port) (f : VideoFormat) (since skew lineHz : Nat) (s : State), s.power.coreOn = true → s.toDevice.get (DPRX_STAT_trained p) = 1 → s.toDevice.tooEarly p since = false →
    f.width < 65536 → f.height < 65536 → skew < 2 ^ 32 →
    Yields (.dprxFrameStart p f since skew lineHz) s (fun e =>
      e.get (DPRX_STREAM_colour p) = f.colour ∧ e.get (DPRX_STREAM_bpc p) = f.bpc ∧ e.get (DPRX_STREAM_supported p) = (if bitsPerPixel f.colour f.bpc = 0 then 0 else 1) ∧
      e.rd (DPRX_SIZE p) = f.width + f.height * 65536 ∧ e.rd (DPRX_FPERIOD p) = Nat.min since 0xFFFFFFFF ∧ e.rd (DPRX_SKEW p) = skew ∧
      e.get (DPRX_STAT_stream p) = 1 ∧ (e.portX p).lines = 0 ∧ (e.portX p).early = false ∧ (e.portX p).narrow = f.narrow ∧
      (bitsPerPixel f.colour f.bpc ≠ 0 → s.toDevice.layoutNow < 3 → s.toDevice.layoutPorts.contains p.val = true → f.width = (s.toDevice.portTile p).w → f.height = (s.toDevice.portTile p).h →
        e.get (DPRX_STAT_valid p) = 1 ∧ (s.toDevice.get (DPRX_STAT_pr p) = 0 → s.toDevice.mode ≠ 3 → (e.portX p).writing = true)) ∧
      ((bitsPerPixel f.colour f.bpc = 0 ∨ s.toDevice.layoutPorts.contains p.val = false) → s.toDevice.get (DPRX_STAT_pr p) = 0 → e.get (DPRX_STAT_valid p) = 0 ∧ (e.portX p).writing = false))) ∧
  (∀ (p : Port) (f : VideoFormat) (since skew lineHz : Nat) (s : State), s.power.coreOn = true → s.toDevice.get (DPRX_STAT_trained p) = 1 → s.toDevice.tooEarly p since = true →
    s.toDevice.tapOn = false →
    Yields (.dprxFrameStart p f since skew lineHz) s (fun e => e.portX p = { s.toDevice.portX p with early := true } ∧ (∀ k, k ≠ p.val → e.portX k = s.toDevice.portX k) ∧
      ({ s.toDevice with dprx := e.dprx }).sets e [(DPRX_LINK_EVT_early p, Nat.min (s.toDevice.get (DPRX_LINK_EVT_early p) + 1) 0xFF)])) ∧
  (∀ (p : Port) (samples : List Nat) (corr uncorr : Nat) (s : State), s.power.coreOn = true → s.toDevice.get (DPRX_STAT_stream p) = 1 → (s.toDevice.portX p).early = false →
    (s.toDevice.portX p).writing = false → s.toDevice.throughPath = false → s.toDevice.get (DPRX_STAT_valid p) = 1 →
    Yields (.dprxLineReceive p samples corr uncorr) s (fun e => e.portX p = { s.toDevice.portX p with lines := (s.toDevice.portX p).lines + 1 } ∧
      e.get (DPRX_FEC_CNT_corr p) = Nat.min (s.toDevice.get (DPRX_FEC_CNT_corr p) + corr) 0xFFFF ∧ e.get (DPRX_FEC_CNT_uncorr p) = Nat.min (s.toDevice.get (DPRX_FEC_CNT_uncorr p) + uncorr) 0xFFFF ∧
      e.get (DPRX_STAT_valid p) = (if uncorr = 0 then 1 else 0) ∧ (uncorr ≠ 0 → e.get (DPRX_IRQ_valid p) = 1) ∧ s.toDevice.onlyRegs e [DPRX_FEC_CNT p, DPRX_STAT p, DPRX_IRQ p, DPRX_VALID] ∧ e = { s.toDevice with regs := e.regs, dprx := e.dprx })) ∧
  (∀ (p : Port) (samples : List Nat) (s : State), s.power.coreOn = true → s.toDevice.get (DPRX_STAT_stream p) = 1 → (s.toDevice.portX p).early = false →
    (s.toDevice.portX p).writing = true → s.toDevice.throughPath = false → (s.toDevice.portX p).lines < (s.toDevice.portTile p).h → s.toDevice.get MEM_FS_STAT_init = 1 → s.mem.fsUe = [] →
    (let x := if s.toDevice.layoutNow < 3 then 0 else (s.toDevice.portTile p).x
     let y := if s.toDevice.layoutNow < 3 then 0 else (s.toDevice.portTile p).y
     let b := s.toDevice.portBits p
     let row := s.toDevice.inRow (y + (s.toDevice.portX p).lines)
     let n := Nat.min samples.length (s.toDevice.portTile p).w
     Yields (.dprxLineReceive p samples 0 0) s (fun e => (∀ i < n, e.fsBits row ((x + i) * b) b = samples.getD i 0 % 2 ^ b) ∧
       (∀ a, (a < row + x * b / 8 ∨ row + ((x + n) * b + 7) / 8 ≤ a) → e.fsRd a = s.toDevice.fsRd a) ∧
       e.portX p = { s.toDevice.portX p with lines := (s.toDevice.portX p).lines + 1 })))

/-- R107, R122, R123, R124, R159: Panel Replay is entered and left, and GECKO with it; a selective update reaches the frame store and makes its tiles dirty. -/
def Obligations.PanelReplayActs : Prop :=
  (∀ (p : Port) (s : State), s.power.coreOn = true → s.toDevice.get (DPRX_CTRL_pr_cap p) = 1 → s.toDevice.get (DPRX_STAT_trained p) = 1 → s.toDevice.get (DPRX_STAT_pr p) = 0 →
    Yields (.panelReplayEntry p) s (fun e => e.get (DPRX_STAT_pr p) = 1 ∧ e.get (DPRX_IRQ_pr_entry p) = 1 ∧ e.get (DPRX_STAT_valid p) = 1 ∧ e.mode = s.toDevice.mode ∧
      (s.toDevice.mode = 2 → s.trans = none → s.toDevice.layoutPorts = [p.val] →
        e.trans = some { target := 3, cause := 8, master := 0 } ∧ e.get GLB_MODE_STAT_busy = 1 ∧ e.get GLB_MODE_STAT_target = 3) ∧
      (s.toDevice.mode ≠ 2 → e.trans = s.trans))) ∧
  (∀ (p : Port) (s : State), s.toDevice.get (DPRX_STAT_pr p) = 1 → s.toDevice.layoutPorts.contains p.val = true →
    (s.toDevice.mode = 3 → s.trans = none → Yields (.panelReplayExit p) s (fun e => e.get (DPRX_STAT_pr p) = 0 ∧ e.get (DPRX_IRQ_pr_exit p) = 1 ∧
      e.trans = some { target := 2, cause := 8, master := 0 } ∧ e.get GLB_MODE_STAT_busy = 1 ∧ e.get GLB_MODE_STAT_target = 2 ∧ e.mode = 3)) ∧
    (∀ t, s.trans = some t → t.cause = 8 → t.target = 3 → Yields (.panelReplayExit p) s (fun e => e.get (DPRX_STAT_pr p) = 0 ∧ e.get (DPRX_IRQ_pr_exit p) = 1 ∧
      e.trans = none ∧ e.get GLB_MODE_STAT_busy = 0 ∧ e.get GLB_MODE_STAT_target = s.toDevice.mode ∧ e.mode = s.toDevice.mode))) ∧
  (∀ (p : Port) (x y w h : Nat) (pixels : List Nat) (s : State), s.power.coreOn = true → s.toDevice.mode = 3 → s.toDevice.get (DPRX_CTRL_su_cap p) = 1 →
    s.toDevice.layoutPorts.contains p.val = true → 0 < w → 0 < h → s.mem.fsUe = [] → s.mem.fsCe = [] →
    (let t := s.toDevice.portTile p
     let k := if s.toDevice.layoutNow = 2 then 2 else 1
     Yields (.selectiveUpdate p x y w h pixels) s (fun e => e.rd (DPRX_SU_CNT p) = (s.toDevice.rd (DPRX_SU_CNT p) + 1) % 2 ^ 32 ∧
       (∀ o, o ≠ DPRX_SU_CNT p → e.rd o = s.toDevice.rd o) ∧
       (∀ i, i ∈ e.ras.dirty ↔ i ∈ s.ras.dirty ∨ i ∈ s.toDevice.tilesIn ⟨(t.x + x) * k, (t.y + y) * k, w * k, h * k⟩) ∧
       (∀ i ∈ s.toDevice.tilesIn ⟨(t.x + x) * k, (t.y + y) * k, w * k, h * k⟩, (e.tileX i).explicit = true) ∧
       (h = 1 → y < t.h → s.toDevice.get MEM_FS_STAT_init = 1 →
         (let x0 := if s.toDevice.layoutNow < 3 then 0 else t.x
          let y0 := if s.toDevice.layoutNow < 3 then 0 else t.y
          let b := s.toDevice.portBits p
          ∀ i < Nat.min (Nat.min w pixels.length) (t.w - x), e.fsBits (s.toDevice.inRow (y0 + y)) ((x0 + x + i) * b) b = pixels.getD i 0 % 2 ^ b)))))

/-- R125, R126, R134: an EDID is committed under its checks, served to the source and stored; the loopback test takes port 3 and the DPTX lanes and gives them back with its counts. -/
def Obligations.EdidsAndLoopbackAct : Prop :=
  (∀ (m : Master) (p : Port) (s : State), s.power.coreOn = true → among m mLinks = true → (∀ c ∈ s.toDevice.edidChecks m p, c.1 = false) →
    Yields (.edidCommit m p) s (fun e => (e.portX p).commit = some m.val ∧ (e.portX p).served = s.toDevice.edidBytes p (s.toDevice.get (DPRX_EDID_LEN_len p)) ∧
      (e.portX p).pulse = ((s.toDevice.portX p).pulse || decide (s.toDevice.get (DPRX_STAT_hpd p) = 1)) ∧ (s.toDevice.get (DPRX_STAT_hpd p) = 1 → e.get (DPRX_STAT_hpd p) = 0) ∧
      e.rd (DPRX_EDID_STAT p) = 1)) ∧
  (∀ (m : Master) (p : Port) (s : State), s.power.coreOn = true → among m mLinks = true → (s.toDevice.portX p).commit = none →
    (s.toDevice.kRegion (8 + 8 * p)).any (fun j => s.toDevice.kWriteShut m j) = false →
    (s.toDevice.get (DPRX_EDID_LEN_len p) % 128 ≠ 0 ∨ s.toDevice.get (DPRX_EDID_LEN_len p) = 0 ∨ 1024 < s.toDevice.get (DPRX_EDID_LEN_len p)) →
    Yields (.edidCommit m p) s (fun e => ∃ d, s.toDevice.rejects d m 0 (DPRX_EDID_CMD p) eRange ∧ d.sets e [(whole (DPRX_EDID_STAT p), eRange * 256 + 2), (DPRX_IRQ_edid p, 1)])) ∧
  (∀ (m : Nat) (p : Port) (pl : RecPlace) (s : State), (s.toDevice.portX p).commit = some m → (s.toDevice.portX p).pulse = false → s.toDevice.kClosed = false →
    s.toDevice.recPlace 2 (4 + p) = some pl →
    Yields (.edidCommitDone p) s (fun e => (e.portX p).commit = none ∧ (e.portX p).served = (s.toDevice.portX p).served ∧
      ∃ d, s.toDevice.keepBytes d (s.toDevice.recTarget pl (4 + p)).1 (recBytes pl (4 + p) (s.toDevice.recTarget pl (4 + p)).2 (s.toDevice.portX p).served) ∧
        ({ d with dprx := e.dprx }).sets e [(whole (DPRX_EDID_STAT p), 2), (DPRX_IRQ_edid p, 1)])) ∧
  (∀ (p : Port) (off n : Nat) (s : State), s.power.coreOn = true →
    Yields (.dprxAuxRead p off n) s (fun e =>
      e.portX p = { s.toDevice.portX p with aux := if (s.toDevice.portX p).served.isEmpty then none else some (((s.toDevice.portX p).served.drop off).take n) } ∧
      (∀ k, k ≠ p.val → e.portX k = s.toDevice.portX k) ∧ e = { s.toDevice with dprx := e.dprx })) ∧
  (∀ (m : Master) (rate : Nat) (s : State), s.power.coreOn = true → among m mLinks = true → s.toDevice.mode = 1 → s.toDevice.get GLB_BOOT_CFG_hold = 1 → 1 ≤ rate → rate ≤ 4 →
    s.toDevice.dptxHeld 9 = false → (∀ o, s.toDevice.owner 10 0 = some o → o.feature = 9) → s.toDevice.roBad TAP_LOOP (rate * 16 + 1) = false → s.toDevice.get TAP_LOOP_run = 0 →
    Yields (.loopbackStart m rate) s (fun e => e.rd TAP_LOOP = rate * 16 + 1 ∧ e.rd TAP_LOOP_STAT = 0 ∧ e.get (DPRX_STAT_trained 3) = 0 ∧ e.get (DPRX_STAT_stream 3) = 0 ∧
      e.get (DPRX_STAT_hpd 3) = 0 ∧ e.power.hpd.testBit 3 = false ∧
      (∀ j < 4, { feature := 9, cls := 9, idx := j, master := m } ∈ e.claims) ∧ { feature := 9, cls := 10, idx := 0, master := m } ∈ e.claims)) ∧
  (∀ (m : Master) (errs : List Nat) (s : State), s.power.coreOn = true → among m mLinks = true → s.toDevice.get TAP_LOOP_run = 1 → s.toDevice.get TAP_LOOP_rate ≤ 4 →
    reservedBad TAP_LOOP (offBit (s.toDevice.rd TAP_LOOP) 0) = false → s.toDevice.roBad TAP_LOOP (offBit (s.toDevice.rd TAP_LOOP) 0) = false →
    Yields (.loopbackStop m errs) s (fun e => e.rd TAP_LOOP = offBit (s.toDevice.rd TAP_LOOP) 0 ∧
      (∀ i < 4, bitsOf (e.rd TAP_LOOP_STAT) (8 * i + 7) (8 * i) = Nat.min (errs.getD i 0) 255) ∧ (∀ c, c ∈ e.claims ↔ c ∈ s.claims ∧ c.feature ≠ 9)))

/-- R142, R143, R144, R145, R146, R147, R157: a frame starts.
The sequencer decides at the end of a frame of the locked raster; an input frame starts on the through path, or lagged from the frame store; the late limit repeats the last frame; a local raster starts its own. -/
def Obligations.FramesStart : Prop :=
  (∀ (lag : Nat) (latePassed : Bool) (s : State), s.toDevice.mayStart = true → s.toDevice.get TMG_STAT_raster = 2 →
    (s.toDevice.get (DPRX_STAT_valid s.toDevice.refPort) = 0 →
      Yields (.frameStartDecision lag latePassed) s (fun e => s.toDevice.sets e
        [(TMG_STAT_raster, 3), (TMG_LOCK_EVT_holdovers, Nat.min (s.toDevice.get TMG_LOCK_EVT_holdovers + 1) 0xFFFF), (TMG_IRQ_holdover, 1)])) ∧
    (s.toDevice.get (DPRX_STAT_valid s.toDevice.refPort) = 1 → s.toDevice.layoutPorts.contains s.toDevice.refPort = true →
      ((s.toDevice.portX s.toDevice.refPort).fresh = false →
        Gives (.frameStartDecision lag false) s { s.toDevice with ras := { s.ras with wait := .input } }) ∧
      ((s.toDevice.portX s.toDevice.refPort).fresh = true → Gives (.frameStartDecision 0 latePassed) s { s.toDevice with ras := { s.ras with wait := .through } }) ∧
      ((s.toDevice.portX s.toDevice.refPort).fresh = true → 0 < lag → lag ≤ s.toDevice.lagMax → lag < 65536 → s.toDevice.refPort < 4 → s.toDevice.mode = 2 → s.ras.stop = false → s.hv.dis = .idle →
        s.mem.fsUe = [] → s.mem.fsCe = [] →
        Yields (.frameStartDecision lag latePassed) s (fun e => e.ras.active = true ∧ e.ras.kind = .picture ∧ e.ras.vsp = false ∧ e.ras.wait = .no ∧ e.ras.lines = 0 ∧
          e.get TMG_STAT_path = 1 ∧ e.get TMG_STAT_lagged = 1 ∧ e.get TMG_STAT_lag = lag ∧ e.get TMG_STAT_replay = 0 ∧ e.get TMG_STAT_gecko = 0 ∧
          e.get TMG_LAG_EVT_lagged = Nat.min (s.toDevice.get TMG_LAG_EVT_lagged + 1) 0xFFFF ∧ e.get TMG_LAG_EVT_largest = Nat.max (s.toDevice.get TMG_LAG_EVT_largest) lag ∧
          (e.portX s.toDevice.refPort).fresh = false)))) ∧
  (∀ (p : Port) (s : State), s.toDevice.mayStart = true → s.ras.wait = .through → s.toDevice.mode = 2 → s.ras.stop = false → s.hv.dis = .idle →
    s.toDevice.layoutPorts.contains p.val = true → s.toDevice.get (DPRX_STAT_valid p) = 1 → (s.toDevice.portX p).fresh = true → s.mem.fsUe = [] → s.mem.fsCe = [] →
    Yields .throughFrameStart s (fun e => e.ras.active = true ∧ e.ras.kind = .picture ∧ e.ras.vsp = false ∧ e.ras.wait = .no ∧ e.ras.lines = 0 ∧
      e.ras.ports.getD p .replay = .input ∧ (e.portX p).fresh = false ∧
      e.get TMG_STAT_path = 0 ∧ e.get TMG_STAT_lagged = 0 ∧ e.get TMG_STAT_lag = 0 ∧ e.get TMG_STAT_replay = 0 ∧ e.get TMG_STAT_gecko = 0)) ∧
  (∀ s : State, s.toDevice.mayStart = true → s.ras.wait ≠ .no →
    Yields (.lateLimit true) s (fun e => s.toDevice.sets e [(TMG_LATE_frame, 1), (TMG_IRQ_late, 1)]) ∧
    (s.ras.wait = .input → s.mem.fsUe = [] → s.mem.fsCe = [] →
      Yields (.lateLimit false) s (fun e => e.ras.active = true ∧ e.ras.wait = .no ∧ (∀ p, e.ras.ports.getD p .replay ≠ .input) ∧ e.get TMG_FRC_EVT_repeats = Nat.min (s.toDevice.get TMG_FRC_EVT_repeats + 1) 0xFFFF))) ∧
  (∀ (usable : Fin 16) (s : State), s.toDevice.mayStart = true → (s.toDevice.get TMG_STAT_raster = 1 ∨ s.toDevice.get TMG_STAT_raster = 3) → s.ras.wait = .no → s.ras.stop = false →
    s.hv.dis = .idle → s.mem.fsUe = [] → s.mem.fsCe = [] →
    Yields (.localFrameStart usable) s (fun e => e.ras.active = true ∧ e.ras.lines = 0 ∧ e.get TMG_STAT_lag = 0 ∧ e.get TMG_STAT_path = 1 ∧
      (s.toDevice.mode = 1 → e.ras.kind = if s.toDevice.getF TMG_TEST_en = 1 then .test else .code0) ∧
      (s.toDevice.mode = 3 → e.ras.kind = .gecko ∧ e.get TMG_STAT_gecko = 1) ∧ (s.toDevice.mode = 4 → e.ras.kind = .loupe) ∧
      (s.toDevice.mode = 2 → ∀ p < 4, e.ras.ports.getD p .replay = .input ↔ s.toDevice.layoutPorts.contains p = true ∧ s.toDevice.get (DPRX_STAT_valid p) = 1 ∧ (s.toDevice.portX p).fresh = true ∧ usable.val.testBit p = true))) ∧
  (∀ (n : Fin 5) (s : State), s.power.coreOn = true → s.toDevice.mode = 2 →
    (if n.val = 4 then s.toDevice.layoutNow = 0 else s.toDevice.layoutPorts.contains n.val = true ∧ s.toDevice.get (DPRX_STAT_valid n) = 0) →
    s.toDevice.getF TMG_NOIN_frames ≤ Sparse.get (fun _ => 0) s.ras.noin n →
    Yields (.noinHoldExpire n) s (fun e => (∀ k, Sparse.get (fun _ => 0) e.ras.noin k = if k = n.val then 256 else Sparse.get (fun _ => 0) s.ras.noin k) ∧
      e = { s.toDevice with ras := { s.ras with noin := e.ras.noin } }))

/-- R59, R136, R154, R156, R164, R166, R167: the vertical swap point, the check windows, and what starts and stops scan-out.
At a swap point the frame is counted and every frame-latched write takes effect. -/
def Obligations.SwapPointsAndScanOut : Prop :=
  (∀ s : State, s.power.coreOn = true → s.toDevice.get TMG_STAT_raster ≠ 0 → s.ras.due = none → s.ras.last = false → s.toDevice.regsWf →
    s.cmp.next = none → s.trn.kick = none →
    Yields (.verticalSwapPoint []) s (fun e => e.rd TMG_FRAME_CNT = (s.toDevice.rd TMG_FRAME_CNT + 1) % 2 ^ 32 ∧ e.get TMG_IRQ_vsp = 1 ∧ e.ras.active = false ∧ e.ras.vsp = true ∧
      e.mode = s.toDevice.mode ∧ (∀ o, isFrame o = true → stressReg o = false → e.rdF o = s.toDevice.rd o) ∧
      (s.ras.active = true → s.ras.kind ≠ .replay → e.get MEM_FS_STAT_wbuf = 1 - s.toDevice.get MEM_FS_STAT_wbuf))) ∧
  (∀ (frame : Nat) (w : DueWin) (s : State), s.ras.due = some { frame := frame, wins := [w] } → w.w < 64 → w.learn = 0 → w.crc < 2 ^ 32 →
    (w.crc = s.toDevice.winWant frame w →
      Yields .chkWindowResult s (fun e => e.rd (CHK_CRC w.w) = w.crc ∧ e.get (CHK_MISS_comparisons w.w) = Nat.min (s.toDevice.get (CHK_MISS_comparisons w.w) + 1) 0xFFFF ∧
        e.get (CHK_MISS_mismatches w.w) = s.toDevice.get (CHK_MISS_mismatches w.w) ∧ e.rd CHK_FAIL_LO = 0 ∧ e.rd CHK_FAIL_HI = 0 ∧ e.ras.due = none ∧
        s.toDevice.onlyRegs e [CHK_CRC w.w, CHK_MISS w.w, CHK_FAIL_LO, CHK_FAIL_HI, CHK_SKIP_LO, CHK_SKIP_HI] ∧ e = { s.toDevice with regs := e.regs, ras := { s.ras with due := none }, flt := { s.flt with chkGood := true } })) ∧
    (w.crc ≠ s.toDevice.winWant frame w → s.toDevice.getF (CHK_CTRL_fault w.w) = 0 →
      Yields .chkWindowResult s (fun e => e.rd (CHK_CRC w.w) = w.crc ∧ e.get (CHK_MISS_comparisons w.w) = Nat.min (s.toDevice.get (CHK_MISS_comparisons w.w) + 1) 0xFFFF ∧
        e.get (CHK_MISS_mismatches w.w) = Nat.min (s.toDevice.get (CHK_MISS_mismatches w.w) + 1) 0xFFFF ∧
        e.rd CHK_FAIL_LO = (if w.w < 32 then 2 ^ w.w else 0) ∧ e.rd CHK_FAIL_HI = (if w.w < 32 then 0 else 2 ^ (w.w - 32)) ∧
        e.get CHK_BAD_FRAMES_val = Nat.min (s.toDevice.get CHK_BAD_FRAMES_val + 1) (2 ^ 32 - 1) ∧ e.get CHK_IRQ_mismatch = 1 ∧
        s.toDevice.onlyRegs e [CHK_CRC w.w, CHK_MISS w.w, CHK_FAIL_LO, CHK_FAIL_HI, CHK_SKIP_LO, CHK_SKIP_HI, CHK_BAD_FRAMES, CHK_IRQ] ∧ e = { s.toDevice with regs := e.regs, ras := { s.ras with due := none }, flt := { s.flt with chkGood := true } }))) ∧
  (∀ (m : Master) (w : Fin 64) (val : Nat) (s : State), s.power.coreOn = true → among m mSide = true → val < 2 ^ 32 → val.testBit 4 = true → bitsOf val 9 8 ≠ 1 → bitsOf val 9 8 ≠ 3 →
    bitsOf val 13 12 ≠ 3 → reservedBad (CHK_CTRL w) val = false → s.toDevice.roBad (CHK_CTRL w) val = false →
    Yields (.chkLearn m w val) s (fun e => e.rd (CHK_CTRL w) = val ∧ e.rdF (CHK_CTRL w) = (if s.toDevice.get TMG_STAT_raster = 0 then val else s.toDevice.rdF (CHK_CTRL w)) ∧
      e.win w = { s.toDevice.win w with learned := 0 } ∧ (∀ k, k ≠ w.val → e.win k = s.toDevice.win k) ∧
      (∀ o, o ≠ CHK_CTRL w → e.rd o = s.toDevice.rd o ∧ e.rdF o = s.toDevice.rdF o) ∧
      e = { s.toDevice with regs := e.regs, force := e.force, ras := { s.ras with wins := e.ras.wins } })) ∧
  (∀ (m : Master) (s : State), s.power.coreOn = true → among m mFabric = true → s.toDevice.mode = 1 →
    (s.toDevice.claimedLanes.all (fun n => s.toDevice.laneTrained n) = true → s.toDevice.roBad TMG_SCAN 1 = false → s.toDevice.get TMG_STAT_raster = 0 →
      Yields (.scanRun m) s (fun e => e.rd TMG_SCAN = 1 ∧ e.get TMG_STAT_raster = (if s.toDevice.getF TMG_TEST_en = 1 ∨ s.toDevice.getF TMG_CTRL_src = 0 then 1 else 3) ∧
        e.ras.stop = false ∧ e.ras.active = false ∧ e.ras.lines = 0 ∧ s.toDevice.onlyRegs e [TMG_SCAN, TMG_STAT, TMG_LOCK_EVT, TMG_IRQ, FAB_DEPTH] ∧ e = { s.toDevice with regs := e.regs, ras := e.ras })) ∧
    (s.toDevice.roBad TMG_SCAN 0 = false → s.toDevice.get TMG_SCAN_run = 1 → s.toDevice.get TMG_STAT_raster ≠ 0 → s.toDevice.getF TMG_TEST_en = 0 →
      Yields (.scanStop m) s (fun e => ({ s.toDevice with ras := { s.ras with stop := true } }).sets e [(whole TMG_SCAN, 0)])) ∧
    (∀ val, val < 2 ^ 32 → val.testBit 0 = true → bitsOf val 7 4 ≤ 7 → reservedBad TMG_TEST val = false → s.toDevice.roBad TMG_TEST val = false → s.toDevice.get TMG_STAT_raster = 0 →
      Yields (.testRasterWrite m val) s (fun e => e.rd TMG_TEST = val ∧ e.rdF TMG_TEST = val ∧ e.get TMG_STAT_raster = 1 ∧ (∀ o, o ≠ TMG_TEST → e.rdF o = s.toDevice.rdF o) ∧
        s.toDevice.onlyRegs e [TMG_TEST, TMG_STAT, FAB_DEPTH] ∧ e = { s.toDevice with regs := e.regs, force := e.force, ras := e.ras })))

/-- R136, R153, R204, R218, R219, R311, R313, R315, R359, R377: scan-out line by line.
A glass line starts with its LIN and its gate outputs; at its deadline a stripe sends the packed line that is ready, or a hold; a packed line completes; credits return; facet data arrives. -/
def Obligations.LinesLeaveOnTime : Prop :=
  (∀ s : State, s.power.coreOn = true → s.toDevice.get TMG_STAT_raster ≠ 0 → s.hv.dis ≠ .opening → s.mem.fsUe = [] → s.mem.fsCe = [] →
    (let g := s.ras.lines
     let active := s.ras.active && decide (g < s.toDevice.vact)
     Yields .glassLineStart s (fun e => e.ras.lines = g + 1 ∧ e.get TMG_POS_line = Nat.min g 65535 ∧ e.get TMG_POS_vblank = (if s.toDevice.vact ≤ g then 1 else 0) ∧
       e.ras.lin = linBlock g (if active then s.toDevice.rowAt g else 0) (s.toDevice.lineRegion g) active (s.toDevice.rd TMG_FRAME_CNT) (decide (g = 0)) ∧
       (s.toDevice.get HVP_STAT_state ≠ 3 → e.hv.gck = 0 ∧ e.hv.gst = 0 ∧ e.get HVP_STAT_gate = 0) ∧
       (s.toDevice.get HVP_STAT_state = 3 → e.get HVP_STAT_gate = 1 ∧
         (∀ ph, e.hv.gck.testBit ph = true ↔ g < s.toDevice.vact ∧ ∃ i ≤ s.toDevice.getF HVP_GCK_TIM_pre, g + i < s.toDevice.vact ∧ s.toDevice.gatePhase (g + i) = ph))))) ∧
  (∀ (t : Lane) (l : PackedLine) (rest : List PackedLine) (s : State), s.power.coreOn = true → s.toDevice.get TMG_STAT_raster ≠ 0 → s.ras.active = true → t.val < s.toDevice.stripeCount →
    (s.toDevice.stripeX t).ready = l :: rest → (s.toDevice.stripeX t).out = l.pos → l.pos < s.toDevice.vact → l.bytes = [] → s.toDevice.laneRuns (s.toDevice.stripeLane t) = true → s.mem.fsUe = [] →
    (let y := s.toDevice.rowAt l.pos
     Yields (.lineDeadline t) s (fun e => e.stripeX t = { s.toDevice.stripeX t with out := l.pos + 1, ready := rest } ∧ (∀ k, k ≠ t.val → e.stripeX k = s.toDevice.stripeX k) ∧
       Sparse.get (fun _ => []) e.ras.sent (s.toDevice.stripeLane t) = linePacket t y false false s.toDevice.codeW (s.toDevice.laneOrder t l.codes) ∧
       (∀ n, n ≠ s.toDevice.stripeLane t → Sparse.get (fun _ => []) e.ras.sent n = Sparse.get (fun _ => []) s.ras.sent n) ∧
       (s.ras.kind ≠ .replay → ∀ i < l.codes.length,
         e.fsBits (s.toDevice.drivenRow (s.toDevice.get MEM_FS_STAT_wbuf) y) ((s.toDevice.qOf t * (s.toDevice.stripe t).firstCol + i) * s.toDevice.codeW) s.toDevice.codeW = l.codes.getD i 0 % 2 ^ s.toDevice.codeW)))) ∧
  (∀ (t : Lane) (s : State), s.power.coreOn = true → s.toDevice.get TMG_STAT_raster ≠ 0 → s.ras.active = true → t.val < s.toDevice.stripeCount →
    (s.toDevice.stripeX t).ready = [] → (s.toDevice.stripeX t).out < s.toDevice.vact → (s.toDevice.rowSrcAt t (s.toDevice.stripeX t).out).isSome = true → s.ras.first = true →
    s.toDevice.laneRuns (s.toDevice.stripeLane t) = true → s.mem.fsUe = [] → s.mem.fsCe = [] →
    0 < Sparse.get (fun _ => 0) s.ras.holds t → Sparse.get (fun _ => 0) s.ras.holds t ≠ s.toDevice.get TMG_HOLD_LIM_lines →
    Yields (.lineDeadline t) s (fun e => (e.stripeX t).out = (s.toDevice.stripeX t).out + 1 ∧
      Sparse.get (fun _ => []) e.ras.sent (s.toDevice.stripeLane t) = linePacket t (s.toDevice.rowAt (s.toDevice.stripeX t).out) true true s.toDevice.codeW
        (s.toDevice.laneOrder t (List.replicate (s.toDevice.channels t) 0)) ∧
      Sparse.get (fun _ => 0) e.ras.holds t = Sparse.get (fun _ => 0) s.ras.holds t + 1 ∧
      e.get (TMG_HOLD_CNT_val t) = Nat.min (s.toDevice.get (TMG_HOLD_CNT_val t) + 1) (2 ^ 32 - 1))) ∧
  (∀ (t : Lane) (lag g : Nat) (src : RowSrc) (s : State), s.power.coreOn = true → s.toDevice.get TMG_STAT_raster ≠ 0 → s.ras.active = true → t.val < s.toDevice.stripeCount →
    s.toDevice.nextProcessed t (s.toDevice.stripeX t).next (s.toDevice.vact - (s.toDevice.stripeX t).next) = g → g < s.toDevice.vact → s.toDevice.rowSrcAt t g = some src →
    Sparse.get (fun _ => 0) (s.toDevice.stripeX t).owed 13 ≠ 16 → s.toDevice.inputReady t (s.toDevice.rowAt g) src = true →
    ((s.toDevice.stripeX t).ready.length < 2 → (s.toDevice.stripeX t).out ≤ g → s.mem.fsUe = [] → s.mem.fsCe = [] →
      Yields (.packedLineComplete t lag false) s (fun e => ∃ d, s.toDevice.sets d [(FAB_STRIPE_EVT_lag t, Nat.max (s.toDevice.get (FAB_STRIPE_EVT_lag t)) (Nat.min lag 65535))] ∧
        (e.stripeX t).next = g + 1 ∧ (e.stripeX t).out = (s.toDevice.stripeX t).out ∧
        (∃ bs, (e.stripeX t).ready = (s.toDevice.stripeX t).ready ++ [{ pos := g, codes := d.rowCodes t (d.rowRun t (d.rowAt g) src (d.ctxFor t (d.rowAt g) src)), bytes := bs }]) ∧
        (∀ k, k ≠ t.val → e.stripeX k = s.toDevice.stripeX k) ∧ s.toDevice.rowAt g ∈ e.ras.rowsDone ∧ (∀ o, e.rd o = d.rd o))) ∧
    ((s.toDevice.stripeX t).ready.length = 2 →
      Yields (.packedLineComplete t lag false) s (fun e => (e.stripeX t).next = g ∧ (∀ j < 14, Sparse.get (fun _ => 0) (e.stripeX t).owed j = 16) ∧
        (e.stripeX t).ready = (s.toDevice.stripeX t).ready ∧ (∀ k, k ≠ t.val → e.stripeX k = s.toDevice.stripeX k) ∧
        e = { s.toDevice with ras := { s.ras with stripes := e.ras.stripes } }))) ∧
  (∀ (t : Lane) (j : Fin 14) (s : State), 0 < Sparse.get (fun _ => 0) (s.toDevice.stripeX t).owed j →
    Yields (.creditReturn t j) s (fun e =>
      (∀ k, Sparse.get (fun _ => 0) (e.stripeX t).owed k = if k = j.val then Sparse.get (fun _ => 0) (s.toDevice.stripeX t).owed j - 1 else Sparse.get (fun _ => 0) (s.toDevice.stripeX t).owed k) ∧
      e.stripeX t = { s.toDevice.stripeX t with owed := (e.stripeX t).owed } ∧ (∀ k, k ≠ t.val → e.stripeX k = s.toDevice.stripeX k) ∧
      e = { s.toDevice with ras := { s.ras with stripes := e.ras.stripes } })) ∧
  (∀ (t : Lane) (f : FacetFound) (s : State), s.power.coreOn = true → s.ras.active = true → t.val < s.toDevice.stripeCount → f.words = [] → f.pond = [] → f.knots = [] →
    (let x := s.toDevice.stripeX t
     Yields (.facetDataArrive t f) s (fun e => e.stripeX t = { x with rowLost := x.rowLost || f.rowLost, lost := x.lost ++ f.lost, lutBad := x.lutBad ++ f.luts } ∧
       (∀ k, k ≠ t.val → e.stripeX k = s.toDevice.stripeX k) ∧
       ({ s.toDevice with ras := { s.ras with stripes := e.ras.stripes } }).sets e
         [(CMP_EVT_def, Nat.min (s.toDevice.get CMP_EVT_def + f.lost.length + (if f.rowLost then 1 else 0)) 0xFFFF)])))

/-- R283, R284, R285, R286, R288, R289: in-service sensing.
Enabling claims its timer, each expiry makes an operation due, an operation starts in a blanking that has room, its values return, and at its end they are stored, or it is repeated. -/
def Obligations.SensingRuns : Prop :=
  (∀ (m : Master) (val : Nat) (s : State), s.power.coreOn = true → among m mSurvey = true → val < 2 ^ 32 → val.testBit 0 = true → val.testBit 8 = false → s.toDevice.senseRoles = true →
    reservedBad SRV_CTRL val = false → bitsOf val 5 4 ≤ 1 → 4 + s.toDevice.get SRV_SCHED_per_blank * s.toDevice.lop ≤ s.toDevice.minBlank →
    s.srv.timer = none → s.toDevice.imageServes 4 6 (s.toDevice.get SRV_SCHED_timer) = false → s.toDevice.owner 6 (s.toDevice.get SRV_SCHED_timer) = none →
    Yields (.sensingEnable m val) s (fun e => e.rd SRV_CTRL = val ∧ e.rdF SRV_CTRL = (if s.toDevice.get TMG_STAT_raster = 0 then val else s.toDevice.rdF SRV_CTRL) ∧
      e.srv = { s.srv with timer := some (s.toDevice.get SRV_SCHED_timer, m.val) } ∧
      e.claims = s.claims ++ [{ feature := 4, cls := 6, idx := s.toDevice.get SRV_SCHED_timer, master := m }] ∧
      (∀ o, o ≠ SRV_CTRL → e.rd o = s.toDevice.rd o ∧ e.rdF o = s.toDevice.rdF o) ∧ e = { s.toDevice with regs := e.regs, force := e.force, srv := e.srv, claims := e.claims })) ∧
  (∀ s : State, s.toDevice.sensing = true →
    (s.toDevice.get SRV_STAT_due < 4 → s.srv.ops = [] → s.srv.again = [] →
      Yields .senseTimerExpire s (fun e => s.toDevice.sets e [(SRV_STAT_due, s.toDevice.get SRV_STAT_due + 1), (SRV_STAT_sense, 1)])) ∧
    (4 ≤ s.toDevice.get SRV_STAT_due →
      Yields .senseTimerExpire s (fun e => s.toDevice.sets e [(SRV_EVT1_noroom, Nat.min (s.toDevice.get SRV_EVT1_noroom + 1) 0xFFFF)]))) ∧
  (∀ s : State, s.toDevice.sensing = true → s.toDevice.get TMG_STAT_raster ≠ 0 → s.ras.active = false → s.toDevice.get SRV_STAT_loupe = 0 → s.srv.again = [] →
    s.toDevice.get SRV_SWEEP_next < s.toDevice.sweepOps → 0 < s.toDevice.get SRV_STAT_due → s.srv.blank < s.toDevice.get SRV_SCHED_per_blank →
    (2 + (s.srv.blank + 1) * s.toDevice.lop + 2 ≤ s.toDevice.minBlank → s.toDevice.get SRV_SWEEP_next < 65535 →
      Yields .senseOpStart s (fun e =>
        e.srv = { s.srv with ops := s.srv.ops ++ [{ id := s.srv.opId, row := s.toDevice.get SRV_SWEEP_next / s.toDevice.levels, level := s.toDevice.get SRV_SWEEP_next % s.toDevice.levels }], opId := (s.srv.opId + 1) % 256, blank := s.srv.blank + 1 } ∧
        (∀ n ∈ s.toDevice.claimedLanes, s.toDevice.laneRuns n = true → ∃ x ∈ (e.lane n).unacked, x.target = 0xFF ∧ x.op = 3 ∧
          x.data = [s.srv.opId, s.toDevice.get SRV_SENSE_kind, s.toDevice.get SRV_SENSE_T_settle, s.toDevice.get SRV_SENSE_T_conv]) ∧
        ({ s.toDevice with srv := e.srv, ras := e.ras, link := e.link }).sets e
          [(SRV_STAT_due, s.toDevice.get SRV_STAT_due - 1), (SRV_SWEEP_next, s.toDevice.get SRV_SWEEP_next + 1), (SRV_STAT_sense, 2)])) ∧
    (s.toDevice.minBlank < 2 + (s.srv.blank + 1) * s.toDevice.lop + 2 → s.srv.noroom = false →
      Yields .senseOpStart s (fun e => ({ s.toDevice with srv := { s.srv with noroom := true } }).sets e
        [(SRV_EVT1_noroom, Nat.min (s.toDevice.get SRV_EVT1_noroom + 1) 0xFFFF), (SRV_IRQ_noroom, 1)]))) ∧
  (∀ (b : Burst) (st : Nat) (s : State),
    (s.toDevice.ret b.ret).silenced.testBit b.slot = false → (s.toDevice.ret b.ret).phase.find? (fun e => e.1 == b.slot.val) = none →
    b.codeErr = false → b.guard = false → b.crc = linkCrc16 b.body → s.toDevice.slotStripe b.ret b.slot = some st →
    Yields (.senseBurst b false) s (fun e => e.srv.ops.length = s.srv.ops.length ∧
      (∀ i (h : i < s.srv.ops.length), (s.srv.ops[i]).id = b.body.getD 2 0 → e.srv.ops[i]? = some { s.srv.ops[i] with got := Sparse.put (s.srv.ops[i]).got (st * 64 + b.body.getD 3 0) ((List.range 22).map (fun j => leNat ((b.body.drop (4 + 2 * j)).take 2))) }) ∧
      (∀ i (h : i < s.srv.ops.length), (s.srv.ops[i]).id ≠ b.body.getD 2 0 → e.srv.ops[i]? = some s.srv.ops[i]) ∧
      e = { s.toDevice with link := e.link, srv := { s.srv with ops := e.srv.ops } })) ∧
  (∀ (o : SenseOp) (rest : List SenseOp) (s : State), s.srv.ops = o :: rest → o.loupe = false → s.toDevice.get SRV_SENSE_kind = 1 →
    (o.again = false → (∃ k < s.toDevice.stripeCount, s.toDevice.senseVals o k = none) →
      Yields (.senseReturnDeadline false) s (fun e => e.srv = { s.srv with ops := rest, again := s.srv.again ++ [(o.row, o.level, true)] } ∧
        e.get SRV_EVT0_done = Nat.min (s.toDevice.get SRV_EVT0_done + 1) 0xFFFF ∧ e.get SRV_EVT0_repeats = Nat.min (s.toDevice.get SRV_EVT0_repeats + 1) 0xFF ∧
        s.toDevice.onlyRegs e [SRV_EVT0, SRV_STAT] ∧ e = { s.toDevice with regs := e.regs, srv := e.srv })) ∧
    ((∀ k < s.toDevice.stripeCount, (s.toDevice.senseVals o k).isSome = true) → s.mem.fsUe = [] → s.mem.fsCe = [] → (rest ≠ [] ∨ s.srv.again ≠ []) →
      Yields (.senseReturnDeadline false) s (fun e => e.srv = { s.srv with ops := rest } ∧ e.get SRV_EVT0_done = Nat.min (s.toDevice.get SRV_EVT0_done + 1) 0xFFFF ∧
        e.get SRV_EVT0_missing = s.toDevice.get SRV_EVT0_missing ∧ e.get SRV_SWEEP_next = s.toDevice.get SRV_SWEEP_next ∧
        (∀ a, e.fsRd a = (s.toDevice.scratchWrite o (s.toDevice.senseRow o)).fsRd a))))

/-- R291, R292, R294, R295, R298, R303: the commands of the survey.
Staging copies the plane in force; an apply waits for its ramp, or is a step while the raster is stopped; a save runs in the background; the sweep restarts; a LOUPE survey ends. -/
def Obligations.SurveyIsCommanded : Prop :=
  (∀ (m : Master) (s : State), s.power.coreOn = true →
    ((∀ c ∈ s.toDevice.srvChecks m 1, c.1 = false) →
      Yields (.surveyStage m) s (fun e => ({ s.toDevice with srv := { s.srv with cmd := some { op := 1, master := m, types := 0 } } }).sets e [(whole SRV_CMD_STAT, 5)])) ∧
    ((∀ c ∈ s.toDevice.srvChecks m 2, c.1 = false) → s.toDevice.get SRV_STAT_loupe = 0 →
      (s.toDevice.get TMG_STAT_raster ≠ 0 →
        Yields (.surveyApply m) s (fun e => ({ s.toDevice with srv := { s.srv with applyN := some (s.toDevice.applyLen.getD 1), cmd := none } }).sets e
          [(SRV_STAT_stage_valid, 0), (whole SRV_CMD_STAT, 10)])) ∧
      (s.toDevice.get TMG_STAT_raster = 0 →
        Yields (.surveyApply m) s (fun e => e.get MEM_FS_STAT_cmp = 1 - s.toDevice.get MEM_FS_STAT_cmp ∧ e.get SRV_STAT_ramp = 0 ∧ e.get SRV_STAT_stage_valid = 0 ∧
          e.get SRV_IRQ_ramp = 1 ∧ e.srv.applyN = none ∧ e.srv.applied = true ∧ e.rd SRV_CMD_STAT = 10 ∧
          e.rd SRV_STAGE_ADDR = s.toDevice.rd (MEM_RGN_BASE (3 + s.toDevice.get MEM_FS_STAT_cmp)) ∧ e.mem = s.mem))) ∧
    (∀ types : Fin 4, (∀ c ∈ s.toDevice.srvChecks m (3 + 256 * types), c.1 = false) →
      Yields (.surveySave m types) s (fun e => ({ s.toDevice with srv := { s.srv with cmd := some { op := 3, master := m, types := types } } }).sets e
        [(whole SRV_CMD_STAT, 13), (SRV_STAT_save, 1)])) ∧
    ((∀ c ∈ s.toDevice.srvChecks m 4, c.1 = false) → s.srv.ops = [] → s.srv.again = [] →
      Yields (.surveySenseNow m) s (fun e => ({ s.toDevice with srv := { s.srv with cmd := none } }).sets e
        [(SRV_STAT_due, s.toDevice.get SRV_STAT_due + 1), (SRV_STAT_sense, 1), (whole SRV_CMD_STAT, 18)])) ∧
    ((∀ c ∈ s.toDevice.srvChecks m 5, c.1 = false) → s.srv.ops ≠ [] →
      Yields (.surveyRestartSweep m) s (fun e => ({ s.toDevice with srv := { s.srv with again := [], cmd := none } }).sets e
        [(SRV_SWEEP_next, 0), (SRV_STAT_sense, 2), (whole SRV_CMD_STAT, 22)])) ∧
    ((∀ c ∈ s.toDevice.srvChecks m 6, c.1 = false) → s.trans = none →
      Yields (.surveyEndLoupe m) s (fun e =>
        ({ s.toDevice with trans := some { target := s.toDevice.loupeFrom, cause := 9, master := 12 }, srv := { s.srv with cmd := none } }).sets e
          [(GLB_MODE_STAT_busy, 1), (GLB_MODE_STAT_target, s.toDevice.loupeFrom % 8), (whole SRV_CMD_STAT, 26)]))) ∧
  (∀ (m : Master) (c : Bool × Nat) (s : State), s.power.coreOn = true → (s.toDevice.srvChecks m 1).find? (fun x => x.1) = some c →
    Yields (.surveyStage m) s (fun e => s.toDevice.rejects e m 0 SRV_CMD c.2)) ∧
  (∀ s : State, s.power.coreOn = true → s.toDevice.modeIn 0xC = true → s.toDevice.get SRV_SAVE_INT_minutes ≠ 0 → (∀ c ∈ s.toDevice.srvChecks 3 515, c.1 = false) →
    Yields .integratorSaveTimer s (fun e => ({ s.toDevice with srv := { s.srv with cmd := some { op := 3, master := 3, types := 2 } } }).sets e
      [(whole SRV_CMD_STAT, 13), (SRV_STAT_save, 1)])) ∧
  (∀ (c : SurveyCmd) (s : State), s.power.coreOn = true → s.srv.cmd = some c → c.op = 1 → s.toDevice.memWf → s.mem.fsUe = [] → s.mem.fsCe = [] →
    (let b := s.toDevice.rgnBase (3 + s.toDevice.get MEM_FS_STAT_cmp)
     let t := s.toDevice.rgnBase (4 - s.toDevice.get MEM_FS_STAT_cmp)
     let n := s.toDevice.rd (MEM_RGN_SIZE (3 + s.toDevice.get MEM_FS_STAT_cmp))
     (∀ i < n, fsDef s.mem.lay (t + i) = fsDef s.mem.lay (b + i)) →
     Yields (.surveyCmdComplete false) s (fun e => (∀ a, e.fsRd a = if t ≤ a ∧ a < t + n then s.toDevice.fsRd (a - t + b) else s.toDevice.fsRd a) ∧
       e.get SRV_STAT_stage_valid = 1 ∧ e.rd SRV_CMD_STAT = 6 ∧ e.srv = { s.srv with cmd := none } ∧ s.toDevice.onlyRegs e [SRV_STAT, SRV_CMD_STAT] ∧ e = { s.toDevice with regs := e.regs, mem := { s.mem with fs := e.mem.fs }, srv := e.srv }))) ∧
  (∀ (c : SurveyCmd) (s : State), s.power.coreOn = true → s.srv.cmd = some c → c.op = 3 → c.types = 1 → s.mem.fsUe = [] → s.mem.fsCe = [] →
    Yields (.surveyCmdComplete true) s (fun e => e.get SRV_STAT_save = 0 ∧ e.get SRV_IRQ_save = 1 ∧ e.rd SRV_CMD_STAT = 14 + eState * 256 ∧ e.rd (CMP_MAP_VER 0) = s.toDevice.rd (CMP_MAP_VER 0) ∧
      e.keep = s.keep ∧ e.mem = s.mem))

/-- R33, R34, R36, R40, R41: a request for a mode that its row allows is accepted, and the transition waits or starts, with its cause by the master. -/
def Obligations.ModeRequestsBegin : Prop :=
  (∀ (m : Master) (s : State), s.power.coreOn = true → among m 0x387 = true → s.toDevice.mode ≠ 0 → s.toDevice.get GLB_MODE_STAT_busy = 0 →
    Yields (.modeReqDark m) s (fun e => ∃ t, e.trans = some t ∧ t.target = 0 ∧ t.cause = reqCause m ∧ t.master = m ∧ t.restart = false)) ∧
  (∀ (m : Master) (s : State), s.power.coreOn = true → among m 0x387 = true → s.toDevice.mode ≠ 0 → s.toDevice.mode ≠ 4 → s.toDevice.get GLB_MODE_STAT_busy = 0 →
    Yields (.modeReqTadpole m) s (fun e => ∃ t, e.trans = some t ∧ t.target = 1 ∧ t.cause = reqCause m ∧ t.master = m ∧ t.restart = true)) ∧
  (∀ (m : Master) (s : State), s.power.coreOn = true → among m 0x387 = true → s.toDevice.mode = 3 → s.toDevice.get GLB_MODE_STAT_busy = 0 →
    Yields (.modeReqLive m) s (fun e =>
      ({ s.toDevice with trans := some { target := 2, cause := reqCause m, master := m } }).sets e
        [(GLB_MODE_REQ_target, 2), (GLB_MODE_STAT_aborted, 0), (GLB_MODE_STAT_busy, 1), (GLB_MODE_STAT_target, 2)])) ∧
  (∀ (m : Master) (s : State), s.power.coreOn = true → among m 0x387 = true → s.toDevice.mode = 2 → s.toDevice.get GLB_MODE_STAT_busy = 0 →
    Yields (.modeReqGecko m) s (fun e =>
      ({ s.toDevice with trans := some { target := 3, cause := reqCause m, master := m }, dprx := e.dprx }).sets e
        [(GLB_MODE_REQ_target, 3), (GLB_MODE_STAT_aborted, 0), (GLB_MODE_STAT_busy, 1), (GLB_MODE_STAT_target, 3)] ∧
      ∀ p : Port, e.portX p = { s.toDevice.portX p with writing := false })) ∧
  (∀ (m : Master) (s : State), s.power.coreOn = true → among m 0x387 = true → s.toDevice.mode = 2 → s.toDevice.senseRoles = true →
    s.toDevice.actView.levelsFit (s.toDevice.get SRV_SENSE_levels) = true → s.toDevice.get GLB_MODE_STAT_busy = 0 →
    Yields (.modeReqLoupe m) s (fun e =>
      ({ s.toDevice with trans := some { target := 4, cause := reqCause m, master := m } }).sets e
        [(GLB_MODE_REQ_target, 4), (GLB_MODE_STAT_aborted, 0), (GLB_MODE_STAT_busy, 1), (GLB_MODE_STAT_target, 4)]))

/-- R44, R45, R47, R49, R412, R432: each source of a wake raises PWRUP_EN and records its cause; one that arrives within the 10 ms minimum is latched, and wakes when that ends. -/
def Obligations.WakeSourcesWake : Prop :=
  (∀ s : State, s.power.coreOn = false → s.power.hold10 = false → s.power.pwrupEn = false →
    Yields .supplyApplied s (fun e => s.toDevice.woken e s.toDevice.supplyCause ∧ e.power.sysRst = false)) ∧
  (∀ (pin : Fin 2) (ns : Nat) (s : State), s.power.coreOn = false → s.power.hold10 = false → s.power.pwrupEn = false →
    s.power.aoWakeCfg.testBit pin = true → filterNs (bitsOf s.power.aoWakeCfg 10 8) < ns →
    Yields (.wakePin pin ns) s (fun e => s.toDevice.woken e (1 + pin))) ∧
  (∀ s : State, s.power.coreOn = false → s.power.hold10 = false → s.power.pwrupEn = false →
    s.power.aoWakeCfg.testBit 2 = true → s.power.aoWakeAlarm ≤ s.toDevice.rd KEEP_CLK →
    Yields .wakeAlarm s (fun e => s.toDevice.woken e 3)) ∧
  (∀ s : State, s.power.coreOn = false → s.power.hold10 = true → s.power.wake.cause = none →
    Gives .pwrupHoldExpire s { s.toDevice with power := { s.power with hold10 := false } }) ∧
  (∀ (c : Nat) (s : State), s.power.coreOn = false → s.power.hold10 = true → s.power.wake.cause = some c → c ≠ 4 →
    Yields .pwrupHoldExpire s (fun e => s.toDevice.woken e c)) ∧
  (∀ (pin : Fin 2) (ns : Nat) (s : State), s.power.coreOn = false → s.power.hold10 = true →
    s.power.aoWakeCfg.testBit pin = true → filterNs (bitsOf s.power.aoWakeCfg 10 8) < ns →
    Gives (.wakePin pin ns) s { s.toDevice with power := { s.power with wake :=
      if pin = 0 then { s.power.wake with pin0 := true } else { s.power.wake with pin1 := true } } })

/-- R46, R48, R411, R412, R554, R555, R556, R557: the core die leaves reset into TADPOLE when its supplies are good, and goes dark on a power-fail or a reset.
Loss of VDD_AO clears the volatile store of Keep; firmware saves the three registers that live in Keep. -/
def Obligations.CoreDieStartsAndStops : Prop :=
  (∀ s : State, s.power.coreOn = false → s.power.pwrupEn = true → s.power.sysRst = false →
    Yields .coreSuppliesGood s (fun e => s.toDevice.startsUp e)) ∧
  (∀ s : State, s.power.coreOn = false → s.power.pwrupEn = true → s.power.coreGood = true → s.power.sysRst = true →
    Yields .sysRstRelease s (fun e => s.toDevice.startsUp e ∧ e.power.sysRst = false)) ∧
  (∀ (src : PfSupply) (s : State), s.power.coreOn = true →
    Yields (.powerFail src false) s (fun e => s.toDevice.goesDark e 0xB ∧ e.keep.frozen = true)) ∧
  (∀ s : State, s.power.coreOn = true →
    Yields (.sysRstAssert false) s (fun e => s.toDevice.goesDark e 0xB ∧ e.keep.frozen = true ∧ e.power.sysRst = true)) ∧
  (∀ s : State,
    Yields .vddAoLoss s (fun e => e.power.coreOn = false ∧ e.power.pwrupEn = false ∧ e.power.wake = {} ∧ e.keep.vol = [] ∧
      e.keep.dirty = 0 ∧ e.keep.aoHeld = false ∧ e.rd KEEP_CLK = 0 ∧ e.keep.shadow = s.keep.shadow ∧ e.keep.store = none)) ∧
  (∀ s : State, s.power.coreOn = true → s.toDevice.kClosed = false → (s.toDevice.rd GLB_BOOT_STEPS).testBit 6 = true →
    Yields .kRegisterSave s (fun e => e.keep.kUnsaved = []))

/-- R36, R41, R50, R51, R52, R54, R57, R123, R291, R411, R549: a step of boot completes and the next starts, the slot scan picks the slot named first when it is sound, firmware that does not start halts boot, and the recall of Keep ends.
A transition that is due takes effect: an entry to GECKO, the return from LOUPE to LIVE, and the entry of boot to LIVE. -/
def Obligations.BootAndTransitionsComplete : Prop :=
  (∀ (o : BootOutcome) (s : State), s.power.coreOn = true → s.boot.running = true → s.boot.started = 4 → s.toDevice.rd GLB_BOOT_STEPS = 3 →
    Yields (.bootStepComplete 2 o) s (fun e => ({ s.toDevice with boot := { s.boot with started := 12 } }).sets e
      [(CLK_STAT_plls, 15), (CLK_STAT_xtal, 1), (whole GLB_BOOT_STEPS, 7), (KEEP_STAT_state, 1), (GLB_BOOT_STAT_code, 3),
       (SEG_STAT_kind, 1), (SEG_STAT_code, 3)])) ∧
  (∀ (a b : BootSlotScan) (slow : Bool) (s : State), s.power.coreOn = true → s.boot.running = true → s.boot.started.testBit 5 = true →
    s.toDevice.bootDone 5 = false → slotGrade (s.toDevice.bootWord 0 % 2 = 1) (s.toDevice.bootWord 20) (if s.toDevice.get GLB_BOOT_CFG_slot = 0 then a else b) = 3 →
    Yields (.bootStepComplete 5 (.bootSlots a b slow)) s (fun e =>
      e.boot.fwVersion = (if s.toDevice.get GLB_BOOT_CFG_slot = 0 then a else b).version ∧
      e.get GLB_BOOT_STAT_boot_slot = s.toDevice.get GLB_BOOT_CFG_slot ∧ e.bootDone 5 = true ∧ e.boot.started.testBit 6 = true)) ∧
  (∀ s : State, s.power.coreOn = true → s.boot.running = true → s.boot.started.testBit 6 = true → s.toDevice.bootDone 6 = false →
    s.trans = none → s.toDevice.railsUp = false → s.hv.seq = .idle →
    Yields .bootFwStartTimeout s (fun e => ({ s.toDevice with boot := { s.boot with running := false } }).sets e
      [(GLB_BOOT_STAT_halted, 1), (GLB_BOOT_STAT_code, 0x86), (GLB_BOOT_STAT_err, 0), (SEG_STAT_kind, 2), (SEG_STAT_code, 0x86)])) ∧
  (∀ s : State, s.power.coreOn = true → s.keep.recalling = true → s.toDevice.get KEEP_STAT_state = 1 →
    Yields .keepRecallComplete s (fun e => e.keep.recalling = false ∧
      (s.boot.running = false → s.trans = none → e.get KEEP_STAT_state = 0 ∧ e.get KEEP_STAT_vol_kept = (if s.keep.aoHeld && s.keep.dep.isSome then 1 else 0)))) ∧
  (∀ (t : Trans) (s : State), s.toDevice.transDue = some t → t.target = 3 → t.cause < 7 → s.link.failed = [] →
    Yields .modeTransitionEffect s (fun e => s.toDevice.arrived e t ∧ e.get TMG_STAT_raster = 3)) ∧
  (∀ (t : Trans) (s : State), s.toDevice.transDue = some t → t.target = 2 → t.cause = 9 → s.link.failed = [] → s.toDevice.mode = 4 →
    Yields .loupeReturn s (fun e => s.toDevice.arrived e t ∧ e.get SRV_IRQ_loupe = 1 ∧ e.get SRV_STAT_loupe = 0)) ∧
  (∀ (t : Trans) (s : State), s.toDevice.transDue = some t → t.target = 2 → t.cause = 7 → s.link.failed = [] → s.toDevice.mode = 1 →
    Yields .bootEnterLive s (fun e => s.toDevice.arrived e t ∧ e.get MBX_CFG_lock = 1))

/-- R347, R348, R349, R350: the power-up sequence starts at its first enabled step; a step that is good waits its delay, and the next enabled one starts; a fall of VIN_HV below warn pauses it. -/
def Obligations.PowerUpSequenceRuns : Prop :=
  (∀ (m : Master) (s : State), s.power.coreOn = true → s.bridge.lost = false → among m mHv = true → s.toDevice.modeIn 0x22 = true →
    s.toDevice.get HVP_FLT_crack = 0 → s.toDevice.get SRV_CTRL_en = 0 → s.toDevice.get HVP_STAT_state = 0 → s.hv.vinLow = false →
    (s.toDevice.get HVP_SEQ_CFG_en).testBit 0 = true →
    Yields (.powerUp m) s (fun e => ({ s.toDevice with hv := { s.hv with seqBy := 1, gates := .agnd, stuck := 0, dis := .idle, seq := .ramp 0, bleedOn := offBit s.hv.bleedOn 1 } }).sets e
      [(HVP_STAT_good, 0), (HVP_STAT_up, onBit (s.toDevice.get HVP_STAT_up) 0), (HVP_STAT_step, 0), (HVP_STAT_state, 1)])) ∧
  (∀ (i : Fin 8) (mon : Nat) (tie : Bool) (s : State), s.hv.seq = .ramp i → s.toDevice.get HVP_STAT_state = 1 →
    Yields (.railGood i mon tie) s (fun e => e.hv.seq = .delay i ∧ e.get HVP_STAT_good = onBit (s.toDevice.get HVP_STAT_good) i ∧
      (i.val < 4 → e.rd (HVP_RAIL_MON (stepRail i)) = mon % 2 ^ 32) ∧ (tie = true → e.get HVP_LATE_pg = 1 ∧ e.get HVP_IRQ_late = 1) ∧
      e.get HVP_STAT_state = 1 ∧ e.get HVP_STAT_up = s.toDevice.get HVP_STAT_up ∧ e.get HVP_STAT_step = s.toDevice.get HVP_STAT_step ∧
      s.toDevice.onlyRegs e [HVP_STAT, HVP_LATE, HVP_IRQ, HVP_RAIL_MON (stepRail i)] ∧ e = { s.toDevice with regs := e.regs, hv := e.hv })) ∧
  (∀ (i j : Nat) (s : State), s.hv.seq = .delay i → s.hv.vinLow = false → s.toDevice.seqNext (i + 1) = some j →
    Yields .seqDelayExpire s (fun e => ({ s.toDevice with hv := e.hv }).sets e
      [(HVP_STAT_up, onBit (s.toDevice.get HVP_STAT_up) j), (HVP_STAT_step, j), (HVP_STAT_state, 1)] ∧ e.hv.seq = .ramp j ∧ e.hv.psEn = (if 4 ≤ j then onBit s.hv.psEn (j - 4) else s.hv.psEn))) ∧
  (∀ (i : Nat) (s : State), s.hv.seq = .ramp i → s.hv.vinLow = false →
    Yields .vinBelowWarn s (fun e => ({ s.toDevice with hv := { s.hv with vinLow := true } }).sets e [(HVP_STAT_state, 2)])) ∧
  (∀ (i : Nat) (tie : Bool) (s : State), s.hv.seq = .ramp i → s.hv.vinLow = true → s.toDevice.get HVP_STAT_state = 2 →
    Yields (.vinRecover tie) s (fun e => ({ s.toDevice with hv := { s.hv with vinLow := false } }).sets e
      ([(HVP_STAT_state, 1), (HVP_EVT_resumed, Nat.min (s.toDevice.get HVP_EVT_resumed + 1) 0xFF)] ++
       if tie then [(HVP_LATE_bo, 1), (HVP_IRQ_late, 1)] else [])))

/-- R346, R349, R350, R351, R364, R367, R370: each panel-safe fault of the HV die enters NEWT at once; the current limit and a normal temperature do not.
Readings of the pixel-supply monitors and of the crack loop that lie in their window show in their registers and raise nothing; the status glass takes what it shows at each positive frame. -/
def Obligations.PanelFaultsAndMonitorsAct : Prop :=
  (∀ (i : Nat) (s : State), s.power.coreOn = true → s.toDevice.mode ≠ 5 → s.hv.seq = .ramp i → s.toDevice.get HVP_STAT_state = 1 →
    Yields .pgTimeout s Device.inNewt) ∧
  (∀ (i : Nat) (s : State), s.power.coreOn = true → s.toDevice.mode ≠ 5 → s.hv.seq = .ramp i → s.toDevice.get HVP_STAT_state = 2 →
    Yields .brownoutWaitExpire s Device.inNewt) ∧
  (∀ (i : Fin 8) (s : State), s.power.coreOn = true → s.toDevice.mode ≠ 5 → (s.toDevice.get HVP_STAT_good).testBit (instStep i) = true →
    (i.val < 4 → Yields (.railFaultDetect .uv i) s Device.inNewt ∧ Yields (.railFaultDetect .ov i) s Device.inNewt ∧ Yields (.railFaultDetect .oc i) s Device.inNewt ∧
      Yields (.railFaultDetect .climit i) s (fun e => s.toDevice.sets e [(HVP_EVT_climit, Nat.min (s.toDevice.get HVP_EVT_climit + 1) 0xFF)])) ∧
    (4 ≤ i.val → Yields (.railFaultDetect .psm i) s Device.inNewt)) ∧
  (∀ (t : Nat) (s : State), t < 0x8000 → 2400 < t → s.power.coreOn = true → s.toDevice.mode ≠ 5 → s.hv.hot ≠ 3 →
    Yields (.hvOvertemp t) s Device.inNewt) ∧
  (∀ (t : Nat) (s : State), t ≤ 2240 → 
    Yields (.hvOvertemp t) s (fun e => ({ s.toDevice with hv := { s.hv with hot := 0 } }).sets e [(whole HVP_TEMP, t)])) ∧
  (∀ (k : Fin 4) (v : Nat) (s : State), v < 1024 → s.toDevice.get (HVP_PSM_CFG_lo k) ≤ v → v ≤ s.toDevice.get (HVP_PSM_CFG_hi k) →
    Yields (.psmSample k v) s (fun e => ({ s.toDevice with hv := { s.hv with psmOut := e.hv.psmOut } }).sets e [(whole (HVP_PSM_VAL k), v)] ∧
      Sparse.get (fun _ => 0) e.hv.psmOut k = 0)) ∧
  (∀ (ohm : Nat) (s : State), s.toDevice.get HVP_CRK_CFG_en = 1 → s.toDevice.mode ≠ 0 → ohm ≤ 2000 → s.toDevice.get HVP_CRK_CFG_lo ≤ ohm → ohm ≤ s.toDevice.get HVP_CRK_CFG_hi →
    Yields (.crackMeasure ohm) s (fun e => ({ s.toDevice with hv := { s.hv with crackHi := 0, crackLo := 0, crackHigh := false } }).sets e [(HVP_CRK_VAL_ohm, ohm)])) ∧
  (∀ (ohm : Nat) (s : State), s.toDevice.get HVP_CRK_CFG_en = 1 → s.toDevice.mode ≠ 0 → 2000 < ohm → s.hv.crackHi = 0 → s.toDevice.get HVP_CRK_CFG_hi < 0xFFFF →
    2 ≤ s.toDevice.get HVP_CRK_CFG_samples → 
    Yields (.crackMeasure ohm) s (fun e => ({ s.toDevice with hv := { s.hv with crackHi := 1, crackLo := 0, crackHigh := true } }).sets e [(HVP_CRK_VAL_ohm, 0xFFFF)])) ∧
  (∀ s : State, s.toDevice.mode = 0 →
    Yields .segFrameStart s (fun e => s.toDevice.sets e [(whole (SEG_SHOWN 0), 0), (whole (SEG_SHOWN 1), 0), (whole (SEG_SHOWN 2), 0), (whole (SEG_SHOWN 3), 0), (whole (SEG_SHOWN 4), 0)])) ∧
  (∀ s : State, s.toDevice.mode ≠ 0 →
    (s.seg.positive = true → Gives .segFrameStart s { s.toDevice with seg := { s.seg with positive := false } }) ∧
    (s.seg.positive = false →
      Yields .segFrameStart s (fun e => e.seg.positive = true ∧ e.seg.ram = (List.range 5).map (fun i => s.toDevice.rd (SEG_RAM i)) ∧
        e.seg.host = (s.toDevice.modeIn 0x1C && decide (s.toDevice.get SEG_CTRL_host = 1)) ∧ e.get SEG_STAT_owner = (if e.seg.host then 1 else 0) ∧
        e.seg.code = (if s.toDevice.modeIn 0x1C then 0 else s.toDevice.get SEG_STAT_kind * 256 + s.toDevice.get SEG_STAT_code) ∧ e.seg.wideRelease = false ∧
        s.toDevice.onlyRegs e ([SEG_STAT] ++ (List.range 5).map SEG_SHOWN) ∧ e = { s.toDevice with regs := e.regs, seg := e.seg, claims := e.claims })))

/-- R353, R354, R355, R356: a discharge opens the gates, then bleeds the rails one by one in falling step order; a rail that times out is passed; the power-fail form bleeds all at once. -/
def Obligations.DischargeRuns : Prop :=
  (∀ (m : Master) (s : State), s.power.coreOn = true → s.bridge.lost = false → among m mHv = true → s.toDevice.modeIn 0x22 = true →
    s.toDevice.get HVP_STAT_state ≠ 0 → s.toDevice.get HVP_STAT_state < 4 → s.toDevice.railsUp = true → s.hv.dis = .idle → s.toDevice.rasterKnown = true →
    Yields (.discharge m) s (fun e => ({ s.toDevice with hv := { s.hv with seq := .idle, dis := .opening, disBridge := false, stuck := 0 }, link := e.link }).sets e
      [(HVP_STAT_state, 4), (HVP_STAT_step, 0), (HVP_STAT_gate, 0)])) ∧
  (∀ (i : Nat) (s : State), s.hv.dis = .hold → s.toDevice.bleedNext = some i →
    Yields .dischargeHoldEnd s (fun e => ({ s.toDevice with hv := e.hv }).sets e
      [(HVP_STAT_good, offBit (s.toDevice.get HVP_STAT_good) i)] ∧ e.hv.dis = .bleed i ∧ (4 ≤ i → e.hv.psEn = offBit s.hv.psEn (i - 4)) ∧
      (i < 4 → e.hv.bleedOn = onBit s.hv.bleedOn (stepRail i)))) ∧
  (∀ (i : Fin 8) (mon : Nat) (tie : Bool) (s : State), s.hv.dis = .pfBleed → (s.toDevice.get HVP_STAT_up) = 2 ^ i.val + 2 ^ ((i.val + 1) % 8) →
    Yields (.railDischarged i mon tie) s (fun e => s.toDevice.sets e ((if i.val < 4 then [(whole (HVP_RAIL_MON (stepRail i)), mon % 2 ^ 32)] else []) ++
      [(HVP_STAT_up, 2 ^ ((i.val + 1) % 8))]))) ∧
  (∀ (i j : Nat) (s : State), s.power.coreOn = false → s.keep.frozen = true → s.hv.dis = .bleed i → i < 8 →
    (s.toDevice.get HVP_STAT_up).testBit j = true → s.hv.stuck.testBit j = false → j ≠ i → j < 8 →
    Yields .bleedTimeout s (fun e => e.hv.stuck = onBit s.hv.stuck i ∧ e.get HVP_FLT_bleed = 1 ∧ e.get HVP_FLT_index = i ∧ e.get HVP_IRQ_fault = 1 ∧
      e.get HVP_EVT_bleeds = Nat.min (s.toDevice.get HVP_EVT_bleeds + 1) 0xFF ∧ e.get HVP_STAT_up = s.toDevice.get HVP_STAT_up ∧ (∃ k, e.hv.dis = .bleed k ∧ k ≠ i) ∧
      s.toDevice.onlyRegs e [HVP_STAT, HVP_FLT, HVP_EVT, HVP_IRQ] ∧ e = { s.toDevice with regs := e.regs, hv := e.hv })) ∧
  (∀ s : State, s.hv.dis = .pfHold → s.toDevice.get HVP_STAT_up ≠ 0 →
    Yields .pfHoldExpire s (fun e => ({ s.toDevice with hv := { s.hv with dis := .pfBleed, psEn := 0, bleedOn := 15 } }).sets e [(HVP_STAT_good, 0)]))

/-- R501, R505, R506, R507, R508, R513, R514, R515, R520, R521: an S1 fault is handled at once and counted; an S2 fault opens its recovery; an S3 fault of either source, or an S2 recovery whose budget ends, enters NEWT.
A recovery in time is counted by its latency; an attempt at regeneration starts, takes its steps in order, and fails at its time limit; accounting reaches the counters of Keep. -/
def Obligations.FaultsAreRaisedAndRecovered : Prop :=
  (∀ (code inst obj : Nat) (s : State), code ∈ fltListed → fltSev code = 1 → fltAtOnce code 1 = true → s.power.coreOn = true → s.toDevice.get FLT_CTRL_log_s1 = 0 →
    Yields (.faultRaise code inst obj) s (fun e => ({ s.toDevice with flt := { s.flt with growth := e.flt.growth } }).sets e
      [(whole FLT_LAST, fltWord (catalogue code inst)), (FLT_EVT_s1, Nat.min (s.toDevice.get FLT_EVT_s1 + 1) 0xFF), (FLT_IRQ_s1, 1)] ∧
      Sparse.get (fun _ => 0) e.flt.growth 24 = Sparse.get (fun _ => 0) s.flt.growth 24 + 1)) ∧
  (∀ (inst obj : Nat) (s : State), s.power.coreOn = true → s.toDevice.mode ≠ 5 → s.hif.bscan = false → s.flt.opened = none →
    Yields (.faultRaise 0x22 inst obj) s (fun e => e.flt.opened = some { flt := catalogue 0x22 (inst % 256) obj, tickUs := s.us } ∧
      e.rd FLT_OPEN = fltWord (catalogue 0x22 inst) ∧ e.get FLT_STAT_engine = 1 ∧ e.get FLT_STAT_sev = 2 ∧ e.get FLT_IRQ_s2 = 1 ∧ e.mode = s.toDevice.mode)) ∧
  (∀ (code inst obj : Nat) (s : State), code ∈ fltListed → fltSev code = 3 → s.power.coreOn = true → s.toDevice.mode ≠ 5 →
    Yields (.faultRaise code inst obj) s Device.inNewt) ∧
  (∀ (m : Master) (val : Nat) (s : State), among m 0x381 = true → s.power.coreOn = true → s.toDevice.mode ≠ 5 → val < 2 ^ 32 → reservedBad FLT_RAISE val = false → bitsOf val 9 8 = 3 →
    Yields (.integratorFault m val) s Device.inNewt) ∧
  (∀ (r : Recovery) (s : State), s.flt.opened = some r → r.flt.sev = 2 → 6 ≤ r.elapsed → s.toDevice.get TMG_STAT_raster ≠ 0 →
    Yields .recoveryBudgetEnd s Device.inNewt) ∧
  (∀ (r : Recovery) (s : State), s.flt.opened = some r → s.flt.queued = none → r.others = [] → r.flt.code = 0x22 → r.flt.sev = 2 →
    r.elapsed ≤ 6 → r.latency ≤ 6 → r.overrun = false → s.toDevice.get TMG_STAT_raster ≠ 0 → s.toDevice.get (ACL_LANE_STAT_in_use (s.act.lanes.getD r.flt.obj {}).lane) = 1 →
    Yields (.recoveryComplete false) s (fun e => e.flt.opened = none ∧ e.rd FLT_OPEN = 0 ∧ e.get FLT_IRQ_done = 1 ∧ e.get FLT_STAT_sev = 0 ∧
      e.get (FLT_LAT_val r.latency) = Nat.min (s.toDevice.get (FLT_LAT_val r.latency) + 1) (2 ^ 32 - 1) ∧ e.mode = s.toDevice.mode)) ∧
  (∀ s : State, s.power.coreOn = true → s.toDevice.mode = 5 → s.trans = none → s.toDevice.get FLT_STAT_engine = 4 → s.toDevice.get FLT_NEWT_held = 0 → s.flt.step = 0 →
    Yields .regenAttemptStart s (fun e => ({ s.toDevice with flt := { s.flt with first := false, waitDis := false, startUs := s.us, step := 1 } }).sets e [(FLT_STAT_engine, 3)])) ∧
  (∀ s : State, s.power.coreOn = true → s.toDevice.mode = 5 → s.flt.step = 2 →
    Gives (.regenStepDone false) s { s.toDevice with flt := { s.flt with step := 3 } }) ∧
  (∀ (b : Bool) (s : State), s.power.coreOn = true → s.toDevice.mode = 5 → s.flt.step = 3 →
    Gives (.regenStepDone b) s { s.toDevice with flt := { s.flt with step := 4 } }) ∧
  (∀ s : State, s.power.coreOn = true → s.toDevice.mode = 5 → s.trans = none → s.flt.step ≠ 0 → s.flt.step < 7 →
    Yields .regenTimeout s (fun e => e.flt.step = 0 ∧ e.get FLT_NEWT_step = s.flt.step ∧ e.get FLT_NEWT_err = eState ∧ e.inNewt)) ∧
  (∀ (u : CtrUpdate) (s : State), s.power.coreOn = true → s.toDevice.kClosed = false → s.keep.ctrBusy = some u →
    Gives .accountingFlush s { s.toDevice with flt := { s.flt with growth := [] }, keep := { s.keep with ctrQueue := s.keep.ctrQueue ++ (s.flt.growth.filter (fun c => c.2 ≠ 0)).map (fun c => { index := c.1, clear := false, amount := c.2 }) } })

/-- R524, R528, R531, R532, R533: PLLs lose lock, the hop set starts and steps, the fabric clock changes step at the swap point, and the supply voltage steps towards its target. -/
def Obligations.ClocksChange : Prop :=
  (∀ (k : Fin 18) (s : State), s.power.coreOn = true → 5 ≤ k.val → k.val < 17 →
    Yields (.pllLockLoss k) s (fun e => s.toDevice.sets e [(⟨CLK_STAT, k, k⟩, 0)])) ∧
  (∀ (k : Fin 18) (s : State), s.power.coreOn = true → s.toDevice.mode ≠ 5 → k.val < 5 → Yields (.pllLockLoss k) s Device.inNewt) ∧
  (∀ (m : Master) (val : Nat) (s : State), s.power.coreOn = true → among m 0x5 = true → val < 2 ^ 32 → val.testBit 15 = false → s.toDevice.sscBad val = false →
    Yields (.sscHopEnable m val) s (fun e => e.rd CLK_SSC = val ∧ e.clk.hop = none ∧ (∀ c ∈ e.claims, c.feature ≠ 5) ∧
      s.toDevice.onlyRegs e [CLK_SSC] ∧ (∀ o, o ≠ CLK_SSC → e.rdF o = s.toDevice.rdF o) ∧ e = { s.toDevice with regs := e.regs, force := e.force, claims := e.claims, clk := { s.clk with hop := none } })) ∧
  (∀ (m : Master) (val : Nat) (s : State), s.power.coreOn = true → among m 0x5 = true → val < 2 ^ 32 → val.testBit 15 = true → s.toDevice.sscBad val = false →
    (∀ c ∈ s.claims, c.feature ≠ 5) → s.toDevice.imageServes 5 6 (bitsOf val 7 5) = false → s.toDevice.owner 6 (bitsOf val 7 5) = none →
    Yields (.sscHopEnable m val) s (fun e => e.rd CLK_SSC = val ∧ e.claims = s.claims ++ [{ feature := 5, cls := 6, idx := bitsOf val 7 5, master := m }] ∧
      s.toDevice.onlyRegs e [CLK_SSC] ∧ (∀ o, o ≠ CLK_SSC → e.rdF o = s.toDevice.rdF o) ∧ e = { s.toDevice with regs := e.regs, force := e.force, claims := e.claims })) ∧
  (∀ s : State, s.power.coreOn = true → s.toDevice.getF CLK_SSC_hop = 1 → s.toDevice.get CLK_SSC_hop = 1 →
    Gives .sscHop s { s.toDevice with clk := { s.clk with hop := some (match s.clk.hop with
      | some i => (i + 1) % 4
      | none => 0) } }) ∧
  (∀ (m : Master) (req : Fin 4) (s : State), s.power.coreOn = true → among m 0x5 = true → s.toDevice.get CLK_FCLK_cur < req → s.toDevice.get TMG_STAT_raster ≠ 0 →
    Yields (.fclkStepRequest m req) s (fun e => e.get CLK_FCLK_req = req ∧ e.get CLK_FCLK_pend = 1 ∧ e.get CLK_FCLK_cur = s.toDevice.get CLK_FCLK_cur ∧
      s.toDevice.onlyRegs e [CLK_FCLK, CLK_RLIM] ∧ e = { s.toDevice with regs := e.regs })) ∧
  (∀ s : State, s.power.coreOn = true → s.toDevice.fclkDue = true →
    Yields .fclkStepEffect s (fun e => e.get CLK_FCLK_cur = s.toDevice.get CLK_FCLK_req ∧ e.get CLK_FCLK_pend = 0 ∧ e.get CLK_IRQ_rlim = 1 ∧
      e.get CLK_EVT_fsteps = Nat.min (s.toDevice.get CLK_EVT_fsteps + 1) 0xFF ∧ s.toDevice.onlyRegs e [CLK_FCLK, CLK_RLIM, CLK_EVT, CLK_IRQ] ∧ e = { s.toDevice with regs := e.regs })) ∧
  (∀ s : State, s.power.coreOn = true →
    Yields .avsStep s (fun e => s.toDevice.sets e [(CLK_AVS_cur,
      if s.toDevice.get CLK_AVS_cur < s.toDevice.get CLK_AVS_set then s.toDevice.get CLK_AVS_cur + 1
      else if s.toDevice.get CLK_AVS_set < s.toDevice.get CLK_AVS_cur then s.toDevice.get CLK_AVS_cur - 1
      else s.toDevice.get CLK_AVS_cur)])) ∧
  (∀ (mv : Nat) (s : State), s.power.coreOn = true → mv < 65536 → 7000 + 25 * s.toDevice.get CLK_AVS_cur ≤ 10 * mv + 250 → 10 * mv ≤ 7000 + 25 * s.toDevice.get CLK_AVS_cur + 250 →
    Yields (.avsMonitor mv) s (fun e => ({ s.toDevice with clk := { s.clk with avsBad := 0 } }).sets e [(whole CLK_AVS_MON, mv)]))

/-- R534, R535, R536, R537: the monitors give the least slack, a re-plan acts on it, a better preset is kept, and the eye of a lane is measured. -/
def Obligations.MarginsAreWatched : Prop :=
  (∀ (vals : List Nat) (v : Int) (i : Nat) (s : State), s.power.coreOn = true → i < 210 →
    lowestOf (fun j => signedOf 16 (((List.range 216).map (fun j => if s.toDevice.monOn j then vals.getD j 0 % 65536 else 0)).getD j 0))
      (((List.range 148).map (fun j => 62 + j)).filter (fun j => s.toDevice.monOn j)) = some (v, i) →
    (s.toDevice.get CLK_AGE_CFG_hard : Int) ≤ v → s.clk.fresh = true →
    Yields (.monitorSample vals) s (fun e => ({ s.toDevice with clk := { s.clk with mon := e.clk.mon, fresh := false } }).sets e
      [(CLK_AGE_STAT_slack, codeOf 16 v), (CLK_AGE_STAT_index, i)] ∧
      e.clk.mon = (List.range 216).map (fun j => if s.toDevice.monOn j then vals.getD j 0 % 65536 else 0))) ∧
  (∀ s : State, s.power.coreOn = true → s.toDevice.coreState 0 ≠ 0 → s.toDevice.planAction false = 0 →
    (s.toDevice.get CLK_AGE_CFG_floor : Int) ≤ signedOf 16 (s.toDevice.get CLK_AGE_STAT_slack) →
    Yields (.marginReplan false) s (fun e => ({ s.toDevice with clk := { s.clk with fresh := true } }).sets e
      [(CLK_EVT_replans, Nat.min (s.toDevice.get CLK_EVT_replans + 1) 0xFF), (CLK_IRQ_replan, 1)])) ∧
  (∀ s : State, s.power.coreOn = true → s.toDevice.coreState 0 ≠ 0 → s.toDevice.planAction false = 1 →
    Yields (.marginReplan false) s (fun e => e.get CLK_AVS_set = Nat.min (s.toDevice.get CLK_AVS_set + 1) (s.toDevice.get CLK_AVS_max) ∧
      e.get CLK_EVT_vsteps = Nat.min (s.toDevice.get CLK_EVT_vsteps + 1) 0xFF ∧ e.get CLK_IRQ_replan = 1 ∧ e.clk.fresh = true)) ∧
  (∀ (n : Lane) (p : Fin 8) (s : State), s.power.coreOn = true → s.toDevice.get CLK_LINK_CFG_en = 1 → s.toDevice.laneState n = 4 → (s.toDevice.laneStripe n).isSome = true →
    s.toDevice.drvFom n < s.toDevice.get CLK_LINK_CFG_fom_min → s.toDevice.neighbour n p = true →
    Yields (.presetTrial n p true false) s (fun e => e.get (ACL_LANE_STAT_preset n) = p ∧ e.get CLK_EVT_presets = Nat.min (s.toDevice.get CLK_EVT_presets + 1) 0xFF ∧
      e.get (ACL_LANE_STAT_state n) = 4 ∧ e.link = s.link)) ∧
  (∀ (m : Master) (i : Nat) (s : State), s.power.coreOn = true → among m 0x4015 = true → i < 96 → s.toDevice.laneTrained i = true → s.clk.eye = none →
    Yields (.eyeMeasure m (0x10200 + i)) s (fun e => ({ s.toDevice with bank := e.bank, clk := { s.clk with eye := some (2, i) } }).sets e
      [(CLK_EYE_DATA_busy, 1), (CLK_EYE_DATA_valid, 0)] ∧ e.rdB m CLK_EYE_SEL = 0x10200 + i)) ∧
  (∀ (h v f kind i : Nat) (s : State), s.clk.eye = some (kind, i) → kind ≠ 2 → s.toDevice.eyeLane kind i = true → h < 256 → v < 256 → f < 256 →
    Yields (.eyeMeasureDone h v f false) s (fun e => ({ s.toDevice with clk := { s.clk with eye := none } }).sets e
      [(CLK_EYE_DATA_busy, 0), (CLK_EYE_DATA_valid, 1), (CLK_EYE_DATA_horiz, h), (CLK_EYE_DATA_vert, v), (CLK_EYE_DATA_fom, f)]))
end

