-- ==== Sys2Proof/Laws/Sparse.lean ====
section
/-! SUPPORT. The laws of sparse maps: a read after a write, and that every operation keeps the canonical form. -/

namespace Sys2Proof.Machine

variable {α : Type}

/-! ## Reads after writes -/

theorem Sparse.get_put_same (d : Nat → α) (m : Sparse α) (k : Nat) (v : α) : Sparse.get d (Sparse.put m k v) k = v := by
  induction m with
  | nil => simp [Sparse.put, Sparse.get]
  | cons c m ih =>
    obtain ⟨a, w⟩ := c
    unfold Sparse.put
    split
    · simp [Sparse.get]
    · split
      · simp [Sparse.get]
      · simp [Sparse.get, *]

theorem Sparse.get_put_ne (d : Nat → α) (m : Sparse α) {k j : Nat} (v : α) (h : j ≠ k) :
    Sparse.get d (Sparse.put m k v) j = Sparse.get d m j := by
  induction m with
  | nil => simp [Sparse.put, Sparse.get, h]
  | cons c m ih =>
    obtain ⟨a, w⟩ := c
    unfold Sparse.put
    split
    · subst_vars; simp [Sparse.get, h]
    · split
      · simp [Sparse.get, h]
      · simp [Sparse.get, ih]

theorem Sparse.get_erase_same (d : Nat → α) (m : Sparse α) (k : Nat) : Sparse.get d (Sparse.erase m k) k = d k := by
  induction m with
  | nil => rfl
  | cons c m ih =>
    obtain ⟨a, w⟩ := c
    unfold Sparse.erase
    split
    · exact ih
    · simp [Sparse.get, *]

theorem Sparse.get_erase_ne (d : Nat → α) (m : Sparse α) {k j : Nat} (h : j ≠ k) :
    Sparse.get d (Sparse.erase m k) j = Sparse.get d m j := by
  induction m with
  | nil => rfl
  | cons c m ih =>
    obtain ⟨a, w⟩ := c
    unfold Sparse.erase
    split
    · subst_vars; simp [Sparse.get, h, ih]
    · simp [Sparse.get, ih]

theorem Sparse.get_set [DecidableEq α] (d : Nat → α) (m : Sparse α) (k j : Nat) (v : α) :
    Sparse.get d (Sparse.set d m k v) j = if j = k then v else Sparse.get d m j := by
  unfold Sparse.set
  split <;> rename_i hv <;> split <;> rename_i hk
  · subst hk; rw [Sparse.get_erase_same, hv]
  · exact Sparse.get_erase_ne d m hk
  · subst hk; exact Sparse.get_put_same d m j v
  · exact Sparse.get_put_ne d m v hk

@[simp] theorem Sparse.get_set_same [DecidableEq α] (d : Nat → α) (m : Sparse α) (k : Nat) (v : α) :
    Sparse.get d (Sparse.set d m k v) k = v := by simp [Sparse.get_set]

theorem Sparse.get_set_ne [DecidableEq α] (d : Nat → α) (m : Sparse α) {k j : Nat} (v : α) (h : j ≠ k) :
    Sparse.get d (Sparse.set d m k v) j = Sparse.get d m j := by simp [Sparse.get_set, h]

theorem Sparse.get_of_none (d : Nat → α) (m : Sparse α) (k : Nat) (h : ∀ c ∈ m, c.1 ≠ k) : Sparse.get d m k = d k := by
  induction m with
  | nil => rfl
  | cons c m ih =>
    obtain ⟨a, w⟩ := c
    have ha : k ≠ a := fun e => h (a, w) (by simp) e.symm
    simp [Sparse.get, ha, ih (fun c hc => h c (by simp [hc]))]

theorem Sparse.get_dropWhere (d : Nat → α) (m : Sparse α) (p : Nat → Bool) (k : Nat) :
    Sparse.get d (Sparse.dropWhere p m) k = if p k then d k else Sparse.get d m k := by
  induction m with
  | nil => simp [Sparse.dropWhere, Sparse.get]
  | cons c m ih =>
    obtain ⟨a, w⟩ := c
    unfold Sparse.dropWhere at ih ⊢
    by_cases hk : k = a
    · subst hk
      by_cases hp : p k
      · simp [hp] at ih ⊢; exact ih
      · simp [hp, Sparse.get]
    · by_cases hp : p a
      · simp only [List.filter_cons, hp, Bool.not_true]
        simp only [Bool.false_eq_true, if_false, ih, Sparse.get, hk]
      · simp only [List.filter_cons, hp, Bool.not_false]
        simp only [if_true, Sparse.get, hk, if_false]
        simpa using ih

/-! ## The canonical form -/

theorem Sparse.wfFrom_iff [DecidableEq α] (d : Nat → α) (lo : Option Nat) (m : Sparse α) :
    Sparse.wfFrom d lo m = true ↔
      (∀ b, lo = some b → ∀ c ∈ m, b < c.1) ∧ m.Pairwise (fun x y => x.1 < y.1) ∧ ∀ c ∈ m, c.2 ≠ d c.1 := by
  induction m generalizing lo with
  | nil => simp [Sparse.wfFrom]
  | cons c m ih =>
    obtain ⟨a, v⟩ := c
    simp only [Sparse.wfFrom, Bool.and_eq_true, decide_eq_true_eq, ih, List.pairwise_cons, List.mem_cons, forall_eq_or_imp,
      Option.some.injEq, forall_eq']
    constructor
    · rintro ⟨⟨h1, h2⟩, h3, h4, h5⟩
      refine ⟨fun b hb => ?_, ⟨fun c hc => h3 c hc, h4⟩, h2, h5⟩
      subst hb
      have h1 : b < a := by simpa using h1
      exact ⟨h1, fun c hc => Nat.lt_trans h1 (h3 c hc)⟩
    · rintro ⟨h1, ⟨h2, h3⟩, h4, h5⟩
      refine ⟨⟨?_, h4⟩, fun c hc => h2 c hc, h3, h5⟩
      cases lo with
      | none => rfl
      | some b => simpa using (h1 b rfl).1

/-- The canonical form: keys strictly rising, and no entry equal to its default. -/
theorem Sparse.wf_iff [DecidableEq α] (d : Nat → α) (m : Sparse α) :
    Sparse.wf d m = true ↔ m.Pairwise (fun x y => x.1 < y.1) ∧ ∀ c ∈ m, c.2 ≠ d c.1 := by
  simp [Sparse.wf, Sparse.wfFrom_iff]

@[simp] theorem Sparse.wf_nil [DecidableEq α] (d : Nat → α) : Sparse.wf d [] = true := (rfl)

theorem Sparse.wf_filter [DecidableEq α] {d : Nat → α} {m : Sparse α} (p : Nat × α → Bool) (h : Sparse.wf d m = true) :
    Sparse.wf d (m.filter p) = true := by
  rw [Sparse.wf_iff] at h ⊢
  exact ⟨h.1.filter _, fun c hc => h.2 c (List.mem_filter.mp hc).1⟩

theorem Sparse.wf_dropWhere [DecidableEq α] {d : Nat → α} {m : Sparse α} (p : Nat → Bool) (h : Sparse.wf d m = true) :
    Sparse.wf d (Sparse.dropWhere p m) = true := Sparse.wf_filter _ h

theorem Sparse.erase_eq_filter (m : Sparse α) (k : Nat) : Sparse.erase m k = m.filter (fun c => decide (c.1 ≠ k)) := by
  induction m with
  | nil => rfl
  | cons c m ih =>
    obtain ⟨a, v⟩ := c
    unfold Sparse.erase
    by_cases h : k = a
    · subst h; simpa using ih
    · have h' : a ≠ k := fun e => h e.symm
      simp [h, h']
      simpa using ih

theorem Sparse.wf_erase [DecidableEq α] {d : Nat → α} {m : Sparse α} (k : Nat) (h : Sparse.wf d m = true) :
    Sparse.wf d (Sparse.erase m k) = true := by
  rw [Sparse.erase_eq_filter]; exact Sparse.wf_filter _ h

theorem Sparse.mem_put {m : Sparse α} {k : Nat} {v : α} {c : Nat × α} (h : c ∈ Sparse.put m k v) : c = (k, v) ∨ c ∈ m := by
  induction m with
  | nil => simpa [Sparse.put] using h
  | cons e m ih =>
    obtain ⟨a, w⟩ := e
    unfold Sparse.put at h
    split at h
    · simp at h; rcases h with h | h <;> simp [h]
    · split at h
      · simpa using h
      · simp only [List.mem_cons] at h ⊢
        rcases h with h | h
        · exact .inr (.inl h)
        · rcases ih h with h | h
          · exact .inl h
          · exact .inr (.inr h)

theorem Sparse.wf_put [DecidableEq α] {d : Nat → α} {m : Sparse α} {k : Nat} {v : α} (h : Sparse.wf d m = true) (hv : v ≠ d k) :
    Sparse.wf d (Sparse.put m k v) = true := by
  rw [Sparse.wf_iff] at h ⊢
  refine ⟨?_, fun c hc => ?_⟩
  · replace h := h.1
    clear hv
    induction m with
    | nil => simp [Sparse.put]
    | cons e m ih =>
      obtain ⟨a, w⟩ := e
      rw [List.pairwise_cons] at h
      unfold Sparse.put
      split
      · rename_i hk; subst hk
        exact List.pairwise_cons.mpr ⟨h.1, h.2⟩
      · split
        · rename_i hlt
          refine List.pairwise_cons.mpr ⟨fun c hc => ?_, List.pairwise_cons.mpr h⟩
          rcases List.mem_cons.mp hc with rfl | hc
          · exact hlt
          · exact Nat.lt_trans hlt (h.1 c hc)
        · rename_i hne hge
          refine List.pairwise_cons.mpr ⟨fun c hc => ?_, ih h.2⟩
          rcases Sparse.mem_put hc with rfl | hc
          · show a < k; omega
          · exact h.1 c hc
  · rcases Sparse.mem_put hc with rfl | hc
    · exact hv
    · exact h.2 c hc

/-- A write keeps the canonical form. -/
theorem Sparse.wf_set [DecidableEq α] {d : Nat → α} {m : Sparse α} (k : Nat) (v : α) (h : Sparse.wf d m = true) :
    Sparse.wf d (Sparse.set d m k v) = true := by
  unfold Sparse.set
  split
  · exact Sparse.wf_erase k h
  · exact Sparse.wf_put h ‹_›

theorem Sparse.wf_foldl_set [DecidableEq α] {d : Nat → α} {β : Type} (l : List β) (k : β → Nat) (v : Sparse α → β → α)
    {m : Sparse α} (h : Sparse.wf d m = true) :
    Sparse.wf d (l.foldl (fun acc c => Sparse.set d acc (k c) (v acc c)) m) = true := by
  induction l generalizing m with
  | nil => exact h
  | cons c l ih => exact ih (Sparse.wf_set _ _ h)

theorem Sparse.wf_overlay [DecidableEq α] {d : Nat → α} {m : Sparse α} (p : Nat → Bool) (m' : Sparse α) (h : Sparse.wf d m = true) :
    Sparse.wf d (Sparse.overlay d p m m') = true := by
  unfold Sparse.overlay
  exact Sparse.wf_foldl_set _ (fun c : Nat × α => c.1) (fun _ c => c.2) (Sparse.wf_dropWhere p h)

/-- Writing a run of values keeps the canonical form. -/
theorem Sparse.wf_splice [DecidableEq α] {d : Nat → α} {m : Sparse α} (a : Nat) (vs : List α) (h : Sparse.wf d m = true) :
    Sparse.wf d (Sparse.splice d m a vs) = true := by
  rw [Sparse.wf_iff] at h ⊢
  unfold Sparse.splice
  have hmid : ∀ c ∈ ((List.range vs.length).zip vs).filterMap (fun c => if c.2 = d (a + c.1) then none else some (a + c.1, c.2)),
      a ≤ c.1 ∧ c.1 < a + vs.length ∧ c.2 ≠ d c.1 := by
    intro c hc
    obtain ⟨e, he, hs⟩ := List.mem_filterMap.mp hc
    have hr : e.1 < vs.length := List.mem_range.mp (List.of_mem_zip (a := e.1) (b := e.2) he).1
    split at hs
    · cases hs
    · cases hs; exact ⟨by simp, by simpa using hr, ‹_›⟩
  refine ⟨?_, ?_⟩
  · rw [List.pairwise_append, List.pairwise_append]
    refine ⟨⟨h.1.filter _, ?_, ?_⟩, h.1.filter _, ?_⟩
    · rw [List.pairwise_filterMap]
      have hp : ((List.range vs.length).zip vs).Pairwise (fun x y => x.1 < y.1) := by
        have : (((List.range vs.length).zip vs).map Prod.fst).Pairwise (· < ·) := by
          rw [List.map_fst_zip (by simp)]
          exact List.pairwise_lt_range
        exact List.pairwise_map.mp this
      refine hp.imp ?_
      intro x y hxy c hc e he
      split at hc
      · cases hc
      · split at he
        · cases he
        · cases hc; cases he; simpa using hxy
    · intro x hx y hy
      have := (List.mem_filter.mp hx).2
      have := (hmid y hy).1
      simp at *; omega
    · intro x hx y hy
      have hy := (List.mem_filter.mp hy).2
      rcases List.mem_append.mp hx with hx | hx
      · have := (List.mem_filter.mp hx).2
        simp at *; omega
      · have := (hmid x hx).2.1
        simp at *; omega
  · intro c hc
    rcases List.mem_append.mp hc with hc | hc
    · rcases List.mem_append.mp hc with hc | hc
      · exact h.2 c (List.mem_filter.mp hc).1
      · exact (hmid c hc).2.2
    · exact h.2 c (List.mem_filter.mp hc).1

end Sys2Proof.Machine
end

