-- ==== Sys2Proof/Laws/State.lean ====
section
/-! SUPPORT. What each update of the device leaves alone: one lemma per field per update. -/

namespace Sys2Proof.Machine

/-! ## One lemma per field per update -/

@[simp] theorem Device.wr_force (d : Device) (off v : Nat) : (d.wr off v).force = d.force := (rfl)
@[simp] theorem Device.wr_bank (d : Device) (off v : Nat) : (d.wr off v).bank = d.bank := (rfl)
@[simp] theorem Device.wr_rdata (d : Device) (off v : Nat) : (d.wr off v).rdata = d.rdata := (rfl)
@[simp] theorem Device.wr_us (d : Device) (off v : Nat) : (d.wr off v).us = d.us := (rfl)
@[simp] theorem Device.wr_free (d : Device) (off v : Nat) : (d.wr off v).free = d.free := (rfl)
@[simp] theorem Device.wr_bridge (d : Device) (off v : Nat) : (d.wr off v).bridge = d.bridge := (rfl)
@[simp] theorem Device.wr_power (d : Device) (off v : Nat) : (d.wr off v).power = d.power := (rfl)
@[simp] theorem Device.wr_boot (d : Device) (off v : Nat) : (d.wr off v).boot = d.boot := (rfl)
@[simp] theorem Device.wr_trans (d : Device) (off v : Nat) : (d.wr off v).trans = d.trans := (rfl)
@[simp] theorem Device.wr_loupeFrom (d : Device) (off v : Nat) : (d.wr off v).loupeFrom = d.loupeFrom := (rfl)
@[simp] theorem Device.wr_hv (d : Device) (off v : Nat) : (d.wr off v).hv = d.hv := (rfl)
@[simp] theorem Device.wr_seg (d : Device) (off v : Nat) : (d.wr off v).seg = d.seg := (rfl)
@[simp] theorem Device.wr_flt (d : Device) (off v : Nat) : (d.wr off v).flt = d.flt := (rfl)
@[simp] theorem Device.wr_mem (d : Device) (off v : Nat) : (d.wr off v).mem = d.mem := (rfl)
@[simp] theorem Device.wr_keep (d : Device) (off v : Nat) : (d.wr off v).keep = d.keep := (rfl)
@[simp] theorem Device.wr_link (d : Device) (off v : Nat) : (d.wr off v).link = d.link := (rfl)
@[simp] theorem Device.wr_act (d : Device) (off v : Nat) : (d.wr off v).act = d.act := (rfl)
@[simp] theorem Device.wr_mir (d : Device) (off v : Nat) : (d.wr off v).mir = d.mir := (rfl)
@[simp] theorem Device.wr_swap (d : Device) (off v : Nat) : (d.wr off v).swap = d.swap := (rfl)
@[simp] theorem Device.wr_srv (d : Device) (off v : Nat) : (d.wr off v).srv = d.srv := (rfl)
@[simp] theorem Device.wr_ras (d : Device) (off v : Nat) : (d.wr off v).ras = d.ras := (rfl)
@[simp] theorem Device.wr_img (d : Device) (off v : Nat) : (d.wr off v).img = d.img := (rfl)
@[simp] theorem Device.wr_dprx (d : Device) (off v : Nat) : (d.wr off v).dprx = d.dprx := (rfl)
@[simp] theorem Device.wr_tap (d : Device) (off v : Nat) : (d.wr off v).tap = d.tap := (rfl)
@[simp] theorem Device.wr_lay (d : Device) (off v : Nat) : (d.wr off v).lay = d.lay := (rfl)
@[simp] theorem Device.wr_trn (d : Device) (off v : Nat) : (d.wr off v).trn = d.trn := (rfl)
@[simp] theorem Device.wr_cmp (d : Device) (off v : Nat) : (d.wr off v).cmp = d.cmp := (rfl)
@[simp] theorem Device.wr_claims (d : Device) (off v : Nat) : (d.wr off v).claims = d.claims := (rfl)
@[simp] theorem Device.wr_mbx (d : Device) (off v : Nat) : (d.wr off v).mbx = d.mbx := (rfl)
@[simp] theorem Device.wr_ik (d : Device) (off v : Nat) : (d.wr off v).ik = d.ik := (rfl)
@[simp] theorem Device.wr_hif (d : Device) (off v : Nat) : (d.wr off v).hif = d.hif := (rfl)
@[simp] theorem Device.wr_clk (d : Device) (off v : Nat) : (d.wr off v).clk = d.clk := (rfl)

@[simp] theorem Device.put_force (d : Device) (f : Fld) (v : Nat) : (d.put f v).force = d.force := (rfl)
@[simp] theorem Device.put_bank (d : Device) (f : Fld) (v : Nat) : (d.put f v).bank = d.bank := (rfl)
@[simp] theorem Device.put_rdata (d : Device) (f : Fld) (v : Nat) : (d.put f v).rdata = d.rdata := (rfl)
@[simp] theorem Device.put_us (d : Device) (f : Fld) (v : Nat) : (d.put f v).us = d.us := (rfl)
@[simp] theorem Device.put_free (d : Device) (f : Fld) (v : Nat) : (d.put f v).free = d.free := (rfl)
@[simp] theorem Device.put_bridge (d : Device) (f : Fld) (v : Nat) : (d.put f v).bridge = d.bridge := (rfl)
@[simp] theorem Device.put_power (d : Device) (f : Fld) (v : Nat) : (d.put f v).power = d.power := (rfl)
@[simp] theorem Device.put_boot (d : Device) (f : Fld) (v : Nat) : (d.put f v).boot = d.boot := (rfl)
@[simp] theorem Device.put_trans (d : Device) (f : Fld) (v : Nat) : (d.put f v).trans = d.trans := (rfl)
@[simp] theorem Device.put_loupeFrom (d : Device) (f : Fld) (v : Nat) : (d.put f v).loupeFrom = d.loupeFrom := (rfl)
@[simp] theorem Device.put_hv (d : Device) (f : Fld) (v : Nat) : (d.put f v).hv = d.hv := (rfl)
@[simp] theorem Device.put_seg (d : Device) (f : Fld) (v : Nat) : (d.put f v).seg = d.seg := (rfl)
@[simp] theorem Device.put_flt (d : Device) (f : Fld) (v : Nat) : (d.put f v).flt = d.flt := (rfl)
@[simp] theorem Device.put_mem (d : Device) (f : Fld) (v : Nat) : (d.put f v).mem = d.mem := (rfl)
@[simp] theorem Device.put_keep (d : Device) (f : Fld) (v : Nat) : (d.put f v).keep = d.keep := (rfl)
@[simp] theorem Device.put_link (d : Device) (f : Fld) (v : Nat) : (d.put f v).link = d.link := (rfl)
@[simp] theorem Device.put_act (d : Device) (f : Fld) (v : Nat) : (d.put f v).act = d.act := (rfl)
@[simp] theorem Device.put_mir (d : Device) (f : Fld) (v : Nat) : (d.put f v).mir = d.mir := (rfl)
@[simp] theorem Device.put_swap (d : Device) (f : Fld) (v : Nat) : (d.put f v).swap = d.swap := (rfl)
@[simp] theorem Device.put_srv (d : Device) (f : Fld) (v : Nat) : (d.put f v).srv = d.srv := (rfl)
@[simp] theorem Device.put_ras (d : Device) (f : Fld) (v : Nat) : (d.put f v).ras = d.ras := (rfl)
@[simp] theorem Device.put_img (d : Device) (f : Fld) (v : Nat) : (d.put f v).img = d.img := (rfl)
@[simp] theorem Device.put_dprx (d : Device) (f : Fld) (v : Nat) : (d.put f v).dprx = d.dprx := (rfl)
@[simp] theorem Device.put_tap (d : Device) (f : Fld) (v : Nat) : (d.put f v).tap = d.tap := (rfl)
@[simp] theorem Device.put_lay (d : Device) (f : Fld) (v : Nat) : (d.put f v).lay = d.lay := (rfl)
@[simp] theorem Device.put_trn (d : Device) (f : Fld) (v : Nat) : (d.put f v).trn = d.trn := (rfl)
@[simp] theorem Device.put_cmp (d : Device) (f : Fld) (v : Nat) : (d.put f v).cmp = d.cmp := (rfl)
@[simp] theorem Device.put_claims (d : Device) (f : Fld) (v : Nat) : (d.put f v).claims = d.claims := (rfl)
@[simp] theorem Device.put_mbx (d : Device) (f : Fld) (v : Nat) : (d.put f v).mbx = d.mbx := (rfl)
@[simp] theorem Device.put_ik (d : Device) (f : Fld) (v : Nat) : (d.put f v).ik = d.ik := (rfl)
@[simp] theorem Device.put_hif (d : Device) (f : Fld) (v : Nat) : (d.put f v).hif = d.hif := (rfl)
@[simp] theorem Device.put_clk (d : Device) (f : Fld) (v : Nat) : (d.put f v).clk = d.clk := (rfl)

@[simp] theorem Device.bump_force (d : Device) (f : Fld) (n : Nat) : (d.bump f n).force = d.force := (rfl)
@[simp] theorem Device.bump_bank (d : Device) (f : Fld) (n : Nat) : (d.bump f n).bank = d.bank := (rfl)
@[simp] theorem Device.bump_rdata (d : Device) (f : Fld) (n : Nat) : (d.bump f n).rdata = d.rdata := (rfl)
@[simp] theorem Device.bump_us (d : Device) (f : Fld) (n : Nat) : (d.bump f n).us = d.us := (rfl)
@[simp] theorem Device.bump_free (d : Device) (f : Fld) (n : Nat) : (d.bump f n).free = d.free := (rfl)
@[simp] theorem Device.bump_bridge (d : Device) (f : Fld) (n : Nat) : (d.bump f n).bridge = d.bridge := (rfl)
@[simp] theorem Device.bump_power (d : Device) (f : Fld) (n : Nat) : (d.bump f n).power = d.power := (rfl)
@[simp] theorem Device.bump_boot (d : Device) (f : Fld) (n : Nat) : (d.bump f n).boot = d.boot := (rfl)
@[simp] theorem Device.bump_trans (d : Device) (f : Fld) (n : Nat) : (d.bump f n).trans = d.trans := (rfl)
@[simp] theorem Device.bump_loupeFrom (d : Device) (f : Fld) (n : Nat) : (d.bump f n).loupeFrom = d.loupeFrom := (rfl)
@[simp] theorem Device.bump_hv (d : Device) (f : Fld) (n : Nat) : (d.bump f n).hv = d.hv := (rfl)
@[simp] theorem Device.bump_seg (d : Device) (f : Fld) (n : Nat) : (d.bump f n).seg = d.seg := (rfl)
@[simp] theorem Device.bump_flt (d : Device) (f : Fld) (n : Nat) : (d.bump f n).flt = d.flt := (rfl)
@[simp] theorem Device.bump_mem (d : Device) (f : Fld) (n : Nat) : (d.bump f n).mem = d.mem := (rfl)
@[simp] theorem Device.bump_keep (d : Device) (f : Fld) (n : Nat) : (d.bump f n).keep = d.keep := (rfl)
@[simp] theorem Device.bump_link (d : Device) (f : Fld) (n : Nat) : (d.bump f n).link = d.link := (rfl)
@[simp] theorem Device.bump_act (d : Device) (f : Fld) (n : Nat) : (d.bump f n).act = d.act := (rfl)
@[simp] theorem Device.bump_mir (d : Device) (f : Fld) (n : Nat) : (d.bump f n).mir = d.mir := (rfl)
@[simp] theorem Device.bump_swap (d : Device) (f : Fld) (n : Nat) : (d.bump f n).swap = d.swap := (rfl)
@[simp] theorem Device.bump_srv (d : Device) (f : Fld) (n : Nat) : (d.bump f n).srv = d.srv := (rfl)
@[simp] theorem Device.bump_ras (d : Device) (f : Fld) (n : Nat) : (d.bump f n).ras = d.ras := (rfl)
@[simp] theorem Device.bump_img (d : Device) (f : Fld) (n : Nat) : (d.bump f n).img = d.img := (rfl)
@[simp] theorem Device.bump_dprx (d : Device) (f : Fld) (n : Nat) : (d.bump f n).dprx = d.dprx := (rfl)
@[simp] theorem Device.bump_tap (d : Device) (f : Fld) (n : Nat) : (d.bump f n).tap = d.tap := (rfl)
@[simp] theorem Device.bump_lay (d : Device) (f : Fld) (n : Nat) : (d.bump f n).lay = d.lay := (rfl)
@[simp] theorem Device.bump_trn (d : Device) (f : Fld) (n : Nat) : (d.bump f n).trn = d.trn := (rfl)
@[simp] theorem Device.bump_cmp (d : Device) (f : Fld) (n : Nat) : (d.bump f n).cmp = d.cmp := (rfl)
@[simp] theorem Device.bump_claims (d : Device) (f : Fld) (n : Nat) : (d.bump f n).claims = d.claims := (rfl)
@[simp] theorem Device.bump_mbx (d : Device) (f : Fld) (n : Nat) : (d.bump f n).mbx = d.mbx := (rfl)
@[simp] theorem Device.bump_ik (d : Device) (f : Fld) (n : Nat) : (d.bump f n).ik = d.ik := (rfl)
@[simp] theorem Device.bump_hif (d : Device) (f : Fld) (n : Nat) : (d.bump f n).hif = d.hif := (rfl)
@[simp] theorem Device.bump_clk (d : Device) (f : Fld) (n : Nat) : (d.bump f n).clk = d.clk := (rfl)

@[simp] theorem Device.wrF_regs (d : Device) (off v : Nat) : (d.wrF off v).regs = d.regs := (rfl)
@[simp] theorem Device.wrF_bank (d : Device) (off v : Nat) : (d.wrF off v).bank = d.bank := (rfl)
@[simp] theorem Device.wrF_rdata (d : Device) (off v : Nat) : (d.wrF off v).rdata = d.rdata := (rfl)
@[simp] theorem Device.wrF_us (d : Device) (off v : Nat) : (d.wrF off v).us = d.us := (rfl)
@[simp] theorem Device.wrF_free (d : Device) (off v : Nat) : (d.wrF off v).free = d.free := (rfl)
@[simp] theorem Device.wrF_bridge (d : Device) (off v : Nat) : (d.wrF off v).bridge = d.bridge := (rfl)
@[simp] theorem Device.wrF_power (d : Device) (off v : Nat) : (d.wrF off v).power = d.power := (rfl)
@[simp] theorem Device.wrF_boot (d : Device) (off v : Nat) : (d.wrF off v).boot = d.boot := (rfl)
@[simp] theorem Device.wrF_trans (d : Device) (off v : Nat) : (d.wrF off v).trans = d.trans := (rfl)
@[simp] theorem Device.wrF_loupeFrom (d : Device) (off v : Nat) : (d.wrF off v).loupeFrom = d.loupeFrom := (rfl)
@[simp] theorem Device.wrF_hv (d : Device) (off v : Nat) : (d.wrF off v).hv = d.hv := (rfl)
@[simp] theorem Device.wrF_seg (d : Device) (off v : Nat) : (d.wrF off v).seg = d.seg := (rfl)
@[simp] theorem Device.wrF_flt (d : Device) (off v : Nat) : (d.wrF off v).flt = d.flt := (rfl)
@[simp] theorem Device.wrF_mem (d : Device) (off v : Nat) : (d.wrF off v).mem = d.mem := (rfl)
@[simp] theorem Device.wrF_keep (d : Device) (off v : Nat) : (d.wrF off v).keep = d.keep := (rfl)
@[simp] theorem Device.wrF_link (d : Device) (off v : Nat) : (d.wrF off v).link = d.link := (rfl)
@[simp] theorem Device.wrF_act (d : Device) (off v : Nat) : (d.wrF off v).act = d.act := (rfl)
@[simp] theorem Device.wrF_mir (d : Device) (off v : Nat) : (d.wrF off v).mir = d.mir := (rfl)
@[simp] theorem Device.wrF_swap (d : Device) (off v : Nat) : (d.wrF off v).swap = d.swap := (rfl)
@[simp] theorem Device.wrF_srv (d : Device) (off v : Nat) : (d.wrF off v).srv = d.srv := (rfl)
@[simp] theorem Device.wrF_ras (d : Device) (off v : Nat) : (d.wrF off v).ras = d.ras := (rfl)
@[simp] theorem Device.wrF_img (d : Device) (off v : Nat) : (d.wrF off v).img = d.img := (rfl)
@[simp] theorem Device.wrF_dprx (d : Device) (off v : Nat) : (d.wrF off v).dprx = d.dprx := (rfl)
@[simp] theorem Device.wrF_tap (d : Device) (off v : Nat) : (d.wrF off v).tap = d.tap := (rfl)
@[simp] theorem Device.wrF_lay (d : Device) (off v : Nat) : (d.wrF off v).lay = d.lay := (rfl)
@[simp] theorem Device.wrF_trn (d : Device) (off v : Nat) : (d.wrF off v).trn = d.trn := (rfl)
@[simp] theorem Device.wrF_cmp (d : Device) (off v : Nat) : (d.wrF off v).cmp = d.cmp := (rfl)
@[simp] theorem Device.wrF_claims (d : Device) (off v : Nat) : (d.wrF off v).claims = d.claims := (rfl)
@[simp] theorem Device.wrF_mbx (d : Device) (off v : Nat) : (d.wrF off v).mbx = d.mbx := (rfl)
@[simp] theorem Device.wrF_ik (d : Device) (off v : Nat) : (d.wrF off v).ik = d.ik := (rfl)
@[simp] theorem Device.wrF_hif (d : Device) (off v : Nat) : (d.wrF off v).hif = d.hif := (rfl)
@[simp] theorem Device.wrF_clk (d : Device) (off v : Nat) : (d.wrF off v).clk = d.clk := (rfl)

@[simp] theorem Device.wrB_regs (d : Device) (m off v : Nat) : (d.wrB m off v).regs = d.regs := (rfl)
@[simp] theorem Device.wrB_force (d : Device) (m off v : Nat) : (d.wrB m off v).force = d.force := (rfl)
@[simp] theorem Device.wrB_rdata (d : Device) (m off v : Nat) : (d.wrB m off v).rdata = d.rdata := (rfl)
@[simp] theorem Device.wrB_us (d : Device) (m off v : Nat) : (d.wrB m off v).us = d.us := (rfl)
@[simp] theorem Device.wrB_free (d : Device) (m off v : Nat) : (d.wrB m off v).free = d.free := (rfl)
@[simp] theorem Device.wrB_bridge (d : Device) (m off v : Nat) : (d.wrB m off v).bridge = d.bridge := (rfl)
@[simp] theorem Device.wrB_power (d : Device) (m off v : Nat) : (d.wrB m off v).power = d.power := (rfl)
@[simp] theorem Device.wrB_boot (d : Device) (m off v : Nat) : (d.wrB m off v).boot = d.boot := (rfl)
@[simp] theorem Device.wrB_trans (d : Device) (m off v : Nat) : (d.wrB m off v).trans = d.trans := (rfl)
@[simp] theorem Device.wrB_loupeFrom (d : Device) (m off v : Nat) : (d.wrB m off v).loupeFrom = d.loupeFrom := (rfl)
@[simp] theorem Device.wrB_hv (d : Device) (m off v : Nat) : (d.wrB m off v).hv = d.hv := (rfl)
@[simp] theorem Device.wrB_seg (d : Device) (m off v : Nat) : (d.wrB m off v).seg = d.seg := (rfl)
@[simp] theorem Device.wrB_flt (d : Device) (m off v : Nat) : (d.wrB m off v).flt = d.flt := (rfl)
@[simp] theorem Device.wrB_mem (d : Device) (m off v : Nat) : (d.wrB m off v).mem = d.mem := (rfl)
@[simp] theorem Device.wrB_keep (d : Device) (m off v : Nat) : (d.wrB m off v).keep = d.keep := (rfl)
@[simp] theorem Device.wrB_link (d : Device) (m off v : Nat) : (d.wrB m off v).link = d.link := (rfl)
@[simp] theorem Device.wrB_act (d : Device) (m off v : Nat) : (d.wrB m off v).act = d.act := (rfl)
@[simp] theorem Device.wrB_mir (d : Device) (m off v : Nat) : (d.wrB m off v).mir = d.mir := (rfl)
@[simp] theorem Device.wrB_swap (d : Device) (m off v : Nat) : (d.wrB m off v).swap = d.swap := (rfl)
@[simp] theorem Device.wrB_srv (d : Device) (m off v : Nat) : (d.wrB m off v).srv = d.srv := (rfl)
@[simp] theorem Device.wrB_ras (d : Device) (m off v : Nat) : (d.wrB m off v).ras = d.ras := (rfl)
@[simp] theorem Device.wrB_img (d : Device) (m off v : Nat) : (d.wrB m off v).img = d.img := (rfl)
@[simp] theorem Device.wrB_dprx (d : Device) (m off v : Nat) : (d.wrB m off v).dprx = d.dprx := (rfl)
@[simp] theorem Device.wrB_tap (d : Device) (m off v : Nat) : (d.wrB m off v).tap = d.tap := (rfl)
@[simp] theorem Device.wrB_lay (d : Device) (m off v : Nat) : (d.wrB m off v).lay = d.lay := (rfl)
@[simp] theorem Device.wrB_trn (d : Device) (m off v : Nat) : (d.wrB m off v).trn = d.trn := (rfl)
@[simp] theorem Device.wrB_cmp (d : Device) (m off v : Nat) : (d.wrB m off v).cmp = d.cmp := (rfl)
@[simp] theorem Device.wrB_claims (d : Device) (m off v : Nat) : (d.wrB m off v).claims = d.claims := (rfl)
@[simp] theorem Device.wrB_mbx (d : Device) (m off v : Nat) : (d.wrB m off v).mbx = d.mbx := (rfl)
@[simp] theorem Device.wrB_ik (d : Device) (m off v : Nat) : (d.wrB m off v).ik = d.ik := (rfl)
@[simp] theorem Device.wrB_hif (d : Device) (m off v : Nat) : (d.wrB m off v).hif = d.hif := (rfl)
@[simp] theorem Device.wrB_clk (d : Device) (m off v : Nat) : (d.wrB m off v).clk = d.clk := (rfl)

@[simp] theorem Device.reply_regs (d : Device) (m v : Nat) : (d.reply m v).regs = d.regs := (rfl)
@[simp] theorem Device.reply_force (d : Device) (m v : Nat) : (d.reply m v).force = d.force := (rfl)
@[simp] theorem Device.reply_bank (d : Device) (m v : Nat) : (d.reply m v).bank = d.bank := (rfl)
@[simp] theorem Device.reply_us (d : Device) (m v : Nat) : (d.reply m v).us = d.us := (rfl)
@[simp] theorem Device.reply_free (d : Device) (m v : Nat) : (d.reply m v).free = d.free := (rfl)
@[simp] theorem Device.reply_bridge (d : Device) (m v : Nat) : (d.reply m v).bridge = d.bridge := (rfl)
@[simp] theorem Device.reply_power (d : Device) (m v : Nat) : (d.reply m v).power = d.power := (rfl)
@[simp] theorem Device.reply_boot (d : Device) (m v : Nat) : (d.reply m v).boot = d.boot := (rfl)
@[simp] theorem Device.reply_trans (d : Device) (m v : Nat) : (d.reply m v).trans = d.trans := (rfl)
@[simp] theorem Device.reply_loupeFrom (d : Device) (m v : Nat) : (d.reply m v).loupeFrom = d.loupeFrom := (rfl)
@[simp] theorem Device.reply_hv (d : Device) (m v : Nat) : (d.reply m v).hv = d.hv := (rfl)
@[simp] theorem Device.reply_seg (d : Device) (m v : Nat) : (d.reply m v).seg = d.seg := (rfl)
@[simp] theorem Device.reply_flt (d : Device) (m v : Nat) : (d.reply m v).flt = d.flt := (rfl)
@[simp] theorem Device.reply_mem (d : Device) (m v : Nat) : (d.reply m v).mem = d.mem := (rfl)
@[simp] theorem Device.reply_keep (d : Device) (m v : Nat) : (d.reply m v).keep = d.keep := (rfl)
@[simp] theorem Device.reply_link (d : Device) (m v : Nat) : (d.reply m v).link = d.link := (rfl)
@[simp] theorem Device.reply_act (d : Device) (m v : Nat) : (d.reply m v).act = d.act := (rfl)
@[simp] theorem Device.reply_mir (d : Device) (m v : Nat) : (d.reply m v).mir = d.mir := (rfl)
@[simp] theorem Device.reply_swap (d : Device) (m v : Nat) : (d.reply m v).swap = d.swap := (rfl)
@[simp] theorem Device.reply_srv (d : Device) (m v : Nat) : (d.reply m v).srv = d.srv := (rfl)
@[simp] theorem Device.reply_ras (d : Device) (m v : Nat) : (d.reply m v).ras = d.ras := (rfl)
@[simp] theorem Device.reply_img (d : Device) (m v : Nat) : (d.reply m v).img = d.img := (rfl)
@[simp] theorem Device.reply_dprx (d : Device) (m v : Nat) : (d.reply m v).dprx = d.dprx := (rfl)
@[simp] theorem Device.reply_tap (d : Device) (m v : Nat) : (d.reply m v).tap = d.tap := (rfl)
@[simp] theorem Device.reply_lay (d : Device) (m v : Nat) : (d.reply m v).lay = d.lay := (rfl)
@[simp] theorem Device.reply_trn (d : Device) (m v : Nat) : (d.reply m v).trn = d.trn := (rfl)
@[simp] theorem Device.reply_cmp (d : Device) (m v : Nat) : (d.reply m v).cmp = d.cmp := (rfl)
@[simp] theorem Device.reply_claims (d : Device) (m v : Nat) : (d.reply m v).claims = d.claims := (rfl)
@[simp] theorem Device.reply_mbx (d : Device) (m v : Nat) : (d.reply m v).mbx = d.mbx := (rfl)
@[simp] theorem Device.reply_ik (d : Device) (m v : Nat) : (d.reply m v).ik = d.ik := (rfl)
@[simp] theorem Device.reply_hif (d : Device) (m v : Nat) : (d.reply m v).hif = d.hif := (rfl)
@[simp] theorem Device.reply_clk (d : Device) (m v : Nat) : (d.reply m v).clk = d.clk := (rfl)

@[simp] theorem Device.drawn_regs (d : Device) : (d.drawn).regs = d.regs := (rfl)
@[simp] theorem Device.drawn_force (d : Device) : (d.drawn).force = d.force := (rfl)
@[simp] theorem Device.drawn_bank (d : Device) : (d.drawn).bank = d.bank := (rfl)
@[simp] theorem Device.drawn_rdata (d : Device) : (d.drawn).rdata = d.rdata := (rfl)
@[simp] theorem Device.drawn_us (d : Device) : (d.drawn).us = d.us := (rfl)
@[simp] theorem Device.drawn_bridge (d : Device) : (d.drawn).bridge = d.bridge := (rfl)
@[simp] theorem Device.drawn_power (d : Device) : (d.drawn).power = d.power := (rfl)
@[simp] theorem Device.drawn_boot (d : Device) : (d.drawn).boot = d.boot := (rfl)
@[simp] theorem Device.drawn_trans (d : Device) : (d.drawn).trans = d.trans := (rfl)
@[simp] theorem Device.drawn_loupeFrom (d : Device) : (d.drawn).loupeFrom = d.loupeFrom := (rfl)
@[simp] theorem Device.drawn_hv (d : Device) : (d.drawn).hv = d.hv := (rfl)
@[simp] theorem Device.drawn_seg (d : Device) : (d.drawn).seg = d.seg := (rfl)
@[simp] theorem Device.drawn_flt (d : Device) : (d.drawn).flt = d.flt := (rfl)
@[simp] theorem Device.drawn_mem (d : Device) : (d.drawn).mem = d.mem := (rfl)
@[simp] theorem Device.drawn_keep (d : Device) : (d.drawn).keep = d.keep := (rfl)
@[simp] theorem Device.drawn_link (d : Device) : (d.drawn).link = d.link := (rfl)
@[simp] theorem Device.drawn_act (d : Device) : (d.drawn).act = d.act := (rfl)
@[simp] theorem Device.drawn_mir (d : Device) : (d.drawn).mir = d.mir := (rfl)
@[simp] theorem Device.drawn_swap (d : Device) : (d.drawn).swap = d.swap := (rfl)
@[simp] theorem Device.drawn_srv (d : Device) : (d.drawn).srv = d.srv := (rfl)
@[simp] theorem Device.drawn_ras (d : Device) : (d.drawn).ras = d.ras := (rfl)
@[simp] theorem Device.drawn_img (d : Device) : (d.drawn).img = d.img := (rfl)
@[simp] theorem Device.drawn_dprx (d : Device) : (d.drawn).dprx = d.dprx := (rfl)
@[simp] theorem Device.drawn_tap (d : Device) : (d.drawn).tap = d.tap := (rfl)
@[simp] theorem Device.drawn_lay (d : Device) : (d.drawn).lay = d.lay := (rfl)
@[simp] theorem Device.drawn_trn (d : Device) : (d.drawn).trn = d.trn := (rfl)
@[simp] theorem Device.drawn_cmp (d : Device) : (d.drawn).cmp = d.cmp := (rfl)
@[simp] theorem Device.drawn_claims (d : Device) : (d.drawn).claims = d.claims := (rfl)
@[simp] theorem Device.drawn_mbx (d : Device) : (d.drawn).mbx = d.mbx := (rfl)
@[simp] theorem Device.drawn_ik (d : Device) : (d.drawn).ik = d.ik := (rfl)
@[simp] theorem Device.drawn_hif (d : Device) : (d.drawn).hif = d.hif := (rfl)
@[simp] theorem Device.drawn_clk (d : Device) : (d.drawn).clk = d.clk := (rfl)

@[simp] theorem Device.latch_force (d : Device) (m space addr code : Nat) : (d.latch m space addr code).force = d.force := by unfold Device.latch; split <;> simp only [Device.wr_force, Device.put_force]
@[simp] theorem Device.latch_bank (d : Device) (m space addr code : Nat) : (d.latch m space addr code).bank = d.bank := by unfold Device.latch; split <;> simp only [Device.wr_bank, Device.put_bank]
@[simp] theorem Device.latch_rdata (d : Device) (m space addr code : Nat) : (d.latch m space addr code).rdata = d.rdata := by unfold Device.latch; split <;> simp only [Device.wr_rdata, Device.put_rdata]
@[simp] theorem Device.latch_us (d : Device) (m space addr code : Nat) : (d.latch m space addr code).us = d.us := by unfold Device.latch; split <;> simp only [Device.wr_us, Device.put_us]
@[simp] theorem Device.latch_free (d : Device) (m space addr code : Nat) : (d.latch m space addr code).free = d.free := by unfold Device.latch; split <;> simp only [Device.wr_free, Device.put_free]
@[simp] theorem Device.latch_bridge (d : Device) (m space addr code : Nat) : (d.latch m space addr code).bridge = d.bridge := by unfold Device.latch; split <;> simp only [Device.wr_bridge, Device.put_bridge]
@[simp] theorem Device.latch_power (d : Device) (m space addr code : Nat) : (d.latch m space addr code).power = d.power := by unfold Device.latch; split <;> simp only [Device.wr_power, Device.put_power]
@[simp] theorem Device.latch_boot (d : Device) (m space addr code : Nat) : (d.latch m space addr code).boot = d.boot := by unfold Device.latch; split <;> simp only [Device.wr_boot, Device.put_boot]
@[simp] theorem Device.latch_trans (d : Device) (m space addr code : Nat) : (d.latch m space addr code).trans = d.trans := by unfold Device.latch; split <;> simp only [Device.wr_trans, Device.put_trans]
@[simp] theorem Device.latch_loupeFrom (d : Device) (m space addr code : Nat) : (d.latch m space addr code).loupeFrom = d.loupeFrom := by unfold Device.latch; split <;> simp only [Device.wr_loupeFrom, Device.put_loupeFrom]
@[simp] theorem Device.latch_hv (d : Device) (m space addr code : Nat) : (d.latch m space addr code).hv = d.hv := by unfold Device.latch; split <;> simp only [Device.wr_hv, Device.put_hv]
@[simp] theorem Device.latch_seg (d : Device) (m space addr code : Nat) : (d.latch m space addr code).seg = d.seg := by unfold Device.latch; split <;> simp only [Device.wr_seg, Device.put_seg]
@[simp] theorem Device.latch_flt (d : Device) (m space addr code : Nat) : (d.latch m space addr code).flt = d.flt := by unfold Device.latch; split <;> simp only [Device.wr_flt, Device.put_flt]
@[simp] theorem Device.latch_mem (d : Device) (m space addr code : Nat) : (d.latch m space addr code).mem = d.mem := by unfold Device.latch; split <;> simp only [Device.wr_mem, Device.put_mem]
@[simp] theorem Device.latch_keep (d : Device) (m space addr code : Nat) : (d.latch m space addr code).keep = d.keep := by unfold Device.latch; split <;> simp only [Device.wr_keep, Device.put_keep]
@[simp] theorem Device.latch_link (d : Device) (m space addr code : Nat) : (d.latch m space addr code).link = d.link := by unfold Device.latch; split <;> simp only [Device.wr_link, Device.put_link]
@[simp] theorem Device.latch_act (d : Device) (m space addr code : Nat) : (d.latch m space addr code).act = d.act := by unfold Device.latch; split <;> simp only [Device.wr_act, Device.put_act]
@[simp] theorem Device.latch_mir (d : Device) (m space addr code : Nat) : (d.latch m space addr code).mir = d.mir := by unfold Device.latch; split <;> simp only [Device.wr_mir, Device.put_mir]
@[simp] theorem Device.latch_swap (d : Device) (m space addr code : Nat) : (d.latch m space addr code).swap = d.swap := by unfold Device.latch; split <;> simp only [Device.wr_swap, Device.put_swap]
@[simp] theorem Device.latch_srv (d : Device) (m space addr code : Nat) : (d.latch m space addr code).srv = d.srv := by unfold Device.latch; split <;> simp only [Device.wr_srv, Device.put_srv]
@[simp] theorem Device.latch_ras (d : Device) (m space addr code : Nat) : (d.latch m space addr code).ras = d.ras := by unfold Device.latch; split <;> simp only [Device.wr_ras, Device.put_ras]
@[simp] theorem Device.latch_img (d : Device) (m space addr code : Nat) : (d.latch m space addr code).img = d.img := by unfold Device.latch; split <;> simp only [Device.wr_img, Device.put_img]
@[simp] theorem Device.latch_dprx (d : Device) (m space addr code : Nat) : (d.latch m space addr code).dprx = d.dprx := by unfold Device.latch; split <;> simp only [Device.wr_dprx, Device.put_dprx]
@[simp] theorem Device.latch_tap (d : Device) (m space addr code : Nat) : (d.latch m space addr code).tap = d.tap := by unfold Device.latch; split <;> simp only [Device.wr_tap, Device.put_tap]
@[simp] theorem Device.latch_lay (d : Device) (m space addr code : Nat) : (d.latch m space addr code).lay = d.lay := by unfold Device.latch; split <;> simp only [Device.wr_lay, Device.put_lay]
@[simp] theorem Device.latch_trn (d : Device) (m space addr code : Nat) : (d.latch m space addr code).trn = d.trn := by unfold Device.latch; split <;> simp only [Device.wr_trn, Device.put_trn]
@[simp] theorem Device.latch_cmp (d : Device) (m space addr code : Nat) : (d.latch m space addr code).cmp = d.cmp := by unfold Device.latch; split <;> simp only [Device.wr_cmp, Device.put_cmp]
@[simp] theorem Device.latch_claims (d : Device) (m space addr code : Nat) : (d.latch m space addr code).claims = d.claims := by unfold Device.latch; split <;> simp only [Device.wr_claims, Device.put_claims]
@[simp] theorem Device.latch_mbx (d : Device) (m space addr code : Nat) : (d.latch m space addr code).mbx = d.mbx := by unfold Device.latch; split <;> simp only [Device.wr_mbx, Device.put_mbx]
@[simp] theorem Device.latch_ik (d : Device) (m space addr code : Nat) : (d.latch m space addr code).ik = d.ik := by unfold Device.latch; split <;> simp only [Device.wr_ik, Device.put_ik]
@[simp] theorem Device.latch_hif (d : Device) (m space addr code : Nat) : (d.latch m space addr code).hif = d.hif := by unfold Device.latch; split <;> simp only [Device.wr_hif, Device.put_hif]
@[simp] theorem Device.latch_clk (d : Device) (m space addr code : Nat) : (d.latch m space addr code).clk = d.clk := by unfold Device.latch; split <;> simp only [Device.wr_clk, Device.put_clk]

@[simp] theorem Device.rejectAt_force (d : Device) (m space addr code : Nat) : (d.rejectAt m space addr code).force = d.force :=
  (Device.bump_force _ _ _).trans (Device.latch_force _ _ _ _ _)
@[simp] theorem Device.rejectAt_bank (d : Device) (m space addr code : Nat) : (d.rejectAt m space addr code).bank = d.bank :=
  (Device.bump_bank _ _ _).trans (Device.latch_bank _ _ _ _ _)
@[simp] theorem Device.rejectAt_rdata (d : Device) (m space addr code : Nat) : (d.rejectAt m space addr code).rdata = d.rdata :=
  (Device.bump_rdata _ _ _).trans (Device.latch_rdata _ _ _ _ _)
@[simp] theorem Device.rejectAt_us (d : Device) (m space addr code : Nat) : (d.rejectAt m space addr code).us = d.us :=
  (Device.bump_us _ _ _).trans (Device.latch_us _ _ _ _ _)
@[simp] theorem Device.rejectAt_free (d : Device) (m space addr code : Nat) : (d.rejectAt m space addr code).free = d.free :=
  (Device.bump_free _ _ _).trans (Device.latch_free _ _ _ _ _)
@[simp] theorem Device.rejectAt_bridge (d : Device) (m space addr code : Nat) : (d.rejectAt m space addr code).bridge = d.bridge :=
  (Device.bump_bridge _ _ _).trans (Device.latch_bridge _ _ _ _ _)
@[simp] theorem Device.rejectAt_power (d : Device) (m space addr code : Nat) : (d.rejectAt m space addr code).power = d.power :=
  (Device.bump_power _ _ _).trans (Device.latch_power _ _ _ _ _)
@[simp] theorem Device.rejectAt_boot (d : Device) (m space addr code : Nat) : (d.rejectAt m space addr code).boot = d.boot :=
  (Device.bump_boot _ _ _).trans (Device.latch_boot _ _ _ _ _)
@[simp] theorem Device.rejectAt_trans (d : Device) (m space addr code : Nat) : (d.rejectAt m space addr code).trans = d.trans :=
  (Device.bump_trans _ _ _).trans (Device.latch_trans _ _ _ _ _)
@[simp] theorem Device.rejectAt_loupeFrom (d : Device) (m space addr code : Nat) : (d.rejectAt m space addr code).loupeFrom = d.loupeFrom :=
  (Device.bump_loupeFrom _ _ _).trans (Device.latch_loupeFrom _ _ _ _ _)
@[simp] theorem Device.rejectAt_hv (d : Device) (m space addr code : Nat) : (d.rejectAt m space addr code).hv = d.hv :=
  (Device.bump_hv _ _ _).trans (Device.latch_hv _ _ _ _ _)
@[simp] theorem Device.rejectAt_seg (d : Device) (m space addr code : Nat) : (d.rejectAt m space addr code).seg = d.seg :=
  (Device.bump_seg _ _ _).trans (Device.latch_seg _ _ _ _ _)
@[simp] theorem Device.rejectAt_flt (d : Device) (m space addr code : Nat) : (d.rejectAt m space addr code).flt = d.flt :=
  (Device.bump_flt _ _ _).trans (Device.latch_flt _ _ _ _ _)
@[simp] theorem Device.rejectAt_mem (d : Device) (m space addr code : Nat) : (d.rejectAt m space addr code).mem = d.mem :=
  (Device.bump_mem _ _ _).trans (Device.latch_mem _ _ _ _ _)
@[simp] theorem Device.rejectAt_keep (d : Device) (m space addr code : Nat) : (d.rejectAt m space addr code).keep = d.keep :=
  (Device.bump_keep _ _ _).trans (Device.latch_keep _ _ _ _ _)
@[simp] theorem Device.rejectAt_link (d : Device) (m space addr code : Nat) : (d.rejectAt m space addr code).link = d.link :=
  (Device.bump_link _ _ _).trans (Device.latch_link _ _ _ _ _)
@[simp] theorem Device.rejectAt_act (d : Device) (m space addr code : Nat) : (d.rejectAt m space addr code).act = d.act :=
  (Device.bump_act _ _ _).trans (Device.latch_act _ _ _ _ _)
@[simp] theorem Device.rejectAt_mir (d : Device) (m space addr code : Nat) : (d.rejectAt m space addr code).mir = d.mir :=
  (Device.bump_mir _ _ _).trans (Device.latch_mir _ _ _ _ _)
@[simp] theorem Device.rejectAt_swap (d : Device) (m space addr code : Nat) : (d.rejectAt m space addr code).swap = d.swap :=
  (Device.bump_swap _ _ _).trans (Device.latch_swap _ _ _ _ _)
@[simp] theorem Device.rejectAt_srv (d : Device) (m space addr code : Nat) : (d.rejectAt m space addr code).srv = d.srv :=
  (Device.bump_srv _ _ _).trans (Device.latch_srv _ _ _ _ _)
@[simp] theorem Device.rejectAt_ras (d : Device) (m space addr code : Nat) : (d.rejectAt m space addr code).ras = d.ras :=
  (Device.bump_ras _ _ _).trans (Device.latch_ras _ _ _ _ _)
@[simp] theorem Device.rejectAt_img (d : Device) (m space addr code : Nat) : (d.rejectAt m space addr code).img = d.img :=
  (Device.bump_img _ _ _).trans (Device.latch_img _ _ _ _ _)
@[simp] theorem Device.rejectAt_dprx (d : Device) (m space addr code : Nat) : (d.rejectAt m space addr code).dprx = d.dprx :=
  (Device.bump_dprx _ _ _).trans (Device.latch_dprx _ _ _ _ _)
@[simp] theorem Device.rejectAt_tap (d : Device) (m space addr code : Nat) : (d.rejectAt m space addr code).tap = d.tap :=
  (Device.bump_tap _ _ _).trans (Device.latch_tap _ _ _ _ _)
@[simp] theorem Device.rejectAt_lay (d : Device) (m space addr code : Nat) : (d.rejectAt m space addr code).lay = d.lay :=
  (Device.bump_lay _ _ _).trans (Device.latch_lay _ _ _ _ _)
@[simp] theorem Device.rejectAt_trn (d : Device) (m space addr code : Nat) : (d.rejectAt m space addr code).trn = d.trn :=
  (Device.bump_trn _ _ _).trans (Device.latch_trn _ _ _ _ _)
@[simp] theorem Device.rejectAt_cmp (d : Device) (m space addr code : Nat) : (d.rejectAt m space addr code).cmp = d.cmp :=
  (Device.bump_cmp _ _ _).trans (Device.latch_cmp _ _ _ _ _)
@[simp] theorem Device.rejectAt_claims (d : Device) (m space addr code : Nat) : (d.rejectAt m space addr code).claims = d.claims :=
  (Device.bump_claims _ _ _).trans (Device.latch_claims _ _ _ _ _)
@[simp] theorem Device.rejectAt_mbx (d : Device) (m space addr code : Nat) : (d.rejectAt m space addr code).mbx = d.mbx :=
  (Device.bump_mbx _ _ _).trans (Device.latch_mbx _ _ _ _ _)
@[simp] theorem Device.rejectAt_ik (d : Device) (m space addr code : Nat) : (d.rejectAt m space addr code).ik = d.ik :=
  (Device.bump_ik _ _ _).trans (Device.latch_ik _ _ _ _ _)
@[simp] theorem Device.rejectAt_hif (d : Device) (m space addr code : Nat) : (d.rejectAt m space addr code).hif = d.hif :=
  (Device.bump_hif _ _ _).trans (Device.latch_hif _ _ _ _ _)
@[simp] theorem Device.rejectAt_clk (d : Device) (m space addr code : Nat) : (d.rejectAt m space addr code).clk = d.clk :=
  (Device.bump_clk _ _ _).trans (Device.latch_clk _ _ _ _ _)

@[simp] theorem Device.reject_force (d : Device) (m off code : Nat) : (d.reject m off code).force = d.force :=
  Device.rejectAt_force _ _ _ _ _
@[simp] theorem Device.reject_bank (d : Device) (m off code : Nat) : (d.reject m off code).bank = d.bank :=
  Device.rejectAt_bank _ _ _ _ _
@[simp] theorem Device.reject_rdata (d : Device) (m off code : Nat) : (d.reject m off code).rdata = d.rdata :=
  Device.rejectAt_rdata _ _ _ _ _
@[simp] theorem Device.reject_us (d : Device) (m off code : Nat) : (d.reject m off code).us = d.us :=
  Device.rejectAt_us _ _ _ _ _
@[simp] theorem Device.reject_free (d : Device) (m off code : Nat) : (d.reject m off code).free = d.free :=
  Device.rejectAt_free _ _ _ _ _
@[simp] theorem Device.reject_bridge (d : Device) (m off code : Nat) : (d.reject m off code).bridge = d.bridge :=
  Device.rejectAt_bridge _ _ _ _ _
@[simp] theorem Device.reject_power (d : Device) (m off code : Nat) : (d.reject m off code).power = d.power :=
  Device.rejectAt_power _ _ _ _ _
@[simp] theorem Device.reject_boot (d : Device) (m off code : Nat) : (d.reject m off code).boot = d.boot :=
  Device.rejectAt_boot _ _ _ _ _
@[simp] theorem Device.reject_trans (d : Device) (m off code : Nat) : (d.reject m off code).trans = d.trans :=
  Device.rejectAt_trans _ _ _ _ _
@[simp] theorem Device.reject_loupeFrom (d : Device) (m off code : Nat) : (d.reject m off code).loupeFrom = d.loupeFrom :=
  Device.rejectAt_loupeFrom _ _ _ _ _
@[simp] theorem Device.reject_hv (d : Device) (m off code : Nat) : (d.reject m off code).hv = d.hv :=
  Device.rejectAt_hv _ _ _ _ _
@[simp] theorem Device.reject_seg (d : Device) (m off code : Nat) : (d.reject m off code).seg = d.seg :=
  Device.rejectAt_seg _ _ _ _ _
@[simp] theorem Device.reject_flt (d : Device) (m off code : Nat) : (d.reject m off code).flt = d.flt :=
  Device.rejectAt_flt _ _ _ _ _
@[simp] theorem Device.reject_mem (d : Device) (m off code : Nat) : (d.reject m off code).mem = d.mem :=
  Device.rejectAt_mem _ _ _ _ _
@[simp] theorem Device.reject_keep (d : Device) (m off code : Nat) : (d.reject m off code).keep = d.keep :=
  Device.rejectAt_keep _ _ _ _ _
@[simp] theorem Device.reject_link (d : Device) (m off code : Nat) : (d.reject m off code).link = d.link :=
  Device.rejectAt_link _ _ _ _ _
@[simp] theorem Device.reject_act (d : Device) (m off code : Nat) : (d.reject m off code).act = d.act :=
  Device.rejectAt_act _ _ _ _ _
@[simp] theorem Device.reject_mir (d : Device) (m off code : Nat) : (d.reject m off code).mir = d.mir :=
  Device.rejectAt_mir _ _ _ _ _
@[simp] theorem Device.reject_swap (d : Device) (m off code : Nat) : (d.reject m off code).swap = d.swap :=
  Device.rejectAt_swap _ _ _ _ _
@[simp] theorem Device.reject_srv (d : Device) (m off code : Nat) : (d.reject m off code).srv = d.srv :=
  Device.rejectAt_srv _ _ _ _ _
@[simp] theorem Device.reject_ras (d : Device) (m off code : Nat) : (d.reject m off code).ras = d.ras :=
  Device.rejectAt_ras _ _ _ _ _
@[simp] theorem Device.reject_img (d : Device) (m off code : Nat) : (d.reject m off code).img = d.img :=
  Device.rejectAt_img _ _ _ _ _
@[simp] theorem Device.reject_dprx (d : Device) (m off code : Nat) : (d.reject m off code).dprx = d.dprx :=
  Device.rejectAt_dprx _ _ _ _ _
@[simp] theorem Device.reject_tap (d : Device) (m off code : Nat) : (d.reject m off code).tap = d.tap :=
  Device.rejectAt_tap _ _ _ _ _
@[simp] theorem Device.reject_lay (d : Device) (m off code : Nat) : (d.reject m off code).lay = d.lay :=
  Device.rejectAt_lay _ _ _ _ _
@[simp] theorem Device.reject_trn (d : Device) (m off code : Nat) : (d.reject m off code).trn = d.trn :=
  Device.rejectAt_trn _ _ _ _ _
@[simp] theorem Device.reject_cmp (d : Device) (m off code : Nat) : (d.reject m off code).cmp = d.cmp :=
  Device.rejectAt_cmp _ _ _ _ _
@[simp] theorem Device.reject_claims (d : Device) (m off code : Nat) : (d.reject m off code).claims = d.claims :=
  Device.rejectAt_claims _ _ _ _ _
@[simp] theorem Device.reject_mbx (d : Device) (m off code : Nat) : (d.reject m off code).mbx = d.mbx :=
  Device.rejectAt_mbx _ _ _ _ _
@[simp] theorem Device.reject_ik (d : Device) (m off code : Nat) : (d.reject m off code).ik = d.ik :=
  Device.rejectAt_ik _ _ _ _ _
@[simp] theorem Device.reject_hif (d : Device) (m off code : Nat) : (d.reject m off code).hif = d.hif :=
  Device.rejectAt_hif _ _ _ _ _
@[simp] theorem Device.reject_clk (d : Device) (m off code : Nat) : (d.reject m off code).clk = d.clk :=
  Device.rejectAt_clk _ _ _ _ _

@[simp] theorem Device.ring_force (d : Device) (m b : Nat) : (d.ring m b).force = d.force := by
  unfold Device.ring; split <;> simp only [Device.wr_force]
@[simp] theorem Device.ring_bank (d : Device) (m b : Nat) : (d.ring m b).bank = d.bank := by
  unfold Device.ring; split <;> simp only [Device.wr_bank]
@[simp] theorem Device.ring_rdata (d : Device) (m b : Nat) : (d.ring m b).rdata = d.rdata := by
  unfold Device.ring; split <;> simp only [Device.wr_rdata]
@[simp] theorem Device.ring_us (d : Device) (m b : Nat) : (d.ring m b).us = d.us := by
  unfold Device.ring; split <;> simp only [Device.wr_us]
@[simp] theorem Device.ring_free (d : Device) (m b : Nat) : (d.ring m b).free = d.free := by
  unfold Device.ring; split <;> simp only [Device.wr_free]
@[simp] theorem Device.ring_bridge (d : Device) (m b : Nat) : (d.ring m b).bridge = d.bridge := by
  unfold Device.ring; split <;> simp only [Device.wr_bridge]
@[simp] theorem Device.ring_power (d : Device) (m b : Nat) : (d.ring m b).power = d.power := by
  unfold Device.ring; split <;> simp only [Device.wr_power]
@[simp] theorem Device.ring_boot (d : Device) (m b : Nat) : (d.ring m b).boot = d.boot := by
  unfold Device.ring; split <;> simp only [Device.wr_boot]
@[simp] theorem Device.ring_trans (d : Device) (m b : Nat) : (d.ring m b).trans = d.trans := by
  unfold Device.ring; split <;> simp only [Device.wr_trans]
@[simp] theorem Device.ring_loupeFrom (d : Device) (m b : Nat) : (d.ring m b).loupeFrom = d.loupeFrom := by
  unfold Device.ring; split <;> simp only [Device.wr_loupeFrom]
@[simp] theorem Device.ring_hv (d : Device) (m b : Nat) : (d.ring m b).hv = d.hv := by
  unfold Device.ring; split <;> simp only [Device.wr_hv]
@[simp] theorem Device.ring_seg (d : Device) (m b : Nat) : (d.ring m b).seg = d.seg := by
  unfold Device.ring; split <;> simp only [Device.wr_seg]
@[simp] theorem Device.ring_flt (d : Device) (m b : Nat) : (d.ring m b).flt = d.flt := by
  unfold Device.ring; split <;> simp only [Device.wr_flt]
@[simp] theorem Device.ring_mem (d : Device) (m b : Nat) : (d.ring m b).mem = d.mem := by
  unfold Device.ring; split <;> simp only [Device.wr_mem]
@[simp] theorem Device.ring_keep (d : Device) (m b : Nat) : (d.ring m b).keep = d.keep := by
  unfold Device.ring; split <;> simp only [Device.wr_keep]
@[simp] theorem Device.ring_link (d : Device) (m b : Nat) : (d.ring m b).link = d.link := by
  unfold Device.ring; split <;> simp only [Device.wr_link]
@[simp] theorem Device.ring_act (d : Device) (m b : Nat) : (d.ring m b).act = d.act := by
  unfold Device.ring; split <;> simp only [Device.wr_act]
@[simp] theorem Device.ring_mir (d : Device) (m b : Nat) : (d.ring m b).mir = d.mir := by
  unfold Device.ring; split <;> simp only [Device.wr_mir]
@[simp] theorem Device.ring_swap (d : Device) (m b : Nat) : (d.ring m b).swap = d.swap := by
  unfold Device.ring; split <;> simp only [Device.wr_swap]
@[simp] theorem Device.ring_srv (d : Device) (m b : Nat) : (d.ring m b).srv = d.srv := by
  unfold Device.ring; split <;> simp only [Device.wr_srv]
@[simp] theorem Device.ring_ras (d : Device) (m b : Nat) : (d.ring m b).ras = d.ras := by
  unfold Device.ring; split <;> simp only [Device.wr_ras]
@[simp] theorem Device.ring_img (d : Device) (m b : Nat) : (d.ring m b).img = d.img := by
  unfold Device.ring; split <;> simp only [Device.wr_img]
@[simp] theorem Device.ring_dprx (d : Device) (m b : Nat) : (d.ring m b).dprx = d.dprx := by
  unfold Device.ring; split <;> simp only [Device.wr_dprx]
@[simp] theorem Device.ring_tap (d : Device) (m b : Nat) : (d.ring m b).tap = d.tap := by
  unfold Device.ring; split <;> simp only [Device.wr_tap]
@[simp] theorem Device.ring_lay (d : Device) (m b : Nat) : (d.ring m b).lay = d.lay := by
  unfold Device.ring; split <;> simp only [Device.wr_lay]
@[simp] theorem Device.ring_trn (d : Device) (m b : Nat) : (d.ring m b).trn = d.trn := by
  unfold Device.ring; split <;> simp only [Device.wr_trn]
@[simp] theorem Device.ring_cmp (d : Device) (m b : Nat) : (d.ring m b).cmp = d.cmp := by
  unfold Device.ring; split <;> simp only [Device.wr_cmp]
@[simp] theorem Device.ring_claims (d : Device) (m b : Nat) : (d.ring m b).claims = d.claims := by
  unfold Device.ring; split <;> simp only [Device.wr_claims]
@[simp] theorem Device.ring_mbx (d : Device) (m b : Nat) : (d.ring m b).mbx = d.mbx := by
  unfold Device.ring; split <;> simp only [Device.wr_mbx]
@[simp] theorem Device.ring_ik (d : Device) (m b : Nat) : (d.ring m b).ik = d.ik := by
  unfold Device.ring; split <;> simp only [Device.wr_ik]
@[simp] theorem Device.ring_hif (d : Device) (m b : Nat) : (d.ring m b).hif = d.hif := by
  unfold Device.ring; split <;> simp only [Device.wr_hif]
@[simp] theorem Device.ring_clk (d : Device) (m b : Nat) : (d.ring m b).clk = d.clk := by
  unfold Device.ring; split <;> simp only [Device.wr_clk]

end Sys2Proof.Machine
end

