-- ==== Sys2Proof/Laws/Regs.lean ====
section
/-! SUPPORT. The laws of registers and fields: a read after a write, fields that do not meet, and the sizes of what is read. -/

namespace Sys2Proof.Machine

/-! ## Bits -/

theorem bitsOf_lt (n hi lo : Nat) : bitsOf n hi lo < 2 ^ (hi + 1 - lo) := Nat.mod_lt _ (Nat.two_pow_pos _)

theorem testBit_bitsOf (n hi lo i : Nat) : (bitsOf n hi lo).testBit i = (decide (i < hi + 1 - lo) && n.testBit (i + lo)) := by
  simp [bitsOf, Nat.testBit_shiftRight, Nat.add_comm]

theorem testBit_setBits {hi lo : Nat} (h : lo ≤ hi) (n v i : Nat) :
    (setBits n hi lo v).testBit i = if i < lo then n.testBit i else if i ≤ hi then v.testBit (i - lo) else n.testBit i := by
  obtain ⟨w, hw⟩ : ∃ w, hi + 1 = lo + w := ⟨hi + 1 - lo, by omega⟩
  have hlow : n % 2 ^ lo < 2 ^ lo := Nat.mod_lt _ (Nat.two_pow_pos _)
  have hv : v % 2 ^ w < 2 ^ w := Nat.mod_lt _ (Nat.two_pow_pos _)
  have hin : 2 ^ lo * (v % 2 ^ w) + n % 2 ^ lo < 2 ^ (lo + w) := by
    rw [Nat.pow_add]
    calc 2 ^ lo * (v % 2 ^ w) + n % 2 ^ lo < 2 ^ lo * (v % 2 ^ w) + 2 ^ lo := by omega
      _ = 2 ^ lo * (v % 2 ^ w + 1) := by rw [Nat.mul_add, Nat.mul_one]
      _ ≤ 2 ^ lo * 2 ^ w := Nat.mul_le_mul_left _ hv
  have he : setBits n hi lo v = 2 ^ (lo + w) * (n / 2 ^ (lo + w)) + (2 ^ lo * (v % 2 ^ w) + n % 2 ^ lo) := by
    unfold setBits
    rw [hw, show lo + w - lo = w by omega, Nat.mul_comm (n / _), Nat.mul_comm (v % _), Nat.add_assoc]
  rw [he, Nat.testBit_two_pow_mul_add _ hin]
  by_cases h1 : i < lo
  · rw [if_pos (by omega), if_pos h1, Nat.testBit_two_pow_mul_add _ hlow, if_pos h1, Nat.testBit_mod_two_pow]
    simp [h1]
  · by_cases h2 : i ≤ hi
    · rw [if_pos (by omega), if_neg h1, if_pos h2, Nat.testBit_two_pow_mul_add _ hlow, if_neg h1, Nat.testBit_mod_two_pow]
      simp [show i - lo < w by omega]
    · rw [if_neg (by omega), if_neg h1, if_neg h2, Nat.testBit_div_two_pow]
      congr 1; omega

/-- Setting bits keeps a word a word. -/
theorem setBits_lt {n hi lo v : Nat} (h : lo ≤ hi) (hh : hi < 32) (hn : n < 2 ^ 32) : setBits n hi lo v < 2 ^ 32 := by
  apply Nat.lt_pow_two_of_testBit
  intro i hi'
  rw [testBit_setBits h, if_neg (by omega), if_neg (by omega)]
  exact Nat.testBit_lt_two_pow (Nat.lt_of_lt_of_le hn (Nat.pow_le_pow_right (by decide) hi'))

/-- The bits set read back. -/
theorem bitsOf_setBits {hi lo : Nat} (h : lo ≤ hi) (n v : Nat) : bitsOf (setBits n hi lo v) hi lo = v % 2 ^ (hi + 1 - lo) := by
  apply Nat.eq_of_testBit_eq
  intro i
  rw [testBit_bitsOf, testBit_setBits h, Nat.testBit_mod_two_pow]
  by_cases hi' : i < hi + 1 - lo
  · rw [if_neg (by omega), if_pos (by omega), Nat.add_sub_cancel]
  · simp [hi']

/-- Bits outside the bits set read as before. -/
theorem bitsOf_setBits_other {hi lo hi' lo' : Nat} (h : lo ≤ hi) (n v : Nat) (hd : hi' < lo ∨ hi < lo') :
    bitsOf (setBits n hi lo v) hi' lo' = bitsOf n hi' lo' := by
  apply Nat.eq_of_testBit_eq
  intro i
  rw [testBit_bitsOf, testBit_bitsOf, testBit_setBits h]
  by_cases hi' : i < hi' + 1 - lo'
  · rcases hd with hd | hd
    · rw [if_pos (by omega)]
    · rw [if_neg (by omega), if_neg (by omega)]
  · simp [hi']

/-! ## Registers -/

theorem Device.rd_lt (d : Device) (off : Nat) : d.rd off < 2 ^ 32 := (Sparse.get resetOf d.regs off).isLt

theorem Device.get_lt (d : Device) (f : Fld) : d.get f < 2 ^ (f.hi + 1 - f.lo) := bitsOf_lt _ _ _

theorem Device.rd_wr (d : Device) (off v o : Nat) : (d.wr off v).rd o = if o = off then v % 2 ^ 32 else d.rd o := by
  simp only [Device.rd, Device.wr, Sparse.get_set]
  split <;> simp

@[simp] theorem Device.rd_wr_same (d : Device) (off v : Nat) : (d.wr off v).rd off = v % 2 ^ 32 := by simp [Device.rd_wr]

theorem Device.rd_wr_ne (d : Device) {off o : Nat} (v : Nat) (h : o ≠ off) : (d.wr off v).rd o = d.rd o := by
  simp [Device.rd_wr, h]

theorem Device.rd_put_ne (d : Device) {f : Fld} {o : Nat} (v : Nat) (h : o ≠ f.off) : (d.put f v).rd o = d.rd o :=
  Device.rd_wr_ne _ _ h

theorem Device.rd_bump_ne (d : Device) {f : Fld} {o : Nat} (n : Nat) (h : o ≠ f.off) : (d.bump f n).rd o = d.rd o :=
  Device.rd_wr_ne _ _ h

theorem Device.get_wr_ne (d : Device) {off : Nat} {f : Fld} (v : Nat) (h : f.off ≠ off) : (d.wr off v).get f = d.get f := by
  simp [Device.get, Device.rd_wr, h]

theorem Device.get_wr_same (d : Device) {off : Nat} {f : Fld} (v : Nat) (h : f.off = off) :
    (d.wr off v).get f = bitsOf (v % 2 ^ 32) f.hi f.lo := by
  simp [Device.get, h]

theorem Device.rd_put_same (d : Device) {f : Fld} (v : Nat) (h : f.lo ≤ f.hi) (hh : f.hi < 32) :
    (d.put f v).rd f.off = setBits (d.rd f.off) f.hi f.lo v := by
  rw [Device.put, Device.rd_wr_same, Nat.mod_eq_of_lt (setBits_lt h hh (d.rd_lt _))]

/-- A field set reads back, modulo its width. -/
theorem Device.get_put_same (d : Device) {f : Fld} (v : Nat) (h : f.lo ≤ f.hi) (hh : f.hi < 32) :
    (d.put f v).get f = v % 2 ^ (f.hi + 1 - f.lo) := by
  rw [Device.get, Device.rd_put_same d v h hh, bitsOf_setBits h]

/-- A field set leaves the fields of other registers alone. -/
theorem Device.get_put_ne (d : Device) {f g : Fld} (v : Nat) (h : g.off ≠ f.off) : (d.put f v).get g = d.get g := by
  rw [Device.get, Device.rd_put_ne d v h, Device.get]

/-- A field set leaves the other fields of its register alone. -/
theorem Device.get_put_other (d : Device) {f g : Fld} (v : Nat) (ho : g.off = f.off) (h : f.lo ≤ f.hi) (hh : f.hi < 32)
    (hd : g.hi < f.lo ∨ f.hi < g.lo) : (d.put f v).get g = d.get g := by
  rw [Device.get, ho, Device.rd_put_same d v h hh, bitsOf_setBits_other h _ _ hd, Device.get, ho]

/-- What a field reads after another field is set: the other's value where it is the same field, and as before where the two do not meet. -/
theorem Device.get_put (d : Device) (f g : Fld) (v : Nat) (h : f.lo ≤ f.hi) (hh : f.hi < 32)
    (hd : g = f ∨ g.off ≠ f.off ∨ g.hi < f.lo ∨ f.hi < g.lo) :
    (d.put f v).get g = if g = f then v % 2 ^ (f.hi + 1 - f.lo) else d.get g := by
  by_cases he : g = f
  · subst he; simp [Device.get_put_same d v h hh]
  · rw [if_neg he]
    by_cases ho : g.off = f.off
    · exact Device.get_put_other d v ho h hh ((hd.resolve_left he).resolve_left (fun hn => hn ho))
    · exact Device.get_put_ne d v ho

/-- A counting field counts, and saturates. -/
theorem Device.get_bump_same (d : Device) {f : Fld} (n : Nat) (h : f.lo ≤ f.hi) (hh : f.hi < 32) :
    (d.bump f n).get f = Nat.min (d.get f + n) (2 ^ (f.hi + 1 - f.lo) - 1) := by
  rw [Device.bump, Device.get_put_same d _ h hh]
  apply Nat.mod_eq_of_lt
  have := Nat.two_pow_pos (f.hi + 1 - f.lo)
  exact Nat.lt_of_le_of_lt (Nat.min_le_right _ _) (by omega)

theorem Device.get_bump_ne (d : Device) {f g : Fld} (n : Nat) (h : g.off ≠ f.off) : (d.bump f n).get g = d.get g :=
  Device.get_put_ne _ _ h

/-! ## Values in force, banked registers and read data -/

theorem Device.rdF_wrF (d : Device) (off v o : Nat) : (d.wrF off v).rdF o = if o = off then v % 2 ^ 32 else d.rdF o := by
  simp only [Device.rdF, Device.wrF, Sparse.get_set]
  split <;> simp

theorem Device.rdB_wrB_same (d : Device) (m off v : Nat) : (d.wrB m off v).rdB m off = v % 2 ^ 32 := by
  simp [Device.rdB, Device.wrB]

theorem Device.rdB_wrB_ne (d : Device) {m off m' off' : Nat} (v : Nat) (h : off' * 16 + m' ≠ off * 16 + m) :
    (d.wrB m off v).rdB m' off' = d.rdB m' off' := by
  simp [Device.rdB, Device.wrB, Sparse.get_set, h]

@[simp] theorem Device.answer_reply_same (d : Device) (m v : Nat) : (d.reply m v).answer m = v % 2 ^ 32 := by
  simp [Device.answer, Device.reply]

theorem Device.answer_reply_ne (d : Device) {m m' : Nat} (v : Nat) (h : m' ≠ m) : (d.reply m v).answer m' = d.answer m' := by
  simp [Device.answer, Device.reply, Sparse.get_set, h]

@[simp] theorem Device.rd_wrF (d : Device) (off v o : Nat) : (d.wrF off v).rd o = d.rd o := (rfl)
@[simp] theorem Device.rd_wrB (d : Device) (m off v o : Nat) : (d.wrB m off v).rd o = d.rd o := (rfl)
@[simp] theorem Device.rd_reply (d : Device) (m v o : Nat) : (d.reply m v).rd o = d.rd o := (rfl)
@[simp] theorem Device.rd_drawn (d : Device) (o : Nat) : d.drawn.rd o = d.rd o := (rfl)
@[simp] theorem Device.get_wrF (d : Device) (off v : Nat) (f : Fld) : (d.wrF off v).get f = d.get f := (rfl)
@[simp] theorem Device.get_wrB (d : Device) (m off v : Nat) (f : Fld) : (d.wrB m off v).get f = d.get f := (rfl)
@[simp] theorem Device.get_reply (d : Device) (m v : Nat) (f : Fld) : (d.reply m v).get f = d.get f := (rfl)
@[simp] theorem Device.rdF_wr (d : Device) (off v o : Nat) : (d.wr off v).rdF o = d.rdF o := (rfl)
@[simp] theorem Device.rdB_wr (d : Device) (off v m o : Nat) : (d.wr off v).rdB m o = d.rdB m o := (rfl)

/-! ## Registers keep the canonical form -/

theorem Device.wr_wf (d : Device) (off v : Nat) (h : Sparse.wf resetOf d.regs = true) : Sparse.wf resetOf (d.wr off v).regs = true :=
  Sparse.wf_set _ _ h

theorem Device.wrF_wf (d : Device) (off v : Nat) (h : Sparse.wf resetOf d.force = true) : Sparse.wf resetOf (d.wrF off v).force = true :=
  Sparse.wf_set _ _ h

theorem Device.wrB_wf (d : Device) (m off v : Nat) (h : Sparse.wf bankDef d.bank = true) : Sparse.wf bankDef (d.wrB m off v).bank = true :=
  Sparse.wf_set _ _ h

/-! ## Checks -/

theorem firstFail_none {l : List (Bool × Nat)} (h : ∀ c ∈ l, c.1 = false) : firstFail l = none := by
  unfold firstFail
  rw [List.filter_eq_nil_iff.mpr (fun c hc => by simp [h c hc])]
  rfl

/-- With the core die on and every check passed, a guarded operation is the operation. -/
theorem Device.guarded_pass {d : Device} {m off : Nat} {l : List (Bool × Nat)} {f : Device → Device}
    (hc : d.power.coreOn = true) (h : ∀ c ∈ l, c.1 = false) : d.guarded m off l f = f d := by
  simp [Device.guarded, hc, firstFail_none h]

/-- With one failing check, it is the rejection with that check's code. -/
theorem Device.guarded_fail {d : Device} {m off c : Nat} {l : List (Bool × Nat)} {f : Device → Device}
    (hc : d.power.coreOn = true) (h : firstFail l = some c) : d.guarded m off l f = d.reject m off c := by
  simp [Device.guarded, hc, h]

/-- Without the core die, nothing happens. -/
theorem Device.guarded_off {d : Device} {m off : Nat} {l : List (Bool × Nat)} {f : Device → Device}
    (hc : d.power.coreOn = false) : d.guarded m off l f = d := by
  simp [Device.guarded, hc]

theorem Device.hvGuarded_pass {d : Device} {m off : Nat} {l : List (Bool × Nat)} {f : Device → Device}
    (hc : d.power.coreOn = true) (hb : d.bridge.lost = false) (h : ∀ c ∈ l, c.1 = false) : d.hvGuarded m off l f = f d := by
  simp [Device.hvGuarded, hc, hb, Device.guarded_pass hc h]

theorem Device.hvGuarded_lost {d : Device} {m off : Nat} {l : List (Bool × Nat)} {f : Device → Device}
    (hc : d.power.coreOn = true) (hb : d.bridge.lost = true) : d.hvGuarded m off l f = d.reject m off eState := by
  simp [Device.hvGuarded, hc, hb]

/-- A guarded operation does nothing, rejects, or operates. -/
theorem Device.guarded_cases (d : Device) (m off : Nat) (l : List (Bool × Nat)) (f : Device → Device) :
    d.guarded m off l f = d ∨ (∃ c, firstFail l = some c ∧ d.guarded m off l f = d.reject m off c) ∨ d.guarded m off l f = f d := by
  unfold Device.guarded
  split
  · exact .inl rfl
  · split
    · exact .inr (.inl ⟨_, ‹_›, rfl⟩)
    · exact .inr (.inr rfl)

end Sys2Proof.Machine
end

