-- ==== Sys2Proof/Laws/Sets.lean ====
section
/-! SUPPORT. How `Device.sets` follows from the updates of the register operations, and what a state after `State.run` is. -/

namespace Sys2Proof.Machine

theorem sets_nil (d : Device) : d.sets d [] := ⟨by simp, by simp, rfl⟩

theorem Fld.apart_comm {f g : Fld} (h : f.apart g) : g.apart f := by
  rcases h with h | h | h
  · exact .inl h.symm
  · exact .inr (.inr h)
  · exact .inr (.inl h)

/-- A field set leaves every field apart from it alone. -/
theorem get_put_apart (d : Device) {f g : Fld} (v : Nat) (h : f.lo ≤ f.hi) (hh : f.hi < 32) (ha : g.apart f) :
    (d.put f v).get g = d.get g := by
  by_cases ho : g.off = f.off
  · exact d.get_put_other v ho h hh (ha.resolve_left (fun hn => hn ho))
  · exact d.get_put_ne v ho

theorem sets_put {b e : Device} {f : Fld} {v : Nat} {l : List (Fld × Nat)} (hs : b.sets e l) (h : f.lo ≤ f.hi) (hh : f.hi < 32)
    (hv : v < 2 ^ (f.hi + 1 - f.lo)) (ha : ∀ p ∈ l, p.1.apart f) : b.sets (e.put f v) (l ++ [(f, v)]) := by
  obtain ⟨h1, h2, h3⟩ := hs
  refine ⟨?_, ?_, ?_⟩
  · intro p hp
    rcases List.mem_append.mp hp with hp | hp
    · rw [get_put_apart e v h hh (ha p hp), h1 p hp]
    · simp only [List.mem_singleton] at hp
      subst hp
      rw [e.get_put_same v h hh, Nat.mod_eq_of_lt hv]
  · intro g hg
    rw [get_put_apart e v h hh (hg (f, v) (by simp)), h2 g (fun p hp => hg p (by simp [hp]))]
  · exact congrArg (fun x : Device => { x with regs := (e.put f v).regs }) h3

/-- A whole register read as a field is the register. -/
@[simp] theorem get_whole (d : Device) (off : Nat) : d.get (whole off) = d.rd off := by
  have h := d.rd_lt off
  simp only [Device.get, whole, bitsOf, Nat.shiftRight_zero]
  exact Nat.mod_eq_of_lt h

theorem sets_wr {b e : Device} {off v : Nat} {l : List (Fld × Nat)} (hs : b.sets e l) (hv : v < 2 ^ 32)
    (ha : ∀ p ∈ l, p.1.off ≠ off) : b.sets (e.wr off v) (l ++ [(whole off, v)]) := by
  obtain ⟨h1, h2, h3⟩ := hs
  refine ⟨?_, ?_, ?_⟩
  · intro p hp
    rcases List.mem_append.mp hp with hp | hp
    · rw [e.get_wr_ne v (ha p hp), h1 p hp]
    · simp only [List.mem_singleton] at hp
      subst hp
      rw [get_whole, Device.rd_wr_same, Nat.mod_eq_of_lt hv]
  · intro g hg
    rw [← h2 g (fun p hp => hg p (by simp [hp]))]
    rcases hg (whole off, v) (by simp) with ho | ho | ho
    · exact e.get_wr_ne v ho
    · simp [whole] at ho
    · simp only [whole] at ho
      have hz : ∀ n : Nat, n < 2 ^ 32 → bitsOf n g.hi g.lo = 0 := fun n hn => by
        have : n >>> g.lo = 0 := by
          rw [Nat.shiftRight_eq_div_pow]
          exact Nat.div_eq_of_lt (Nat.lt_of_lt_of_le hn (Nat.pow_le_pow_right (by decide) ho))
        simp [bitsOf, this]
      rw [Device.get, Device.get, hz _ (Device.rd_lt _ _), hz _ (Device.rd_lt _ _)]
  · exact congrArg (fun x : Device => { x with regs := (e.wr off v).regs }) h3

theorem sets_bump {b e : Device} {f : Fld} {n : Nat} {l : List (Fld × Nat)} (hs : b.sets e l) (h : f.lo ≤ f.hi) (hh : f.hi < 32)
    (ha : ∀ p ∈ l, p.1.apart f) : b.sets (e.bump f n) (l ++ [(f, Nat.min (e.get f + n) (2 ^ (f.hi + 1 - f.lo) - 1))]) := by
  refine sets_put hs h hh ?_ ha
  have := Nat.two_pow_pos (f.hi + 1 - f.lo)
  exact Nat.lt_of_le_of_lt (Nat.min_le_right _ _) (by omega)

/-! ## The same, last update first -/

/-- The order in which the fields are listed does not matter. -/
theorem sets_of_mem {b e : Device} {l l' : List (Fld × Nat)} (h : ∀ p, p ∈ l ↔ p ∈ l') (hs : b.sets e l) : b.sets e l' :=
  ⟨fun p hp => hs.1 p ((h p).mpr hp), fun g hg => hs.2.1 g (fun p hp => hg p ((h p).mp hp)), hs.2.2⟩

theorem sets_of_reverse {b e : Device} {l : List (Fld × Nat)} (hs : b.sets e l.reverse) : b.sets e l :=
  sets_of_mem (fun _ => List.mem_reverse) hs

theorem sets_cons_put {b e : Device} {f : Fld} {v w : Nat} {l : List (Fld × Nat)} (hs : b.sets e l) (h : f.lo ≤ f.hi) (hh : f.hi < 32)
    (hv : v % 2 ^ (f.hi + 1 - f.lo) = w) (ha : ∀ p ∈ l, p.1.apart f) : b.sets (e.put f v) ((f, w) :: l) := by
  subst hv
  have hp : e.put f v = e.put f (v % 2 ^ (f.hi + 1 - f.lo)) := by simp [Device.put, setBits]
  rw [hp]
  refine sets_of_mem (fun p => ?_) (sets_put hs h hh (Nat.mod_lt _ (Nat.two_pow_pos _)) ha)
  simp [or_comm]

theorem sets_cons_wr {b e : Device} {off v w : Nat} {l : List (Fld × Nat)} (hs : b.sets e l) (hv : v % 2 ^ 32 = w)
    (ha : ∀ p ∈ l, p.1.off ≠ off) : b.sets (e.wr off v) ((whole off, w) :: l) := by
  subst hv
  have hp : e.wr off v = e.wr off (v % 2 ^ 32) := by
    have : Word.of v = Word.of (v % 2 ^ 32) := BitVec.eq_of_toNat_eq (by simp [Word.of])
    rw [Device.wr, this, Device.wr]
  rw [hp]
  refine sets_of_mem (fun p => ?_) (sets_wr hs (Nat.mod_lt _ (Nat.two_pow_pos _)) ha)
  simp [or_comm]

theorem sets_cons_bump {b e : Device} {f : Fld} {n w : Nat} {l : List (Fld × Nat)} (hs : b.sets e l) (h : f.lo ≤ f.hi) (hh : f.hi < 32)
    (hv : Nat.min (b.get f + n) (2 ^ (f.hi + 1 - f.lo) - 1) = w) (ha : ∀ p ∈ l, p.1.apart f) : b.sets (e.bump f n) ((f, w) :: l) := by
  have hb : e.get f = b.get f := hs.2.1 f (fun p hp => Fld.apart_comm (ha p hp))
  refine sets_cons_put hs h hh ?_ ha
  rw [hb, hv]
  have := Nat.two_pow_pos (f.hi + 1 - f.lo)
  exact Nat.mod_eq_of_lt (hv ▸ Nat.lt_of_le_of_lt (Nat.min_le_right _ _) (by omega))

/-- Setting a component besides the registers before or after makes no difference to the registers. -/
theorem sets_get {b e : Device} {l : List (Fld × Nat)} (hs : b.sets e l) {g : Fld} (hg : ∀ p ∈ l, g.apart p.1) : e.get g = b.get g :=
  hs.2.1 g hg

/-- What a command that acts on the device alone answers. -/
theorem run_next (s : State) (f : Device → Device) : s.run f = .next { s with toDevice := f s.toDevice } := rfl

theorem yields_run {i : Instr} {s : State} {P : Device → Prop} {f : Device → Device} (h : exec i s = s.run f) (hp : P (f s.toDevice)) :
    Yields i s P := ⟨f s.toDevice, h, hp⟩

end Sys2Proof.Machine
end

