-- ==== Sys2Proof/Laws/Records.lean ====
section
/-! SUPPORT. Registers inside a device written out field by field: a device built on another's registers reads and writes them as the other does. -/

namespace Sys2Proof.Machine

variable (d e : Device)
variable {force bank rdata : Sparse Word} {us free : Nat} {bridge : Bridge} {power : Power} {boot : Boot} {trans : Option Trans}
variable {loupeFrom : Nat} {hv : Hv} {seg : Glass} {flt : Faults} {mem : Mem} {keep : Keep} {link : Link} {act mir : PrismSet}
variable {swap : Swap} {srv : Survey} {ras : Raster} {img : Img} {dprx : Sparse PortX} {tap : Tap} {lay : Layers} {trn : Trn}
variable {cmp : Cmp} {claims : List RunClaim} {mbx : Mbx} {ik : Ikiush} {hif : Hif} {clk : Clk}

/-- The registers of `d`, and everything else as listed. -/
@[simp] theorem mk_rd (o : Nat) : (Device.mk d.regs force bank rdata us free bridge power boot trans loupeFrom hv seg flt mem keep link act mir swap srv ras img dprx tap lay trn cmp claims mbx ik hif clk).rd o = d.rd o := (rfl)
@[simp] theorem mk_get (f : Fld) : (Device.mk d.regs force bank rdata us free bridge power boot trans loupeFrom hv seg flt mem keep link act mir swap srv ras img dprx tap lay trn cmp claims mbx ik hif clk).get f = d.get f := (rfl)
@[simp] theorem mk_put (f : Fld) (v : Nat) :
    (Device.mk d.regs force bank rdata us free bridge power boot trans loupeFrom hv seg flt mem keep link act mir swap srv ras img dprx tap lay trn cmp claims mbx ik hif clk).put f v = (Device.mk (d.put f v).regs force bank rdata us free bridge power boot trans loupeFrom hv seg flt mem keep link act mir swap srv ras img dprx tap lay trn cmp claims mbx ik hif clk) := (rfl)
@[simp] theorem mk_wr (o v : Nat) :
    (Device.mk d.regs force bank rdata us free bridge power boot trans loupeFrom hv seg flt mem keep link act mir swap srv ras img dprx tap lay trn cmp claims mbx ik hif clk).wr o v = (Device.mk (d.wr o v).regs force bank rdata us free bridge power boot trans loupeFrom hv seg flt mem keep link act mir swap srv ras img dprx tap lay trn cmp claims mbx ik hif clk) := (rfl)
@[simp] theorem mk_bump (f : Fld) (n : Nat) :
    (Device.mk d.regs force bank rdata us free bridge power boot trans loupeFrom hv seg flt mem keep link act mir swap srv ras img dprx tap lay trn cmp claims mbx ik hif clk).bump f n = (Device.mk (d.bump f n).regs force bank rdata us free bridge power boot trans loupeFrom hv seg flt mem keep link act mir swap srv ras img dprx tap lay trn cmp claims mbx ik hif clk) := (rfl)

/-- A component set beside the registers takes part in neither side. -/
theorem mk_sets {l : List (Fld × Nat)} (h : d.sets e l) :
    (Device.mk d.regs force bank rdata us free bridge power boot trans loupeFrom hv seg flt mem keep link act mir swap srv ras img dprx tap lay trn cmp claims mbx ik hif clk).sets (Device.mk e.regs force bank rdata us free bridge power boot trans loupeFrom hv seg flt mem keep link act mir swap srv ras img dprx tap lay trn cmp claims mbx ik hif clk) l :=
  ⟨fun p hp => h.1 p hp, fun g hg => h.2.1 g hg, rfl⟩

theorem sets_mk {l : List (Fld × Nat)} (h : d.sets e l) {r : Device} (hr : r = (Device.mk d.regs force bank rdata us free bridge power boot trans loupeFrom hv seg flt mem keep link act mir swap srv ras img dprx tap lay trn cmp claims mbx ik hif clk)) :
    r.sets (Device.mk e.regs force bank rdata us free bridge power boot trans loupeFrom hv seg flt mem keep link act mir swap srv ras img dprx tap lay trn cmp claims mbx ik hif clk) l := by
  subst hr
  exact mk_sets d e h

end Sys2Proof.Machine
end

