-- ==== Sys2Proof/Laws/Newt.lean ====
section
/-! SUPPORT. What leaves the mode alone, and the ways into NEWT: operations that keep the mode, its transition and the power of the core die, and that an S3 fault and the entry to NEWT end in NEWT with no transition. -/

namespace Sys2Proof.Machine

set_option linter.unusedSimpArgs false
set_option linter.unreachableTactic false
set_option linter.unusedTactic false
set_option linter.unusedVariables false

/-- The mode, its transition and the power of the core die stay. -/
structure Calm where
  mode : Nat
  trans : Option Trans
  power : Power
  bscan : Bool
def Device.calm (d : Device) : Calm := ⟨d.rd GLB_MODE, d.trans, d.power, d.hif.bscan⟩

@[simp] theorem calm_put (d : Device) (f v) (h : GLB_MODE ≠ f.off) : (d.put f v).calm = d.calm := by
  simp [Device.calm, Device.rd_put_ne d v h]
@[simp] theorem calm_bump (d : Device) (f v) (h : GLB_MODE ≠ f.off) : (d.bump f v).calm = d.calm := by
  simp [Device.calm, Device.rd_bump_ne d v h]
@[simp] theorem calm_wr (d : Device) (f v) (h : GLB_MODE ≠ f) : (d.wr f v).calm = d.calm := by
  simp [Device.calm, Device.rd_wr_ne d v h]
@[simp] theorem calm_wrF (d : Device) (f v) : (d.wrF f v).calm = d.calm := by
  simp [Device.calm]
@[simp] theorem calm_wrB (d : Device) (f v m) : (d.wrB m f v).calm = d.calm := by
  simp [Device.calm]
@[simp] theorem calm_eachOf {α : Type} (l : List α) (f : α → Device → Device) (h : ∀ a d, (f a d).calm = d.calm) (d : Device) : (eachOf l f d).calm = d.calm := by
  unfold eachOf
  induction l generalizing d with
  | nil => rfl
  | cons a l ih => rw [List.foldl_cons, ih, h]
@[simp] theorem calm_ite (c : Prop) [Decidable c] (a b : Device) : (if c then a else b).calm = if c then a.calm else b.calm := by split <;> rfl

@[simp low] theorem calm_mk (d : Device) (force : Sparse Word) (bank : Sparse Word) (rdata : Sparse Word) (us : Nat) (free : Nat) (bridge : Bridge) (power : Power) (boot : Boot) (trans : Option Trans) (loupeFrom : Nat) (hv : Hv) (seg : Glass) (flt : Faults) (mem : Mem) (keep : Keep) (link : Link) (act : PrismSet) (mir : PrismSet) (swap : Swap) (srv : Survey) (ras : Raster) (img : Img) (dprx : Sparse PortX) (tap : Tap) (lay : Layers) (trn : Trn) (cmp : Cmp) (claims : List RunClaim) (mbx : Mbx) (ik : Ikiush) (hif : Hif) (clk : Clk) : (Device.mk d.regs force bank rdata us free bridge power boot trans loupeFrom hv seg flt mem keep link act mir swap srv ras img dprx tap lay trn cmp claims mbx ik hif clk).calm = ⟨d.calm.mode, trans, power, hif.bscan⟩ := by
  simp [Device.calm]
@[simp] theorem calm_eta (d : Device) : (⟨d.calm.mode, d.trans, d.power, d.hif.bscan⟩ : Calm) = d.calm := (rfl)
@[simp] theorem calm_mk' (d : Device) (force : Sparse Word) (bank : Sparse Word) (rdata : Sparse Word) (us : Nat) (free : Nat) (bridge : Bridge) (boot : Boot) (loupeFrom : Nat) (hv : Hv) (seg : Glass) (flt : Faults) (mem : Mem) (keep : Keep) (link : Link) (act : PrismSet) (mir : PrismSet) (swap : Swap) (srv : Survey) (ras : Raster) (img : Img) (dprx : Sparse PortX) (tap : Tap) (lay : Layers) (trn : Trn) (cmp : Cmp) (claims : List RunClaim) (mbx : Mbx) (ik : Ikiush) (clk : Clk) : (Device.mk d.regs force bank rdata us free bridge d.power boot d.trans loupeFrom hv seg flt mem keep link act mir swap srv ras img dprx tap lay trn cmp claims mbx ik d.hif clk).calm = d.calm := by
  simp [Device.calm]
@[simp] theorem glb_ne_ACL_RET_STAT (a : Nat) : ¬ GLB_MODE = ACL_RET_STAT a := by unfold ACL_RET_STAT GLB_MODE; omega
@[simp] theorem glb_ne_ACL_LANE_STAT (a : Nat) : ¬ GLB_MODE = ACL_LANE_STAT a := by unfold ACL_LANE_STAT GLB_MODE; omega
@[simp] theorem glb_ne_ACL_SPARE (a : Nat) : ¬ GLB_MODE = ACL_SPARE a := by unfold ACL_SPARE GLB_MODE; omega
@[simp] theorem glb_ne_ACL_LANE_EVT (a : Nat) : ¬ GLB_MODE = ACL_LANE_EVT a := by unfold ACL_LANE_EVT GLB_MODE; omega
@[simp] theorem glb_ne_MEM_RGN_BASE (a : Nat) : ¬ GLB_MODE = MEM_RGN_BASE a := by unfold MEM_RGN_BASE GLB_MODE; omega
@[simp] theorem glb_ne_ACL_RET_EVT (a : Nat) : ¬ GLB_MODE = ACL_RET_EVT a := by unfold ACL_RET_EVT GLB_MODE; omega
@[simp] theorem glb_ne_FLT_LAT (a : Nat) : ¬ GLB_MODE = FLT_LAT a := by unfold FLT_LAT GLB_MODE; omega
theorem eachOf_calm {α : Type} (l : List α) (f : α → Device → Device) (h : ∀ a d, (f a d).calm = d.calm) (d : Device) : (eachOf l f d).calm = d.calm := calm_eachOf l f h d
@[simp] theorem setLane_calm (d : Device) (n x) : (d.setLane n x).calm = d.calm := by simp [Device.setLane]
@[simp] theorem setRet_calm (d : Device) (n x) : (d.setRet n x).calm = d.calm := by simp [Device.setRet]
@[simp] theorem sendCtl_calm (d : Device) (a b c e f) : (d.sendCtl a b c e f).calm = d.calm := by simp [Device.sendCtl]
@[simp] theorem broadcastCtl_calm (d : Device) (a b) : (d.broadcastCtl a b).calm = d.calm := by simp [Device.broadcastCtl]
@[simp] theorem kDirty_calm (d : Device) (a) : (d.kDirty a).calm = d.calm := by unfold Device.kDirty Device.kSync; split <;> simp
@[simp] theorem kWr_calm (d : Device) (a b) : (d.kWr a b).calm = d.calm := by
  unfold Device.kWr; simp
@[simp] theorem logAppend_calm (d : Device) (a) : (d.logAppend a).calm = d.calm := by unfold Device.logAppend; split <;> simp
@[simp] theorem logEntry_calm (d : Device) (a b c e f) : (d.logEntry a b c e f).calm = d.calm := by simp [Device.logEntry]
@[simp] theorem ctrEnqueue_calm (d : Device) (a) : (d.ctrEnqueue a).calm = d.calm := by unfold Device.ctrEnqueue; split <;> simp
@[simp] theorem ctrAdd_calm (d : Device) (a b) : (d.ctrAdd a b).calm = d.calm := by unfold Device.ctrAdd; split <;> simp
@[simp] theorem grow_calm (d : Device) (a b) : (d.grow a b).calm = d.calm := by unfold Device.grow; simp
@[simp] theorem spoil_calm (d : Device) (a) : (d.spoil a).calm = d.calm := by unfold Device.spoil; simp
@[simp] theorem fltLog_calm (d : Device) (a b c e f g) : (d.fltLog a b c e f g).calm = d.calm := by unfold Device.fltLog; simp
@[simp] theorem degrSync_calm (d : Device) : d.degrSync.calm = d.calm := by unfold Device.degrSync; simp
@[simp] theorem fltSync_calm (d : Device) : d.fltSync.calm = d.calm := by
  unfold Device.fltSync
  simp only
  split <;> split <;> simp
@[simp] theorem fltOpen_calm (d : Device) (r) : (d.fltOpen r).calm = d.calm := by unfold Device.fltOpen; simp
@[simp] theorem senseCut_calm (d : Device) : d.senseCut.calm = d.calm := by unfold Device.senseCut; simp
@[simp] theorem disOpen_calm (d : Device) : d.disOpen.calm = d.calm := by unfold Device.disOpen; simp
@[simp] theorem disStart_calm (d : Device) (b) : (d.disStart b).calm = d.calm := by
  unfold Device.disStart
  split
  · split <;> simp
  · simp
@[simp] theorem segCode_calm (d : Device) (a b) : (d.segCode a b).calm = d.calm := by unfold Device.segCode; simp
@[simp] theorem planesExchange_calm (d : Device) : d.planesExchange.calm = d.calm := by unfold Device.planesExchange; simp
@[simp] theorem rampEnd_calm (d : Device) : d.rampEnd.calm = d.calm := by unfold Device.rampEnd; simp
@[simp] theorem surveyAbandon_calm (d : Device) : d.surveyAbandon.calm = d.calm := by unfold Device.surveyAbandon; simp
@[simp] theorem swapDiscard_calm (d : Device) : d.swapDiscard.calm = d.calm := by unfold Device.swapDiscard; simp
@[simp] theorem leaveTadpole_calm (d : Device) : d.leaveTadpole.calm = d.calm := by unfold Device.leaveTadpole; simp
@[simp] theorem newtHold_calm (d : Device) : d.newtHold.calm = d.calm := by unfold Device.newtHold; simp
@[simp] theorem newtAfterDis_calm (d : Device) : d.newtAfterDis.calm = d.calm := by unfold Device.newtAfterDis; simp
@[simp] theorem newtAccount_calm (d : Device) : d.newtAccount.calm = d.calm := by
  unfold Device.newtAccount
  split <;> simp
@[simp] theorem silence_calm (d : Device) (a b) : (d.silence a b).calm = d.calm := by
  unfold Device.silence
  simp only
  rw [calm_put, setRet_calm, eachOf_calm]
  · intro a d; split <;> simp
  · simp
@[simp] theorem contain_calm (d : Device) (f) : (d.contain f).calm = d.calm := by
  unfold Device.contain
  repeat' split
  all_goals simp
@[simp] theorem recoveryDone_calm (d : Device) (b) : (d.recoveryDone b).calm = d.calm := by
  unfold Device.recoveryDone
  split
  · rfl
  · simp only
    split <;> simp

@[simp] theorem fltRecord_calm (d : Device) (a b) : (d.fltRecord a b).calm = d.calm := by
  unfold Device.fltRecord; simp
@[simp] theorem escalated_calm (d : Device) (a b c) : (d.escalated a b c).calm = d.calm := by
  unfold Device.escalated; simp

theorem inNewt_of_calm {d e : Device} (h : e.calm = d.calm) (hd : d.inNewt) : e.inNewt := by
  have h1 : e.rd GLB_MODE = d.rd GLB_MODE := congrArg Calm.mode h
  have h2 : e.trans = d.trans := congrArg Calm.trans h
  exact ⟨by rw [← hd.1, Device.mode, Device.get, h1, Device.mode, Device.get], by rw [h2, hd.2]⟩
theorem power_of_calm {d e : Device} (h : e.calm = d.calm) : e.power = d.power := congrArg Calm.power h
theorem mode_of_calm {d e : Device} (h : e.calm = d.calm) : e.mode = d.mode := by
  have h1 : e.rd GLB_MODE = d.rd GLB_MODE := congrArg Calm.mode h
  rw [Device.mode, Device.get, h1, Device.mode, Device.get]

theorem setMode_inNewt (d : Device) (c : Nat) (h : d.trans = none) : (d.setMode 5 c).inNewt := by
  unfold Device.setMode Device.inNewt
  simp [Device.get_put_same, Device.get_put_ne, Device.get_put_other, Device.get_wr_ne, Device.get_bump_ne, Device.rd_wr_ne, Device.rd_put_ne, Device.mode, h]


theorem newtEntry_inNewt (d : Device) (f : Flt) (c : Nat) : (d.newtEntry f c).inNewt := by
  unfold Device.newtEntry
  lift_lets
  intro prev d1 d2 d3 aborted src d4 d5 d6
  have h5 : d5.trans = none := by simp only [d5]; split <;> simp [d4]
  clear_value d5
  have hz : d6.inNewt := setMode_inNewt d5 _ h5
  clear_value d6
  refine inNewt_of_calm (d := d6) ?_ hz
  repeat (first
    | (intro x; have hx : Device.calm x = Device.calm d6 := (by simp [x, *]); clear_value x)
    | (intro x; clear_value x)
    | lift_lets)
  simp [*]

@[simp] theorem attemptFail_calm (d : Device) (e) (ht : d.trans = none) (hs : d.flt.step = 0) : (d.attemptFail e).calm = d.calm := by
  unfold Device.attemptFail; simp [hs]

theorem raise_inNewt (d : Device) (f : Flt) (x : Nat) (hc : d.power.coreOn = true) (hk : f.kind ≠ 2 ∧ f.kind ≠ 3) (hs : f.sev = 3) (hm : d.mode ≠ 5) : (d.raise f x).inNewt := by
  unfold Device.raise
  have hm' : (d.fltRecord f x).mode ≠ 5 := by rwa [mode_of_calm (fltRecord_calm d f x)]
  simp only [hc, hk, hs, hm', or_false, and_false, if_false, Bool.not_true, Bool.false_eq_true, if_true]
  split
  · exact newtEntry_inNewt _ _ _
  · split <;> exact newtEntry_inNewt _ _ _

theorem afterDischarge_inNewt (d : Device) (h : d.inNewt) : d.afterDischarge.inNewt := by
  unfold Device.afterDischarge
  split
  · exact h
  · rw [h.2]
    dsimp -zeta only
    split
    · refine inNewt_of_calm ?_ h
      repeat (first
    | (intro x; have hx : Device.calm x = Device.calm d := (by simp [x, *]); clear_value x)
    | (intro x; clear_value x)
    | lift_lets)
      simp [*]
    · exact h
@[simp] theorem disFinish_calm (d : Device) : d.disFinish.calm = d.calm := by unfold Device.disFinish; simp
@[simp] theorem bleedGo_calm (d : Device) : d.bleedGo.calm = d.calm := by unfold Device.bleedGo; split <;> simp

theorem hvFault_inNewt (d : Device) (a b c i) (hc : d.power.coreOn = true) (hm : d.mode ≠ 5) (hk : fltKind c ≠ 2 ∧ fltKind c ≠ 3) (hs : fltSev c = 3) : (d.hvFault a b c i).inNewt := by
  unfold Device.hvFault Device.raiseCode
  lift_lets
  intro y1
  have h1 : y1.calm = d.calm := by simp [y1]
  clear_value y1
  intro y2
  have h2 : y2.calm = d.calm := by simp [y2, h1]
  clear_value y2
  exact raise_inNewt _ _ _ (by rw [power_of_calm h2, hc]) hk hs (by rwa [mode_of_calm h2])
end Sys2Proof.Machine
end

