-- ==== Sys2Proof/Laws/Ops.lean ====
section
/-! SUPPORT. What the shared operations do, each said once: rejecting an access, answering a read, storing bytes in Keep. -/

namespace Sys2Proof.Machine

theorem bump_regs (d : Device) (f : Fld) (n : Nat) : d.bump f n = { d with regs := (d.bump f n).regs } := (rfl)

/-- Latching changes the two latch registers of its master alone. -/
theorem latch_get (d : Device) (m : Master) (space addr code : Nat) (g : Fld) (h1 : g.off ≠ ERR_VIEW_CODE m) (h2 : g.off ≠ ERR_VIEW_ADDR m) :
    (d.latch m space addr code).get g = d.get g := by
  unfold Device.latch
  split
  · rw [Device.get_wr_ne _ _ h2, Device.get_wr_ne _ _ h1]
  · exact Device.get_put_ne _ _ h1

/-- A rejected access: the latch, the count, and nothing else (R15). -/
theorem rejectAt_rejects (d : Device) (m : Master) (space addr code : Nat) (hc : code + space * 0x1000 < 2 ^ 32) (ha : addr < 2 ^ 32) :
    d.rejects (d.rejectAt m space addr code) m space addr code := by
  have n1 : ERR_VIEW_CODE m ≠ ERR_VIEW_ADDR m := by unfold ERR_VIEW_CODE ERR_VIEW_ADDR; omega
  have n2 : ERR_VIEW_CODE m ≠ (ERR_CNT_cnt m).off := by have := m.isLt; simp only [ERR_CNT, ERR_VIEW_CODE]; omega
  have n3 : ERR_VIEW_ADDR m ≠ (ERR_CNT_cnt m).off := by have := m.isLt; simp only [ERR_CNT, ERR_VIEW_ADDR]; omega
  refine ⟨?_, ?_, ?_, ?_, ?_⟩
  · rw [Device.rejectAt, Device.get_bump_same _ _ (by simp) (by simp), latch_get _ _ _ _ _ _ n2.symm n3.symm]
    simp
  · intro h
    simp only [Device.rejectAt, Device.latch, h, if_true]
    rw [Device.rd_bump_ne _ _ n2, Device.rd_bump_ne _ _ n3, Device.rd_wr_ne _ _ n1, Device.rd_wr_same, Device.rd_wr_same,
      Nat.mod_eq_of_lt hc, Nat.mod_eq_of_lt ha]
    exact ⟨rfl, rfl⟩
  · intro h
    simp only [Device.rejectAt, Device.latch, h, if_false]
    refine ⟨?_, ?_, ?_⟩
    · rw [Device.get_bump_ne _ _ n2, Device.get_put_same _ _ (by simp) (by simp)]; simp
    · rw [Device.get_bump_ne _ _ n2]; exact Device.get_put_other (f := ERR_VIEW_CODE_ovf m) (g := ERR_VIEW_CODE_code m) d 1 rfl (by simp) (by simp) (by simp)
    · rw [Device.rd_bump_ne _ _ n3, Device.rd_put_ne _ _ n1.symm]
  · intro g h1 h2 h3
    rw [Device.rejectAt, Device.bump, get_put_apart _ _ (by simp) (by simp) h3, latch_get _ _ _ _ _ _ h1 h2]
  · unfold Device.rejectAt Device.latch
    split <;> rfl

theorem reject_rejects (d : Device) (m : Master) (off code : Nat) (hc : code < 2 ^ 32) (ha : off < 2 ^ 32) :
    d.rejects (d.reject m off code) m 0 off code := rejectAt_rejects d m 0 off code (by omega) ha

/-- A read answered. -/
theorem reply_replies (d : Device) (m : Master) (v : Nat) (hv : v < 2 ^ 32) : d.replies (d.reply m v) m v :=
  ⟨by rw [Device.answer_reply_same, Nat.mod_eq_of_lt hv], fun k hk => Device.answer_reply_ne _ _ (fun h => hk (Fin.ext h)), rfl⟩

/-! ## Keep -/

theorem kRd_foldl (bs : List Nat) (a x : Nat) (v : Sparse Byte) (n : Nat) :
    (Sparse.get keepDef ((List.range n).foldl (fun m i => Sparse.set keepDef m (a + i) (Byte.of (bs.getD i 0))) v) x).toNat =
      if a ≤ x ∧ x < a + n then bs.getD (x - a) 0 % 256 else (Sparse.get keepDef v x).toNat := by
  induction n with
  | zero => rw [if_neg (by omega)]; rfl
  | succ n ih =>
    rw [List.range_succ, List.foldl_append, List.foldl_cons, List.foldl_nil, Sparse.get_set]
    by_cases h : x = a + n
    · rw [if_pos h, if_pos (by omega), h, Nat.add_sub_cancel_left]; simp [Byte.of]
    · rw [if_neg h, ih]
      by_cases h' : a ≤ x ∧ x < a + n
      · rw [if_pos h', if_pos (by omega)]
      · rw [if_neg h', if_neg (by omega)]

/-- Marking pages dirty touches only the dirty pages and their count. -/
theorem kDirty_each (l : List Nat) (d : Device) :
    let e := eachOf l (fun p d => d.kDirty p) d
    (∀ page, e.keep.dirty.testBit page = (d.keep.dirty.testBit page || decide (page ≠ 417 ∧ page ∈ l))) ∧
    (∀ g : Fld, g.apart KEEP_STAT_dirty → e.get g = d.get g) ∧ e.keep.vol = d.keep.vol ∧
    e = { d with regs := e.regs, keep := { d.keep with dirty := e.keep.dirty, since := e.keep.since } } := by
  induction l generalizing d with
  | nil => simp [eachOf]
  | cons p l ih =>
    have hs : eachOf (p :: l) (fun p d => d.kDirty p) d = eachOf l (fun p d => d.kDirty p) (d.kDirty p) := rfl
    simp only [hs]
    obtain ⟨h1, h2, h3, h4⟩ := ih (d.kDirty p)
    generalize eachOf l (fun p d => d.kDirty p) (d.kDirty p) = e at h1 h2 h3 h4 ⊢
    by_cases hp : p = 417
    · have hd : d.kDirty p = d := by unfold Device.kDirty; simp [hp]
      rw [hd] at h1 h2 h3 h4
      refine ⟨fun page => ?_, h2, h3, h4⟩
      rw [h1 page]
      congr 1
      simp only [List.mem_cons, hp]
      by_cases hq : page = 417 <;> simp [hq]
    · obtain ⟨w, hd⟩ : ∃ w, d.kDirty p = ({ d with keep := { d.keep with dirty := onBit d.keep.dirty p, since := onBit d.keep.since p } } : Device).put KEEP_STAT_dirty w :=
        ⟨_, by unfold Device.kDirty Device.kSync; rw [if_neg hp]⟩
      refine ⟨fun page => ?_, fun g hg => ?_, ?_, ?_⟩
      · rw [h1 page, hd]
        simp only [Device.put_keep, onBit, Nat.testBit_or, Nat.testBit_two_pow, List.mem_cons]
        by_cases hq : page = p
        · subst hq; simp [hp]
        · simp [hq, Ne.symm hq]
      · rw [h2 g hg, hd, get_put_apart _ _ (by simp) (by simp) hg]; rfl
      · rw [h3, hd, Device.put_keep]
      · refine h4.trans ?_
        rw [hd]
        simp

/-- Bytes stored in Keep (R406). -/
theorem kWr_keepBytes (d : Device) (a : Nat) (bs : List Nat) : d.keepBytes (d.kWr a bs) a bs := by
  unfold Device.kWr
  lift_lets
  intro v k d1
  obtain ⟨h1, h2, h3, h4⟩ := kDirty_each ((List.range bs.length).map (fun i => (a + i) / 256)).eraseDups d1
  refine ⟨fun x => ?_, fun page => ?_, h2, ?_⟩
  · rw [Device.kRd, h3]; exact kRd_foldl bs a x d.keep.vol bs.length
  · rw [h1 page]
    congr 1
    simp only [List.mem_eraseDups, List.mem_map, List.mem_range]
  · rw [h4]

end Sys2Proof.Machine
end

