-- ==== Sys2Proof/Tests/Slice0.lean ====
section
/-! SUPPORT. The package's own tests: which commands are well formed, the spec's worked examples and check values, and for every obligation with hypotheses a state and operands that meet each clause's hypotheses together. -/

namespace Sys2Proof.Tests

open Sys2Proof.Machine

set_option linter.unusedVariables false

-- The kernel checks here run one after another: a theorem each in parallel needs more threads than one process gets.
set_option Elab.async false

/-! ## Well-formed commands: each check accepts its limits and refuses what is beyond them -/

/-- One command for each arm of the check, each operand at the end of its range. -/
theorem test_wf_accepts :
  ([.registerWrite 0 0x3FFFFFF (2 ^ 32 - 1) 15, .readClear 0 0x3FFFFFF, .bootStepComplete 4 (.march [383] false), .msWrite 0 0 (2 ^ 32 - 1)] : List Instr).all Instr.wf = true ∧
  ([.liveWrite 0 0 (2 ^ 32 - 1), .liveTmgWrite 0 0 (2 ^ 32 - 1), .heldWrite 0 true (2 ^ 32 - 1), .zorderApply 0 (2 ^ 32 - 1)] : List Instr).all Instr.wf = true ∧
  ([.paletteWrite 0 (2 ^ 32 - 1), .layerEnableWrite 0 (2 ^ 32 - 1), .testRasterWrite 0 (2 ^ 32 - 1), .chkLearn 0 63 (2 ^ 32 - 1)] : List Instr).all Instr.wf = true ∧
  ([.dprxCapChange 0 3 (2 ^ 32 - 1), .hpdEnableClear 0 3 (2 ^ 32 - 1), .tapEnable 0 (2 ^ 32 - 1), .tapDisable 0 (2 ^ 32 - 1)] : List Instr).all Instr.wf = true ∧
  ([.poolClaim 0 (2 ^ 32 - 1), .knotWrite 0 (2 ^ 32 - 1), .gridWrite 0 143 (2 ^ 32 - 1), .sensingEnable 0 (2 ^ 32 - 1)] : List Instr).all Instr.wf = true ∧
  ([.segWideSet 0 (2 ^ 32 - 1), .segWideClear 0 (2 ^ 32 - 1), .keepDataWrite 0 (2 ^ 32 - 1), .keepPasswordWord 0 (2 ^ 32 - 1)] : List Instr).all Instr.wf = true ∧
  ([.keepRegionWrite 0 15 (2 ^ 32 - 1), .keepStageWrite 0 255 (2 ^ 32 - 1), .clockSet 0 (2 ^ 32 - 1), .channelBind 0 63 (2 ^ 32 - 1)] : List Instr).all Instr.wf = true ∧
  ([.mailboxSend 0 63 (2 ^ 32 - 1), .doorbellRing 0 (2 ^ 32 - 1), .lockRelease 0 127 (2 ^ 32 - 1), .lockForceClear 0 (2 ^ 32 - 1)] : List Instr).all Instr.wf = true ∧
  ([.errorClear 0 (2 ^ 32 - 1), .i2cTransaction 0 1 (2 ^ 32 - 1), .gpioEnable 0 (2 ^ 32 - 1), .integratorFault 0 (2 ^ 32 - 1)] : List Instr).all Instr.wf = true ∧
  ([.sscHopEnable 0 (2 ^ 32 - 1), .eyeMeasure 0 (2 ^ 32 - 1), .dprxLinkLock 3 15 4 false, .dprxFrameStart 3 ⟨0, 0, false, 0, false, 65535, 65535⟩ 0 (2 ^ 32 - 1) 0] : List Instr).all Instr.wf = true ∧
  ([.dprxLineReceive 3 [4095] 0 0, .selectiveUpdate 3 0 0 1 1 [4095], .tapLinkParamChange 0 15 3 1, .tapDownstreamHpd true 15 4] : List Instr).all Instr.wf = true ∧
  ([.tapAuxNativeRead 0 (2 ^ 20 - 1) 15, .tapAuxNativeWrite 0 (2 ^ 20 - 1) 15, .tapAuxI2cRead 0 127 15, .tapAuxI2cWrite 0 127 15] : List Instr).all Instr.wf = true ∧
  ([.tapAuxReply .ack (List.replicate 16 255), .loopbackStart 0 15, .loopbackStop 0 [1, 2, 3, 4], .layerAllocate 0 1023] : List Instr).all Instr.wf = true ∧
  ([.capsBurst ⟨0, 0, 0, false, false, (List.replicate 48 255), 65535⟩ false, .statusBurst ⟨0, 0, 0, false, false, (List.replicate 48 255), 65535⟩ false false, .senseBurst ⟨0, 0, 0, false, false, (List.replicate 48 255), 65535⟩ false, .hvOvertemp 65535] : List Instr).all Instr.wf = true ∧
  ([.psmSample 3 1023, .bar2Write (2 ^ 32 - 1) [some 255, none], .bar2Read (2 ^ 32 - 1) 4096 [(2 ^ 29 - 1, .corr)], .eccWriteback (2 ^ 29 - 1)] : List Instr).all Instr.wf = true ∧
  ([.pondWindowAccess 0 0x3FFFFFC (some (2 ^ 32 - 1)) (.write (List.replicate 8 255)) .ok, .pondRetry .read, .marchCopyinDone [(511, .corr)], .marchTestDone (some (511, 71))] : List Instr).all Instr.wf = true ∧
  ([.marchBankDone (some (31, 511, 71)), .recordResolve 0 255 true 15, .recordCommit 0 255 2047 true 15, .counterAdd 0 (2 ^ 24 - 1)] : List Instr).all Instr.wf = true ∧
  ([.bankAssign 0 7 127, .bar0Request 4 (some [1, 2 ^ 32 - 1]) 2 [1], .sidePortPondAccess 0x7FFFF (some 65535) (.write (List.replicate 8 255)) .ok, .sidePortLowWrite 0xFFFFE 65535] : List Instr).all Instr.wf = true ∧
  ([.sidePortHighWrite 0xFFFFF 65535, .sidePortLowRead 0xFFFFE true, .sidePortHighRead 0xFFFFF, .xspiOpComplete 255 false] : List Instr).all Instr.wf = true ∧
  ([.xspiBusyTimeout 255, .i2cComplete 1 (some 15) false (List.replicate 8 255), .ntcSample 3 4095, .jtagUpdateIr 255] : List Instr).all Instr.wf = true ∧
  ([.dbgAccess 3 0x3FFFFFF (2 ^ 32 - 1), .faultRaise 255 255 0, .monitorSample (List.replicate 216 65535), .pcieLinkUp 15 7 true false] : List Instr).all Instr.wf = true ∧
  ([.facetDataArrive 95 ⟨[(2 ^ 29 - 1, .corr)], false, [], [8191], [(13, 8191)], [384 * 131072 - 1]⟩, .islandReady 63 false, .islandDone 63] : List Instr).all Instr.wf = true := by decide +kernel

/-- For each condition of each arm a command that breaks it alone. -/
theorem test_wf_refuses :
  ([.registerWrite 0 0x4000000 0 15, .registerWrite 0 0 (2 ^ 32) 15, .registerWrite 0 0 0 16, .readClear 0 0x4000000] : List Instr).all (fun i => !i.wf) = true ∧
  ([.bootStepComplete 12 .done, .bootStepComplete 5 (.march [] false), .bootStepComplete 4 (.march [384] false), .bootStepComplete 8 (.maps false)] : List Instr).all (fun i => !i.wf) = true ∧
  ([.bootStepComplete 11 (.frameStore true), .msWrite 0 0 (2 ^ 32), .msWrite 0 0x4000000 0, .liveWrite 0 0 (2 ^ 32)] : List Instr).all (fun i => !i.wf) = true ∧
  ([.liveWrite 0 0x4000000 0, .liveTmgWrite 0 0 (2 ^ 32), .liveTmgWrite 0 0x4000000 0, .heldWrite 0 true (2 ^ 32)] : List Instr).all (fun i => !i.wf) = true ∧
  ([.zorderApply 0 (2 ^ 32), .paletteWrite 0 (2 ^ 32), .layerEnableWrite 0 (2 ^ 32), .testRasterWrite 0 (2 ^ 32)] : List Instr).all (fun i => !i.wf) = true ∧
  ([.chkLearn 0 63 (2 ^ 32), .dprxCapChange 0 3 (2 ^ 32), .hpdEnableClear 0 3 (2 ^ 32), .tapEnable 0 (2 ^ 32)] : List Instr).all (fun i => !i.wf) = true ∧
  ([.tapDisable 0 (2 ^ 32), .poolClaim 0 (2 ^ 32), .knotWrite 0 (2 ^ 32), .gridWrite 0 143 (2 ^ 32)] : List Instr).all (fun i => !i.wf) = true ∧
  ([.sensingEnable 0 (2 ^ 32), .segWideSet 0 (2 ^ 32), .segWideClear 0 (2 ^ 32), .keepDataWrite 0 (2 ^ 32)] : List Instr).all (fun i => !i.wf) = true ∧
  ([.keepPasswordWord 0 (2 ^ 32), .keepRegionWrite 0 15 (2 ^ 32), .keepStageWrite 0 255 (2 ^ 32), .clockSet 0 (2 ^ 32)] : List Instr).all (fun i => !i.wf) = true ∧
  ([.channelBind 0 63 (2 ^ 32), .mailboxSend 0 63 (2 ^ 32), .doorbellRing 0 (2 ^ 32), .lockRelease 0 127 (2 ^ 32)] : List Instr).all (fun i => !i.wf) = true ∧
  ([.lockForceClear 0 (2 ^ 32), .errorClear 0 (2 ^ 32), .i2cTransaction 0 1 (2 ^ 32), .gpioEnable 0 (2 ^ 32)] : List Instr).all (fun i => !i.wf) = true ∧
  ([.integratorFault 0 (2 ^ 32), .sscHopEnable 0 (2 ^ 32), .eyeMeasure 0 (2 ^ 32), .dprxLinkLock 3 16 4 false] : List Instr).all (fun i => !i.wf) = true ∧
  ([.dprxLinkLock 3 0 5 false, .dprxFrameStart 3 ⟨0, 0, false, 0, false, 65536, 0⟩ 0 0 0, .dprxFrameStart 3 ⟨0, 0, false, 0, false, 0, 65536⟩ 0 0 0, .dprxFrameStart 3 ⟨0, 0, false, 0, false, 0, 0⟩ 0 (2 ^ 32) 0] : List Instr).all (fun i => !i.wf) = true ∧
  ([.dprxLineReceive 3 [4096] 0 0, .selectiveUpdate 3 0 0 1 1 [4096], .tapLinkParamChange 0 16 3 1, .tapLinkParamChange 0 0 4 1] : List Instr).all (fun i => !i.wf) = true ∧
  ([.tapLinkParamChange 0 0 0 2, .tapDownstreamHpd true 16 4, .tapDownstreamHpd true 0 5, .tapAuxNativeRead 0 (2 ^ 20) 15] : List Instr).all (fun i => !i.wf) = true ∧
  ([.tapAuxNativeWrite 0 (2 ^ 20) 15, .tapAuxI2cRead 0 128 15, .tapAuxI2cWrite 0 128 15, .tapAuxReply .ack [256]] : List Instr).all (fun i => !i.wf) = true ∧
  ([.tapAuxReply .ack (List.replicate 17 0), .loopbackStart 0 16, .loopbackStop 0 [1, 2, 3, 4, 5], .layerAllocate 0 1024] : List Instr).all (fun i => !i.wf) = true ∧
  ([.capsBurst ⟨0, 0, 0, false, false, (List.replicate 47 0), 0⟩ false, .capsBurst ⟨0, 0, 0, false, false, (256 :: List.replicate 47 0), 0⟩ false, .capsBurst ⟨0, 0, 0, false, false, (List.replicate 48 0), 65536⟩ false, .statusBurst ⟨0, 0, 0, false, false, (List.replicate 47 0), 0⟩ false false] : List Instr).all (fun i => !i.wf) = true ∧
  ([.statusBurst ⟨0, 0, 0, false, false, (256 :: List.replicate 47 0), 0⟩ false false, .statusBurst ⟨0, 0, 0, false, false, (List.replicate 48 0), 65536⟩ false false, .senseBurst ⟨0, 0, 0, false, false, (List.replicate 47 0), 0⟩ false, .senseBurst ⟨0, 0, 0, false, false, (256 :: List.replicate 47 0), 0⟩ false] : List Instr).all (fun i => !i.wf) = true ∧
  ([.senseBurst ⟨0, 0, 0, false, false, (List.replicate 48 0), 65536⟩ false, .hvOvertemp 65536, .psmSample 3 1024, .bar2Write (2 ^ 32) [some 0]] : List Instr).all (fun i => !i.wf) = true ∧
  ([.bar2Write 0 [some 256], .bar2Write 0 (List.replicate 257 none), .bar2Read (2 ^ 32) 1 [], .bar2Read 0 4097 []] : List Instr).all (fun i => !i.wf) = true ∧
  ([.bar2Read 0 1 [(2 ^ 29, .corr)], .eccWriteback (2 ^ 29), .pondWindowAccess 0 0x4000000 none .none .ok, .pondWindowAccess 0 0x1000000 (some (2 ^ 32)) .none .ok] : List Instr).all (fun i => !i.wf) = true ∧
  ([.pondWindowAccess 0 0x1000000 none (.write [0]) .ok, .pondWindowAccess 0 0x1000000 none (.write (List.replicate 8 256)) .ok, .pondRetry (.write [0]), .marchCopyinDone [(512, .corr)]] : List Instr).all (fun i => !i.wf) = true ∧
  ([.marchTestDone (some (512, 0)), .marchTestDone (some (0, 72)), .marchBankDone (some (32, 0, 0)), .marchBankDone (some (0, 512, 0))] : List Instr).all (fun i => !i.wf) = true ∧
  ([.marchBankDone (some (0, 0, 72)), .recordResolve 0 256 true 15, .recordResolve 0 255 true 16, .recordCommit 0 256 0 true 15] : List Instr).all (fun i => !i.wf) = true ∧
  ([.recordCommit 0 255 2048 true 15, .recordCommit 0 255 0 true 16, .counterAdd 0 (2 ^ 24), .bankAssign 0 7 128] : List Instr).all (fun i => !i.wf) = true ∧
  ([.bar0Request 5 none 1 [], .bar0Request 4 none 0 [], .bar0Request 4 none 1025 [], .bar0Request 4 none 1 [1]] : List Instr).all (fun i => !i.wf) = true ∧
  ([.bar0Request 4 (some [1]) 2 [], .bar0Request 4 (some [2 ^ 32]) 1 [], .sidePortPondAccess 0x80000 none .none .ok, .sidePortPondAccess 0 (some 65536) .none .ok] : List Instr).all (fun i => !i.wf) = true ∧
  ([.sidePortPondAccess 0 none (.write []) .ok, .sidePortLowWrite 0x7FFFE 0, .sidePortLowWrite 0x100000 0, .sidePortLowWrite 0x80001 0] : List Instr).all (fun i => !i.wf) = true ∧
  ([.sidePortLowWrite 0x80000 65536, .sidePortHighWrite 0x7FFFF 0, .sidePortHighWrite 0x100001 0, .sidePortHighWrite 0x80000 0] : List Instr).all (fun i => !i.wf) = true ∧
  ([.sidePortHighWrite 0x80001 65536, .sidePortLowRead 0x7FFFE true, .sidePortLowRead 0x100000 true, .sidePortLowRead 0x80001 true] : List Instr).all (fun i => !i.wf) = true ∧
  ([.sidePortHighRead 0x7FFFF, .sidePortHighRead 0x100001, .sidePortHighRead 0x80000, .xspiOpComplete 256 false] : List Instr).all (fun i => !i.wf) = true ∧
  ([.xspiBusyTimeout 256, .i2cComplete 1 (some 16) false [], .i2cComplete 1 none false [256], .i2cComplete 1 none false (List.replicate 9 0)] : List Instr).all (fun i => !i.wf) = true ∧
  ([.ntcSample 3 4096, .jtagUpdateIr 256, .dbgAccess 4 0 0, .dbgAccess 0 0x4000000 0] : List Instr).all (fun i => !i.wf) = true ∧
  ([.dbgAccess 0 0 (2 ^ 32), .faultRaise 256 0 0, .faultRaise 0 256 0, .monitorSample (List.replicate 215 0)] : List Instr).all (fun i => !i.wf) = true ∧
  ([.monitorSample (65536 :: List.replicate 215 0), .pcieLinkUp 16 7 true false, .pcieLinkUp 15 8 true false, .facetDataArrive 95 ⟨[(2 ^ 29, .corr)], false, [], [], [], []⟩] : List Instr).all (fun i => !i.wf) = true ∧
  ([.facetDataArrive 95 ⟨[], false, [], [8192], [], []⟩, .facetDataArrive 95 ⟨[], false, [], [], [(14, 0)], []⟩, .facetDataArrive 95 ⟨[], false, [], [], [(0, 8192)], []⟩, .facetDataArrive 95 ⟨[], false, [], [], [], [384 * 131072]⟩] : List Instr).all (fun i => !i.wf) = true ∧
  ([.islandReady 64 false, .islandDone 64] : List Instr).all (fun i => !i.wf) = true := by decide +kernel

/-! ## Worked examples and check values of the spec -/

/-- R164: the CRC-32 of the string 123456789. -/
theorem test_crc32 : crc32 (List.range' 49 9) = 0xCBF43926 := by decide +kernel
/-- R311: its CRC-8. -/
theorem test_crc8 : crc8 (List.range' 49 9) = 0xF4 := by decide +kernel
/-- R315: its CRC-16. -/
theorem test_crc16 : linkCrc16 (List.range' 49 9) = 0x29B1 := by decide +kernel
/-- The aged pixel of panel A in 09_compensation_dither.md: gain, offset, compensated value, driven code and old value. -/
theorem test_compensation :
    effGain (2458, -12) 256 = 4506 ∧ effOffset (2458, -12) 256 4 = -192 ∧ compOne 4506 (-192) 100000 = 109818 ∧
    ditherCode 12 109818 0 32 = 1716 ∧ compInv 4506 (-192) 109824 = 100006 := by decide +kernel
/-- The retargeted pixel of panel A in 08_transitions.md: the first step and the second. -/
theorem test_transition_steps : firstStep 2048 65536 32768 = 16384 ∧ laterStep 1024 16384 32768 = 28672 := by decide +kernel
/-- The band edges of the same chapter's example of one tile. -/
theorem test_bands : [319, 320, 400, 399].map State.reset.toDevice.bandAt = [2, 3, 4, 3] := by decide +kernel
/-- Halt code 0x87 on the status glass (12_panel_power_gate.md). -/
theorem test_halt_glyphs : codeBits 2 0x87 = 0x517F0076 := by decide +kernel
/-- The word addresses of the side port's example (16_host_interfaces.md): SEG_RAM[1] and LAY_STAT. -/
theorem test_side_port_map : spOffset 0x9800A = SEG_RAM 1 ∧ spOffset 0x90012 = 0x60024 := by decide +kernel

/-! ## States for the witnesses -/

/-- The device after reset with fields written, each in force. -/
def dev (l : List (Fld × Nat)) : Device :=
  let d := l.foldl (fun d p => d.put p.1 p.2) State.reset.toDevice
  { d with force := d.regs }

def stD (d : Device) : State := { toDevice := d }

def st (l : List (Fld × Nat)) : State := stD (dev l)

/-- A panel of one stripe of 32 columns and 8 lines: lane 3, return lane 1, slot 2, and lane 7 as its spare. -/
def panelSet : PrismSet :=
  { stripes := [{ width := 32 }], lanes := [{ lane := 3, ret := 1, slot := 2 }], spares := [{ lane := 7, mask := 1 }] }

def panelD (l : List (Fld × Nat)) : Device :=
  { dev ([(TMG_HACT_width, 32), (TMG_HFP_width, 1), (TMG_HSYNC_width, 1), (TMG_HTOTAL_width, 400), (TMG_VACT_height, 8), (TMG_VFP_lines, 1),
      (TMG_VSYNC_lines, 1), (TMG_VTOTAL_lines, 16), (TMG_PCLK_rate, 1000), (FAB_CODE_width, 10), (HVP_GATE_CFG_phases, 2), (HVP_GATE_CFG_slew, 50), (HVP_GCK_TIM_fall_adv, 100),
      (whole MEM_GLASS_ACT, 0x10001)] ++ l) with act := panelSet, mir := panelSet }

def panel (l : List (Fld × Nat)) : State := stD (panelD l)

/-- The same panel without a spare. -/
def bareSet : PrismSet := { panelSet with spares := [] }

theorem linkFits_of {d : Device} (ha : d.act = panelSet) (hm : d.mir = panelSet) (hi : d.img.op = none) : d.linkFits := by
  have h : panelSet.linkOk := ⟨by decide, by decide, by decide, by decide⟩
  refine ⟨ha ▸ h, hm ▸ h, fun o ho => ?_⟩
  rw [hi] at ho; cases ho

theorem linkFits_bare {d : Device} (ha : d.act = bareSet) (hm : d.mir = panelSet) (hi : d.img.op = none) : d.linkFits := by
  have h : bareSet.linkOk := ⟨by decide, by decide, by decide, by decide⟩
  have h' : panelSet.linkOk := ⟨by decide, by decide, by decide, by decide⟩
  refine ⟨ha ▸ h, hm ▸ h', fun o ho => ?_⟩
  rw [hi] at ho; cases ho

theorem memWf_reset (d : Device) (hm : d.mem.fs = []) (hp : d.mem.pond = []) (hv : d.keep.vol = []) (hs : d.keep.shadow = []) (hk : d.keep.store.all (fun k => k.data.isEmpty) = true)
    (hf : d.hif.flash = []) : d.memWf := by
  refine ⟨by rw [hm]; rfl, by rw [hp]; rfl, by rw [hv]; rfl, by rw [hs]; rfl, fun k h => ?_, by rw [hf]; rfl⟩
  rw [h] at hk
  have : k.data = [] := by simpa using hk
  rw [this]; rfl

theorem modeOk_reset {d : Device} (hr : d.rd GLB_MODE < 6) (ht : d.trans = none) (hl : d.loupeFrom < 6) (hi : d.img.op = none) : d.modeOk := by
  refine ⟨hr, fun t h => ?_, hl, fun o h => ?_⟩
  · rw [ht] at h; cases h
  · rw [hi] at h; cases h

/-- An image of one stripe of 32 columns on lane 3 and return lane 1, slot 2, with the three claims that it needs (R60 to R73). -/
def imageBytes : List Nat :=
  let facet := [0, 3, 0, 0, 0, 0, 32, 0, 0, 0, 0, 0, 0, 0, 0, 0] ++ [1, 0, 255, 255, 0, 0, 0, 0] ++ [12, 0, 255, 255, 0, 0, 0, 0] ++ (List.replicate 12 [0, 0, 255, 255, 0, 0, 0, 0]).flatten
  let lanes := [1, 0] ++ List.replicate 14 0 ++ [0, 3, 1, 2]
  let claims := [3, 0] ++ List.replicate 14 0 ++ [1, 0, 1, 0, 0, 0, 1, 0] ++ [2, 0, 1, 0, 3, 0, 1, 0] ++ [3, 0, 1, 0, 1, 0, 1, 0]
  let entry (ty off len : Nat) (body : List Nat) := leBytes 2 ty ++ [0, 0] ++ leBytes 4 off ++ leBytes 4 len ++ leBytes 4 (crc32 body)
  let head := [0x50, 0x52, 0x53, 0x4D, 1, 0, 64, 0] ++ leBytes 4 352 ++ leBytes 4 7 ++ [0x20, 0x81, 0, 0, 3, 0, 1, 0] ++ List.replicate 24 0 ++ leBytes 4 64 ++ List.replicate 8 0
  let body := head ++ leBytes 4 (crc32 head) ++ entry 1 112 128 facet ++ entry 4 240 20 lanes ++ entry 5 272 40 claims ++ facet ++ lanes ++ List.replicate 12 0 ++ claims ++ List.replicate 8 0
  body ++ sha256 body

/-- A frame store that holds bytes from address 0 on. -/
def storeOf (bs : List Nat) : Mem := { fs := ((List.range bs.length).map (fun i => (i, Byte.of (bs.getD i 0)))).filter (fun e => e.2 != 0) }

theorem ok_of {ε α : Type} [DecidableEq α] {x : Except ε α} {a : α} (h : (match x with | .ok u => decide (u = a) | .error _ => false) = true) : x = .ok a := by
  cases x with
  | ok u => rw [of_decide_eq_true h]
  | error e => cases h

theorem error_of {x : Except ImgFail Unit} {f : ImgFail} (h : (match x with | .ok _ => false | .error e => decide (e = f)) = true) : x = .error f := by
  cases x with
  | ok u => cases h
  | error e => rw [of_decide_eq_true h]

/-- A record in Keep (R420): sequence number, length, identifier, body and CRC-32. -/
def recordBytes (seq id : Nat) (body : List Nat) : List Nat :=
  let b := leBytes 4 seq ++ leBytes 2 body.length ++ [id, 0] ++ body
  b ++ leBytes 4 (crc32 b)

/-- Keep open, with records in its pages. -/
def keepOf (l : List (Nat × List Nat)) : Keep :=
  let d := l.foldl (fun d p => d.kWr (p.1 * 256) p.2) State.reset.toDevice
  { d.keep with recalling := false }

/-- IK0 runs, and the instruction `w` stands at the start of Pond, where its pc points. -/
def coreAt (w : Nat) : State :=
  stD { dev [(CORE_STAT_state 0, 1)] with
    mem := { pond := (((List.range 4).map (fun i => (i, Byte.of (w / 256 ^ i % 256)))).filter (fun e => e.2 != 0)) }
    ik := { cores := [(0, { pc := 0x1000000 })] } }

/-- IK7 runs with its doorbells pending and enabled, and interrupts on or off. -/
def irqCore (on : Bool) : State :=
  stD { dev [(CORE_STAT_state 7, 1), (⟨MBX_DB_STAT 9, 0, 0⟩, 1)] with ik := { cores := [(7, { pc := 0x1000000, meie := true, mie := on })] } }

/-- A burst of the panel's driver: slot 2 of return lane 1, with a status byte. -/
def burst : Burst := { ret := 1, slot := 2, phase := 0, codeErr := false, guard := false, body := [0, 0, 1] ++ List.replicate 45 0, crc := linkCrc16 ([0, 0, 1] ++ List.replicate 45 0) }

/-- The panel with its raster in the active lines of a frame. -/
def activeD (l : List (Fld × Nat)) (r : Raster) : Device := { panelD ([(TMG_STAT_raster, 2)] ++ l) with ras := r }

/-! ## Witnesses -/

/-- Every clause of `Obligations.StepTakesTheFrontCommand` has a state and operands that meet its hypotheses. -/
theorem witness_StepTakesTheFrontCommand :
    (∃ (s : State), s.pending = []) :=
  ⟨st [], by decide +kernel⟩

/-- Every clause of `Obligations.TheQueueEmptiesInOrder` has a state and operands that meet its hypotheses. -/
theorem witness_TheQueueEmptiesInOrder :
    (∃ (n : Nat) (s : State), n ≤ s.pending.length) :=
  ⟨1, { st [] with pending := [.testLogicReset] }, by decide +kernel⟩

/-- Every clause of `Obligations.BadAccessesAreRejected` has a state and operands that meet its hypotheses. -/
theorem witness_BadAccessesAreRejected :
    (∃ (m : Master) (off val be : Nat) (s : State), s.power.coreOn = true ∧ off < 0x4000000 ∧ (off % 4 ≠ 0 ∨ be ≠ 15)) ∧
    (∃ (m : Master) (off : Nat) (s : State), s.power.coreOn = true ∧ off < 0x4000000 ∧ off % 4 ≠ 0) ∧
    (∃ (a val : Nat) (s : State), s.toDevice.barOpen = true ∧ a + 4 ≤ 0x4000000) ∧
    (∃ (m : Master) (off val : Nat) (s : State), s.power.coreOn = true ∧ off % 4 = 0 ∧ off < 0x1000000 ∧ regAt off = none) :=
  ⟨⟨0, 0x3FFFFFD, 0, 15, st [], by decide +kernel⟩,
   ⟨0, 0x3FFFFFF, st [], by decide +kernel⟩,
   ⟨0x3FFFFFC, 0, st [(HIF_PCI_STAT_up, 1)], by decide +kernel⟩,
   ⟨0, 0xFFFFFC, 0, st [], by decide +kernel⟩⟩

/-- Every clause of `Obligations.ModeStaysLegal` has a state and operands that meet its hypotheses. -/
theorem witness_ModeStaysLegal :
    (∃ (s s' : State), s.toDevice.modeOk ∧ step s = .next s') ∧
    (∃ (m : Master) (s : State), s.power.coreOn = true ∧ s.toDevice.modeOk) :=
  ⟨⟨st [], { st [] with us := 1 }, modeOk_reset (by decide +kernel) rfl (by decide +kernel) rfl, rfl⟩,
   ⟨0, st [], by decide +kernel, modeOk_reset (by decide +kernel) rfl (by decide +kernel) rfl⟩⟩

/-- Every clause of `Obligations.MemoriesStayCanonical` has a state and operands that meet its hypotheses. -/
theorem witness_MemoriesStayCanonical :
    (∃ (s s' : State), s.toDevice.memWf ∧ step s = .next s') :=
  ⟨st [], { st [] with us := 1 }, memWf_reset _ rfl rfl rfl rfl rfl rfl, rfl⟩

/-- Every clause of `Obligations.RegistersStayCanonical` has a state and operands that meet its hypotheses. -/
theorem witness_RegistersStayCanonical :
    (∃ (s s' : State), s.toDevice.regsWf ∧ step s = .next s') :=
  ⟨st [(GLB_MODE_state, 2)], { st [(GLB_MODE_state, 2)] with us := 1 }, ⟨by decide +kernel, by decide +kernel, by decide +kernel⟩, rfl⟩

/-- Every clause of `Obligations.SetsFitTheLink` has a state and operands that meet its hypotheses. -/
theorem witness_SetsFitTheLink :
    (∃ (s s' : State), s.toDevice.linkFits ∧ step s = .next s') :=
  ⟨panel [], { panel [] with us := 1 }, linkFits_of rfl rfl rfl, rfl⟩

/-- Every clause of `Obligations.RegisterAccessesTakeEffect` has a state and operands that meet its hypotheses. -/
theorem witness_RegisterAccessesTakeEffect :
    (∃ (m : Master) (val : Nat) (s : State), s.power.coreOn = true ∧ among m mGpio = true ∧ val < 2 ^ 32) ∧
    (∃ (m : Master) (val : Nat) (s : State), s.power.coreOn = true ∧ among m mGpio = true ∧ val < 2 ^ 32 ∧ reservedBad HIF_IRQ val = false) ∧
    (∃ (m : Master) (off val : Nat) (s : State), s.power.coreOn = true ∧ s.bridge.lost = false ∧ onHvDie off = true ∧ (regAt off).isSome = true ∧ off % 4 = 0 ∧ off < 0x1000000 ∧ val < 2 ^ 32 ∧ s.bridge.stalled = [] ∧ s.bridge.posted.length < 16) ∧
    (∃ (m : Master) (off val : Nat) (s : State), s.power.coreOn = true ∧ s.bridge.lost = false ∧ onHvDie off = true ∧ (regAt off).isSome = true ∧ off % 4 = 0 ∧ off < 0x1000000 ∧ val < 2 ^ 32 ∧ s.bridge.stalled = [] ∧ 16 ≤ s.bridge.posted.length) ∧
    (∃ (m : Master) (s : State), s.power.coreOn = true) ∧
    (∃ (m : Master) (i : Fin 5) (s : State), s.power.coreOn = true ∧ s.bridge.lost = false ∧ s.toDevice.hvHeld m = true) :=
  ⟨⟨0, 2 ^ 32 - 1, st [], by decide +kernel⟩,
   ⟨0, 0, st [], by decide +kernel⟩,
   ⟨0, HVP_SEQ_CFG, 0, stD { dev [] with bridge := { posted := List.replicate 15 { master := 1, off := HVP_SEQ_CFG, val := 1 } } }, by decide +kernel⟩,
   ⟨0, HVP_SEQ_CFG, 0, stD { dev [] with bridge := { posted := List.replicate 16 { master := 1, off := HVP_SEQ_CFG, val := 1 } } }, by decide +kernel⟩,
   ⟨0, st [], by decide +kernel⟩,
   ⟨1, 4, stD { dev [] with bridge := { posted := [{ master := 1, off := HVP_SEQ_CFG, val := 1 }] } }, by decide +kernel⟩⟩

/-- Every clause of `Obligations.BridgeKeepsOrder` has a state and operands that meet its hypotheses. -/
theorem witness_BridgeKeepsOrder :
    (∃ (m : Master) (i : Fin 5) (val : Nat) (l : List HvWrite) (s : State), s.power.coreOn = true ∧ s.bridge.lost = false ∧ among m mSide = true ∧ val < 2 ^ 32 ∧ s.bridge.posted = { master := m, off := SEG_RAM i, val := val } :: l) ∧
    (∃ (m : Master) (off val : Nat) (s : State), s.bridge.posted.length < 16 ∧ s.bridge.stalled = [{ master := m, off := off, val := some val }]) ∧
    (∃ (m : Master) (i : Fin 5) (s : State), s.bridge.posted = [] ∧ s.bridge.stalled = [{ master := m, off := SEG_RAM i, val := none }]) ∧
    (∃ (s : State), s.power.coreOn = true ∧ s.bridge.lost = false) ∧
    (∃ (s : State), s.power.coreOn = true ∧ s.bridge.lost = false ∧ s.bridge.fails < 2) ∧
    (∃ (s : State), s.power.coreOn = true ∧ s.bridge.lost = false ∧ 2 ≤ s.bridge.fails ∧ s.toDevice.mode ≠ 5) ∧
    (∃ (s : State), s.power.coreOn = true ∧ s.bridge.lost = false ∧ s.toDevice.mode ≠ 5) :=
  ⟨⟨1, 4, 2 ^ 32 - 1, [], stD { dev [] with bridge := { posted := [{ master := 1, off := SEG_RAM 4, val := 2 ^ 32 - 1 }] } }, by decide +kernel⟩,
   ⟨1, HVP_SEQ_CFG, 1, stD { dev [] with bridge := { posted := List.replicate 15 { master := 1, off := HVP_SEQ_CFG, val := 1 }, stalled := [{ master := 1, off := HVP_SEQ_CFG, val := some 1 }] } }, by decide +kernel⟩,
   ⟨1, 0, stD { dev [] with bridge := { stalled := [{ master := 1, off := SEG_RAM 0, val := none }] } }, by decide +kernel⟩,
   ⟨st [], by decide +kernel⟩,
   ⟨stD { dev [] with bridge := { fails := 1 } }, by decide +kernel⟩,
   ⟨stD { dev [] with bridge := { fails := 2 } }, by decide +kernel⟩,
   ⟨st [], by decide +kernel⟩⟩

/-- Every clause of `Obligations.OtherWaysToRegisters` has a state and operands that meet its hypotheses. -/
theorem witness_OtherWaysToRegisters :
    (∃ (m : Master) (off : Nat) (s : State), s.power.coreOn = true ∧ s.toDevice.rdB m FAB_ACT_ADDR = off ∧ isMirror off = true ∧ onHvDie off = false) ∧
    (∃ (val : Nat) (s : State), s.toDevice.barOpen = true ∧ val < 2 ^ 32) ∧
    (∃ (s : State), s.toDevice.barOpen = true) ∧
    (∃ (a low val : Nat) (s : State), s.power.coreOn = true ∧ s.toDevice.get HIF_SP_STAT_write = 0 ∧ spUnmapped a = false ∧ spOffset a = HIF_GPIO_EDGE ∧ s.hif.lowHeld = some (HIF_GPIO_EDGE, low) ∧ low < 65536 ∧ val < 65536) ∧
    (∃ (a : Nat) (s : State), s.power.coreOn = true ∧ spUnmapped a = false ∧ spOffset a = HIF_GPIO_EDGE ∧ s.hif.heldRead = none) ∧
    (∃ (off v : Nat) (s : State), s.hif.heldRead = some (off, v, false)) ∧
    (∃ (data : Nat) (s : State), s.power.coreOn = true ∧ s.toDevice.get HIF_JTAG_STAT_instr = 0x10) :=
  ⟨⟨0, TMG_HACT, stD ((dev []).wrB 0 FAB_ACT_ADDR TMG_HACT), by decide +kernel⟩,
   ⟨0, st [(HIF_PCI_STAT_up, 1)], by decide +kernel⟩,
   ⟨st [(HIF_PCI_STAT_up, 1)], by decide +kernel⟩,
   ⟨0x3808D, 0, 65535, stD { dev [] with hif := { lowHeld := some (HIF_GPIO_EDGE, 0) } }, by decide +kernel⟩,
   ⟨0x3808C, st [], by decide +kernel⟩,
   ⟨HIF_GPIO_EDGE, 0, stD { dev [] with hif := { heldRead := some (HIF_GPIO_EDGE, 0, false) } }, by decide +kernel⟩,
   ⟨0, st [(HIF_JTAG_STAT_instr, 0x10)], by decide +kernel⟩⟩

/-- Every clause of `Obligations.ImagesAreChecked` has a state and operands that meet its hypotheses. -/
theorem witness_ImagesAreChecked :
    (∃ (m : Master) (s : State), s.power.coreOn = true ∧ (∀ x ∈ s.toDevice.imgChecks m 1, x.1 = false)) ∧
    (∃ (m : Master) (s : State), s.power.coreOn = true ∧ (∀ x ∈ s.toDevice.imgChecks m 2, x.1 = false)) ∧
    (∃ (m : Master) (o : ImgOp) (s : State), s.power.coreOn = true ∧ among m mFabric = true ∧ s.img.op = some o) ∧
    (∃ (m : Master) (o : ImgOp) (f : ImgFail) (b : Bool) (s : State), s.img.op = some o ∧ o.master = m ∧ o.set = none ∧ imgCheck21 (fun i => s.toDevice.fsRd (s.toDevice.rd FAB_IMG_ADDR + i)) (s.toDevice.imgCtx (some (s.toDevice.rd FAB_IMG_LEN))) = .error f ∧ f.code < 256) ∧
    (∃ (o : ImgOp) (b : Bool) (s : State), s.img.op = some o ∧ o.set = none ∧ o.op = 2 ∧ imgCheck21 (fun i => s.toDevice.fsRd (s.toDevice.rd FAB_IMG_ADDR + i)) (s.toDevice.imgCtx (some (s.toDevice.rd FAB_IMG_LEN))) = .ok ()) ∧
    (∃ (o : ImgOp) (p : PrismSet) (d : Device) (b : Bool) (s : State), s.img.op = some o ∧ o.set = some p ∧ ({ s.toDevice with img := { s.img with op := none } }).imgDecode p = some d) :=
  ⟨⟨0, st [], by decide +kernel⟩,
   ⟨0, st [], by decide +kernel⟩,
   ⟨0, { op := 2, master := 0 }, stD { dev [] with img := { op := some { op := 2, master := 0 } } }, by decide +kernel⟩,
   ⟨0, { op := 2, master := 0 }, ⟨1, 1, 255, 0⟩, false, stD { dev [] with img := { op := some { op := 2, master := 0 } } }, by decide +kernel, by decide +kernel, by decide +kernel, error_of (by decide +kernel), by decide +kernel⟩,
   ⟨{ op := 2, master := 0 }, false, stD { dev [(whole FAB_IMG_LEN, 352)] with mem := storeOf imageBytes, img := { op := some { op := 2, master := 0 } } }, by decide +kernel, by decide +kernel, by decide +kernel, ok_of (by decide +kernel)⟩,
   ⟨{ op := 1, master := 0, set := some panelSet }, panelSet, (((dev []).imgDecode panelSet).get (by decide +kernel)), false, stD { dev [] with img := { op := some { op := 1, master := 0, set := some panelSet } } }, by decide +kernel, by decide +kernel, (Option.some_get _).symm⟩⟩

/-- Every clause of `Obligations.SwapExchangesSets` has a state and operands that meet its hypotheses. -/
theorem witness_SwapExchangesSets :
    (∃ (m : Master) (off val : Nat) (s : State), s.power.coreOn = true ∧ s.bridge.lost = false ∧ off ∈ msRegs ∧ among m (msMasters off) = true ∧ val < 2 ^ 32 ∧ msAccepts off val = true ∧ s.toDevice.get FAB_SWAP_STAT_pending = 0 ∧ s.toDevice.get FAB_SWAP_STAT_refill = 0 ∧ s.toDevice.decoding = false) ∧
    (∃ (m : Master) (after : Bool) (s : State), s.power.coreOn = true ∧ among m mFabric = true ∧ (∀ x ∈ s.toDevice.swapChecks false, x.1 = false)) ∧
    (∃ (m : Master) (after : Bool) (s : State), s.power.coreOn = true ∧ among m mFabric = true ∧ s.toDevice.get FAB_SWAP_STAT_pending = 1 ∧ s.toDevice.get FAB_SWAP_STAT_armed = 0) ∧
    (∃ (i : Nat) (s : State), s.toDevice.get FAB_SWAP_STAT_pending = 1 ∧ s.toDevice.get FAB_SWAP_STAT_armed = 0 ∧ i ∈ s.toDevice.swapIslands) ∧
    (∃ (s : State), s.toDevice.get FAB_SWAP_STAT_pending = 1 ∧ s.toDevice.get FAB_SWAP_STAT_armed = 0 ∧ s.toDevice.rasterStopped = false ∧ s.toDevice.notReady = 0) ∧
    (∃ (s : State), s.toDevice.get FAB_SWAP_STAT_pending = 1 ∧ s.toDevice.get FAB_SWAP_STAT_armed = 0 ∧ s.toDevice.rasterStopped = false ∧ s.toDevice.notReady ≠ 0 ∧ s.toDevice.get FAB_SWAP_STAT_defer < 3) ∧
    (∃ (i : Nat) (s : State), s.toDevice.swapFlips = true ∧ i ∈ s.toDevice.swapIslands) ∧
    (∃ (s : State), s.toDevice.swapFlips = true ∧ s.toDevice.allDone = true) ∧
    (∃ (s : State), s.power.coreOn = true ∧ s.toDevice.mode ≠ 5 ∧ s.toDevice.get FAB_SWAP_STAT_pending = 1 ∧ s.swap.window = true ∧ s.toDevice.allDone = false) ∧
    (∃ (s : State), s.toDevice.get FAB_SWAP_STAT_refill = 1) :=
  ⟨⟨0, TMG_HACT, 8192, st [], by decide +kernel⟩,
   ⟨0, false, panel [(FAB_MIR_STAT_valid, 1), (ACL_LANE_STAT_state 3, 4), (ACL_LANE_STAT_state 7, 4)], by decide +kernel⟩,
   ⟨0, false, st [(FAB_SWAP_STAT_pending, 1)], by decide +kernel⟩,
   ⟨56, st [(FAB_SWAP_STAT_pending, 1)], by decide +kernel⟩,
   ⟨stD { dev [(FAB_SWAP_STAT_pending, 1), (TMG_STAT_raster, 1)] with swap := { ready := 2 ^ 57 - 1 } }, by decide +kernel⟩,
   ⟨st [(FAB_SWAP_STAT_pending, 1), (TMG_STAT_raster, 1), (FAB_SWAP_STAT_defer, 2)], by decide +kernel⟩,
   ⟨56, stD { dev [(FAB_SWAP_STAT_pending, 1)] with swap := { window := true } }, by decide +kernel⟩,
   ⟨stD { dev [(FAB_SWAP_STAT_pending, 1)] with swap := { window := true, done := 2 ^ 57 - 1 } }, by decide +kernel⟩,
   ⟨stD { dev [(FAB_SWAP_STAT_pending, 1)] with swap := { window := true } }, by decide +kernel⟩,
   ⟨st [(FAB_SWAP_STAT_refill, 1)], by decide +kernel⟩⟩

/-- Every clause of `Obligations.LiveWritesActAtOnce` has a state and operands that meet its hypotheses. -/
theorem witness_LiveWritesActAtOnce :
    (∃ (m : Master) (i : Fin 16) (val : Nat) (s : State), s.power.coreOn = true ∧ among m mSide = true ∧ reservedBad (LAY_POS i) val = false ∧ val < 2 ^ 32 ∧ bitsOf val 13 0 ≤ 8191 ∧ bitsOf val 28 16 ≤ 4351 ∧ s.toDevice.tearsNow = false) ∧
    (∃ (m : Master) (i : Fin 16) (val : Nat) (s : State), s.power.coreOn = true ∧ among m mSide = true ∧ reservedBad (LAY_POS i) val = false ∧ val < 2 ^ 32 ∧ bitsOf val 13 0 ≤ 8191 ∧ bitsOf val 28 16 ≤ 4351 ∧ s.toDevice.tearsNow = true ∧ s.ras.layTorn = false) ∧
    (∃ (m : Master) (off val : Nat) (s : State), s.power.coreOn = true ∧ off ∈ tmgLive ∧ among m mFabric = true ∧ s.toDevice.kRegShut m = false ∧ val < 2 ^ 32 ∧ tmgOk off val = true ∧ s.toDevice.breaksLive off val = false ∧ reservedBad off val = false ∧ s.toDevice.roBad off val = false) ∧
    (∃ (m : Master) (order : Bool) (val : Nat) (s : State), s.power.coreOn = true ∧ among m mSide = true ∧ val < 2 ^ 32 ∧ (reservedBad (if order then LAY_ZORDER_LO else LAY_PAL_DATA0) val = false)) ∧
    (∃ (m : Master) (lo val : Nat) (s : State), s.power.coreOn = true ∧ among m mSide = true ∧ val < 2 ^ 32 ∧ lo < 2 ^ 32 ∧ reservedBad LAY_ZORDER_HI val = false ∧ heldOf s.lay.heldOrder m = some lo ∧ (∀ i < 16, ∃ p < 16, orderAt lo val p = i) ∧ s.toDevice.tearsNow = false) ∧
    (∃ (m : Master) (lo val : Nat) (s : State), s.power.coreOn = true ∧ among m mSide = true ∧ val < 2 ^ 32 ∧ reservedBad LAY_PAL_DATA1 val = false ∧ heldOf s.lay.heldPal m = some lo ∧ (s.toDevice.rdB m LAY_PAL_IDX).testBit 16 = false) ∧
    (∃ (m : Master) (val : Nat) (s : State), s.power.coreOn = true ∧ among m mSide = true ∧ val < 65536 ∧ s.toDevice.tearsNow = false ∧ (∀ i < 16, val.testBit i = true → (s.toDevice.rd LAY_FAULT).testBit i = false ∧ ((s.toDevice.rd LAY_EN).testBit i = true ∨ s.toDevice.get (LAY_SRC_bound i) = 1 ∧ s.toDevice.get (LAY_SIZE_width i) ≠ 0 ∧ s.toDevice.get (LAY_SIZE_height i) ≠ 0))) :=
  ⟨⟨0, 15, 8191 + 4351 * 65536, st [], by decide +kernel⟩,
   ⟨0, 15, 0, stD { dev [(TMG_STAT_raster, 1)] with ras := { active := true } }, by decide +kernel⟩,
   ⟨0, TMG_VFP, 2, panel [], by decide +kernel⟩,
   ⟨0, true, 2 ^ 32 - 1, st [], by decide +kernel⟩,
   ⟨0, 0x76543210, 0xFEDCBA98, stD { dev [] with lay := { heldOrder := [(0, some 0x76543210)] } }, by decide +kernel⟩,
   ⟨0, 0, 0, stD { dev [] with lay := { heldPal := [(0, some 0)] } }, by decide +kernel⟩,
   ⟨0, 0x8000, st [(LAY_SRC_bound 15, 1), (LAY_SIZE_width 15, 1), (LAY_SIZE_height 15, 1)], by decide +kernel⟩⟩

/-- Every clause of `Obligations.LayerPoolServes` has a state and operands that meet its hypotheses. -/
theorem witness_LayerPoolServes :
    (∃ (m : Master) (n h g : Nat) (s : State), s.power.coreOn = true ∧ among m mSide = true ∧ s.toDevice.get MEM_FS_STAT_init = 1 ∧ 0 < n ∧ n ≤ 544 ∧ (List.range 64).find? (fun h => s.toDevice.get (LAY_BUF_INFO_alloc h) = 0) = some h ∧ s.toDevice.poolRun n = some g ∧ g < 16384) ∧
    (∃ (m : Master) (h : Fin 64) (s : State), s.power.coreOn = true ∧ among m mSide = true ∧ s.toDevice.get (LAY_BUF_INFO_alloc h) = 1 ∧ (m.val = 0 ∨ s.toDevice.get (LAY_BUF_INFO_master h) = m) ∧ (s.toDevice.rd (LAY_BUF_REF (h / 32))).testBit (h % 32) = false) ∧
    (∃ (h : Fin 64) (s : State), s.toDevice.bufUsed h = false ∧ (s.toDevice.rd (LAY_BUF_REF (h / 32))).testBit (h % 32) = true ∧ s.toDevice.get (LAY_BUF_INFO_master h) < 10) ∧
    (∃ (i : Fin 16) (t : Lane) (x : Nat) (s : State), s.power.coreOn = true ∧ s.ras.active = true ∧ s.lay.dropped.testBit i = false ∧ (s.toDevice.rd LAY_EN).testBit i = true ∧ (s.toDevice.rdF (LAY_SRC i)).testBit 31 = true) ∧
    (∃ (m : Master) (val : Nat) (s : State), s.power.coreOn = true ∧ among m mIntegrator = true ∧ (s.toDevice.rdB m FAB_POOL_CLAIM).testBit 31 = false ∧ val < 2 ^ 32 ∧ val.testBit 31 = true ∧ reservedBad FAB_POOL_CLAIM val = false ∧ bitsOf val 25 16 ≠ 0 ∧ bitsOf val 8 0 + bitsOf val 25 16 ≤ 512 ∧ (∀ i < bitsOf val 25 16, s.toDevice.owner 4 (bitsOf val 8 0 + i) = none)) ∧
    (∃ (m : Master) (s : State), s.power.coreOn = true ∧ among m mIntegrator = true ∧ reservedBad FAB_POOL_CLAIM (offBit (s.toDevice.rdB m FAB_POOL_CLAIM) 31) = false) :=
  ⟨⟨0, 544, 0, 0, st [(MEM_FS_STAT_init, 1), (whole (MEM_RGN_SIZE 9), 544 * 65536)], by decide +kernel⟩,
   ⟨0, 63, st [(LAY_BUF_INFO_alloc 63, 1)], by decide +kernel⟩,
   ⟨63, st [(⟨LAY_BUF_REF 1, 31, 31⟩, 1)], by decide +kernel⟩,
   ⟨15, 95, 0, stD { dev [(⟨LAY_EN, 15, 15⟩, 1), (⟨LAY_SRC 15, 31, 31⟩, 1)] with ras := { active := true } }, by decide +kernel⟩,
   ⟨7, 0x80000000 + 511 + 65536, st [], by decide +kernel⟩,
   ⟨7, stD ((dev []).wrB 7 FAB_POOL_CLAIM 0x80010000), by decide +kernel⟩⟩

/-- Every clause of `Obligations.KeepStoresRun` has a state and operands that meet its hypotheses. -/
theorem witness_KeepStoresRun :
    (∃ (m : Master) (s : State), s.power.coreOn = true ∧ s.bridge.lost = false ∧ among m mKeepStore = true ∧ s.toDevice.kClosed = false ∧ s.keep.store = none) ∧
    (∃ (s : State), s.power.coreOn = true ∧ s.toDevice.modeIn 0x3E = true ∧ s.toDevice.kClosed = false ∧ s.toDevice.get KEEP_CTRL_auto ≠ 0 ∧ s.keep.dirty ≠ 0 ∧ s.keep.store = none) ∧
    (∃ (s : State), s.power.coreOn = true ∧ s.toDevice.modeIn 0x3E = true ∧ s.toDevice.kClosed = false ∧ s.toDevice.get KEEP_CTRL_auto ≠ 0 ∧ s.keep.dirty ≠ 0 ∧ s.keep.store ≠ none) ∧
    (∃ (k : KeepStore) (s : State), s.keep.store = some k ∧ k.snapped = false ∧ s.keep.ctrBusy = none) ∧
    (∃ (k : KeepStore) (s : State), s.keep.store = some k ∧ k.snapped = true ∧ s.trans = none ∧ s.toDevice.mode ≠ 0 ∧ s.keep.waitPw = false ∧ s.keep.waitAuto = false ∧ s.keep.frozen = false ∧ s.toDevice.memWf) ∧
    (∃ (k : KeepStore) (s : State), s.keep.store = some k ∧ k.snapped = true ∧ s.power.coreOn = true ∧ s.trans = none ∧ s.toDevice.mode ≠ 0 ∧ s.keep.waitPw = false ∧ s.keep.waitAuto = false ∧ s.toDevice.get FLT_CTRL_log_s1 = 0) :=
  ⟨⟨0, stD { dev [] with keep := { recalling := false } }, by decide +kernel⟩,
   ⟨stD { dev [(KEEP_CTRL_auto, 1)] with keep := { recalling := false, dirty := 1 } }, by decide +kernel⟩,
   ⟨stD { dev [(KEEP_CTRL_auto, 1)] with keep := { recalling := false, dirty := 1, store := some { kind := 0 } } }, by decide +kernel⟩,
   ⟨{ kind := 0 }, stD { dev [] with keep := { store := some { kind := 0 } } }, by decide +kernel⟩,
   ⟨{ kind := 0, snapped := true }, stD { dev [] with keep := { store := some { kind := 0, snapped := true } } }, by decide +kernel, by decide +kernel, by decide +kernel, by decide +kernel, by decide +kernel, by decide +kernel, by decide +kernel, memWf_reset _ rfl rfl rfl rfl rfl rfl⟩,
   ⟨{ kind := 0, snapped := true }, stD { dev [] with keep := { store := some { kind := 0, snapped := true } } }, by decide +kernel⟩⟩

/-- Every clause of `Obligations.KeepPasswordsOpenRegions` has a state and operands that meet its hypotheses. -/
theorem witness_KeepPasswordsOpenRegions :
    (∃ (m : Master) (val : Nat) (s : State), s.power.coreOn = true ∧ s.bridge.lost = false ∧ among m mKeepRead = true ∧ bitsOf val 31 18 = 0 ∧ (bitsOf val 17 16 = (if s.toDevice.pwReady m then [] else s.toDevice.pwWords m).length)) ∧
    (∃ (m : Master) (j : Fin 16) (s : State), s.power.coreOn = true ∧ s.bridge.lost = false ∧ among m mKeepRead = true ∧ s.toDevice.kClosed = false ∧ s.toDevice.pwHeld m = false ∧ s.toDevice.pwReady m = true ∧ (s.toDevice.kPw j = 0 ∨ s.toDevice.kPw j = pwValue (s.toDevice.pwWords m))) ∧
    (∃ (m : Master) (j : Fin 16) (s : State), s.power.coreOn = true ∧ s.bridge.lost = false ∧ among m mKeepRead = true ∧ s.toDevice.kClosed = false) ∧
    (∃ (m : Master) (s : State), s.power.coreOn = true ∧ s.bridge.lost = false ∧ among m mKeepRead = true ∧ s.toDevice.kClosed = false) ∧
    (∃ (m : Master) (j : Fin 16) (s : State), s.power.coreOn = true ∧ s.bridge.lost = false ∧ among m mKeepOwner = true ∧ s.toDevice.kClosed = false ∧ s.toDevice.pwAuthorised m j = true ∧ s.toDevice.pwReady m = true ∧ s.keep.store = none) ∧
    (∃ (m : Master) (j : Fin 16) (val : Nat) (s : State), s.power.coreOn = true ∧ s.bridge.lost = false ∧ among m mKeepOwner = true ∧ s.toDevice.kClosed = false ∧ s.toDevice.pwAuthorised m j = true ∧ s.toDevice.kRegShut m = false ∧ s.keep.store = none ∧ val < 2 ^ 32 ∧ bitsOf val 29 29 = s.toDevice.get (KEEP_RGN_pw j) ∧ bitsOf val 28 26 = 0 ∧ bitsOf val 15 10 = 0 ∧ (j.val < 8 → bitsOf val 9 0 = s.toDevice.get (KEEP_RGN_first j) ∧ bitsOf val 25 16 = s.toDevice.get (KEEP_RGN_count j)) ∧ (8 ≤ j.val → bitsOf val 25 16 = 0 ∨ 512 ≤ bitsOf val 9 0 ∧ bitsOf val 9 0 + bitsOf val 25 16 ≤ 1024 ∧ ∀ i < 16, i ≠ j.val → rangesMeet (bitsOf val 9 0) (bitsOf val 25 16) (s.toDevice.get (KEEP_RGN_first i)) (s.toDevice.get (KEEP_RGN_count i)) = false)) :=
  ⟨⟨0, 65535, stD { dev [] with keep := { recalling := false } }, by decide +kernel⟩,
   ⟨0, 15, stD { dev [] with keep := { recalling := false, pwLatch := [(0, [1, 2, 3, 4])] } }, by decide +kernel⟩,
   ⟨0, 15, stD { dev [] with keep := { recalling := false } }, by decide +kernel⟩,
   ⟨0, stD { dev [] with keep := { recalling := false } }, by decide +kernel⟩,
   ⟨0, 15, stD { dev [] with keep := { recalling := false, pwLatch := [(0, [1, 2, 3, 4])] } }, by decide +kernel⟩,
   ⟨0, 15, 512 + 65536 * 512, stD { dev [] with keep := { recalling := false } }, by decide +kernel⟩⟩

/-- Every clause of `Obligations.KeepWordsMove` has a state and operands that meet its hypotheses. -/
theorem witness_KeepWordsMove :
    (∃ (m : Master) (s : State), s.power.coreOn = true ∧ s.bridge.lost = false ∧ among m mKeepRead = true ∧ s.keep.recalling = false ∧ s.toDevice.rdB m KEEP_PTR < 0x40000 ∧ (512 ≤ s.toDevice.rdB m KEEP_PTR / 256 → s.toDevice.kRegion (s.toDevice.rdB m KEEP_PTR / 256) ≠ none) ∧ (∀ j, s.toDevice.kRegion (s.toDevice.rdB m KEEP_PTR / 256) = some j → s.toDevice.kReadShut m j = false)) ∧
    (∃ (m : Master) (val : Nat) (s : State), s.power.coreOn = true ∧ s.bridge.lost = false ∧ among m mKeepRead = true ∧ s.keep.recalling = false ∧ s.keep.frozen = false ∧ s.toDevice.rdB m KEEP_PTR < 0x40000 ∧ val < 2 ^ 32 ∧ (s.toDevice.rdB m KEEP_PTR / 256 < 128 ∧ among m mWalern = true ∨ 512 ≤ s.toDevice.rdB m KEEP_PTR / 256 ∧ m.val ≤ 9 ∧ s.toDevice.kRegion (s.toDevice.rdB m KEEP_PTR / 256) ≠ none) ∧ (∀ j, s.toDevice.kRegion (s.toDevice.rdB m KEEP_PTR / 256) = some j → s.toDevice.kWriteShut m j = false)) :=
  ⟨⟨0, stD { dev [] with keep := { recalling := false } }, by decide +kernel⟩,
   ⟨2, 1, stD { dev [] with keep := { recalling := false } }, by decide +kernel⟩⟩

/-- Every clause of `Obligations.RecordsGoThroughTheStage` has a state and operands that meet its hypotheses. -/
theorem witness_RecordsGoThroughTheStage :
    (∃ (m : Master) (i : Fin 256) (val : Nat) (s : State), s.power.coreOn = true ∧ s.bridge.lost = false ∧ among m 0x53FF = true ∧ s.keep.recalling = false ∧ (s.keep.stageOwner = none ∨ s.keep.stageOwner = some m.val) ∧ s.keep.commit = none ∧ val < 2 ^ 32) ∧
    (∃ (m : Master) (id : Nat) (forEn : Bool) (who : Master) (p : RecPlace) (c : Nat × List Nat) (s : State), id < 256 ∧ s.power.coreOn = true ∧ s.bridge.lost = false ∧ (∀ x ∈ s.toDevice.recChecks m 1 id 0 forEn who, x.1 = false) ∧ s.toDevice.recPlace m id = some p ∧ (s.toDevice.recResolve p id).2.2.twin = false ∧ (s.toDevice.recResolve p id).2.2.count = false ∧ s.toDevice.recTaken p id = some c) ∧
    (∃ (m : Master) (id len : Nat) (forEn : Bool) (who : Master) (p : RecPlace) (s : State), id < 256 ∧ len < 2048 ∧ s.power.coreOn = true ∧ s.bridge.lost = false ∧ (∀ x ∈ s.toDevice.recChecks m 2 id len forEn who, x.1 = false) ∧ s.toDevice.recPlace m id = some p ∧ (s.toDevice.recResolve p id).2.2.twin = false ∧ (s.toDevice.recResolve p id).2.2.count = false) ∧
    (∃ (c : RecCommit) (s : State), s.keep.commit = some c ∧ s.mbx.commitFor = none) :=
  ⟨⟨9, 255, 2 ^ 32 - 1, stD { dev [] with keep := { recalling := false } }, by decide +kernel⟩,
   ⟨0, 9, false, 0, ⟨42, 43, 244, false⟩, (2, [9]), stD { dev [] with keep := keepOf [(42, recordBytes 1 9 [7, 8]), (43, recordBytes 2 9 [9])] }, by decide +kernel⟩,
   ⟨2, 9, 244, false, 0, ⟨42, 43, 244, false⟩, stD { dev [] with keep := keepOf [(42, recordBytes 1 9 [7, 8]), (43, recordBytes 2 9 [9])] }, by decide +kernel⟩,
   ⟨⟨2, 9, 0, 4, 1⟩, stD { dev [] with keep := { recalling := false, commit := some ⟨2, 9, 0, 4, 1⟩ } }, by decide +kernel⟩⟩

/-- Every clause of `Obligations.CountersLogAndClockAdvance` has a state and operands that meet its hypotheses. -/
theorem witness_CountersLogAndClockAdvance :
    (∃ (m : Master) (amount : Nat) (s : State), s.power.coreOn = true ∧ s.bridge.lost = false ∧ s.toDevice.kClosed = false ∧ mayCount m (s.toDevice.ctrSel m) = true ∧ amount < 2 ^ 24 ∧ s.keep.ctrBusy = none) ∧
    (∃ (m : Master) (u : CtrUpdate) (s : State), s.power.coreOn = true ∧ s.bridge.lost = false ∧ s.toDevice.kClosed = false ∧ mayCount m (s.toDevice.ctrSel m) = true ∧ s.keep.ctrBusy = some u) ∧
    (∃ (u : CtrUpdate) (s : State), s.keep.ctrBusy = some u) ∧
    (∃ (m : Master) (s : State), s.power.coreOn = true ∧ s.bridge.lost = false ∧ s.keep.recalling = false) ∧
    (∃ (m : Master) (s : State), s.power.coreOn = true ∧ s.bridge.lost = false ∧ s.toDevice.kClosed = false ∧ among m mWalern = true) ∧
    (∃ (m : Master) (val : Nat) (s : State), s.power.coreOn = true ∧ s.bridge.lost = false ∧ (m.val = 0 ∨ m.val = 2) ∧ s.keep.recalling = false ∧ s.toDevice.rd KEEP_CLK ≤ val ∧ val < 2 ^ 32) ∧
    (∃ (vkeep : Bool) (s : State), s.power.coreOn = false) ∧
    (∃ (vkeep : Bool) (u : CtrUpdate) (s : State), s.power.coreOn = true ∧ s.toDevice.mode = 2 ∧ s.toDevice.kClosed = false ∧ s.keep.ctrBusy = some u) :=
  ⟨⟨2, 2 ^ 24 - 1, stD { dev [] with keep := { recalling := false } }, by decide +kernel⟩,
   ⟨2, ⟨5, false, 3⟩, stD { dev [] with keep := { recalling := false, ctrBusy := some ⟨5, false, 3⟩ } }, by decide +kernel⟩,
   ⟨⟨5, false, 3⟩, stD { dev [] with keep := { recalling := false, ctrBusy := some ⟨5, false, 3⟩ } }, by decide +kernel⟩,
   ⟨0, stD { dev [] with keep := { recalling := false } }, by decide +kernel⟩,
   ⟨2, stD { dev [] with keep := { recalling := false } }, by decide +kernel⟩,
   ⟨2, 2 ^ 32 - 1, stD { dev [] with keep := { recalling := false } }, by decide +kernel⟩,
   ⟨true, stD { dev [] with power := { coreOn := false } }, by decide +kernel⟩,
   ⟨false, ⟨5, false, 3⟩, stD { dev [(GLB_MODE_state, 2)] with keep := { recalling := false, ctrBusy := some ⟨5, false, 3⟩ } }, by decide +kernel⟩⟩

/-- Every clause of `Obligations.StatusGlassChanges` has a state and operands that meet its hypotheses. -/
theorem witness_StatusGlassChanges :
    (∃ (ram : Bool) (s : State), s.toDevice.mode ≠ 0) ∧
    (∃ (m : Master) (val : Nat) (s : State), s.power.coreOn = true ∧ s.bridge.lost = false ∧ among m 0x385 = true ∧ s.toDevice.kRegShut m = false ∧ val < 2 ^ 32 ∧ val.testBit 16 = true ∧ segCfgBad val = false ∧ s.toDevice.wideHeld = true ∧ s.seg.wideRelease = false) ∧
    (∃ (m : Master) (val : Nat) (s : State), s.power.coreOn = true ∧ s.bridge.lost = false ∧ among m 0x385 = true ∧ s.toDevice.kRegShut m = false ∧ val < 2 ^ 32 ∧ val.testBit 16 = true ∧ segCfgBad val = false ∧ (s.toDevice.wideHeld = false ∨ s.seg.wideRelease = true) ∧ s.toDevice.wideTaken = false) ∧
    (∃ (m : Master) (val : Nat) (s : State), s.power.coreOn = true ∧ s.bridge.lost = false ∧ among m 0x385 = true ∧ s.toDevice.kRegShut m = false ∧ val < 2 ^ 32 ∧ val.testBit 16 = false ∧ segCfgBad val = false) :=
  ⟨⟨false, st [], by decide +kernel⟩,
   ⟨0, 0x10000, stD { dev [] with keep := { recalling := false }, claims := [{ feature := 6, cls := 8, idx := 36, master := 0 }] }, by decide +kernel⟩,
   ⟨0, 0x10000, stD { dev [] with keep := { recalling := false } }, by decide +kernel⟩,
   ⟨0, 150 * 16, stD { dev [] with keep := { recalling := false } }, by decide +kernel⟩⟩

/-- Every clause of `Obligations.FrameStoreWindowsWork` has a state and operands that meet its hypotheses. -/
theorem witness_FrameStoreWindowsWork :
    (∃ (a : Nat) (bs : List (Option Nat)) (s : State), s.toDevice.barOpen = true ∧ a + bs.length ≤ 2 ^ 32 ∧ (∀ b ∈ enabled a bs, s.toDevice.wpDrops b.1 = false ∧ b.1 / 8 ∉ s.mem.fsUe ∧ b.1 / 8 ∉ s.mem.fsCe ∧ b.1 / 8 ∉ s.mem.writeback)) ∧
    (∃ (a : Nat) (bs : List (Option Nat)) (b : Nat × Nat) (l : List (Nat × Nat)) (s : State), s.toDevice.barOpen = true ∧ a + bs.length ≤ 2 ^ 32 ∧ enabled a bs = b :: l ∧ (∀ c ∈ enabled a bs, s.toDevice.wpDrops c.1 = true)) ∧
    (∃ (a n : Nat) (s : State), s.toDevice.barOpen = true ∧ a + n ≤ 2 ^ 32 ∧ (∀ w ∈ wordsOf a n, w ∉ s.mem.fsUe ∧ w ∉ s.mem.fsCe)) ∧
    (∃ (w : Nat) (s : State), w ∈ s.mem.writeback) ∧
    (∃ (s : State), s.toDevice.scrubOn = true ∧ s.mem.scrub < 2 ^ 29 - 1 ∧ s.mem.scrub ∉ s.mem.fsUe ∧ s.mem.scrub ∉ s.mem.fsCe ∧ s.mem.scrub ∉ s.mem.writeback) ∧
    (∃ (s : State), s.toDevice.scrubOn = true ∧ s.mem.scrub = 2 ^ 29 - 1 ∧ s.mem.scrub ∉ s.mem.fsUe ∧ s.mem.scrub ∉ s.mem.fsCe) :=
  ⟨⟨2 ^ 32 - 1, [some 1], st [(HIF_PCI_STAT_up, 1)], by decide +kernel⟩,
   ⟨0, [some 1], (0, 1), [], st [(HIF_PCI_STAT_up, 1), (MEM_WIN_WP_prot, 1), (whole (MEM_RGN_SIZE 0), 64)], by decide +kernel⟩,
   ⟨0, 4096, st [(HIF_PCI_STAT_up, 1)], by decide +kernel⟩,
   ⟨5, stD { dev [] with mem := { writeback := [5] } }, by decide +kernel⟩,
   ⟨stD { dev [(MEM_SCRUB_en, 1), (MEM_FS_STAT_init, 1)] with mem := { scrub := 2 ^ 29 - 2 } }, by decide +kernel⟩,
   ⟨stD { dev [(MEM_SCRUB_en, 1), (MEM_FS_STAT_init, 1)] with mem := { scrub := 2 ^ 29 - 1 } }, by decide +kernel⟩⟩

/-- Every clause of `Obligations.PondWindowWorks` has a state and operands that meet its hypotheses. -/
theorem witness_PondWindowWorks :
    (∃ (m : Master) (a : Nat) (s : State), (m.val = 0 ∨ m.val = 14) ∧ s.power.coreOn = true ∧ a % 4 = 0 ∧ a < 0x3000000 ∧ s.toDevice.underDestroy (a / 131072) = false ∧ s.toDevice.inCopyWindow a = false ∧ s.toDevice.get (MEM_BANK_INFO_retained (a / 131072)) = 0 ∧ s.toDevice.pondMap a / 8 ∉ s.mem.pondUe) ∧
    (∃ (m : Master) (a : Nat) (s : State) (v : _), (m.val = 0 ∨ m.val = 14) ∧ s.power.coreOn = true ∧ a % 4 = 0 ∧ a < 0x3000000 ∧ s.toDevice.underDestroy (a / 131072) = false ∧ s.toDevice.inCopyWindow a = false ∧ s.toDevice.get (MEM_BANK_INFO_retained (a / 131072)) = 0 ∧ v < 2 ^ 32 ∧ s.toDevice.pondRight a true = none) ∧
    (∃ (m : Master) (a : Nat) (s : State), (m.val = 0 ∨ m.val = 14) ∧ s.power.coreOn = true ∧ a % 4 = 0 ∧ a < 0x3000000 ∧ s.toDevice.underDestroy (a / 131072) = false ∧ s.toDevice.inCopyWindow a = false ∧ s.toDevice.get (MEM_BANK_INFO_retained (a / 131072)) = 1 ∧ a / 131072 ∉ s.mem.waking) ∧
    (∃ (m : Master) (a : Nat) (s : State), s.mem.retry = [{ master := m, off := a, val := none }] ∧ a / 131072 ∉ s.mem.waking ∧ s.toDevice.underDestroy (a / 131072) = false ∧ s.toDevice.inCopyWindow a = false ∧ s.toDevice.get (MEM_BANK_INFO_retained (a / 131072)) = 0 ∧ s.toDevice.pondMap a / 8 ∉ s.mem.pondUe) ∧
    (∃ (i : Fin 384) (s : State), s.power.coreOn = true ∧ s.toDevice.get (MEM_BANK_CFG_ret i) = 1 ∧ s.toDevice.get (MEM_BANK_INFO_test i) = 0 ∧ i.val ∉ s.mem.waking) ∧
    (∃ (i : Fin 384) (s : State), i.val ∈ s.mem.waking) :=
  ⟨⟨14, 0x2FFFFFC, st [], by decide +kernel⟩,
   ⟨0, 64 * 131072, st [], 2 ^ 32 - 1, by decide +kernel⟩,
   ⟨0, 131072, st [(MEM_BANK_INFO_retained 1, 1)], by decide +kernel⟩,
   ⟨0, 4, stD { dev [] with mem := { retry := [{ master := 0, off := 4, val := none }] } }, by decide +kernel⟩,
   ⟨383, st [(MEM_BANK_CFG_ret 383, 1)], by decide +kernel⟩,
   ⟨383, stD { dev [] with mem := { waking := [383] } }, by decide +kernel⟩⟩

/-- Every clause of `Obligations.MarchRuns` has a state and operands that meet its hypotheses. -/
theorem witness_MarchRuns :
    (∃ (m : Master) (n : Nat) (s : State), s.power.coreOn = true ∧ among m 0x385 = true ∧ s.toDevice.get MEM_MARCH_STAT_busy = 0 ∧ s.toDevice.modeIn 0x1E = true ∧ s.toDevice.marchNext 0 = some n) ∧
    (∃ (m : Master) (i : Nat) (s : State), s.power.coreOn = true ∧ among m 0x385 = true ∧ s.toDevice.get MEM_MARCH_STAT_busy = 0 ∧ s.toDevice.modeIn 0x1E = true ∧ s.toDevice.released 0 = some i ∧ (among m mIntegrator = false ∨ ∀ b < 384, s.toDevice.get (MEM_BANK_CFG_release b) = 1 → s.toDevice.bankMaster b = none ∨ s.toDevice.bankMaster b = some m.val)) ∧
    (∃ (m : Master) (s : State), s.power.coreOn = true ∧ among m 0x385 = true ∧ s.toDevice.get MEM_MARCH_STAT_busy = 1 ∧ s.mem.march.stage = .wait) ∧
    (∃ (m : Master) (s : State), s.power.coreOn = true ∧ among m 0x385 = true ∧ s.toDevice.get MEM_MARCH_STAT_busy = 1 ∧ s.mem.march.stage ≠ .wait) ∧
    (∃ (n : Nat) (s : State), s.mem.march.stage = .wait ∧ s.toDevice.marchNext (s.toDevice.get MEM_MARCH_STAT_bank * 32 + s.toDevice.get MEM_MARCH_STAT_segment + 1) = some n) ∧
    (∃ (s : State), s.mem.march.stage = .copyIn ∧ s.toDevice.memWf) ∧
    (∃ (s : State), s.mem.march.stage = .test) ∧
    (∃ (s : State), s.mem.march.stage = .copyBack ∧ s.mem.march.full = false ∧ s.mem.march.aborting = false ∧ s.toDevice.memWf ∧ s.toDevice.marchNext (s.toDevice.get MEM_MARCH_STAT_bank * 32 + s.toDevice.get MEM_MARCH_STAT_segment + 1) ≠ none) ∧
    (∃ (s : State), s.mem.march.stage = .bank ∧ s.mem.march.aborting = false ∧ s.toDevice.released (s.toDevice.get MEM_MARCH_STAT_bank + 1) = none) :=
  ⟨⟨0, 128, st [], by decide +kernel⟩,
   ⟨0, 100, st [(MEM_BANK_CFG_release 100, 1)], by decide +kernel⟩,
   ⟨0, stD { dev [(MEM_MARCH_STAT_busy, 1)] with mem := { march := { stage := .wait } } }, by decide +kernel⟩,
   ⟨0, stD { dev [(MEM_MARCH_STAT_busy, 1)] with mem := { march := { stage := .test } } }, by decide +kernel⟩,
   ⟨129, stD { dev [(MEM_MARCH_STAT_bank, 4)] with mem := { march := { stage := .wait } } }, by decide +kernel⟩,
   ⟨stD { dev [] with mem := { march := { stage := .copyIn } } }, by decide +kernel, memWf_reset _ rfl rfl rfl rfl rfl rfl⟩,
   ⟨stD { dev [] with mem := { march := { stage := .test } } }, by decide +kernel⟩,
   ⟨stD { dev [(MEM_MARCH_STAT_bank, 4)] with mem := { march := { stage := .copyBack } } }, by decide +kernel, by decide +kernel, by decide +kernel, memWf_reset _ rfl rfl rfl rfl rfl rfl, by decide +kernel⟩,
   ⟨stD { dev [(MEM_MARCH_STAT_bank, 100)] with mem := { march := { stage := .bank } } }, by decide +kernel⟩⟩

/-- Every clause of `Obligations.ShapingAndMapsAreLoaded` has a state and operands that meet its hypotheses. -/
theorem witness_ShapingAndMapsAreLoaded :
    (∃ (m : Master) (val : Nat) (s : State), s.power.coreOn = true ∧ among m mFabric = true ∧ val < 2 ^ 32 ∧ reservedBad TRN_KNOT_DATA val = false ∧ s.toDevice.knotShut (bitsOf (s.toDevice.rdB m TRN_KNOT_SEL) 24 24) = false) ∧
    (∃ (m : Master) (k : Fin 144) (val : Nat) (s : State), s.power.coreOn = true ∧ among m s.toDevice.gridMasters = true ∧ val < 2 ^ 16 ∧ -640 ≤ signedOf 16 val ∧ signedOf 16 val ≤ 2000) ∧
    (∃ (s : State), s.power.coreOn = true) ∧
    (∃ (s : State), s.power.coreOn = true ∧ s.toDevice.get TRN_TSTAT_stale = 0) ∧
    (∃ (i : Instr) (op : Nat) (m : Master) (s : State), (i, op) ∈ [(Instr.kickRetarget m, 1), (.kickSettle m, 2), (.kickFreeze m, 3), (.kickUnfreeze m, 4)] ∧ s.power.coreOn = true ∧ among m mKick = true ∧ s.toDevice.get TRN_KICK_RANGE_first ≤ s.toDevice.get TRN_KICK_RANGE_last ∧ s.toDevice.get TRN_KICK_RANGE_last < s.toDevice.tileCount ∧ s.trn.kick = none) ∧
    (∃ (i : Instr) (op : Nat) (m : Master) (t : Fin 4) (s : State), (i, op) ∈ [(Instr.mapLoad m t, 1), (.mapCheckAdopt m t, 2)] ∧ s.power.coreOn = true ∧ among m mFabric = true ∧ s.cmp.op = none ∧ (t.val < 2 → s.toDevice.modeIn 0x1C = false) ∧ (t.val = 3 → (s.toDevice.trnOn = false ∨ s.toDevice.getF TRN_CTRL_knot_sel ≠ 0) ∧ s.toDevice.get TRN_CTRL_knot_sel = s.toDevice.getF TRN_CTRL_knot_sel) ∧ (op = 2 → 2 ≤ t.val → s.toDevice.meetsScan (s.toDevice.rd CMP_MAP_ADDR) (s.toDevice.mapLen t) = false)) ∧
    (∃ (o : MapOp) (m : Master) (f : MapFail) (d : Device) (err : Bool) (s : State), s.cmp.op = some o ∧ o.master = m ∧ o.type < 4 ∧ ({ s.toDevice with cmp := { s.cmp with op := none } }).mapRun o.op o.type err = (d, some f) ∧ f.check < 256 ∧ f.code < 256 ∧ f.off < 2 ^ 32) ∧
    (∃ (o : MapOp) (h : MapEntry) (s : State), s.cmp.op = some o ∧ o.op = 2 ∧ o.type < 2 ∧ s.toDevice.mapHead o.type = .ok h ∧ h.version < 2 ^ 32 ∧ s.toDevice.mapBody o.type h (s.toDevice.mapInPlace o.type) = .ok ()) :=
  ⟨⟨0, 0, st [], by decide +kernel⟩,
   ⟨5, 143, 2000, st [], by decide +kernel⟩,
   ⟨st [], by decide +kernel⟩,
   ⟨st [], by decide +kernel⟩,
   ⟨.kickRetarget 0, 1, 0, panel [], by decide +kernel⟩,
   ⟨.mapLoad 0 2, 1, 0, 2, st [], by decide +kernel⟩,
   ⟨{ master := 0, op := 1, type := 3 }, 0, ⟨1, eState, 0⟩, { dev [] with cmp := {} }, false, stD { dev [] with cmp := { op := some { master := 0, op := 1, type := 3 } } }, by decide +kernel⟩,
   ⟨{ master := 0, op := 2, type := 1 }, ⟨0, 0, 7, crc32 (leBytes 4 7), 0, 0, true⟩, stD { dev [] with cmp := { op := some { master := 0, op := 2, type := 1 } }, keep := keepOf [(4, recordBytes 1 2 (List.replicate 16 0 ++ List.replicate 32 0 ++ List.replicate 8 0 ++ leBytes 4 7 ++ leBytes 4 (crc32 (leBytes 4 7)) ++ [0, 0, 0, 0, 1] ++ List.replicate 75 0))] }, by decide +kernel, by decide +kernel, by decide +kernel, ok_of (by decide +kernel), by decide +kernel, ok_of (by decide +kernel)⟩⟩

/-- Every clause of `Obligations.TapFollowsItsControl` has a state and operands that meet its hypotheses. -/
theorem witness_TapFollowsItsControl :
    (∃ (m : Master) (val : Nat) (s : State), s.power.coreOn = true ∧ among m mLinks = true ∧ val < 2 ^ 32 ∧ val.testBit 0 = true ∧ 1 ≤ bitsOf val 19 16 ∧ bitsOf val 19 16 ≤ 4 ∧ bitsOf val 21 20 ≠ 3 ∧ s.toDevice.dptxHeld 8 = false ∧ reservedBad TAP_CTRL val = false ∧ s.toDevice.roBad TAP_CTRL val = false ∧ s.toDevice.get TAP_CTRL_en = 0 ∧ s.tap.closing = false ∧ s.toDevice.get TAP_STAT_hpd = 0) ∧
    (∃ (m : Master) (val : Nat) (s : State), s.power.coreOn = true ∧ among m mLinks = true ∧ val < 2 ^ 32 ∧ val.testBit 0 = false ∧ 1 ≤ bitsOf val 19 16 ∧ bitsOf val 19 16 ≤ 4 ∧ bitsOf val 21 20 ≠ 3 ∧ reservedBad TAP_CTRL val = false ∧ s.toDevice.roBad TAP_CTRL val = false ∧ s.toDevice.get TAP_CTRL_en = 1 ∧ s.toDevice.get TAP_STAT_video = 1) ∧
    (∃ (m : Master) (val : Nat) (s : State), s.power.coreOn = true ∧ among m mLinks = true ∧ val < 2 ^ 32 ∧ val.testBit 0 = false ∧ 1 ≤ bitsOf val 19 16 ∧ bitsOf val 19 16 ≤ 4 ∧ bitsOf val 21 20 ≠ 3 ∧ reservedBad TAP_CTRL val = false ∧ s.toDevice.roBad TAP_CTRL val = false ∧ s.toDevice.get TAP_CTRL_en = 1 ∧ s.toDevice.get TAP_STAT_video = 0) ∧
    (∃ (m : Master) (p : Port) (s : State), s.power.coreOn = true ∧ among m mLinks = true ∧ s.toDevice.get TAP_CTRL_en = 1 ∧ s.toDevice.dptxHeld 8 = false ∧ 1 ≤ s.toDevice.get TAP_CTRL_max_rate ∧ s.toDevice.get TAP_CTRL_max_rate ≤ 4 ∧ s.toDevice.get TAP_CTRL_max_lanes ≠ 3 ∧ reservedBad TAP_CTRL (setBits (s.toDevice.rd TAP_CTRL) 5 4 p) = false ∧ s.toDevice.roBad TAP_CTRL (setBits (s.toDevice.rd TAP_CTRL) 5 4 p) = false) ∧
    (∃ (m : Master) (rate lanes ssc : Nat) (s : State), s.power.coreOn = true ∧ among m mLinks = true ∧ 1 ≤ rate ∧ rate ≤ 4 ∧ lanes < 3 ∧ ssc < 2 ∧ s.toDevice.get TAP_CTRL_en = 1 ∧ s.toDevice.dptxHeld 8 = false ∧ s.toDevice.get TAP_STAT_hpd = 0 ∧ reservedBad TAP_CTRL (s.toDevice.rd TAP_CTRL) = false ∧ s.toDevice.roBad TAP_CTRL (s.toDevice.rd TAP_CTRL) = false) ∧
    (∃ (rate : Nat) (s : State), s.power.coreOn = true ∧ s.toDevice.get TAP_STAT_hpd = 0 ∧ s.toDevice.get TAP_CTRL_en = 1 ∧ 1 ≤ rate ∧ rate ≤ 4 ∧ 1 ≤ s.toDevice.get TAP_CTRL_max_rate) ∧
    (∃ (rate lanes : Nat) (s : State), s.power.coreOn = true ∧ s.toDevice.get TAP_STAT_hpd = 1 ∧ s.toDevice.get TAP_STAT_trained = 1 ∧ s.tap.closing = false) :=
  ⟨⟨0, 0x40001, st [], by decide +kernel⟩,
   ⟨0, 0x40000, st [(TAP_CTRL_en, 1), (TAP_STAT_video, 1)], by decide +kernel⟩,
   ⟨0, 0x40000, st [(TAP_CTRL_en, 1)], by decide +kernel⟩,
   ⟨0, 3, st [(TAP_CTRL_en, 1), (TAP_CTRL_max_rate, 4)], by decide +kernel⟩,
   ⟨0, 4, 2, 1, st [(TAP_CTRL_en, 1), (TAP_CTRL_max_rate, 4)], by decide +kernel⟩,
   ⟨4, st [(TAP_CTRL_en, 1), (TAP_CTRL_max_rate, 1)], by decide +kernel⟩,
   ⟨0, 0, st [(TAP_STAT_hpd, 1), (TAP_STAT_trained, 1)], by decide +kernel⟩⟩

/-- Every clause of `Obligations.AuxTransactionsRun` has a state and operands that meet its hypotheses. -/
theorem witness_AuxTransactionsRun :
    (∃ (i : Instr) (op : Nat) (m : Master) (addr : Nat) (len : Fin 16) (s : State), (i, op) ∈ [(Instr.tapAuxNativeRead m addr len, 0), (.tapAuxNativeWrite m addr len, 1), (.tapAuxI2cRead m addr len, 2), (.tapAuxI2cWrite m addr len, 3)] ∧ addr < 2 ^ 20 ∧ s.power.coreOn = true ∧ among m mLinks = true ∧ s.toDevice.get TAP_STAT_hpd = 1 ∧ s.toDevice.get TAP_AUX_STAT_busy = 0) ∧
    (∃ (x : AuxOp) (data : List Nat) (s : State), s.tap.aux = some x) ∧
    (∃ (x : AuxOp) (data : List Nat) (s : State), s.tap.aux = some x ∧ x.defers < 6) ∧
    (∃ (x : AuxOp) (data : List Nat) (s : State), s.tap.aux = some x ∧ x.defers = 6) ∧
    (∃ (x : AuxOp) (data : List Nat) (s : State), s.tap.aux = some x ∧ x.op % 2 = 1) ∧
    (∃ (x : AuxOp) (data : List Nat) (s : State), s.tap.aux = some x ∧ x.op = 0 ∧ x.len ≤ 16 ∧ x.len ≤ data.length ∧ (∀ b ∈ data, b < 256)) :=
  ⟨⟨.tapAuxNativeRead 0 (2 ^ 20 - 1) 15, 0, 0, 2 ^ 20 - 1, 15, st [(TAP_STAT_hpd, 1)], by decide +kernel⟩,
   ⟨{ op := 0, addr := 0, len := 16, data := [], defers := 0 }, [], stD { dev [] with tap := { aux := some { op := 0, addr := 0, len := 16, data := [], defers := 0 } } }, by decide +kernel⟩,
   ⟨{ op := 0, addr := 0, len := 16, data := [], defers := 5 }, [], stD { dev [] with tap := { aux := some { op := 0, addr := 0, len := 16, data := [], defers := 5 } } }, by decide +kernel⟩,
   ⟨{ op := 0, addr := 0, len := 16, data := [], defers := 6 }, [], stD { dev [] with tap := { aux := some { op := 0, addr := 0, len := 16, data := [], defers := 6 } } }, by decide +kernel⟩,
   ⟨{ op := 1, addr := 0, len := 16, data := [], defers := 0 }, [], stD { dev [] with tap := { aux := some { op := 1, addr := 0, len := 16, data := [], defers := 0 } } }, by decide +kernel⟩,
   ⟨{ op := 0, addr := 0, len := 16, data := [], defers := 0 }, List.replicate 16 255, stD { dev [] with tap := { aux := some { op := 0, addr := 0, len := 16, data := [], defers := 0 } } }, by decide +kernel⟩⟩

/-- Every clause of `Obligations.PcieFunctionActs` has a state and operands that meet its hypotheses. -/
theorem witness_PcieFunctionActs :
    (∃ (speed width : Nat) (bme fn : Bool) (s : State), s.power.coreOn = true ∧ speed < 16 ∧ width < 8) ∧
    (∃ (b : Bool) (s : State), s.power.coreOn = true ∧ s.toDevice.get HIF_PCI_STAT_up = 1) ∧
    (∃ (k : PcieReset) (s : State), s.power.coreOn = true) ∧
    (∃ (s : State), s.toDevice.barOpen = true) ∧
    (∃ (v : Fin 64) (w1c : Bool) (s : State), s.power.coreOn = true ∧ v.val ≤ 50 ∧ s.toDevice.vecCond v = true ∧ s.hif.conds.testBit v = false ∧ s.toDevice.msgOpen v = true) ∧
    (∃ (v : Fin 64) (w1c : Bool) (s : State), s.power.coreOn = true ∧ v.val ≤ 50 ∧ s.toDevice.vecCond v = true ∧ s.hif.conds.testBit v = false ∧ s.toDevice.msgOpen v = false) ∧
    (∃ (m : Master) (s : State), s.power.coreOn = true) :=
  ⟨⟨15, 7, true, true, st [], by decide +kernel⟩,
   ⟨true, st [(HIF_PCI_STAT_up, 1)], by decide +kernel⟩,
   ⟨.flr, st [], by decide +kernel⟩,
   ⟨st [(HIF_PCI_STAT_up, 1)], by decide +kernel⟩,
   ⟨32, false, stD ((dev [(HIF_PCI_STAT_up, 1), (HIF_PCI_STAT_bme, 1), (ERR_VIEW_CODE_code 0, 1), (MSIX_CTRL_mask 32, 0)]).wrB 0 ERR_CTRL 1), by decide +kernel⟩,
   ⟨32, false, stD ((dev [(ERR_VIEW_CODE_code 0, 1)]).wrB 0 ERR_CTRL 1), by decide +kernel⟩,
   ⟨0, st [], by decide +kernel⟩⟩

/-- Every clause of `Obligations.FlashCommandsAct` has a state and operands that meet its hypotheses. -/
theorem witness_FlashCommandsAct :
    (∃ (m : Master) (len : Fin 16) (i : Instr) (op n : Nat) (s : State), (i, op, n) ∈ [(Instr.xspiRead m len, 1, len.val), (.xspiProgram m len, 2, len.val), (.xspiSectorErase m, 3, 0), (.xspiBlockErase m, 4, 0), (.xspiReadStatus m, 5, 0), (.xspiSoftwareReset m, 6, 0)] ∧ s.power.coreOn = true ∧ among m mFlash = true ∧ s.hif.xspi = none ∧ (op = 2 → s.toDevice.rd HIF_XSPI_ADDR % 256 + n < 256) ∧ (op = 3 → s.toDevice.rd HIF_XSPI_ADDR % 4096 = 0) ∧ (op = 4 → s.toDevice.rd HIF_XSPI_ADDR % 65536 = 0) ∧ (2 ≤ op → op ≤ 4 → s.toDevice.flashInUse (flashSpan op n (s.toDevice.rd HIF_XSPI_ADDR)).1 (flashSpan op n (s.toDevice.rd HIF_XSPI_ADDR)).2 = false)) ∧
    (∃ (o : FlashOp) (status : Nat) (s : State), s.hif.xspi = some o ∧ 1 ≤ o.op ∧ o.op ≤ 6 ∧ (o.op = 1 → o.len < 16) ∧ status < 256) ∧
    (∃ (m : Master) (o : FlashOp) (status : Nat) (s : State), s.hif.xspi = some o ∧ o.master = m ∧ 2 ≤ o.op ∧ o.op ≤ 4) :=
  ⟨⟨0, 15, .xspiRead 0 15, 1, 15, st [], by decide +kernel⟩,
   ⟨{ master := 0, op := 1, len := 15, addr := 0, data := [] }, 255, stD { dev [] with hif := { xspi := some { master := 0, op := 1, len := 15, addr := 0, data := [] } } }, by decide +kernel⟩,
   ⟨0, { master := 0, op := 2, len := 15, addr := 0, data := [] }, 0, stD { dev [] with hif := { xspi := some { master := 0, op := 2, len := 15, addr := 0, data := [] } } }, by decide +kernel⟩⟩

/-- Every clause of `Obligations.DmaMovesBytes` has a state and operands that meet its hypotheses. -/
theorem witness_DmaMovesBytes :
    (∃ (m : Master) (ss ds : Fin 4) (s : State), s.power.coreOn = true ∧ (∀ x ∈ s.toDevice.dmaChecks m ss ds, x.1 = false)) ∧
    (∃ (m : Master) (x : Dma) (s : State), s.power.coreOn = true ∧ among m mFlash = true ∧ s.hif.dma = some x) ∧
    (∃ (x : Dma) (s : State), s.hif.dma = some x ∧ x.len < 2 ^ 32 ∧ x.srcSpace < 3 ∧ x.dstSpace < 3 ∧ s.toDevice.dmaReach x = x.len ∧ (x.srcSpace = 0 → ∀ w ∈ wordsOf x.src x.len, w ∉ s.mem.fsUe ∧ w ∉ s.mem.fsCe) ∧ (x.dstSpace = 0 → ∀ w ∈ wordsOf x.dst x.len, w ∉ s.mem.fsUe ∧ w ∉ s.mem.fsCe) ∧ s.mem.march.patches = [] ∧ s.mem.march.stage ≠ .test) :=
  ⟨⟨0, 2, 0, stD { dev [(whole HIF_DMA_LEN, 67108860)] with boot := { running := false } }, by decide +kernel⟩,
   ⟨0, { master := 0, srcSpace := 2, dstSpace := 0, src := 0, dst := 0, len := 16 }, stD { dev [] with hif := { dma := some { master := 0, srcSpace := 2, dstSpace := 0, src := 0, dst := 0, len := 16 } } }, by decide +kernel⟩,
   ⟨{ master := 0, srcSpace := 2, dstSpace := 0, src := 0, dst := 0, len := 16 }, stD { dev [] with hif := { dma := some { master := 0, srcSpace := 2, dstSpace := 0, src := 0, dst := 0, len := 16 } } }, by decide +kernel⟩⟩

/-- Every clause of `Obligations.SlowInterfacesAct` has a state and operands that meet its hypotheses. -/
theorem witness_SlowInterfacesAct :
    (∃ (m : Master) (n : Fin 2) (val : Nat) (s : State), s.power.coreOn = true ∧ among m mI2c = true ∧ val < 2 ^ 16 ∧ val.testBit 7 = false ∧ bitsOf val 11 8 ≤ 8 ∧ bitsOf val 15 12 ≤ 8 ∧ (bitsOf val 11 8 ≠ 0 ∨ bitsOf val 15 12 ≠ 0) ∧ s.toDevice.i2cBusy n = none) ∧
    (∃ (n : Fin 2) (x : I2c) (data : List Nat) (s : State), s.toDevice.i2cBusy n = some x ∧ x.rlen ≤ 8 ∧ x.rlen ≤ data.length ∧ (∀ b ∈ data, b < 256)) ∧
    (∃ (m : Master) (n : Fin 2) (x : I2c) (s : State), s.toDevice.i2cBusy n = some x ∧ x.master = m) ∧
    (∃ (m : Master) (val : Nat) (s : State), s.power.coreOn = true ∧ among m mGpio = true ∧ val < 65536 ∧ (∀ p < 16, val.testBit p = true → (s.toDevice.rd HIF_GPIO_EN).testBit p = false → s.toDevice.imageServes 7 7 p = false → s.toDevice.owner 7 p = none)) ∧
    (∃ (p : Fin 16) (rise : Bool) (s : State), s.power.coreOn = true ∧ (s.toDevice.rd HIF_GPIO_IN).testBit p ≠ rise) ∧
    (∃ (k : Fin 4) (c : Nat) (s : State), s.power.coreOn = true ∧ s.toDevice.get (HIF_NTC_CFG_en k) = 1 ∧ c < 4096) :=
  ⟨⟨0, 1, 0x8800, st [], by decide +kernel⟩,
   ⟨1, { master := 0, addr := 1, wlen := 0, rlen := 8 }, List.replicate 8 255, stD { dev [] with hif := { i2c := [(1, some { master := 0, addr := 1, wlen := 0, rlen := 8 })] } }, by decide +kernel⟩,
   ⟨0, 1, { master := 0, addr := 1, wlen := 0, rlen := 8 }, stD { dev [] with hif := { i2c := [(1, some { master := 0, addr := 1, wlen := 0, rlen := 8 })] } }, by decide +kernel⟩,
   ⟨0, 0x8000, st [], by decide +kernel⟩,
   ⟨15, true, st [], by decide +kernel⟩,
   ⟨3, 4095, st [(HIF_NTC_CFG_en 3, 1)], by decide +kernel⟩⟩

/-- Every clause of `Obligations.SideAndTestPortsAct` has a state and operands that meet its hypotheses. -/
theorem witness_SideAndTestPortsAct :
    (∃ (a val : Nat) (s : State), s.power.coreOn = true ∧ val < 65536) ∧
    (∃ (a v : Nat) (s : State), s.power.coreOn = true ∧ s.hif.readLatch = some (spOffset a, v)) ∧
    (∃ (a : Nat) (s : State), s.power.coreOn = true ∧ s.hif.readLatch = none) ∧
    (∃ (a val : Nat) (s : State), s.power.coreOn = true ∧ a < 0x80000 ∧ val < 65536 ∧ s.toDevice.underDestroy ((368 * 131072 + 1048576 * s.toDevice.get HIF_SP_CFG_page + 2 * a) / 131072) = false ∧ s.toDevice.get (MEM_BANK_INFO_retained ((368 * 131072 + 1048576 * s.toDevice.get HIF_SP_CFG_page + 2 * a) / 131072)) = 0 ∧ s.toDevice.inCopyWindow (368 * 131072 + 1048576 * s.toDevice.get HIF_SP_CFG_page + 2 * a) = false) ∧
    (∃ (a val : Nat) (s : State), s.power.coreOn = true ∧ a < 0x80000 ∧ val < 65536 ∧ s.toDevice.underDestroy ((368 * 131072 + 1048576 * s.toDevice.get HIF_SP_CFG_page + 2 * a) / 131072) = false ∧ s.toDevice.get (MEM_BANK_INFO_retained ((368 * 131072 + 1048576 * s.toDevice.get HIF_SP_CFG_page + 2 * a) / 131072)) = 0 ∧ s.toDevice.inCopyWindow (368 * 131072 + 1048576 * s.toDevice.get HIF_SP_CFG_page + 2 * a) = false ∧ s.toDevice.pondMap (368 * 131072 + 1048576 * s.toDevice.get HIF_SP_CFG_page + 2 * a) / 8 ∉ s.mem.pondUe) ∧
    (∃ (ir : Nat) (s : State), s.power.coreOn = true ∧ ir < 256 ∧ (bscanCode ir = false ∨ s.toDevice.get HVP_STAT_state = 0)) ∧
    (∃ (ir : Nat) (s : State), s.power.coreOn = true ∧ ir < 256 ∧ bscanCode ir = true ∧ s.toDevice.get HVP_STAT_state ≠ 0) ∧
    (∃ (s : State), s.power.coreOn = true) ∧
    (∃ (running : Bool) (s : State), s.power.coreOn = true ∧ s.toDevice.get HIF_JTAG_STAT_instr = 0x10) :=
  ⟨⟨0, 65535, st [], by decide +kernel⟩,
   ⟨0x3808D, 5, stD { dev [] with hif := { readLatch := some (HIF_GPIO_EDGE, 5) } }, by decide +kernel⟩,
   ⟨0, st [], by decide +kernel⟩,
   ⟨0x7FFFF, 65535, st [], by decide +kernel⟩,
   ⟨0x7FFFF, 65535, st [], by decide +kernel⟩,
   ⟨255, st [], by decide +kernel⟩,
   ⟨0, st [(HVP_STAT_state, 3)], by decide +kernel⟩,
   ⟨st [], by decide +kernel⟩,
   ⟨true, st [(HIF_JTAG_STAT_instr, 0x10)], by decide +kernel⟩⟩

/-- Every clause of `Obligations.MailboxesCarryWords` has a state and operands that meet its hypotheses. -/
theorem witness_MailboxesCarryWords :
    (∃ (m : Master) (c : Fin 64) (val : Nat) (s : State), s.power.coreOn = true ∧ (m.val = 2 ∨ m.val = 0 ∧ 16 ≤ c.val ∧ (s.toDevice.rd GLB_BOOT_STEPS).testBit 6 = true) ∧ s.toDevice.get MBX_CFG_lock = 0 ∧ s.toDevice.mode = 1 ∧ val < 2 ^ 32 ∧ chanBad val = false) ∧
    (∃ (m : Master) (s : State), s.power.coreOn = true ∧ among m 5 = true) ∧
    (∃ (m : Master) (c : Fin 64) (ab : Bool) (val : Nat) (s : State), s.power.coreOn = true ∧ s.toDevice.mbEnd c m = some ab ∧ s.toDevice.get (MB_CHAN_en c) = 1 ∧ (s.toDevice.mbQueue c ab).length < 8 ∧ val < 2 ^ 32 ∧ s.toDevice.get (MB_CHAN_a c) < 10 ∧ s.toDevice.get (MB_CHAN_b c) < 10) ∧
    (∃ (m : Master) (c : Fin 64) (ab : Bool) (w : Word) (l : List Word) (s : State), s.power.coreOn = true ∧ s.toDevice.mbEnd c m = some (!ab) ∧ s.toDevice.get (MB_CHAN_en c) = 1 ∧ s.toDevice.mbQueue c ab = w :: l) ∧
    (∃ (c : Fin 64) (ab : Bool) (s : State), s.power.coreOn = true ∧ s.toDevice.mbQueue c ab ≠ [] ∧ s.toDevice.get MB_ACK_TIME_t ≠ 0 ∧ qKey c ab ∉ s.mbx.ackStopped) ∧
    (∃ (c : Fin 64) (ab : Bool) (s : State), s.power.coreOn = true ∧ s.toDevice.mbQueue c ab ≠ [] ∧ s.toDevice.get MB_ACK_TIME_t ≠ 0 ∧ qKey c ab ∉ s.mbx.ackStopped ∧ s.toDevice.get (MB_CHAN_a c) < 10 ∧ s.toDevice.get (MB_CHAN_b c) < 10) ∧
    (∃ (c : Fin 64) (s : State), s.power.coreOn = true ∧ s.toDevice.mbQueue c true ≠ [] ∧ s.toDevice.mbQueue c false ≠ [] ∧ s.toDevice.get (MB_STAT_xwait c) = 0 ∧ s.toDevice.get (MB_CHAN_a c) < 10 ∧ s.toDevice.get (MB_CHAN_b c) < 10) :=
  ⟨⟨2, 63, 0x80000102, st [], by decide +kernel⟩,
   ⟨0, st [], by decide +kernel⟩,
   ⟨2, 63, true, 2 ^ 32 - 1, stD { dev [(MB_CHAN_a 63, 2), (MB_CHAN_b 63, 9), (MB_CHAN_en 63, 1)] with mbx := { queues := [(126, List.replicate 7 0)] } }, by decide +kernel⟩,
   ⟨9, 63, true, 5, [6], stD { dev [(MB_CHAN_a 63, 2), (MB_CHAN_b 63, 9), (MB_CHAN_en 63, 1)] with mbx := { queues := [(126, [5, 6])] } }, by decide +kernel⟩,
   ⟨63, true, stD { dev [(MB_ACK_TIME_t, 1)] with mbx := { queues := [(126, [5])] } }, by decide +kernel⟩,
   ⟨63, true, stD { dev [(MB_ACK_TIME_t, 1), (MB_CHAN_a 63, 2), (MB_CHAN_b 63, 9), (MB_CHAN_en 63, 1)] with mbx := { queues := [(126, [5])] } }, by decide +kernel⟩,
   ⟨63, stD { dev [(MB_CHAN_a 63, 2), (MB_CHAN_b 63, 9), (MB_CHAN_en 63, 1)] with mbx := { queues := [(126, [5]), (127, [6])] } }, by decide +kernel⟩⟩

/-- Every clause of `Obligations.DoorbellsAndLocksAct` has a state and operands that meet its hypotheses. -/
theorem witness_DoorbellsAndLocksAct :
    (∃ (m : Master) (val : Nat) (s : State), s.power.coreOn = true ∧ among m 0x43FF = true ∧ val < 2 ^ 12 ∧ val / 32 % 8 = 0 ∧ bitsOf val 11 8 ≤ 9 ∧ bitsOf val 4 0 < 31) ∧
    (∃ (m : Master) (n : Fin 128) (s : State), s.power.coreOn = true ∧ m.val ≤ 9 ∧ s.toDevice.lockVal n = 0) ∧
    (∃ (m : Master) (n : Fin 128) (s : State), s.power.coreOn = true ∧ m.val ≤ 9 ∧ s.toDevice.lockVal n ≠ 0) ∧
    (∃ (m k : Master) (n : Fin 128) (s : State), s.power.coreOn = true ∧ m.val ≤ 9 ∧ k.val ≤ 9 ∧ m ≠ k ∧ s.toDevice.lockVal n = 0 ∧ Sparse.get (fun _ => 0) s.mbx.lastWin n = m.val + 1) ∧
    (∃ (m : Master) (n : Fin 128) (s : State), s.power.coreOn = true ∧ m.val ≤ 9 ∧ s.toDevice.lockVal n = m.val + 1) ∧
    (∃ (m : Master) (n : Fin 128) (s : State), s.power.coreOn = true ∧ among m 0x45 = true ∧ s.toDevice.lockVal n ≠ 0) :=
  ⟨⟨0, 0x91E, st [], by decide +kernel⟩,
   ⟨9, 127, st [], by decide +kernel⟩,
   ⟨9, 127, st [(MBX_LOCK_owner 127, 10)], by decide +kernel⟩,
   ⟨9, 8, 127, stD { dev [] with mbx := { lastWin := [(127, 10)] } }, by decide +kernel⟩,
   ⟨9, 127, st [(MBX_LOCK_owner 127, 10)], by decide +kernel⟩,
   ⟨0, 127, st [(MBX_LOCK_owner 127, 10)], by decide +kernel⟩⟩

/-- Every clause of `Obligations.FirmwareServesMessages` has a state and operands that meet its hypotheses. -/
theorem witness_FirmwareServesMessages :
    (∃ (c : Fin 6) (h : Word) (l : List Word) (s : State), s.power.coreOn = true ∧ s.toDevice.owesOn c = false ∧ (s.toDevice.get (CORE_STAT_state (if onSupervisor c then 0 else c)) ≠ 0) ∧ s.toDevice.mbQueue c true = h :: l ∧ bitsOf h.toNat 31 24 = 1 ∧ bitsOf h.toNat 15 0 = 0 ∧ (s.toDevice.mbQueue c false).length ≤ 5) ∧
    (∃ (c : Fin 6) (h w crc : Word) (l : List Word) (s : State), s.power.coreOn = true ∧ s.bridge.lost = false ∧ onSupervisor c = true ∧ s.toDevice.owesOn c = false ∧ s.mbx.commitFor = none ∧ s.toDevice.mbQueue c true = h :: w :: crc :: l ∧ bitsOf h.toNat 31 24 = 2 ∧ bitsOf h.toNat 15 0 = 0x200 ∧ (s.toDevice.mbQueue c false).length ≤ 7 ∧ bitsOf w.toNat 7 0 ∈ [0, 2, 9, 10] ∧ crc32 (s.toDevice.stageBytes (bitsOf w.toNat 26 16)) = crc.toNat ∧ (∀ x ∈ s.toDevice.recChecks 2 2 (bitsOf w.toNat 7 0) (bitsOf w.toNat 26 16) true (if c.val = 0 then 0 else 1), x.1 = false)) ∧
    (∃ (c : Fin 6) (h w : Word) (l : List Word) (addr len entry crc banks flags f : Nat) (s : State), s.power.coreOn = true ∧ onSupervisor c = true ∧ s.toDevice.owesOn c = false ∧ s.ik.load = none ∧ s.hif.dma = none ∧ s.toDevice.mbQueue c true = h :: w :: l ∧ bitsOf h.toNat 31 24 = 3 ∧ bitsOf h.toNat 15 0 = 0x100 ∧ (s.toDevice.mbQueue c false).length ≤ 7 ∧ 5 ≤ w.toNat ∧ w.toNat ≤ 7 ∧ s.toDevice.coreState w.toNat = 0 ∧ s.toDevice.loaderEntry w.toNat = some (addr, len, entry, crc, banks, flags) ∧ 0 < banks ∧ banks ≤ 64 ∧ len ≤ banks * 131072 ∧ s.toDevice.get (CORE_ALLOC_count w.toNat) = 0 ∧ s.toDevice.bankRun banks = some f) ∧
    (∃ (j : CoreLoad) (s : State), s.power.coreOn = true ∧ s.ik.load = some j ∧ 5 ≤ j.core ∧ j.core ≤ 7 ∧ j.reply = none ∧ j.pin = false ∧ crc32 (s.toDevice.flashBytes j.addr j.len) = j.crc ∧ j.entry % 2 = 0 ∧ j.entry < s.toDevice.get (CORE_ALLOC_count j.core) * 131072 ∧ s.mem.march.patches = [] ∧ s.mem.march.stage ≠ .test) :=
  ⟨⟨5, 0x01000000, [], stD { dev [(CORE_STAT_state 0, 1)] with mbx := { queues := [(10, [0x01000000])] } }, by decide +kernel⟩,
   ⟨0, 0x02000200, 9, 0, [], stD { dev [] with keep := { recalling := false }, mbx := { queues := [(0, [0x02000200, 9, 0])] } }, by decide +kernel⟩,
   ⟨0, 0x03000100, 5, [], 0, 16, 0, 0, 1, 0, 367, stD { dev [] with keep := keepOf [(42, recordBytes 1 9 (leBytes 4 0 ++ leBytes 4 16 ++ List.replicate 8 0 ++ [1] ++ List.replicate 15 0))], mbx := { queues := [(0, [0x03000100, 5])] } }, by decide +kernel⟩,
   ⟨{ core := 5, addr := 0, len := 0, entry := 131070, crc := 0, pin := false, reply := none }, stD { dev [(CORE_ALLOC_count 5, 1)] with ik := { load := some { core := 5, addr := 0, len := 0, entry := 131070, crc := 0, pin := false, reply := none } } }, by decide +kernel⟩⟩

/-- Every clause of `Obligations.CoresAreControlled` has a state and operands that meet its hypotheses. -/
theorem witness_CoresAreControlled :
    (∃ (m : Master) (k : CoreId) (n f : Nat) (s : State), s.power.coreOn = true ∧ among m 7 = true ∧ 5 ≤ k.val ∧ s.toDevice.coreState k = 0 ∧ s.toDevice.get (CORE_ALLOC_count k) = 0 ∧ 0 < n ∧ n ≤ 64 ∧ s.toDevice.bankRun n = some f) ∧
    (∃ (m : Master) (k : CoreId) (s : State), s.power.coreOn = true ∧ among m 7 = true ∧ 5 ≤ k.val ∧ s.toDevice.coreState k = 0) ∧
    (∃ (m : Master) (k : CoreId) (s : State), s.power.coreOn = true ∧ among m 7 = true ∧ 5 ≤ k.val ∧ s.toDevice.coreState k = 0 ∧ s.toDevice.get (CORE_CTRL_halt k) = 0 ∧ s.toDevice.bootBad k = false) ∧
    (∃ (m : Master) (k : CoreId) (s : State), s.power.coreOn = true ∧ among m 7 = true ∧ 5 ≤ k.val ∧ s.toDevice.coreState k ≠ 0) ∧
    (∃ (m : Master) (k : CoreId) (s : State), s.power.coreOn = true ∧ among m 0x4007 = true ∧ 5 ≤ k.val ∧ s.toDevice.coreState k = 1 ∧ s.toDevice.get (CORE_CTRL_run k) = 1 ∧ s.toDevice.bootBad k = false) ∧
    (∃ (m : Master) (k : CoreId) (s : State), s.power.coreOn = true ∧ among m 0x4007 = true ∧ 5 ≤ k.val ∧ s.toDevice.coreState k = 3 ∧ s.toDevice.get (CORE_CTRL_run k) = 1 ∧ s.toDevice.bootBad k = false) ∧
    (∃ (m : Master) (k : CoreId) (s : State), s.power.coreOn = true ∧ m.val = 2 + k.val) ∧
    (∃ (m : Master) (k : CoreId) (s : State), s.power.coreOn = true ∧ m.val ≠ 2 + k.val) ∧
    (∃ (k : CoreId) (s : State), s.power.coreOn = true ∧ s.toDevice.get (CORE_WDOG_ms k) ≠ 0) ∧
    (∃ (k : CoreId) (s : State), s.power.coreOn = true ∧ s.toDevice.get (CORE_WDOG_ms k) ≠ 0 ∧ 5 ≤ k.val) ∧
    (∃ (k : CoreId) (s : State), s.power.coreOn = true ∧ s.toDevice.get (CORE_WDOG_ms k) ≠ 0 ∧ k.val < 5 ∧ s.toDevice.mode ≠ 5) :=
  ⟨⟨0, 7, 64, 304, st [], by decide +kernel⟩,
   ⟨0, 7, st [], by decide +kernel⟩,
   ⟨0, 7, st [(CORE_ALLOC_first 7, 300), (CORE_ALLOC_count 7, 1), (whole (CORE_BOOT 7), 0x1000000 + 300 * 131072)], by decide +kernel⟩,
   ⟨0, 7, st [(CORE_STAT_state 7, 1)], by decide +kernel⟩,
   ⟨0, 7, st [(CORE_STAT_state 7, 1), (CORE_CTRL_run 7, 1), (CORE_ALLOC_first 7, 300), (CORE_ALLOC_count 7, 1), (whole (CORE_BOOT 7), 0x1000000 + 300 * 131072)], by decide +kernel⟩,
   ⟨0, 7, st [(CORE_STAT_state 7, 3), (CORE_CTRL_run 7, 1), (CORE_ALLOC_first 7, 300), (CORE_ALLOC_count 7, 1), (whole (CORE_BOOT 7), 0x1000000 + 300 * 131072)], by decide +kernel⟩,
   ⟨9, 7, st [], by decide +kernel⟩,
   ⟨0, 7, st [], by decide +kernel⟩,
   ⟨7, st [(CORE_WDOG_ms 7, 1)], by decide +kernel⟩,
   ⟨5, st [(CORE_WDOG_ms 5, 1)], by decide +kernel⟩,
   ⟨4, st [(CORE_WDOG_ms 4, 1)], by decide +kernel⟩⟩

/-- Every clause of `Obligations.CoresExecute` has a state and operands that meet its hypotheses. -/
theorem witness_CoresExecute :
    (∃ (k : CoreId) (w : Nat) (s : State), s.toDevice.fetches k w ∧ w % 128 = 0x37) ∧
    (∃ (k : CoreId) (w : Nat) (s : State), s.toDevice.fetches k w ∧ w % 128 = 0x6F) ∧
    (∃ (k : CoreId) (w : Nat) (s : State), s.toDevice.fetches k w ∧ w % 128 = 0x13 ∧ bitsOf w 14 12 ≠ 1 ∧ bitsOf w 14 12 ≠ 5) ∧
    (∃ (k : CoreId) (w : Nat) (s : State), s.toDevice.fetches k w ∧ w % 128 = 0x33 ∧ bitsOf w 31 25 = 0) ∧
    (∃ (k : CoreId) (w : Nat) (s : State), s.toDevice.fetches k w ∧ w % 128 = 0x33 ∧ bitsOf w 31 25 = 1) ∧
    (∃ (k : CoreId) (w : Nat) (s : State) (t : _), s.toDevice.fetches k w ∧ w % 128 = 0x63 ∧ rvTaken (bitsOf w 14 12) ((s.toDevice.core k).reg (bitsOf w 19 15)) ((s.toDevice.core k).reg (bitsOf w 24 20)) = some t) ∧
    (∃ (k : CoreId) (s : State), s.power.coreOn = true ∧ s.toDevice.coreState k = 1 ∧ s.toDevice.pendingCause k = none) ∧
    (∃ (k : CoreId) (s : State), s.power.coreOn = true ∧ s.toDevice.coreState k = 1 ∧ s.toDevice.pendingCause k ≠ none) ∧
    (∃ (k : CoreId) (s : State), s.power.coreOn = true ∧ s.toDevice.coreState k = 1) ∧
    (∃ (k : CoreId) (c : Nat) (s : State), s.power.coreOn = true ∧ (s.toDevice.coreState k = 1 ∨ s.toDevice.coreState k = 2) ∧ s.toDevice.pendingCause k = some c ∧ (s.toDevice.core k).mie = true) ∧
    (∃ (k : CoreId) (c : Nat) (s : State), s.power.coreOn = true ∧ (s.toDevice.coreState k = 1 ∨ s.toDevice.coreState k = 2) ∧ s.toDevice.pendingCause k = some c ∧ (s.toDevice.core k).mie = false) ∧
    (∃ (k : CoreId) (s : State), s.power.coreOn = true) ∧
    (∃ (m : Master) (s : State), s.power.coreOn = true) :=
  ⟨⟨0, 0xfffff037, coreAt 0xfffff037, by unfold Device.fetches; decide +kernel, by decide +kernel⟩,
   ⟨0, 0x8000006f, coreAt 0x8000006f, by unfold Device.fetches; decide +kernel, by decide +kernel⟩,
   ⟨0, 0xfff00093, coreAt 0xfff00093, by unfold Device.fetches; decide +kernel, by decide +kernel, by decide +kernel, by decide +kernel⟩,
   ⟨0, 0xb3, coreAt 0xb3, by unfold Device.fetches; decide +kernel, by decide +kernel, by decide +kernel⟩,
   ⟨0, 0x20000b3, coreAt 0x20000b3, by unfold Device.fetches; decide +kernel, by decide +kernel, by decide +kernel⟩,
   ⟨0, 0x63, coreAt 0x63, true, by unfold Device.fetches; decide +kernel, by decide +kernel, by decide +kernel⟩,
   ⟨7, st [(CORE_STAT_state 7, 1)], by decide +kernel⟩,
   ⟨7, irqCore true, by decide +kernel⟩,
   ⟨7, st [(CORE_STAT_state 7, 1)], by decide +kernel⟩,
   ⟨7, 11, irqCore true, by decide +kernel⟩,
   ⟨7, 11, irqCore false, by decide +kernel⟩,
   ⟨7, st [], by decide +kernel⟩,
   ⟨0, st [], by decide +kernel⟩⟩

/-- Every clause of `Obligations.LanesAreCommanded` has a state and operands that meet its hypotheses. -/
theorem witness_LanesAreCommanded :
    (∃ (i : Instr) (op : Nat) (full : Bool) (m : Master) (n : Lane) (s : State), (i, op, full) ∈ [(Instr.laneFullTrain m n, 1, true), (.laneFastRetrain m n, 2, false)] ∧ s.power.coreOn = true ∧ among m mLink = true ∧ s.toDevice.get ACL_CMD_STAT_busy = 0 ∧ s.toDevice.laneClaimed n = true ∧ s.toDevice.linkFits) ∧
    (∃ (m : Master) (n : Lane) (k : Fin 4) (t : Nat) (s : State), s.power.coreOn = true ∧ among m mLink = true ∧ s.toDevice.get ACL_CMD_STAT_busy = 0 ∧ s.toDevice.laneStripe n = some t ∧ s.toDevice.spareNames k t = true ∧ s.toDevice.laneState (s.act.spares.getD k {}).lane = 5 ∧ (s.toDevice.get (ACL_SPARE_state k) = 3 → s.toDevice.get (ACL_SPARE_stripe k) = t)) ∧
    (∃ (m : Master) (n : Lane) (k t : Nat) (s : State), s.power.coreOn = true ∧ among m mLink = true ∧ s.toDevice.get ACL_CMD_STAT_busy = 0 ∧ s.toDevice.laneStripe n = some t ∧ s.toDevice.spareOf t = some k ∧ 4 ≤ s.toDevice.laneState n ∧ s.toDevice.laneState n ≠ 6 ∧ s.toDevice.get (ACL_LANE_STAT_in0 n) = 1) ∧
    (∃ (m : Master) (r : RetLane) (s : State), s.power.coreOn = true ∧ among m mLink = true ∧ s.toDevice.get ACL_CMD_STAT_busy = 0) ∧
    (∃ (m : Master) (n : Lane) (s : State), s.power.coreOn = true ∧ among m mLink = true ∧ s.toDevice.get ACL_CMD_STAT_busy = 0 ∧ s.toDevice.laneClaimed n = true ∧ s.toDevice.mode = 1 ∧ s.toDevice.linkFits) ∧
    (∃ (m : Master) (s : State), s.power.coreOn = true ∧ among m mLink = true ∧ s.toDevice.get ACL_CMD_STAT_busy = 0 ∧ s.toDevice.mode = 1 ∧ s.toDevice.claimedLanes ≠ [] ∧ s.toDevice.linkFits) :=
  ⟨⟨.laneFullTrain 0 3, 1, true, 0, 3, panel [], by decide +kernel, by decide +kernel, by decide +kernel, by decide +kernel, by decide +kernel, linkFits_of rfl rfl rfl⟩,
   ⟨0, 3, 0, 0, panel [(ACL_LANE_STAT_state 7, 5)], by decide +kernel⟩,
   ⟨0, 3, 0, 0, panel [(ACL_SPARE_state 0, 3), (ACL_SPARE_stripe 0, 0), (ACL_LANE_STAT_state 3, 4), (ACL_LANE_STAT_in0 3, 1)], by decide +kernel⟩,
   ⟨0, 23, st [], by decide +kernel⟩,
   ⟨0, 3, panel [], by decide +kernel, by decide +kernel, by decide +kernel, by decide +kernel, by decide +kernel, linkFits_of rfl rfl rfl⟩,
   ⟨0, panel [], by decide +kernel, by decide +kernel, by decide +kernel, by decide +kernel, by decide +kernel, linkFits_of rfl rfl rfl⟩⟩

/-- Every clause of `Obligations.LanesTrain` has a state and operands that meet its hypotheses. -/
theorem witness_LanesTrain :
    (∃ (n : Lane) (s : State), s.toDevice.laneState n = 1 ∧ s.toDevice.laneStripe n = none) ∧
    (∃ (n : Lane) (s : State) (t : _), s.toDevice.laneState n = 1 ∧ s.toDevice.laneStripe n = some t ∧ s.toDevice.linkFits) ∧
    (∃ (n : Lane) (s : State), s.toDevice.laneState n = 2 ∧ (s.toDevice.lane n).full = false ∧ s.toDevice.linkFits) ∧
    (∃ (n : Lane) (p : Nat) (rest : List Nat) (growth fom : Nat) (ceased : Bool) (s : State), s.toDevice.laneState n = 3 ∧ (s.toDevice.lane n).sweep = p :: rest ∧ p < 8) ∧
    (∃ (n : Lane) (s : State), s.toDevice.laneState n = 3 ∧ (s.toDevice.lane n).holding = true ∧ presetBest (s.toDevice.lane n).scores < 8 ∧ s.toDevice.get ACL_CMD_STAT_busy = 0 ∧ s.toDevice.linkFits) :=
  ⟨⟨95, st [(ACL_LANE_STAT_state 95, 1)], by decide +kernel⟩,
   ⟨3, panel [(ACL_LANE_STAT_state 3, 1)], 0, by decide +kernel, by decide +kernel, linkFits_of rfl rfl rfl⟩,
   ⟨3, panel [(ACL_LANE_STAT_state 3, 2)], by decide +kernel, by decide +kernel, linkFits_of rfl rfl rfl⟩,
   ⟨3, 7, [], 0, 0, false, stD { panelD [(ACL_LANE_STAT_state 3, 3)] with link := { lanes := [(3, { sweep := [7] })] } }, by decide +kernel⟩,
   ⟨3, stD { panelD [(ACL_LANE_STAT_state 3, 3)] with link := { lanes := [(3, { holding := true, scores := [(7, 0, 0)] })] } }, by decide +kernel, by decide +kernel, by decide +kernel, by decide +kernel, linkFits_of rfl rfl rfl⟩⟩

/-- Every clause of `Obligations.ReturnFramesAreHeard` has a state and operands that meet its hypotheses. -/
theorem witness_ReturnFramesAreHeard :
    (∃ (s : State), s.power.coreOn = true ∧ (∀ r < 24, (s.toDevice.ret r).proc = .idle)) ∧
    (∃ (b : Burst) (st : Nat) (s : State), (s.toDevice.ret b.ret).silenced.testBit b.slot = false ∧ (s.toDevice.ret b.ret).phase.find? (fun e => e.1 == b.slot.val) = none ∧ b.codeErr = false ∧ b.guard = false ∧ b.crc = linkCrc16 b.body ∧ s.toDevice.slotStripe b.ret b.slot = some st ∧ s.toDevice.laneState (s.act.lanes.getD st {}).lane = 4 ∧ (s.toDevice.lane (s.act.lanes.getD st {}).lane).prompted = true) ∧
    (∃ (b : Burst) (st : Nat) (s : State), (s.toDevice.ret b.ret).silenced.testBit b.slot = false ∧ (s.toDevice.ret b.ret).phase.find? (fun e => e.1 == b.slot.val) = none ∧ b.codeErr = false ∧ b.guard = false ∧ b.crc = linkCrc16 b.body ∧ s.toDevice.slotStripe b.ret b.slot = some st ∧ st < 96 ∧ (∀ x ∈ b.body, x < 256) ∧ s.toDevice.laneState (s.act.lanes.getD st {}).lane = 4 ∧ (s.toDevice.lane (s.act.lanes.getD st {}).lane).status = [] ∧ (b.body.getD 2 0).testBit 0 = true ∧ (∀ e ∈ s.act.spares, e.mask.testBit st = false) ∧ s.toDevice.linkFits) ∧
    (∃ (r : RetLane) (j : Fin 4) (st : Nat) (s : State), s.power.coreOn = true ∧ (s.toDevice.get (ACL_RET_STAT_granted r)).testBit j = true ∧ (s.toDevice.ret r).heardNow.testBit j = false ∧ (s.toDevice.ret r).silenced.testBit j = false ∧ s.toDevice.slotStripe r j = some st ∧ s.toDevice.laneState (s.act.lanes.getD st {}).lane = 4 ∧ (s.toDevice.lane (s.act.lanes.getD st {}).lane).resending = false ∧ s.toDevice.linkFits ∧ (s.toDevice.lane ((s.act.lanes.getD st {}).lane)).missing + 1 < s.toDevice.get ACL_CTRL_miss) ∧
    (∃ (r : RetLane) (j : Fin 4) (st : Nat) (s : State), s.power.coreOn = true ∧ (s.toDevice.get (ACL_RET_STAT_granted r)).testBit j = true ∧ (s.toDevice.ret r).heardNow.testBit j = false ∧ (s.toDevice.ret r).silenced.testBit j = false ∧ s.toDevice.slotStripe r j = some st ∧ s.toDevice.laneState (s.act.lanes.getD st {}).lane = 4 ∧ (s.toDevice.lane (s.act.lanes.getD st {}).lane).resending = false ∧ s.toDevice.linkFits ∧ s.toDevice.get ACL_CTRL_miss ≤ (s.toDevice.lane ((s.act.lanes.getD st {}).lane)).missing + 1 ∧ s.flt.opened = none ∧ s.toDevice.mode ≠ 5 ∧ s.hif.bscan = false) :=
  ⟨⟨st [], by decide +kernel⟩,
   ⟨burst, 0, stD { panelD [(ACL_LANE_STAT_state 3, 4)] with link := { lanes := [(3, { prompted := true })] } }, by decide +kernel⟩,
   ⟨burst, 0, stD { panelD [(ACL_LANE_STAT_state 3, 4)] with act := bareSet }, by decide +kernel, by decide +kernel, by decide +kernel, by decide +kernel, by decide +kernel, by decide +kernel, by decide +kernel, by decide +kernel, by decide +kernel, by decide +kernel, by decide +kernel, by decide +kernel, linkFits_bare rfl rfl rfl⟩,
   ⟨1, 2, 0, panel [(ACL_RET_STAT_granted 1, 4), (ACL_LANE_STAT_state 3, 4), (ACL_CTRL_miss, 2)], by decide +kernel, by decide +kernel, by decide +kernel, by decide +kernel, by decide +kernel, by decide +kernel, by decide +kernel, linkFits_of rfl rfl rfl, by decide +kernel⟩,
   ⟨1, 2, 0, panel [(ACL_RET_STAT_granted 1, 4), (ACL_LANE_STAT_state 3, 4), (ACL_CTRL_miss, 1)], by decide +kernel, by decide +kernel, by decide +kernel, by decide +kernel, by decide +kernel, by decide +kernel, by decide +kernel, linkFits_of rfl rfl rfl, by decide +kernel, by decide +kernel, by decide +kernel, by decide +kernel⟩⟩

/-- Every clause of `Obligations.LinkTimersAct` has a state and operands that meet its hypotheses. -/
theorem witness_LinkTimersAct :
    (∃ (r : RetLane) (s : State), s.flt.jammed.contains r.val = true ∧ (s.toDevice.ret r).proc = .idle) ∧
    (∃ (n : Lane) (t : Nat) (s : State), s.toDevice.laneStripe n = some t ∧ (s.toDevice.laneState n = 2 ∨ (s.toDevice.laneState n = 4 ∧ (s.toDevice.lane n).resending = true))) ∧
    (∃ (n : Lane) (k : CtlPkt) (rest : List CtlPkt) (s : State), (s.toDevice.lane n).unacked = k :: rest ∧ s.toDevice.laneRuns n = true ∧ k.resends < 3) ∧
    (∃ (n : Lane) (k : CtlPkt) (rest : List CtlPkt) (s : State), (s.toDevice.lane n).unacked = k :: rest ∧ s.toDevice.laneRuns n = true ∧ 3 ≤ k.resends ∧ k.integrator = false ∧ s.toDevice.linkFits) ∧
    (∃ (m : Master) (s : State), s.power.coreOn = true ∧ among m mLink = true ∧ 0x10 ≤ s.toDevice.get ACL_CP_HDR_opcode ∧ s.toDevice.get ACL_CP_HDR_opcode ≤ 0x1F ∧ s.toDevice.laneClaimed (s.toDevice.get ACL_CP_HDR_lane) = true ∧ s.link.intPkt = none) :=
  ⟨⟨23, stD { dev [] with flt := { jammed := [23] } }, by decide +kernel⟩,
   ⟨3, 0, panel [(ACL_LANE_STAT_state 3, 2)], by decide +kernel⟩,
   ⟨3, { target := 0, op := 1, data := [], seq := 0, resends := 2 }, [], stD { panelD [(ACL_LANE_STAT_state 3, 5)] with link := { lanes := [(3, { unacked := [{ target := 0, op := 1, data := [], seq := 0, resends := 2 }] })] } }, by decide +kernel⟩,
   ⟨3, { target := 0, op := 1, data := [], seq := 0, resends := 3 }, [], stD { panelD [(ACL_LANE_STAT_state 3, 2)] with link := { lanes := [(3, { unacked := [{ target := 0, op := 1, data := [], seq := 0, resends := 3 }] })] } }, by decide +kernel, by decide +kernel, by decide +kernel, by decide +kernel, linkFits_of rfl rfl rfl⟩,
   ⟨0, panel [(ACL_CP_HDR_opcode, 0x1F), (ACL_CP_HDR_lane, 3)], by decide +kernel⟩⟩

/-- Every clause of `Obligations.PortsFollowTheirSource` has a state and operands that meet its hypotheses. -/
theorem witness_PortsFollowTheirSource :
    (∃ (m : Master) (p : Port) (val : Nat) (s : State), s.power.coreOn = true ∧ among m mLinks = true ∧ s.toDevice.kRegShut m = false ∧ val < 2 ^ 32 ∧ 1 ≤ bitsOf val 3 0 ∧ bitsOf val 3 0 ≤ 4 ∧ bitsOf val 5 4 ≠ 3 ∧ (val.testBit 10 = true → val.testBit 9 = true) ∧ reservedBad (DPRX_CTRL p) val = false ∧ s.toDevice.roBad (DPRX_CTRL p) val = false ∧ val.testBit 16 = true ∧ (bitsOf (s.toDevice.rd (DPRX_CTRL p)) 10 8 ≠ bitsOf val 10 8 ∨ bitsOf (s.toDevice.rd (DPRX_CTRL p)) 5 4 ≠ bitsOf val 5 4 ∨ bitsOf (s.toDevice.rd (DPRX_CTRL p)) 3 0 ≠ bitsOf val 3 0) ∧ s.toDevice.get (DPRX_STAT_hpd p) = 1) ∧
    (∃ (m : Master) (p : Port) (val : Nat) (s : State), s.power.coreOn = true ∧ among m mLinks = true ∧ s.toDevice.kRegShut m = false ∧ val < 2 ^ 32 ∧ val.testBit 16 = false ∧ 1 ≤ bitsOf val 3 0 ∧ bitsOf val 3 0 ≤ 4 ∧ bitsOf val 5 4 ≠ 3 ∧ (val.testBit 10 = true → val.testBit 9 = true) ∧ reservedBad (DPRX_CTRL p) val = false ∧ s.toDevice.roBad (DPRX_CTRL p) val = false ∧ (s.toDevice.rd (DPRX_CTRL p)).testBit 16 = true) ∧
    (∃ (p : Port) (s : State), (s.toDevice.portX p).pulse = true ∧ s.toDevice.get (DPRX_CTRL_hpd_en p) = 1 ∧ s.boot.hpdRaised = true ∧ s.toDevice.mode ≠ 0 ∧ (p.val = 3 → s.toDevice.get TAP_LOOP_run = 0)) ∧
    (∃ (p : Port) (rate lanes : Nat) (s : State), s.power.coreOn = true ∧ s.toDevice.get (DPRX_STAT_hpd p) = 1 ∧ 1 ≤ rate ∧ rate ≤ s.toDevice.get (DPRX_CTRL_max_rate p) ∧ rate ≤ 4 ∧ (lanes = 1 ∨ lanes = 2 ∨ lanes = 4) ∧ lanes ≤ portLanes (s.toDevice.get (DPRX_CTRL_max_lanes p))) ∧
    (∃ (p : Port) (s : State), s.power.coreOn = true ∧ s.toDevice.get (DPRX_STAT_trained p) = 1) ∧
    (∃ (p : Port) (s : State), (s.toDevice.portX p).relock = true ∧ (s.toDevice.portX p).pulse = false ∧ (s.toDevice.portX p).pulsed = false) ∧
    (∃ (p : Port) (s : State), s.power.coreOn = true ∧ s.toDevice.get (DPRX_STAT_stream p) = 1 ∧ s.toDevice.get (DPRX_STAT_pr p) = 0) :=
  ⟨⟨0, 3, 0x10024, st [(DPRX_STAT_hpd 3, 1)], by decide +kernel⟩,
   ⟨0, 3, 0x024, st [(DPRX_CTRL_hpd_en 3, 1)], by decide +kernel⟩,
   ⟨3, stD { dev [(DPRX_CTRL_hpd_en 3, 1)] with boot := { hpdRaised := true }, dprx := [(3, { pulse := true })] }, by decide +kernel⟩,
   ⟨3, 4, 4, st [(DPRX_STAT_hpd 3, 1), (DPRX_CTRL_max_rate 3, 4), (DPRX_CTRL_max_lanes 3, 2)], by decide +kernel⟩,
   ⟨3, st [(DPRX_STAT_trained 3, 1)], by decide +kernel⟩,
   ⟨3, stD { dev [] with dprx := [(3, { relock := true })] }, by decide +kernel⟩,
   ⟨3, st [(DPRX_STAT_stream 3, 1)], by decide +kernel⟩⟩

/-- Every clause of `Obligations.FramesAreLatched` has a state and operands that meet its hypotheses. -/
theorem witness_FramesAreLatched :
    (∃ (p : Port) (f : VideoFormat) (since skew lineHz : Nat) (s : State), s.power.coreOn = true ∧ s.toDevice.get (DPRX_STAT_trained p) = 1 ∧ s.toDevice.tooEarly p since = false ∧ f.width < 65536 ∧ f.height < 65536 ∧ skew < 2 ^ 32) ∧
    (∃ (p : Port) (f : VideoFormat) (since skew lineHz : Nat) (s : State), s.power.coreOn = true ∧ s.toDevice.get (DPRX_STAT_trained p) = 1 ∧ s.toDevice.tooEarly p since = true ∧ s.toDevice.tapOn = false) ∧
    (∃ (p : Port) (samples : List Nat) (corr uncorr : Nat) (s : State), s.power.coreOn = true ∧ s.toDevice.get (DPRX_STAT_stream p) = 1 ∧ (s.toDevice.portX p).early = false ∧ (s.toDevice.portX p).writing = false ∧ s.toDevice.throughPath = false ∧ s.toDevice.get (DPRX_STAT_valid p) = 1) ∧
    (∃ (p : Port) (samples : List Nat) (s : State), s.power.coreOn = true ∧ s.toDevice.get (DPRX_STAT_stream p) = 1 ∧ (s.toDevice.portX p).early = false ∧ (s.toDevice.portX p).writing = true ∧ s.toDevice.throughPath = false ∧ (s.toDevice.portX p).lines < (s.toDevice.portTile p).h ∧ s.toDevice.get MEM_FS_STAT_init = 1 ∧ s.mem.fsUe = []) :=
  ⟨⟨3, ⟨0, 1, false, 0, false, 65535, 65535⟩, 0, 2 ^ 32 - 1, 0, st [(DPRX_STAT_trained 3, 1)], by decide +kernel⟩,
   ⟨0, ⟨0, 1, false, 0, false, 65535, 65535⟩, 1, 0, 0, st [(DPRX_STAT_trained 0, 1), (DPRX_VRR_en, 1), (DPRX_VRR_max_hz, 100), (DPRX_TOPO_layout, 1)], by decide +kernel⟩,
   ⟨3, [], 0, 0, st [(DPRX_STAT_stream 3, 1), (DPRX_STAT_valid 3, 1)], by decide +kernel⟩,
   ⟨0, [1, 2, 3], stD { panelD [(DPRX_STAT_stream 0, 1), (MEM_FS_STAT_init, 1), (DPRX_TOPO_layout, 1)] with dprx := [(0, { writing := true, lines := 7 })] }, by decide +kernel⟩⟩

/-- Every clause of `Obligations.PanelReplayActs` has a state and operands that meet its hypotheses. -/
theorem witness_PanelReplayActs :
    (∃ (p : Port) (s : State), s.power.coreOn = true ∧ s.toDevice.get (DPRX_CTRL_pr_cap p) = 1 ∧ s.toDevice.get (DPRX_STAT_trained p) = 1 ∧ s.toDevice.get (DPRX_STAT_pr p) = 0) ∧
    (∃ (p : Port) (s : State), s.toDevice.get (DPRX_STAT_pr p) = 1 ∧ s.toDevice.layoutPorts.contains p.val = true ∧ s.toDevice.mode = 3 ∧ s.trans = none) ∧
    (∃ (p : Port) (s : State) (t : _), s.toDevice.get (DPRX_STAT_pr p) = 1 ∧ s.toDevice.layoutPorts.contains p.val = true ∧ s.trans = some t ∧ t.cause = 8 ∧ t.target = 3) ∧
    (∃ (p : Port) (x y w h : Nat) (pixels : List Nat) (s : State), s.power.coreOn = true ∧ s.toDevice.mode = 3 ∧ s.toDevice.get (DPRX_CTRL_su_cap p) = 1 ∧ s.toDevice.layoutPorts.contains p.val = true ∧ 0 < w ∧ 0 < h ∧ s.mem.fsUe = [] ∧ s.mem.fsCe = []) :=
  ⟨⟨3, st [(DPRX_CTRL_pr_cap 3, 1), (DPRX_STAT_trained 3, 1)], by decide +kernel⟩,
   ⟨0, st [(DPRX_STAT_pr 0, 1), (GLB_MODE_state, 3), (DPRX_TOPO_layout, 1)], by decide +kernel⟩,
   ⟨0, stD { dev [(DPRX_STAT_pr 0, 1), (GLB_MODE_state, 3), (DPRX_TOPO_layout, 1)] with trans := some { target := 3, cause := 8, master := 0 } }, { target := 3, cause := 8, master := 0 }, by decide +kernel⟩,
   ⟨0, 0, 0, 32, 8, [], panel [(DPRX_CTRL_su_cap 0, 1), (GLB_MODE_state, 3), (DPRX_TOPO_layout, 1)], by decide +kernel⟩⟩

/-- Every clause of `Obligations.EdidsAndLoopbackAct` has a state and operands that meet its hypotheses. -/
theorem witness_EdidsAndLoopbackAct :
    (∃ (m : Master) (p : Port) (s : State), s.power.coreOn = true ∧ among m mLinks = true ∧ (∀ c ∈ s.toDevice.edidChecks m p, c.1 = false)) ∧
    (∃ (m : Master) (p : Port) (s : State), s.power.coreOn = true ∧ among m mLinks = true ∧ (s.toDevice.portX p).commit = none ∧ (s.toDevice.kRegion (8 + 8 * p)).any (fun j => s.toDevice.kWriteShut m j) = false ∧ (s.toDevice.get (DPRX_EDID_LEN_len p) % 128 ≠ 0 ∨ s.toDevice.get (DPRX_EDID_LEN_len p) = 0 ∨ 1024 < s.toDevice.get (DPRX_EDID_LEN_len p))) ∧
    (∃ (m : Nat) (p : Port) (pl : RecPlace) (s : State), (s.toDevice.portX p).commit = some m ∧ (s.toDevice.portX p).pulse = false ∧ s.toDevice.kClosed = false ∧ s.toDevice.recPlace 2 (4 + p) = some pl) ∧
    (∃ (p : Port) (off n : Nat) (s : State), s.power.coreOn = true) ∧
    (∃ (m : Master) (rate : Nat) (s : State), s.power.coreOn = true ∧ among m mLinks = true ∧ s.toDevice.mode = 1 ∧ s.toDevice.get GLB_BOOT_CFG_hold = 1 ∧ 1 ≤ rate ∧ rate ≤ 4 ∧ s.toDevice.dptxHeld 9 = false ∧ (∀ o, s.toDevice.owner 10 0 = some o → o.feature = 9) ∧ s.toDevice.roBad TAP_LOOP (rate * 16 + 1) = false ∧ s.toDevice.get TAP_LOOP_run = 0) ∧
    (∃ (m : Master) (errs : List Nat) (s : State), s.power.coreOn = true ∧ among m mLinks = true ∧ s.toDevice.get TAP_LOOP_run = 1 ∧ s.toDevice.get TAP_LOOP_rate ≤ 4 ∧ reservedBad TAP_LOOP (offBit (s.toDevice.rd TAP_LOOP) 0) = false ∧ s.toDevice.roBad TAP_LOOP (offBit (s.toDevice.rd TAP_LOOP) 0) = false) :=
  ⟨⟨0, 3, st [(⟨DPRX_EDID 3 0, 31, 0⟩, 0xFFFFFF00), (⟨DPRX_EDID 3 1, 31, 0⟩, 0x00FFFFFF), (⟨DPRX_EDID 3 31, 31, 24⟩, 6), (DPRX_EDID_LEN_len 3, 128)], by decide +kernel⟩,
   ⟨0, 3, st [(DPRX_EDID_LEN_len 3, 1025)], by decide +kernel⟩,
   ⟨0, 3, ⟨32, 36, 1024, true⟩, stD { dev [] with keep := { recalling := false }, dprx := [(3, { commit := some 0 })] }, by decide +kernel⟩,
   ⟨3, 0, 16, st [], by decide +kernel⟩,
   ⟨0, 4, st [(GLB_BOOT_CFG_hold, 1)], by decide +kernel⟩,
   ⟨0, [], st [(TAP_LOOP_run, 1), (TAP_LOOP_rate, 4)], by decide +kernel⟩⟩

/-- Every clause of `Obligations.FramesStart` has a state and operands that meet its hypotheses. -/
theorem witness_FramesStart :
    (∃ (lag : Nat) (latePassed : Bool) (s : State), s.toDevice.mayStart = true ∧ s.toDevice.get TMG_STAT_raster = 2 ∧ s.toDevice.get (DPRX_STAT_valid s.toDevice.refPort) = 0) ∧
    (∃ (lag : Nat) (latePassed : Bool) (s : State), s.toDevice.mayStart = true ∧ s.toDevice.get TMG_STAT_raster = 2 ∧ s.toDevice.get (DPRX_STAT_valid s.toDevice.refPort) = 1 ∧ s.toDevice.layoutPorts.contains s.toDevice.refPort = true ∧ (s.toDevice.portX s.toDevice.refPort).fresh = false) ∧
    (∃ (lag : Nat) (latePassed : Bool) (s : State), s.toDevice.mayStart = true ∧ s.toDevice.get TMG_STAT_raster = 2 ∧ s.toDevice.get (DPRX_STAT_valid s.toDevice.refPort) = 1 ∧ s.toDevice.layoutPorts.contains s.toDevice.refPort = true ∧ (s.toDevice.portX s.toDevice.refPort).fresh = true) ∧
    (∃ (lag : Nat) (latePassed : Bool) (s : State), s.toDevice.mayStart = true ∧ s.toDevice.get TMG_STAT_raster = 2 ∧ s.toDevice.get (DPRX_STAT_valid s.toDevice.refPort) = 1 ∧ s.toDevice.layoutPorts.contains s.toDevice.refPort = true ∧ (s.toDevice.portX s.toDevice.refPort).fresh = true ∧ 0 < lag ∧ lag ≤ s.toDevice.lagMax ∧ lag < 65536 ∧ s.toDevice.refPort < 4 ∧ s.toDevice.mode = 2 ∧ s.ras.stop = false ∧ s.hv.dis = .idle ∧ s.mem.fsUe = [] ∧ s.mem.fsCe = []) ∧
    (∃ (p : Port) (s : State), s.toDevice.mayStart = true ∧ s.ras.wait = .through ∧ s.toDevice.mode = 2 ∧ s.ras.stop = false ∧ s.hv.dis = .idle ∧ s.toDevice.layoutPorts.contains p.val = true ∧ s.toDevice.get (DPRX_STAT_valid p) = 1 ∧ (s.toDevice.portX p).fresh = true ∧ s.mem.fsUe = [] ∧ s.mem.fsCe = []) ∧
    (∃ (s : State), s.toDevice.mayStart = true ∧ s.ras.wait ≠ .no) ∧
    (∃ (s : State), s.toDevice.mayStart = true ∧ s.ras.wait ≠ .no ∧ s.ras.wait = .input ∧ s.mem.fsUe = [] ∧ s.mem.fsCe = []) ∧
    (∃ (usable : Fin 16) (s : State), s.toDevice.mayStart = true ∧ (s.toDevice.get TMG_STAT_raster = 1 ∨ s.toDevice.get TMG_STAT_raster = 3) ∧ s.ras.wait = .no ∧ s.ras.stop = false ∧ s.hv.dis = .idle ∧ s.mem.fsUe = [] ∧ s.mem.fsCe = []) ∧
    (∃ (n : Fin 5) (s : State), s.power.coreOn = true ∧ s.toDevice.mode = 2 ∧ (if n.val = 4 then s.toDevice.layoutNow = 0 else s.toDevice.layoutPorts.contains n.val = true ∧ s.toDevice.get (DPRX_STAT_valid n) = 0) ∧ s.toDevice.getF TMG_NOIN_frames ≤ Sparse.get (fun _ => 0) s.ras.noin n) :=
  ⟨⟨0, false, st [(TMG_STAT_raster, 2)], by decide +kernel⟩,
   ⟨0, false, st [(TMG_STAT_raster, 2), (DPRX_STAT_valid 0, 1), (DPRX_TOPO_layout, 1)], by decide +kernel⟩,
   ⟨0, false, stD { dev [(TMG_STAT_raster, 2), (DPRX_STAT_valid 0, 1), (DPRX_TOPO_layout, 1)] with dprx := [(0, { fresh := true })] }, by decide +kernel⟩,
   ⟨1, false, stD { panelD [(TMG_STAT_raster, 2), (DPRX_STAT_valid 0, 1), (DPRX_TOPO_layout, 1), (TMG_LAG_lines, 1), (GLB_MODE_state, 2)] with dprx := [(0, { fresh := true })] }, by decide +kernel⟩,
   ⟨0, stD { panelD [(TMG_STAT_raster, 2), (DPRX_STAT_valid 0, 1), (DPRX_TOPO_layout, 1), (GLB_MODE_state, 2)] with dprx := [(0, { fresh := true })], ras := { wait := .through } }, by decide +kernel⟩,
   ⟨stD { dev [(TMG_STAT_raster, 2)] with ras := { wait := .through } }, by decide +kernel⟩,
   ⟨stD { dev [(TMG_STAT_raster, 2)] with ras := { wait := .input } }, by decide +kernel⟩,
   ⟨0, st [(TMG_STAT_raster, 3)], by decide +kernel⟩,
   ⟨4, stD { dev [(GLB_MODE_state, 2), (TMG_NOIN_frames, 5)] with ras := { noin := [(4, 5)] } }, by decide +kernel⟩⟩

/-- Every clause of `Obligations.SwapPointsAndScanOut` has a state and operands that meet its hypotheses. -/
theorem witness_SwapPointsAndScanOut :
    (∃ (s : State), s.power.coreOn = true ∧ s.toDevice.get TMG_STAT_raster ≠ 0 ∧ s.ras.due = none ∧ s.ras.last = false ∧ s.toDevice.regsWf ∧ s.cmp.next = none ∧ s.trn.kick = none) ∧
    (∃ (frame : Nat) (w : DueWin) (s : State), s.ras.due = some { frame := frame, wins := [w] } ∧ w.w < 64 ∧ w.learn = 0 ∧ w.crc < 2 ^ 32 ∧ w.crc = s.toDevice.winWant frame w) ∧
    (∃ (frame : Nat) (w : DueWin) (s : State), s.ras.due = some { frame := frame, wins := [w] } ∧ w.w < 64 ∧ w.learn = 0 ∧ w.crc < 2 ^ 32 ∧ w.crc ≠ s.toDevice.winWant frame w ∧ s.toDevice.getF (CHK_CTRL_fault w.w) = 0) ∧
    (∃ (m : Master) (w : Fin 64) (val : Nat) (s : State), s.power.coreOn = true ∧ among m mSide = true ∧ val < 2 ^ 32 ∧ val.testBit 4 = true ∧ bitsOf val 9 8 ≠ 1 ∧ bitsOf val 9 8 ≠ 3 ∧ bitsOf val 13 12 ≠ 3 ∧ reservedBad (CHK_CTRL w) val = false ∧ s.toDevice.roBad (CHK_CTRL w) val = false) ∧
    (∃ (m : Master) (s : State), s.power.coreOn = true ∧ among m mFabric = true ∧ s.toDevice.mode = 1 ∧ s.toDevice.claimedLanes.all (fun n => s.toDevice.laneTrained n) = true ∧ s.toDevice.roBad TMG_SCAN 1 = false ∧ s.toDevice.get TMG_STAT_raster = 0) ∧
    (∃ (m : Master) (s : State), s.power.coreOn = true ∧ among m mFabric = true ∧ s.toDevice.mode = 1 ∧ s.toDevice.roBad TMG_SCAN 0 = false ∧ s.toDevice.get TMG_SCAN_run = 1 ∧ s.toDevice.get TMG_STAT_raster ≠ 0 ∧ s.toDevice.getF TMG_TEST_en = 0) ∧
    (∃ (m : Master) (s : State) (val : _), s.power.coreOn = true ∧ among m mFabric = true ∧ s.toDevice.mode = 1 ∧ val < 2 ^ 32 ∧ val.testBit 0 = true ∧ bitsOf val 7 4 ≤ 7 ∧ reservedBad TMG_TEST val = false ∧ s.toDevice.roBad TMG_TEST val = false ∧ s.toDevice.get TMG_STAT_raster = 0) :=
  ⟨⟨st [(TMG_STAT_raster, 1)], by decide +kernel, by decide +kernel, by decide +kernel, by decide +kernel, ⟨by decide +kernel, by decide +kernel, by decide +kernel⟩, by decide +kernel, by decide +kernel⟩,
   ⟨7, { w := 63, crc := 0 }, stD { dev [] with ras := { due := some { frame := 7, wins := [{ w := 63, crc := 0 }] } } }, by decide +kernel⟩,
   ⟨7, { w := 63, crc := 1 }, stD { dev [] with ras := { due := some { frame := 7, wins := [{ w := 63, crc := 1 }] } } }, by decide +kernel⟩,
   ⟨0, 63, 0x10, st [], by decide +kernel⟩,
   ⟨0, panel [(ACL_LANE_STAT_state 3, 4), (ACL_LANE_STAT_state 7, 4)], by decide +kernel⟩,
   ⟨0, st [(TMG_SCAN_run, 1), (TMG_STAT_raster, 1)], by decide +kernel⟩,
   ⟨0, panel [], 0x71, by decide +kernel⟩⟩

/-- Every clause of `Obligations.LinesLeaveOnTime` has a state and operands that meet its hypotheses. -/
theorem witness_LinesLeaveOnTime :
    (∃ (s : State), s.power.coreOn = true ∧ s.toDevice.get TMG_STAT_raster ≠ 0 ∧ s.hv.dis ≠ .opening ∧ s.mem.fsUe = [] ∧ s.mem.fsCe = []) ∧
    (∃ (t : Lane) (l : PackedLine) (rest : List PackedLine) (s : State), s.power.coreOn = true ∧ s.toDevice.get TMG_STAT_raster ≠ 0 ∧ s.ras.active = true ∧ t.val < s.toDevice.stripeCount ∧ (s.toDevice.stripeX t).ready = l :: rest ∧ (s.toDevice.stripeX t).out = l.pos ∧ l.pos < s.toDevice.vact ∧ l.bytes = [] ∧ s.toDevice.laneRuns (s.toDevice.stripeLane t) = true ∧ s.mem.fsUe = []) ∧
    (∃ (t : Lane) (s : State), s.power.coreOn = true ∧ s.toDevice.get TMG_STAT_raster ≠ 0 ∧ s.ras.active = true ∧ t.val < s.toDevice.stripeCount ∧ (s.toDevice.stripeX t).ready = [] ∧ (s.toDevice.stripeX t).out < s.toDevice.vact ∧ (s.toDevice.rowSrcAt t (s.toDevice.stripeX t).out).isSome = true ∧ s.ras.first = true ∧ s.toDevice.laneRuns (s.toDevice.stripeLane t) = true ∧ s.mem.fsUe = [] ∧ s.mem.fsCe = [] ∧ 0 < Sparse.get (fun _ => 0) s.ras.holds t ∧ Sparse.get (fun _ => 0) s.ras.holds t ≠ s.toDevice.get TMG_HOLD_LIM_lines) ∧
    (∃ (t : Lane) (lag g : Nat) (src : RowSrc) (s : State), s.power.coreOn = true ∧ s.toDevice.get TMG_STAT_raster ≠ 0 ∧ s.ras.active = true ∧ t.val < s.toDevice.stripeCount ∧ s.toDevice.nextProcessed t (s.toDevice.stripeX t).next (s.toDevice.vact - (s.toDevice.stripeX t).next) = g ∧ g < s.toDevice.vact ∧ s.toDevice.rowSrcAt t g = some src ∧ Sparse.get (fun _ => 0) (s.toDevice.stripeX t).owed 13 ≠ 16 ∧ s.toDevice.inputReady t (s.toDevice.rowAt g) src = true ∧ (s.toDevice.stripeX t).ready.length < 2 ∧ (s.toDevice.stripeX t).out ≤ g ∧ s.mem.fsUe = [] ∧ s.mem.fsCe = []) ∧
    (∃ (t : Lane) (lag g : Nat) (src : RowSrc) (s : State), s.power.coreOn = true ∧ s.toDevice.get TMG_STAT_raster ≠ 0 ∧ s.ras.active = true ∧ t.val < s.toDevice.stripeCount ∧ s.toDevice.nextProcessed t (s.toDevice.stripeX t).next (s.toDevice.vact - (s.toDevice.stripeX t).next) = g ∧ g < s.toDevice.vact ∧ s.toDevice.rowSrcAt t g = some src ∧ Sparse.get (fun _ => 0) (s.toDevice.stripeX t).owed 13 ≠ 16 ∧ s.toDevice.inputReady t (s.toDevice.rowAt g) src = true ∧ (s.toDevice.stripeX t).ready.length = 2) ∧
    (∃ (t : Lane) (j : Fin 14) (s : State), 0 < Sparse.get (fun _ => 0) (s.toDevice.stripeX t).owed j) ∧
    (∃ (t : Lane) (f : FacetFound) (s : State), s.power.coreOn = true ∧ s.ras.active = true ∧ t.val < s.toDevice.stripeCount ∧ f.words = [] ∧ f.pond = [] ∧ f.knots = []) :=
  ⟨⟨st [(TMG_STAT_raster, 1)], by decide +kernel⟩,
   ⟨0, { pos := 7, codes := [] }, [], stD (activeD [(ACL_LANE_STAT_state 3, 5)] { active := true, stripes := [(0, { out := 7, ready := [{ pos := 7, codes := [] }] })] }), by decide +kernel⟩,
   ⟨0, stD (activeD [(ACL_LANE_STAT_state 3, 2), (TMG_HOLD_LIM_lines, 2)] { active := true, kind := .test, first := true, stripes := [(0, { out := 7 })], holds := [(0, 1)] }), by decide +kernel⟩,
   ⟨0, 0, 7, .test, stD (activeD [] { active := true, kind := .test, stripes := [(0, { next := 7, ready := [{ pos := 6, codes := [] }] })] }), by decide +kernel⟩,
   ⟨0, 0, 7, .test, stD (activeD [] { active := true, kind := .test, stripes := [(0, { next := 7, ready := [{ pos := 5, codes := [] }, { pos := 6, codes := [] }] })] }), by decide +kernel⟩,
   ⟨95, 13, stD { dev [] with ras := { stripes := [(95, { owed := [(13, 1)] })] } }, by decide +kernel⟩,
   ⟨0, ⟨[], true, [], [], [], []⟩, stD (activeD [] { active := true }), by decide +kernel⟩⟩

/-- Every clause of `Obligations.SensingRuns` has a state and operands that meet its hypotheses. -/
theorem witness_SensingRuns :
    (∃ (m : Master) (val : Nat) (s : State), s.power.coreOn = true ∧ among m mSurvey = true ∧ val < 2 ^ 32 ∧ val.testBit 0 = true ∧ val.testBit 8 = false ∧ s.toDevice.senseRoles = true ∧ reservedBad SRV_CTRL val = false ∧ bitsOf val 5 4 ≤ 1 ∧ 4 + s.toDevice.get SRV_SCHED_per_blank * s.toDevice.lop ≤ s.toDevice.minBlank ∧ s.srv.timer = none ∧ s.toDevice.imageServes 4 6 (s.toDevice.get SRV_SCHED_timer) = false ∧ s.toDevice.owner 6 (s.toDevice.get SRV_SCHED_timer) = none) ∧
    (∃ (s : State), s.toDevice.sensing = true ∧ s.toDevice.get SRV_STAT_due < 4 ∧ s.srv.ops = [] ∧ s.srv.again = []) ∧
    (∃ (s : State), s.toDevice.sensing = true ∧ 4 ≤ s.toDevice.get SRV_STAT_due) ∧
    (∃ (s : State), s.toDevice.sensing = true ∧ s.toDevice.get TMG_STAT_raster ≠ 0 ∧ s.ras.active = false ∧ s.toDevice.get SRV_STAT_loupe = 0 ∧ s.srv.again = [] ∧ s.toDevice.get SRV_SWEEP_next < s.toDevice.sweepOps ∧ 0 < s.toDevice.get SRV_STAT_due ∧ s.srv.blank < s.toDevice.get SRV_SCHED_per_blank ∧ 2 + (s.srv.blank + 1) * s.toDevice.lop + 2 ≤ s.toDevice.minBlank ∧ s.toDevice.get SRV_SWEEP_next < 65535) ∧
    (∃ (s : State), s.toDevice.sensing = true ∧ s.toDevice.get TMG_STAT_raster ≠ 0 ∧ s.ras.active = false ∧ s.toDevice.get SRV_STAT_loupe = 0 ∧ s.srv.again = [] ∧ s.toDevice.get SRV_SWEEP_next < s.toDevice.sweepOps ∧ 0 < s.toDevice.get SRV_STAT_due ∧ s.srv.blank < s.toDevice.get SRV_SCHED_per_blank ∧ s.toDevice.minBlank < 2 + (s.srv.blank + 1) * s.toDevice.lop + 2 ∧ s.srv.noroom = false) ∧
    (∃ (b : Burst) (st : Nat) (s : State), (s.toDevice.ret b.ret).silenced.testBit b.slot = false ∧ (s.toDevice.ret b.ret).phase.find? (fun e => e.1 == b.slot.val) = none ∧ b.codeErr = false ∧ b.guard = false ∧ b.crc = linkCrc16 b.body ∧ s.toDevice.slotStripe b.ret b.slot = some st) ∧
    (∃ (o : SenseOp) (rest : List SenseOp) (s : State), s.srv.ops = o :: rest ∧ o.loupe = false ∧ s.toDevice.get SRV_SENSE_kind = 1 ∧ o.again = false ∧ (∃ k < s.toDevice.stripeCount, s.toDevice.senseVals o k = none)) ∧
    (∃ (o : SenseOp) (rest : List SenseOp) (s : State), s.srv.ops = o :: rest ∧ o.loupe = false ∧ s.toDevice.get SRV_SENSE_kind = 1 ∧ (∀ k < s.toDevice.stripeCount, (s.toDevice.senseVals o k).isSome = true) ∧ s.mem.fsUe = [] ∧ s.mem.fsCe = [] ∧ (rest ≠ [] ∨ s.srv.again ≠ [])) :=
  ⟨⟨3, 1, panel [(SRV_SCHED_per_blank, 1), (HVP_GST_CFG_role 2, 3), (HVP_GST_CFG_role 3, 4)], by decide +kernel⟩,
   ⟨st [(GLB_MODE_state, 2), (SRV_CTRL_en, 1), (SRV_STAT_due, 3)], by decide +kernel⟩,
   ⟨st [(GLB_MODE_state, 2), (SRV_CTRL_en, 1), (SRV_STAT_due, 4)], by decide +kernel⟩,
   ⟨panel [(GLB_MODE_state, 2), (SRV_CTRL_en, 1), (TMG_STAT_raster, 2), (SRV_STAT_due, 1), (SRV_SCHED_per_blank, 1), (SRV_SENSE_kind, 1)], by decide +kernel⟩,
   ⟨panel [(GLB_MODE_state, 2), (SRV_CTRL_en, 1), (TMG_STAT_raster, 2), (SRV_STAT_due, 1), (SRV_SCHED_per_blank, 1), (SRV_SENSE_kind, 1), (SRV_SENSE_T_conv, 255)], by decide +kernel⟩,
   ⟨burst, 0, panel [], by decide +kernel⟩,
   ⟨{ id := 0, row := 0, level := 0 }, [], stD { panelD [(SRV_SENSE_kind, 1)] with srv := { ops := [{ id := 0, row := 0, level := 0 }] } }, by decide +kernel⟩,
   ⟨{ id := 0, row := 0, level := 0, got := (List.range 16).map (fun c => (c, List.replicate 22 0)) }, [{ id := 0, row := 0, level := 0 }], stD { panelD [(SRV_SENSE_kind, 1)] with srv := { ops := [{ id := 0, row := 0, level := 0, got := (List.range 16).map (fun c => (c, List.replicate 22 0)) }, { id := 0, row := 0, level := 0 }] } }, by decide +kernel⟩⟩

/-- Every clause of `Obligations.SurveyIsCommanded` has a state and operands that meet its hypotheses. -/
theorem witness_SurveyIsCommanded :
    (∃ (m : Master) (s : State), s.power.coreOn = true ∧ (∀ c ∈ s.toDevice.srvChecks m 1, c.1 = false)) ∧
    (∃ (m : Master) (s : State), s.power.coreOn = true ∧ (∀ c ∈ s.toDevice.srvChecks m 2, c.1 = false) ∧ s.toDevice.get SRV_STAT_loupe = 0 ∧ s.toDevice.get TMG_STAT_raster ≠ 0) ∧
    (∃ (m : Master) (s : State), s.power.coreOn = true ∧ (∀ c ∈ s.toDevice.srvChecks m 2, c.1 = false) ∧ s.toDevice.get SRV_STAT_loupe = 0 ∧ s.toDevice.get TMG_STAT_raster = 0) ∧
    (∃ (m : Master) (s : State) (types : Fin 4), s.power.coreOn = true ∧ (∀ c ∈ s.toDevice.srvChecks m (3 + 256 * types), c.1 = false)) ∧
    (∃ (m : Master) (s : State), s.power.coreOn = true ∧ (∀ c ∈ s.toDevice.srvChecks m 4, c.1 = false) ∧ s.srv.ops = [] ∧ s.srv.again = []) ∧
    (∃ (m : Master) (s : State), s.power.coreOn = true ∧ (∀ c ∈ s.toDevice.srvChecks m 5, c.1 = false) ∧ s.srv.ops ≠ []) ∧
    (∃ (m : Master) (s : State), s.power.coreOn = true ∧ (∀ c ∈ s.toDevice.srvChecks m 6, c.1 = false) ∧ s.trans = none) ∧
    (∃ (m : Master) (c : Bool × Nat) (s : State), s.power.coreOn = true ∧ (s.toDevice.srvChecks m 1).find? (fun x => x.1) = some c) ∧
    (∃ (s : State), s.power.coreOn = true ∧ s.toDevice.modeIn 0xC = true ∧ s.toDevice.get SRV_SAVE_INT_minutes ≠ 0 ∧ (∀ c ∈ s.toDevice.srvChecks 3 515, c.1 = false)) ∧
    (∃ (c : SurveyCmd) (s : State), s.power.coreOn = true ∧ s.srv.cmd = some c ∧ c.op = 1 ∧ s.toDevice.memWf ∧ s.mem.fsUe = [] ∧ s.mem.fsCe = [] ∧ (∀ i < (s.toDevice.rd (MEM_RGN_SIZE (3 + s.toDevice.get MEM_FS_STAT_cmp))), fsDef s.mem.lay ((s.toDevice.rgnBase (4 - s.toDevice.get MEM_FS_STAT_cmp)) + i) = fsDef s.mem.lay ((s.toDevice.rgnBase (3 + s.toDevice.get MEM_FS_STAT_cmp)) + i))) ∧
    (∃ (c : SurveyCmd) (s : State), s.power.coreOn = true ∧ s.srv.cmd = some c ∧ c.op = 3 ∧ c.types = 1 ∧ s.mem.fsUe = [] ∧ s.mem.fsCe = []) :=
  ⟨⟨3, st [], by decide +kernel⟩,
   ⟨3, st [(SRV_STAT_stage_valid, 1), (TMG_STAT_raster, 2)], by decide +kernel⟩,
   ⟨3, st [(SRV_STAT_stage_valid, 1)], by decide +kernel⟩,
   ⟨3, stD { dev [(whole (SRV_SLOT 0 0), 1), (whole (SRV_SLOT 0 1), 1), (whole (SRV_SLOT 1 0), 1), (whole (SRV_SLOT 1 1), 1)] with keep := { recalling := false } }, 3, by decide +kernel⟩,
   ⟨3, st [(GLB_MODE_state, 2), (SRV_CTRL_en, 1)], by decide +kernel⟩,
   ⟨3, stD { dev [] with srv := { ops := [{ id := 0, row := 0, level := 0 }] } }, by decide +kernel⟩,
   ⟨3, st [(SRV_STAT_loupe, 1)], by decide +kernel⟩,
   ⟨3, (true, eState), st [(GLB_MODE_state, 5)], by decide +kernel⟩,
   ⟨stD { dev [(GLB_MODE_state, 2), (SRV_SAVE_INT_minutes, 1), (whole (SRV_SLOT 1 0), 1), (whole (SRV_SLOT 1 1), 1)] with keep := { recalling := false } }, by decide +kernel⟩,
   ⟨{ op := 1, master := 3, types := 0 }, stD { dev [] with srv := { cmd := some { op := 1, master := 3, types := 0 } } }, by decide +kernel, by decide +kernel, by decide +kernel, memWf_reset _ rfl rfl rfl rfl rfl rfl, by decide +kernel, by decide +kernel, by decide +kernel⟩,
   ⟨{ op := 3, master := 3, types := 1 }, stD { dev [] with srv := { cmd := some { op := 3, master := 3, types := 1 } } }, by decide +kernel⟩⟩

/-- Every clause of `Obligations.ModeRequestsBegin` has a state and operands that meet its hypotheses. -/
theorem witness_ModeRequestsBegin :
    (∃ (m : Master) (s : State), s.power.coreOn = true ∧ among m 0x387 = true ∧ s.toDevice.mode ≠ 0 ∧ s.toDevice.get GLB_MODE_STAT_busy = 0) ∧
    (∃ (m : Master) (s : State), s.power.coreOn = true ∧ among m 0x387 = true ∧ s.toDevice.mode ≠ 0 ∧ s.toDevice.mode ≠ 4 ∧ s.toDevice.get GLB_MODE_STAT_busy = 0) ∧
    (∃ (m : Master) (s : State), s.power.coreOn = true ∧ among m 0x387 = true ∧ s.toDevice.mode = 3 ∧ s.toDevice.get GLB_MODE_STAT_busy = 0) ∧
    (∃ (m : Master) (s : State), s.power.coreOn = true ∧ among m 0x387 = true ∧ s.toDevice.mode = 2 ∧ s.toDevice.get GLB_MODE_STAT_busy = 0) ∧
    (∃ (m : Master) (s : State), s.power.coreOn = true ∧ among m 0x387 = true ∧ s.toDevice.mode = 2 ∧ s.toDevice.senseRoles = true ∧ s.toDevice.actView.levelsFit (s.toDevice.get SRV_SENSE_levels) = true ∧ s.toDevice.get GLB_MODE_STAT_busy = 0) :=
  ⟨⟨9, st [], by decide +kernel⟩,
   ⟨9, st [], by decide +kernel⟩,
   ⟨9, st [(GLB_MODE_state, 3)], by decide +kernel⟩,
   ⟨9, st [(GLB_MODE_state, 2)], by decide +kernel⟩,
   ⟨9, panel [(GLB_MODE_state, 2), (SRV_SENSE_levels, 3), (HVP_GST_CFG_role 2, 3), (HVP_GST_CFG_role 3, 4)], by decide +kernel⟩⟩

/-- Every clause of `Obligations.WakeSourcesWake` has a state and operands that meet its hypotheses. -/
theorem witness_WakeSourcesWake :
    (∃ (s : State), s.power.coreOn = false ∧ s.power.hold10 = false ∧ s.power.pwrupEn = false) ∧
    (∃ (pin : Fin 2) (ns : Nat) (s : State), s.power.coreOn = false ∧ s.power.hold10 = false ∧ s.power.pwrupEn = false ∧ s.power.aoWakeCfg.testBit pin = true ∧ filterNs (bitsOf s.power.aoWakeCfg 10 8) < ns) ∧
    (∃ (s : State), s.power.coreOn = false ∧ s.power.hold10 = false ∧ s.power.pwrupEn = false ∧ s.power.aoWakeCfg.testBit 2 = true ∧ s.power.aoWakeAlarm ≤ s.toDevice.rd KEEP_CLK) ∧
    (∃ (s : State), s.power.coreOn = false ∧ s.power.hold10 = true ∧ s.power.wake.cause = none) ∧
    (∃ (c : Nat) (s : State), s.power.coreOn = false ∧ s.power.hold10 = true ∧ s.power.wake.cause = some c ∧ c ≠ 4) ∧
    (∃ (pin : Fin 2) (ns : Nat) (s : State), s.power.coreOn = false ∧ s.power.hold10 = true ∧ s.power.aoWakeCfg.testBit pin = true ∧ filterNs (bitsOf s.power.aoWakeCfg 10 8) < ns) :=
  ⟨⟨stD { dev [] with power := { coreOn := false, pwrupEn := false } }, by decide +kernel⟩,
   ⟨1, 51, stD { dev [] with power := { coreOn := false, pwrupEn := false, aoWakeCfg := 0x102 } }, by decide +kernel⟩,
   ⟨stD { dev [] with power := { coreOn := false, pwrupEn := false, aoWakeCfg := 4 } }, by decide +kernel⟩,
   ⟨stD { dev [] with power := { coreOn := false, hold10 := true } }, by decide +kernel⟩,
   ⟨2, stD { dev [] with power := { coreOn := false, hold10 := true, wake := { pin1 := true } } }, by decide +kernel⟩,
   ⟨1, 51, stD { dev [] with power := { coreOn := false, hold10 := true, aoWakeCfg := 0x102 } }, by decide +kernel⟩⟩

/-- Every clause of `Obligations.CoreDieStartsAndStops` has a state and operands that meet its hypotheses. -/
theorem witness_CoreDieStartsAndStops :
    (∃ (s : State), s.power.coreOn = false ∧ s.power.pwrupEn = true ∧ s.power.sysRst = false) ∧
    (∃ (s : State), s.power.coreOn = false ∧ s.power.pwrupEn = true ∧ s.power.coreGood = true ∧ s.power.sysRst = true) ∧
    (∃ (src : PfSupply) (s : State), s.power.coreOn = true) ∧
    (∃ (s : State), s.power.coreOn = true) ∧
    (∃ (s : State), s.power.coreOn = true ∧ s.toDevice.kClosed = false ∧ (s.toDevice.rd GLB_BOOT_STEPS).testBit 6 = true) :=
  ⟨⟨stD { dev [] with power := { coreOn := false, pwrupEn := true } }, by decide +kernel⟩,
   ⟨stD { dev [] with power := { coreOn := false, pwrupEn := true, sysRst := true } }, by decide +kernel⟩,
   ⟨.vddIo, st [], by decide +kernel⟩,
   ⟨st [], by decide +kernel⟩,
   ⟨stD { dev [(⟨GLB_BOOT_STEPS, 6, 6⟩, 1)] with keep := { recalling := false } }, by decide +kernel⟩⟩

/-- Every clause of `Obligations.BootAndTransitionsComplete` has a state and operands that meet its hypotheses. -/
theorem witness_BootAndTransitionsComplete :
    (∃ (o : BootOutcome) (s : State), s.power.coreOn = true ∧ s.boot.running = true ∧ s.boot.started = 4 ∧ s.toDevice.rd GLB_BOOT_STEPS = 3) ∧
    (∃ (a b : BootSlotScan) (slow : Bool) (s : State), s.power.coreOn = true ∧ s.boot.running = true ∧ s.boot.started.testBit 5 = true ∧ s.toDevice.bootDone 5 = false ∧ (slotGrade (s.toDevice.bootWord 0 % 2 = 1) (s.toDevice.bootWord 20) (if s.toDevice.get GLB_BOOT_CFG_slot = 0 then a else b) = 3)) ∧
    (∃ (s : State), s.power.coreOn = true ∧ s.boot.running = true ∧ s.boot.started.testBit 6 = true ∧ s.toDevice.bootDone 6 = false ∧ s.trans = none ∧ s.toDevice.railsUp = false ∧ s.hv.seq = .idle) ∧
    (∃ (s : State), s.power.coreOn = true ∧ s.keep.recalling = true ∧ s.toDevice.get KEEP_STAT_state = 1) ∧
    (∃ (t : Trans) (s : State), s.toDevice.transDue = some t ∧ t.target = 3 ∧ t.cause < 7 ∧ s.link.failed = []) ∧
    (∃ (t : Trans) (s : State), s.toDevice.transDue = some t ∧ t.target = 2 ∧ t.cause = 9 ∧ s.link.failed = [] ∧ s.toDevice.mode = 4) ∧
    (∃ (t : Trans) (s : State), s.toDevice.transDue = some t ∧ t.target = 2 ∧ t.cause = 7 ∧ s.link.failed = [] ∧ s.toDevice.mode = 1) :=
  ⟨⟨.done, st [(whole GLB_BOOT_STEPS, 3)], by decide +kernel⟩,
   ⟨⟨true, true, none, false, 7⟩, ⟨false, false, none, false, 0⟩, false, stD { dev [] with boot := { started := 32 } }, by decide +kernel⟩,
   ⟨stD { dev [] with boot := { started := 64 } }, by decide +kernel⟩,
   ⟨st [(KEEP_STAT_state, 1)], by decide +kernel⟩,
   ⟨{ target := 3, cause := 6, master := 0 }, stD { dev [(GLB_MODE_state, 2), (TMG_STAT_raster, 2)] with trans := some { target := 3, cause := 6, master := 0 }, ras := { vsp := true }, boot := { running := false } }, by decide +kernel⟩,
   ⟨{ target := 2, cause := 9, master := 0 }, stD { dev [(GLB_MODE_state, 4), (TMG_STAT_raster, 2)] with trans := some { target := 2, cause := 9, master := 0 }, ras := { vsp := true }, boot := { running := false } }, by decide +kernel⟩,
   ⟨{ target := 2, cause := 7, master := 0 }, stD { dev [(GLB_MODE_state, 1), (TMG_STAT_raster, 2)] with trans := some { target := 2, cause := 7, master := 0 }, ras := { vsp := true }, boot := { running := false } }, by decide +kernel⟩⟩

/-- Every clause of `Obligations.PowerUpSequenceRuns` has a state and operands that meet its hypotheses. -/
theorem witness_PowerUpSequenceRuns :
    (∃ (m : Master) (s : State), s.power.coreOn = true ∧ s.bridge.lost = false ∧ among m mHv = true ∧ s.toDevice.modeIn 0x22 = true ∧ s.toDevice.get HVP_FLT_crack = 0 ∧ s.toDevice.get SRV_CTRL_en = 0 ∧ s.toDevice.get HVP_STAT_state = 0 ∧ s.hv.vinLow = false ∧ (s.toDevice.get HVP_SEQ_CFG_en).testBit 0 = true) ∧
    (∃ (i : Fin 8) (mon : Nat) (tie : Bool) (s : State), s.hv.seq = .ramp i ∧ s.toDevice.get HVP_STAT_state = 1) ∧
    (∃ (i j : Nat) (s : State), s.hv.seq = .delay i ∧ s.hv.vinLow = false ∧ s.toDevice.seqNext (i + 1) = some j) ∧
    (∃ (i : Nat) (s : State), s.hv.seq = .ramp i ∧ s.hv.vinLow = false) ∧
    (∃ (i : Nat) (tie : Bool) (s : State), s.hv.seq = .ramp i ∧ s.hv.vinLow = true ∧ s.toDevice.get HVP_STAT_state = 2) :=
  ⟨⟨9, st [(HVP_SEQ_CFG_en, 1)], by decide +kernel⟩,
   ⟨7, 0, true, stD { dev [(HVP_STAT_state, 1)] with hv := { seq := .ramp 7 } }, by decide +kernel⟩,
   ⟨0, 7, stD { dev [(HVP_SEQ_CFG_en, 0x80)] with hv := { seq := .delay 0 } }, by decide +kernel⟩,
   ⟨7, stD { dev [] with hv := { seq := .ramp 7 } }, by decide +kernel⟩,
   ⟨7, true, stD { dev [(HVP_STAT_state, 2)] with hv := { seq := .ramp 7, vinLow := true } }, by decide +kernel⟩⟩

/-- Every clause of `Obligations.PanelFaultsAndMonitorsAct` has a state and operands that meet its hypotheses. -/
theorem witness_PanelFaultsAndMonitorsAct :
    (∃ (i : Nat) (s : State), s.power.coreOn = true ∧ s.toDevice.mode ≠ 5 ∧ s.hv.seq = .ramp i ∧ s.toDevice.get HVP_STAT_state = 1) ∧
    (∃ (i : Nat) (s : State), s.power.coreOn = true ∧ s.toDevice.mode ≠ 5 ∧ s.hv.seq = .ramp i ∧ s.toDevice.get HVP_STAT_state = 2) ∧
    (∃ (i : Fin 8) (s : State), s.power.coreOn = true ∧ s.toDevice.mode ≠ 5 ∧ (s.toDevice.get HVP_STAT_good).testBit (instStep i) = true ∧ i.val < 4) ∧
    (∃ (i : Fin 8) (s : State), s.power.coreOn = true ∧ s.toDevice.mode ≠ 5 ∧ (s.toDevice.get HVP_STAT_good).testBit (instStep i) = true ∧ 4 ≤ i.val) ∧
    (∃ (t : Nat) (s : State), t < 0x8000 ∧ 2400 < t ∧ s.power.coreOn = true ∧ s.toDevice.mode ≠ 5 ∧ s.hv.hot ≠ 3) ∧
    (∃ (t : Nat) (s : State), t ≤ 2240) ∧
    (∃ (k : Fin 4) (v : Nat) (s : State), v < 1024 ∧ s.toDevice.get (HVP_PSM_CFG_lo k) ≤ v ∧ v ≤ s.toDevice.get (HVP_PSM_CFG_hi k)) ∧
    (∃ (ohm : Nat) (s : State), s.toDevice.get HVP_CRK_CFG_en = 1 ∧ s.toDevice.mode ≠ 0 ∧ ohm ≤ 2000 ∧ s.toDevice.get HVP_CRK_CFG_lo ≤ ohm ∧ ohm ≤ s.toDevice.get HVP_CRK_CFG_hi) ∧
    (∃ (ohm : Nat) (s : State), s.toDevice.get HVP_CRK_CFG_en = 1 ∧ s.toDevice.mode ≠ 0 ∧ 2000 < ohm ∧ s.hv.crackHi = 0 ∧ s.toDevice.get HVP_CRK_CFG_hi < 0xFFFF ∧ 2 ≤ s.toDevice.get HVP_CRK_CFG_samples) ∧
    (∃ (s : State), s.toDevice.mode = 0) ∧
    (∃ (s : State), s.toDevice.mode ≠ 0 ∧ s.seg.positive = true) ∧
    (∃ (s : State), s.toDevice.mode ≠ 0 ∧ s.seg.positive = false) :=
  ⟨⟨7, stD { dev [(HVP_STAT_state, 1)] with hv := { seq := .ramp 7 } }, by decide +kernel⟩,
   ⟨7, stD { dev [(HVP_STAT_state, 2)] with hv := { seq := .ramp 7 } }, by decide +kernel⟩,
   ⟨3, st [(HVP_STAT_good, 0xFF)], by decide +kernel⟩,
   ⟨7, st [(HVP_STAT_good, 0xFF)], by decide +kernel⟩,
   ⟨2401, st [], by decide +kernel⟩,
   ⟨2240, st [], by decide +kernel⟩,
   ⟨3, 1023, st [(HVP_PSM_CFG_hi 3, 1023)], by decide +kernel⟩,
   ⟨2000, st [(HVP_CRK_CFG_en, 1), (HVP_CRK_CFG_hi, 2000)], by decide +kernel⟩,
   ⟨2001, st [(HVP_CRK_CFG_en, 1), (HVP_CRK_CFG_hi, 2000), (HVP_CRK_CFG_samples, 2)], by decide +kernel⟩,
   ⟨st [(GLB_MODE_state, 0)], by decide +kernel⟩,
   ⟨stD { dev [] with seg := { positive := true } }, by decide +kernel⟩,
   ⟨st [], by decide +kernel⟩⟩

/-- Every clause of `Obligations.DischargeRuns` has a state and operands that meet its hypotheses. -/
theorem witness_DischargeRuns :
    (∃ (m : Master) (s : State), s.power.coreOn = true ∧ s.bridge.lost = false ∧ among m mHv = true ∧ s.toDevice.modeIn 0x22 = true ∧ s.toDevice.get HVP_STAT_state ≠ 0 ∧ s.toDevice.get HVP_STAT_state < 4 ∧ s.toDevice.railsUp = true ∧ s.hv.dis = .idle ∧ s.toDevice.rasterKnown = true) ∧
    (∃ (i : Nat) (s : State), s.hv.dis = .hold ∧ s.toDevice.bleedNext = some i) ∧
    (∃ (i : Fin 8) (mon : Nat) (tie : Bool) (s : State), s.hv.dis = .pfBleed ∧ (s.toDevice.get HVP_STAT_up) = 2 ^ i.val + 2 ^ ((i.val + 1) % 8)) ∧
    (∃ (i j : Nat) (s : State), s.power.coreOn = false ∧ s.keep.frozen = true ∧ s.hv.dis = .bleed i ∧ i < 8 ∧ (s.toDevice.get HVP_STAT_up).testBit j = true ∧ s.hv.stuck.testBit j = false ∧ j ≠ i ∧ j < 8) ∧
    (∃ (s : State), s.hv.dis = .pfHold ∧ s.toDevice.get HVP_STAT_up ≠ 0) :=
  ⟨⟨9, panel [(HVP_STAT_state, 3), (HVP_STAT_up, 1)], by decide +kernel⟩,
   ⟨7, stD { dev [(HVP_STAT_up, 0x80)] with hv := { dis := .hold } }, by decide +kernel⟩,
   ⟨7, 0, true, stD { dev [(HVP_STAT_up, 0x81)] with hv := { dis := .pfBleed } }, by decide +kernel⟩,
   ⟨7, 0, stD { dev [(HVP_STAT_up, 0x81)] with hv := { dis := .bleed 7 }, power := { coreOn := false }, keep := { frozen := true } }, by decide +kernel⟩,
   ⟨stD { dev [(HVP_STAT_up, 0x80)] with hv := { dis := .pfHold } }, by decide +kernel⟩⟩

/-- Every clause of `Obligations.FaultsAreRaisedAndRecovered` has a state and operands that meet its hypotheses. -/
theorem witness_FaultsAreRaisedAndRecovered :
    (∃ (code inst obj : Nat) (s : State), code ∈ fltListed ∧ fltSev code = 1 ∧ fltAtOnce code 1 = true ∧ s.power.coreOn = true ∧ s.toDevice.get FLT_CTRL_log_s1 = 0) ∧
    (∃ (inst obj : Nat) (s : State), s.power.coreOn = true ∧ s.toDevice.mode ≠ 5 ∧ s.hif.bscan = false ∧ s.flt.opened = none) ∧
    (∃ (code inst obj : Nat) (s : State), code ∈ fltListed ∧ fltSev code = 3 ∧ s.power.coreOn = true ∧ s.toDevice.mode ≠ 5) ∧
    (∃ (m : Master) (val : Nat) (s : State), among m 0x381 = true ∧ s.power.coreOn = true ∧ s.toDevice.mode ≠ 5 ∧ val < 2 ^ 32 ∧ reservedBad FLT_RAISE val = false ∧ bitsOf val 9 8 = 3) ∧
    (∃ (r : Recovery) (s : State), s.flt.opened = some r ∧ r.flt.sev = 2 ∧ 6 ≤ r.elapsed ∧ s.toDevice.get TMG_STAT_raster ≠ 0) ∧
    (∃ (r : Recovery) (s : State), s.flt.opened = some r ∧ s.flt.queued = none ∧ r.others = [] ∧ r.flt.code = 0x22 ∧ r.flt.sev = 2 ∧ r.elapsed ≤ 6 ∧ r.latency ≤ 6 ∧ r.overrun = false ∧ s.toDevice.get TMG_STAT_raster ≠ 0 ∧ s.toDevice.get (ACL_LANE_STAT_in_use (s.act.lanes.getD r.flt.obj {}).lane) = 1) ∧
    (∃ (s : State), s.power.coreOn = true ∧ s.toDevice.mode = 5 ∧ s.trans = none ∧ s.toDevice.get FLT_STAT_engine = 4 ∧ s.toDevice.get FLT_NEWT_held = 0 ∧ s.flt.step = 0) ∧
    (∃ (s : State), s.power.coreOn = true ∧ s.toDevice.mode = 5 ∧ s.flt.step = 2) ∧
    (∃ (b : Bool) (s : State), s.power.coreOn = true ∧ s.toDevice.mode = 5 ∧ s.flt.step = 3) ∧
    (∃ (s : State), s.power.coreOn = true ∧ s.toDevice.mode = 5 ∧ s.trans = none ∧ s.flt.step ≠ 0 ∧ s.flt.step < 7) ∧
    (∃ (u : CtrUpdate) (s : State), s.power.coreOn = true ∧ s.toDevice.kClosed = false ∧ s.keep.ctrBusy = some u) :=
  ⟨⟨0x74, 0, 0, st [], by decide +kernel⟩,
   ⟨0, 0, st [], by decide +kernel⟩,
   ⟨0x10, 0, 0, st [], by decide +kernel⟩,
   ⟨9, 0x300, st [], by decide +kernel⟩,
   ⟨{ flt := { code := 0x22, sev := 2 }, elapsed := 6, latency := 6 }, stD { dev [(TMG_STAT_raster, 2)] with flt := { opened := some { flt := { code := 0x22, sev := 2 }, elapsed := 6, latency := 6 } } }, by decide +kernel⟩,
   ⟨{ flt := { code := 0x22, sev := 2 }, elapsed := 6, latency := 6 }, stD { panelD [(TMG_STAT_raster, 2), (ACL_LANE_STAT_in_use 3, 1)] with flt := { opened := some { flt := { code := 0x22, sev := 2 }, elapsed := 6, latency := 6 } } }, by decide +kernel⟩,
   ⟨st [(GLB_MODE_state, 5), (FLT_STAT_engine, 4)], by decide +kernel⟩,
   ⟨stD { dev [(GLB_MODE_state, 5)] with flt := { step := 2 } }, by decide +kernel⟩,
   ⟨true, stD { dev [(GLB_MODE_state, 5)] with flt := { step := 3 } }, by decide +kernel⟩,
   ⟨stD { dev [(GLB_MODE_state, 5)] with flt := { step := 6 } }, by decide +kernel⟩,
   ⟨⟨5, false, 3⟩, stD { dev [] with keep := { recalling := false, ctrBusy := some ⟨5, false, 3⟩ } }, by decide +kernel⟩⟩

/-- Every clause of `Obligations.ClocksChange` has a state and operands that meet its hypotheses. -/
theorem witness_ClocksChange :
    (∃ (k : Fin 18) (s : State), s.power.coreOn = true ∧ 5 ≤ k.val ∧ k.val < 17) ∧
    (∃ (k : Fin 18) (s : State), s.power.coreOn = true ∧ s.toDevice.mode ≠ 5 ∧ k.val < 5) ∧
    (∃ (m : Master) (val : Nat) (s : State), s.power.coreOn = true ∧ among m 0x5 = true ∧ val < 2 ^ 32 ∧ val.testBit 15 = false ∧ s.toDevice.sscBad val = false) ∧
    (∃ (m : Master) (val : Nat) (s : State), s.power.coreOn = true ∧ among m 0x5 = true ∧ val < 2 ^ 32 ∧ val.testBit 15 = true ∧ s.toDevice.sscBad val = false ∧ (∀ c ∈ s.claims, c.feature ≠ 5) ∧ s.toDevice.imageServes 5 6 (bitsOf val 7 5) = false ∧ s.toDevice.owner 6 (bitsOf val 7 5) = none) ∧
    (∃ (s : State), s.power.coreOn = true ∧ s.toDevice.getF CLK_SSC_hop = 1 ∧ s.toDevice.get CLK_SSC_hop = 1) ∧
    (∃ (m : Master) (req : Fin 4) (s : State), s.power.coreOn = true ∧ among m 0x5 = true ∧ s.toDevice.get CLK_FCLK_cur < req ∧ s.toDevice.get TMG_STAT_raster ≠ 0) ∧
    (∃ (s : State), s.power.coreOn = true ∧ s.toDevice.fclkDue = true) ∧
    (∃ (s : State), s.power.coreOn = true) ∧
    (∃ (mv : Nat) (s : State), s.power.coreOn = true ∧ mv < 65536 ∧ 7000 + 25 * s.toDevice.get CLK_AVS_cur ≤ 10 * mv + 250 ∧ 10 * mv ≤ 7000 + 25 * s.toDevice.get CLK_AVS_cur + 250) :=
  ⟨⟨16, st [], by decide +kernel⟩,
   ⟨4, st [], by decide +kernel⟩,
   ⟨2, 0, st [], by decide +kernel⟩,
   ⟨2, 0x80E0, st [], by decide +kernel⟩,
   ⟨st [(CLK_SSC_hop, 1)], by decide +kernel⟩,
   ⟨2, 3, st [(CLK_FCLK_cur, 2), (TMG_STAT_raster, 2)], by decide +kernel⟩,
   ⟨panel [(CLK_FCLK_req, 3)], by decide +kernel⟩,
   ⟨st [], by decide +kernel⟩,
   ⟨750, st [(CLK_AVS_cur, 10)], by decide +kernel⟩⟩

/-- Every clause of `Obligations.MarginsAreWatched` has a state and operands that meet its hypotheses. -/
theorem witness_MarginsAreWatched :
    (∃ (vals : List Nat) (v : Int) (i : Nat) (s : State), s.power.coreOn = true ∧ i < 210 ∧ (lowestOf (fun j => signedOf 16 (((List.range 216).map (fun j => if s.toDevice.monOn j then vals.getD j 0 % 65536 else 0)).getD j 0)) (((List.range 148).map (fun j => 62 + j)).filter (fun j => s.toDevice.monOn j)) = some (v, i)) ∧ (s.toDevice.get CLK_AGE_CFG_hard : Int) ≤ v ∧ s.clk.fresh = true) ∧
    (∃ (s : State), s.power.coreOn = true ∧ s.toDevice.coreState 0 ≠ 0 ∧ s.toDevice.planAction false = 0 ∧ (s.toDevice.get CLK_AGE_CFG_floor : Int) ≤ signedOf 16 (s.toDevice.get CLK_AGE_STAT_slack)) ∧
    (∃ (s : State), s.power.coreOn = true ∧ s.toDevice.coreState 0 ≠ 0 ∧ s.toDevice.planAction false = 1) ∧
    (∃ (n : Lane) (p : Fin 8) (s : State), s.power.coreOn = true ∧ s.toDevice.get CLK_LINK_CFG_en = 1 ∧ s.toDevice.laneState n = 4 ∧ (s.toDevice.laneStripe n).isSome = true ∧ s.toDevice.drvFom n < s.toDevice.get CLK_LINK_CFG_fom_min ∧ s.toDevice.neighbour n p = true) ∧
    (∃ (m : Master) (i : Nat) (s : State), s.power.coreOn = true ∧ among m 0x4015 = true ∧ i < 96 ∧ s.toDevice.laneTrained i = true ∧ s.clk.eye = none) ∧
    (∃ (h v f kind i : Nat) (s : State), s.clk.eye = some (kind, i) ∧ kind ≠ 2 ∧ s.toDevice.eyeLane kind i = true ∧ h < 256 ∧ v < 256 ∧ f < 256) :=
  ⟨⟨List.replicate 216 100, 100, 158, st [(CLK_AGE_CFG_hard, 100)], by decide +kernel⟩,
   ⟨st [(CORE_STAT_state 0, 1), (CLK_AGE_STAT_slack, 20), (CLK_AGE_CFG_floor, 20), (CLK_AGE_CFG_ceil, 30)], by decide +kernel⟩,
   ⟨st [(CORE_STAT_state 0, 1), (CLK_AGE_STAT_slack, 19), (CLK_AGE_CFG_floor, 20), (CLK_AVS_max, 60)], by decide +kernel⟩,
   ⟨3, 7, stD { panelD [(CLK_LINK_CFG_en, 1), (ACL_LANE_STAT_state 3, 4), (CLK_LINK_CFG_fom_min, 1), (ACL_LANE_CTRL_pmask 3, 0x81)] with link := {} }, by decide +kernel⟩,
   ⟨0, 95, st [(ACL_LANE_STAT_state 95, 4)], by decide +kernel⟩,
   ⟨255, 255, 255, 1, 23, stD { dev [(ACL_RET_STAT_granted 23, 1)] with clk := { eye := some (1, 23) } }, by decide +kernel⟩⟩

end Sys2Proof.Tests
end

namespace Sys2Proof.Machine

/-! ## The queue -/

/-- A command acts on the device alone: it answers a next state with the queue as it was, never a fault or a refusal. -/
theorem exec_next (i : Instr) (s : State) : ∃ e : Device, exec i s = .next { s with toDevice := e } := by
  cases i <;> exact ⟨_, rfl⟩

/-- A step with a command waiting takes it off the queue's front and leaves the rest behind it. -/
theorem step_cons {c : Instr} {rest : List Instr} {s : State} (h : s.pending = c :: rest) :
    ∃ e : Device, step s = .next { toDevice := e, pending := rest } := by
  obtain ⟨e, he⟩ := exec_next c { s with pending := rest }
  exact ⟨e, by rw [step, h]; exact he⟩

/-- A run whose first step answers a next state goes on from that state. -/
theorem run_succ_of_step (n : Nat) {s s' : State} (h : step s = .next s') : core.run (n + 1) s = core.run n s' := by
  have hs : core.step s = .next s' := h
  simp only [Host.Core.run, hs]

/-- Settles O2, by induction on the number of commands served. -/
theorem theQueueEmptiesInOrder : Obligations.TheQueueEmptiesInOrder := by
  intro n
  induction n with
  | zero => exact fun s _ => ⟨s.toDevice, rfl⟩
  | succ n ih =>
    intro s hn
    obtain ⟨c, rest, hp⟩ : ∃ c rest, s.pending = c :: rest := List.exists_cons_of_length_pos (by omega)
    obtain ⟨e, he⟩ := step_cons hp
    rw [run_succ_of_step n he, hp]
    exact ih _ (by rw [hp, List.length_cons] at hn; show n ≤ rest.length; omega)

/-! ## Reset -/

/-- After reset the mode is TADPOLE, and neither a transition nor an image operation is in progress. -/
theorem reset_modeOk : State.reset.toDevice.modeOk :=
  ⟨by decide +kernel, fun _ h => (nomatch h), by decide, fun _ h => (nomatch h)⟩

/-- After reset every memory holds its defaults alone. -/
theorem reset_memWf : State.reset.toDevice.memWf :=
  ⟨rfl, rfl, rfl, rfl, fun _ h => (nomatch h), rfl⟩

/-- After reset every register holds its reset value. -/
theorem reset_regsWf : State.reset.toDevice.regsWf := ⟨rfl, rfl, rfl⟩

/-- The sets of reset have no stripes, spares or presets. -/
theorem reset_linkFits : State.reset.toDevice.linkFits := by
  have he : ({} : PrismSet).linkOk := ⟨by decide, by decide, fun _ h => (nomatch h), fun _ h => (nomatch h)⟩
  exact ⟨he, he, fun _ h => (nomatch h)⟩

/-- Settles O3. -/
theorem resetIsTheStartOfBoot : Obligations.ResetIsTheStartOfBoot := by
  refine ⟨rfl, by decide +kernel, rfl, rfl, by decide +kernel, by decide +kernel, by decide +kernel, by decide +kernel,
    by decide +kernel, by decide +kernel, by decide +kernel, rfl, rfl, rfl, reset_memWf, reset_regsWf, reset_linkFits, reset_modeOk⟩

end Sys2Proof.Machine

namespace Sys2Proof.Machine

/-! ## The register hub: rejected accesses -/

/-- A bus write that is not a full, aligned 32-bit access is rejected with E_ALIGN (R9). -/
theorem busWrite_misaligned {d : Device} {m : Master} {off v be : Nat} (hc : d.power.coreOn = true) (ho : off < 0x4000000)
    (h : off % 4 ≠ 0 ∨ be ≠ 15) : d.busWrite m off v be = d.reject m off eAlign := by
  simp [Device.busWrite, hc, ho, h]

/-- A misaligned bus read returns all ones and is rejected with E_ALIGN (R9). -/
theorem busRead_misaligned {d : Device} {m : Master} {off : Nat} (hc : d.power.coreOn = true) (ho : off < 0x4000000)
    (h : off % 4 ≠ 0) : d.busRead m off = (d.reply m 0xFFFFFFFF).reject m off eAlign := by
  simp [Device.busRead, hc, ho, h]

/-- A bus write to an offset below Pond where no register lies is rejected with E_UNIMPL (R10). -/
theorem busWrite_unimplemented {d : Device} {m : Master} {off v : Nat} (hc : d.power.coreOn = true) (ha : off % 4 = 0)
    (ho : off < 0x1000000) (hr : regAt off = none) : d.busWrite m off v 15 = d.reject m off eUnimpl := by
  have h2 : ¬ 0x4000000 ≤ off := by omega
  simp [Device.busWrite, hc, ha, hr, h2, Nat.not_le.mpr ho]

/-- FAB_ACT_DATA is a register. -/
theorem regAt_FAB_ACT_DATA : (regAt FAB_ACT_DATA).isSome = true := by decide +kernel

/-- A bus read of an offset below Pond where no register lies returns 0 and is rejected with E_UNIMPL (R10). -/
theorem busRead_unimplemented {d : Device} {m : Master} {off : Nat} (hc : d.power.coreOn = true) (ha : off % 4 = 0)
    (ho : off < 0x1000000) (hr : regAt off = none) : d.busRead m off = (d.reply m 0).reject m off eUnimpl := by
  have h2 : ¬ 0x4000000 ≤ off := by omega
  have hn : off ≠ FAB_ACT_DATA := by
    rintro rfl
    simpa [hr] using regAt_FAB_ACT_DATA
  simp [Device.busRead, Device.readAt, Device.readDirect, hc, ha, hr, h2, hn, Nat.not_le.mpr ho]

/-- A rejection looks at registers alone, so it stands whatever the host interfaces hold. -/
theorem rejects_with_hif {d e : Device} {m : Master} {space addr code : Nat} (h : Hif) (hr : d.rejects e m space addr code) :
    ({ d with hif := h } : Device).rejects { e with hif := h } m space addr code := by
  obtain ⟨hcnt, hempty, hfull, hrest, heq⟩ := hr
  exact ⟨hcnt, hempty, hfull, hrest, congrArg (fun x : Device => { x with hif := h }) heq⟩

/-- A one-DWORD BAR0 write with partial byte enables is rejected with E_ALIGN at its offset (R474). -/
theorem execBar0Request_partial_write {a val : Nat} {s : State} (hb : s.toDevice.barOpen = true) (ha : a + 4 ≤ 0x4000000) :
    exec (.bar0Request a (some [val]) 1 [0]) s = .next { s with toDevice := s.toDevice.reject 0 a eAlign } := by
  have h1 : ¬ 0x4000000 < a + 4 := by omega
  simp [exec, execBar0Request, run_next, hb, h1, eachOf, Device.bar0Dword]

/-- A rejection leaves what the masters read last. -/
theorem answer_reject (d : Device) (m off code k : Nat) : (d.reject m off code).answer k = d.answer k := by
  simp [Device.answer]

/-- A one-DWORD BAR0 read with partial byte enables returns all ones and is rejected with E_ALIGN at its offset (R474). -/
theorem execBar0Request_partial_read {a : Nat} {s : State} (hb : s.toDevice.barOpen = true) (ha : a + 4 ≤ 0x4000000) :
    exec (.bar0Request a none 1 [0]) s =
      .next { s with toDevice := { (({ s.toDevice with hif := { s.hif with bar0 := [] } }).reply 0 0xFFFFFFFF).reject 0 a eAlign with
        hif := { s.hif with bar0 := [0xFFFFFFFF] } } } := by
  have h1 : ¬ 0x4000000 < a + 4 := by omega
  simp [exec, execBar0Request, run_next, hb, h1, eachOf, Device.bar0Dword, answer_reject]

/-- Settles O4: the four kinds of bad access, each reduced to a rejection, after an answered read where it is a read. -/
theorem badAccessesAreRejected : Obligations.BadAccessesAreRejected := by
  refine ⟨?_, ?_, ?_, ?_⟩
  · intro m off val be s hc ho h
    refine ⟨s.toDevice.busWrite m off (val % 2 ^ 32) be, rfl, ?_⟩
    rw [busWrite_misaligned hc ho h]
    exact reject_rejects _ m off eAlign (by decide) (by omega)
  · intro m off s hc ho h
    refine ⟨s.toDevice.busRead m off, rfl, ?_⟩
    rw [busRead_misaligned hc ho h]
    exact ⟨_, reply_replies _ m _ (by decide), reject_rejects _ m off eAlign (by decide) (by omega)⟩
  · intro a val s hb ha
    refine ⟨⟨_, execBar0Request_partial_write hb ha, reject_rejects _ 0 a eAlign (by decide) (by omega)⟩,
      ⟨_, execBar0Request_partial_read hb ha, rfl, ?_⟩⟩
    exact ⟨_, reply_replies _ 0 0xFFFFFFFF (by decide), rejects_with_hif _ (reject_rejects _ 0 a eAlign (by decide) (by omega))⟩
  · intro m off val s hc ha ho hr
    constructor
    · refine ⟨s.toDevice.busWrite m off (val % 2 ^ 32) 15, rfl, ?_⟩
      rw [busWrite_unimplemented hc ha ho hr]
      exact reject_rejects _ m off eUnimpl (by decide) (by omega)
    · refine ⟨s.toDevice.busRead m off, rfl, ?_⟩
      rw [busRead_unimplemented hc ha ho hr]
      exact ⟨_, reply_replies _ m 0 (by decide), reject_rejects _ m off eUnimpl (by decide) (by omega)⟩

end Sys2Proof.Machine

namespace Sys2Proof.Machine

/-! ## The register hub: registers that hold no command -/

/-- The register at `off`, on the fabric die and below Pond, carries no command: a write of it is a plain one, held to no range and to no state. -/
structure PlainReg (off : Nat) (r : RegRow) : Prop where
  row : regAt off = some (r, 0, 0)
  inRegs : off < 0x1000000
  full : off % 4 = 0
  die : onHvDie off = false
  front : ∀ (m : Master) (v : Nat), Device.writeFront m off v r.off 0 = none
  back : ∀ (m : Master) (v : Nat), Device.writeBack m off v r.off 0 = none
  anyMultiple : ∀ v, aligned off v = true
  anyValue : ∀ v, valueOk off v = true
  notK : isK off r.off = false
  anyState : ∀ (d : Device) (m : Master) (v : Nat), d.stateChecks m off v r.off 0 = []

/-- HIF_GPIO_EDGE: every bit is read-write. -/
def gpioEdgeRow : RegRow := ⟨HIF_GPIO_EDGE, 1, 4, 1, 4, 0xFFFFFFFF, 0, 0, 0, 0, .imm, 0⟩

/-- HIF_IRQ: 20 write-1-to-clear bits. -/
def hifIrqRow : RegRow := ⟨HIF_IRQ, 1, 4, 1, 4, 0, 0xFFFFF, 0, 0, 0, .imm, 0⟩

/-- HIF_PCI_EVT: every bit clears on reading. -/
def pciEvtRow : RegRow := ⟨HIF_PCI_EVT, 1, 4, 1, 4, 0, 0, 0xFFFFFFFF, 0, 0, .imm, 0⟩

/-- GLB_ID: every bit is read-only. -/
def glbIdRow : RegRow := ⟨GLB_ID, 1, 4, 1, 4, 0, 0, 0, 0, 0xFFFFFFFF, .imm, 0x18120⟩

theorem regAt_HIF_GPIO_EDGE : regAt HIF_GPIO_EDGE = some (gpioEdgeRow, 0, 0) := by decide +kernel
theorem regAt_HIF_IRQ : regAt HIF_IRQ = some (hifIrqRow, 0, 0) := by decide +kernel
theorem regAt_HIF_PCI_EVT : regAt HIF_PCI_EVT = some (pciEvtRow, 0, 0) := by decide +kernel
theorem regAt_GLB_ID : regAt GLB_ID = some (glbIdRow, 0, 0) := by decide +kernel

theorem valueOk_HIF_GPIO_EDGE (v : Nat) : valueOk HIF_GPIO_EDGE v = true := by
  have hf : valueOkFront HIF_GPIO_EDGE v = true := rfl
  have hp : valueOkPanel HIF_GPIO_EDGE v = true := rfl
  have hbank : oneOf MEM_BANK_CFG 384 HIF_GPIO_EDGE = false := by decide +kernel
  have hb : valueOkBack HIF_GPIO_EDGE v = true := by rw [valueOkBack, hbank]; rfl
  simp [valueOk, hf, hp, hb]

theorem valueOk_HIF_IRQ (v : Nat) : valueOk HIF_IRQ v = true := by
  have hf : valueOkFront HIF_IRQ v = true := rfl
  have hp : valueOkPanel HIF_IRQ v = true := rfl
  have hbank : oneOf MEM_BANK_CFG 384 HIF_IRQ = false := by decide +kernel
  have hb : valueOkBack HIF_IRQ v = true := by rw [valueOkBack, hbank]; rfl
  simp [valueOk, hf, hp, hb]

theorem gpioEdge_plain : PlainReg HIF_GPIO_EDGE gpioEdgeRow where
  row := regAt_HIF_GPIO_EDGE
  inRegs := by decide
  full := by decide
  die := by decide
  front _ _ := rfl
  back _ _ := rfl
  anyMultiple _ := rfl
  anyValue := valueOk_HIF_GPIO_EDGE
  notK := by decide +kernel
  anyState _ _ _ := rfl

theorem hifIrq_plain : PlainReg HIF_IRQ hifIrqRow where
  row := regAt_HIF_IRQ
  inRegs := by decide
  full := by decide
  die := by decide
  front _ _ := rfl
  back _ _ := rfl
  anyMultiple _ := rfl
  anyValue := valueOk_HIF_IRQ
  notK := by decide +kernel
  anyState _ _ _ := rfl

/-- A write of a plain register by a master that may write it stores the value, once R7 and R8 let it pass. -/
theorem busWrite_plain {d : Device} {m : Master} {off v : Nat} {r : RegRow} (hp : PlainReg off r) (hc : d.power.coreOn = true)
    (hm : among m (if r.off = MEM_BANK_CFG 0 then 0x7FFF else writersOf off r.off 0) = true)
    (hform : ∀ c ∈ d.writeForm m off v r, c.1 = false) : d.busWrite m off v 15 = d.store m off v r 0 := by
  have h1 : ¬ 0x4000000 ≤ off := by have := hp.inRegs; omega
  have hw : d.busWrite m off v 15 = d.writePlain m off v r 0 := by
    simp [Device.busWrite, Device.writeAt, hc, h1, Nat.not_le.mpr hp.inRegs, hp.full, hp.row, hp.die, hp.front, hp.back]
  rw [hw, Device.writePlain]
  refine Device.guarded_pass hc fun c hmem => ?_
  simp only [hp.anyState, hp.anyMultiple, hp.anyValue, hp.notK, hm, List.append_nil, List.cons_append, List.mem_cons, List.nil_append] at hmem
  rcases hmem with rfl | rfl | rfl | rfl | hmem
  · rfl
  · rfl
  · rfl
  · rfl
  · exact hform c hmem

/-- A read of a register with neither an effect nor a copy of its own returns what it holds, and clears its clear-on-read fields. -/
theorem busRead_plain {d : Device} {m : Master} {off : Nat} {r : RegRow} (hin : off < 0x1000000)
    (hfull : off % 4 = 0) (hdie : onHvDie off = false) (hc : d.power.coreOn = true)
    (hread : d.readAt m off = d.readPlain m off r) (hshut : readShut m off r.off = false) (hval : d.value m off = d.rd off) :
    d.busRead m off = if r.rc = 0 then d.reply m (d.rd off) else (d.reply m (d.rd off)).wr off (maskOut 32 (d.rd off) r.rc) := by
  have h1 : ¬ 0x4000000 ≤ off := by omega
  simp [Device.busRead, hc, h1, Nat.not_le.mpr hin, hfull, hdie, hread, Device.readPlain, hshut, hval]

/-! ## What a stored word is -/

/-- A register of read-write bits alone takes the value. -/
theorem written_gpioEdge (old v : Nat) (hv : v < 2 ^ 32) : gpioEdgeRow.written old v = v := by
  have h := Nat.and_two_pow_sub_one_of_lt_two_pow hv
  simpa [RegRow.written, gpioEdgeRow, maskOut] using h

/-- A value without a bit outside `m` is its own conjunction with `m`. -/
theorem and_eq_of_maskOut_eq_zero {v m : Nat} (hv : v < 2 ^ 32) (h : maskOut 32 v m = 0) : v &&& m = v := by
  apply Nat.eq_of_testBit_eq
  intro k
  have hk : (maskOut 32 v m).testBit k = false := by simp [h]
  by_cases h32 : k < 32
  · rw [maskOut, Nat.testBit_and, Nat.testBit_xor, Nat.testBit_two_pow_sub_one, Nat.testBit_mod_two_pow] at hk
    rw [Nat.testBit_and]
    revert hk
    cases v.testBit k <;> cases m.testBit k <;> simp [h32]
  · rw [Nat.testBit_and, Nat.testBit_lt_two_pow (Nat.lt_of_lt_of_le hv (Nat.pow_le_pow_right (by decide) (by omega)))]
    rfl

/-- A register of write-1-to-clear bits alone loses the bits written as ones. -/
theorem written_hifIrq (old v : Nat) (hv : v < 2 ^ 32) (hr : reservedBad HIF_IRQ v = false) :
    hifIrqRow.written old v = maskOut 32 old v := by
  have hm : maskOut 32 v 0xFFFFF = 0 := by simpa [reservedBad, regAt_HIF_IRQ, hifIrqRow, RegRow.fields] using hr
  simp [RegRow.written, hifIrqRow, and_eq_of_maskOut_eq_zero hv hm]

/-- A mask of no bits leaves a word as it is. -/
theorem maskOut_zero {n : Nat} (hn : n < 2 ^ 32) : maskOut 32 n 0 = n := by
  have h := Nat.and_two_pow_sub_one_of_lt_two_pow hn
  simpa [maskOut] using h

/-- A mask of every bit leaves none. -/
theorem maskOut_all (n : Nat) : maskOut 32 n 0xFFFFFFFF = 0 := by simp [maskOut]

/-! ## Single accesses -/

/-- HIF_GPIO_EDGE takes the value written (R7). -/
theorem busWrite_HIF_GPIO_EDGE {d : Device} {m : Master} {v : Nat} (hc : d.power.coreOn = true) (hm : among m mGpio = true)
    (hv : v < 2 ^ 32) : d.busWrite m HIF_GPIO_EDGE v 15 = d.wr HIF_GPIO_EDGE v := by
  have hform : ∀ c ∈ d.writeForm m HIF_GPIO_EDGE v gpioEdgeRow, c.1 = false := by
    simp [Device.writeForm, gpioEdgeRow, RegRow.fields, maskOut_all]
  rw [busWrite_plain gpioEdge_plain hc hm hform]
  show d.wr HIF_GPIO_EDGE (gpioEdgeRow.written (d.rd HIF_GPIO_EDGE) v) = _
  rw [written_gpioEdge _ _ hv]

/-- HIF_IRQ loses the bits written as ones (R7). -/
theorem busWrite_HIF_IRQ {d : Device} {m : Master} {v : Nat} (hc : d.power.coreOn = true) (hm : among m mGpio = true)
    (hv : v < 2 ^ 32) (hr : reservedBad HIF_IRQ v = false) :
    d.busWrite m HIF_IRQ v 15 = d.wr HIF_IRQ (maskOut 32 (d.rd HIF_IRQ) v) := by
  have hres : maskOut 32 v hifIrqRow.fields = 0 := by simpa [reservedBad, regAt_HIF_IRQ] using hr
  have hform : ∀ c ∈ d.writeForm m HIF_IRQ v hifIrqRow, c.1 = false := by
    simp [Device.writeForm, hres]
    simp [hifIrqRow]
  rw [busWrite_plain hifIrq_plain hc hm hform]
  show d.wr HIF_IRQ (hifIrqRow.written (d.rd HIF_IRQ) v) = _
  rw [written_hifIrq _ _ hv hr]

/-- What a register without write-only bits and without a value of its own reads as. -/
theorem maskOut_rd (d : Device) (off : Nat) : maskOut 32 (d.rd off) 0 = d.rd off := maskOut_zero (d.rd_lt off)

theorem busRead_HIF_GPIO_EDGE {d : Device} {m : Master} (hc : d.power.coreOn = true) :
    d.busRead m HIF_GPIO_EDGE = d.reply m (d.rd HIF_GPIO_EDGE) := by
  refine busRead_plain (r := gpioEdgeRow) (by decide) (by decide) (by decide) hc ?_ (Bool.and_false (decide (m.val = 1))) ?_
  · simp [Device.readAt, Device.readDirect, regAt_HIF_GPIO_EDGE]; rfl
  · rw [Device.value, regAt_HIF_GPIO_EDGE]; exact maskOut_rd d _

theorem busRead_GLB_ID {d : Device} {m : Master} (hc : d.power.coreOn = true) :
    d.busRead m GLB_ID = d.reply m (d.rd GLB_ID) := by
  refine busRead_plain (r := glbIdRow) (by decide) (by decide) (by decide) hc ?_ (Bool.and_false (decide (m.val = 1))) ?_
  · simp [Device.readAt, Device.readDirect, regAt_GLB_ID]; rfl
  · rw [Device.value, regAt_GLB_ID]; exact maskOut_rd d _

/-- A read of HIF_PCI_EVT returns its counts and clears them (R7). -/
theorem busRead_HIF_PCI_EVT {d : Device} {m : Master} (hc : d.power.coreOn = true) :
    d.busRead m HIF_PCI_EVT = (d.reply m (d.rd HIF_PCI_EVT)).wr HIF_PCI_EVT 0 := by
  rw [← maskOut_all (d.rd HIF_PCI_EVT)]
  refine busRead_plain (r := pciEvtRow) (by decide) (by decide) (by decide) hc ?_ (Bool.and_false (decide (m.val = 1))) ?_
  · simp [Device.readAt, Device.readDirect, regAt_HIF_PCI_EVT]; rfl
  · rw [Device.value, regAt_HIF_PCI_EVT]; exact maskOut_rd d _

/-! ## Posted writes -/

/-- A write to the HV die over a bridge that works is posted. -/
theorem busWrite_hvDie {d : Device} {m : Master} {off v : Nat} (hc : d.power.coreOn = true) (hb : d.bridge.lost = false)
    (hdie : onHvDie off = true) (hrow : (regAt off).isSome = true) (hfull : off % 4 = 0) (hin : off < 0x1000000) :
    d.busWrite m off v 15 = (d.hvPost m off v).spSync := by
  have h1 : ¬ 0x4000000 ≤ off := by omega
  have h2 : regAt off ≠ none := Option.isSome_iff_ne_none.mp hrow
  simp [Device.busWrite, hc, hb, hdie, h2, hfull, h1, Nat.not_le.mpr hin]

/-- The side port's status follows in HIF_SP_STAT alone. -/
theorem spSync_rd_ne (d : Device) {o : Nat} (h : o ≠ HIF_SP_STAT) : d.spSync.rd o = d.rd o := by
  rw [Device.spSync, Device.rd_put_ne _ _ h, Device.rd_put_ne _ _ h, Device.rd_put_ne _ _ h]

theorem spSync_eq (d : Device) : d.spSync = { d with regs := d.spSync.regs } := rfl

/-- A read by a master whose earlier accesses to the HV die are outstanding stalls (R18). -/
theorem busRead_hvHeld {d : Device} {m : Master} {off : Nat} (hc : d.power.coreOn = true) (hb : d.bridge.lost = false)
    (hh : d.hvHeld m = true) (hdie : onHvDie off = true) (hrow : (regAt off).isSome = true) (hfull : off % 4 = 0) (hin : off < 0x1000000) :
    d.busRead m off =
      { d with bridge := { d.bridge with stalled := d.bridge.stalled ++ [{ master := m, off := off, val := none }] } } := by
  have h1 : ¬ 0x4000000 ≤ off := by omega
  simp [Device.busRead, hc, hb, hdie, hrow, hfull, h1, Nat.not_le.mpr hin, hh]

/-- The registers SEG_RAM lie on the HV die. -/
theorem segRam_hvDie (i : Fin 5) :
    onHvDie (SEG_RAM i) = true ∧ (regAt (SEG_RAM i)).isSome = true ∧ SEG_RAM i % 4 = 0 ∧ SEG_RAM i < 0x1000000 := by
  revert i
  decide +kernel

/-- Settles O9: one lemma per register and access, each giving the state the access leaves. -/
theorem registerAccessesTakeEffect : Obligations.RegisterAccessesTakeEffect := by
  refine ⟨?_, ?_, ?_, ?_, ?_⟩
  · intro m val s hc hm hv
    refine ⟨s.toDevice.busWrite m HIF_GPIO_EDGE (val % 2 ^ 32) 15, rfl, ?_⟩
    rw [Nat.mod_eq_of_lt hv, busWrite_HIF_GPIO_EDGE hc hm hv]
    exact sets_cons_wr (sets_nil _) (Nat.mod_eq_of_lt hv) (by simp)
  · intro m val s hc hm hv hr
    refine ⟨s.toDevice.busWrite m HIF_IRQ (val % 2 ^ 32) 15, rfl, ?_⟩
    rw [Nat.mod_eq_of_lt hv, busWrite_HIF_IRQ hc hm hv hr]
    have hlt : maskOut 32 (s.toDevice.rd HIF_IRQ) val < 2 ^ 32 := Nat.lt_of_le_of_lt Nat.and_le_left (s.toDevice.rd_lt _)
    exact sets_cons_wr (sets_nil _) (Nat.mod_eq_of_lt hlt) (by simp)
  · intro m off val s hc hb hdie hrow hfull hin hv hst
    have hw := busWrite_hvDie (m := m) (v := val) hc hb hdie hrow hfull hin
    constructor <;> intro hp <;> refine ⟨s.toDevice.busWrite m off (val % 2 ^ 32) 15, rfl, ?_⟩ <;> rw [Nat.mod_eq_of_lt hv, hw]
    · simp only [Device.hvPost, hp, hst, List.isEmpty_nil, and_self, if_true]
      exact ⟨rfl, fun o ho => spSync_rd_ne _ ho, spSync_eq _⟩
    · simp only [Device.hvPost, Nat.not_lt.mpr hp, hst, false_and, if_false, List.nil_append]
      exact ⟨rfl, fun o ho => spSync_rd_ne _ ho, spSync_eq _⟩
  · intro m s hc
    refine ⟨⟨s.toDevice.busRead m HIF_GPIO_EDGE, rfl, ?_⟩, ⟨s.toDevice.busRead m GLB_ID, rfl, ?_⟩, ⟨s.toDevice.busRead m HIF_PCI_EVT, rfl, ?_⟩⟩
    · rw [busRead_HIF_GPIO_EDGE hc]
      exact reply_replies _ m _ (s.toDevice.rd_lt _)
    · rw [busRead_GLB_ID hc]
      exact reply_replies _ m _ (s.toDevice.rd_lt _)
    · rw [busRead_HIF_PCI_EVT hc]
      exact ⟨_, reply_replies _ m _ (s.toDevice.rd_lt _), sets_cons_wr (sets_nil _) rfl (by simp)⟩
  · intro m i s hc hb hh
    obtain ⟨hdie, hrow, hfull, hin⟩ := segRam_hvDie i
    show Host.Outcome.next { s with toDevice := s.toDevice.busRead m (SEG_RAM i) } = _
    rw [busRead_hvHeld hc hb hh hdie hrow hfull hin]

end Sys2Proof.Machine

namespace Sys2Proof.Machine

/-! ## What the legality of the mode looks at -/

/-- The part of the device that `Device.modeOk` speaks of: GLB_MODE, the transition in progress, the mode a LOUPE
survey returns to, and the image operation in progress. -/
structure ModeView where
  mode : Nat
  trans : Option Trans
  loupeFrom : Nat
  op : Option ImgOp

/-- What `Device.modeOk` looks at. -/
def Device.modeView (d : Device) : ModeView := ⟨d.rd GLB_MODE, d.trans, d.loupeFrom, d.img.op⟩

/-- The condition of `Device.modeOk` on what it looks at. -/
def ModeView.legal (v : ModeView) : Prop :=
  v.mode < 6 ∧ (∀ t, v.trans = some t → t.target < 6) ∧ v.loupeFrom < 6 ∧
  ∀ o, v.op = some o → ∀ p, o.set = some p → ∀ e ∈ p.presets, e.1 ∈ msRegs

theorem modeOk_iff (d : Device) : d.modeOk ↔ d.modeView.legal := Iff.rfl

/-! ## Updates -/

@[simp] theorem modeView_ite (c : Prop) [Decidable c] (a b : Device) :
    (if c then a else b).modeView = if c then a.modeView else b.modeView := apply_ite _ _ _ _

@[simp] theorem legal_ite (c : Prop) [Decidable c] (a b : ModeView) :
    (if c then a else b).legal ↔ if c then a.legal else b.legal := by split <;> rfl

/-- A record update of the device keeps the view that its registers, transition, LOUPE mode and image operation give. -/
@[simp low] theorem modeView_mk (regs force bank rdata : Sparse Word) (us free : Nat) (bridge : Bridge)
    (power : Power) (boot : Boot) (trans : Option Trans) (loupeFrom : Nat) (hv : Hv) (seg : Glass) (flt : Faults)
    (mem : Mem) (keep : Keep) (link : Link) (act mir : PrismSet) (swap : Swap) (srv : Survey) (ras : Raster)
    (img : Img) (dprx : Sparse PortX) (tap : Tap) (lay : Layers) (trn : Trn) (cmp : Cmp) (claims : List RunClaim)
    (mbx : Mbx) (ik : Ikiush) (hif : Hif) (clk : Clk) :
    (Device.mk regs force bank rdata us free bridge power boot trans loupeFrom hv seg flt mem keep link act mir
      swap srv ras img dprx tap lay trn cmp claims mbx ik hif clk).modeView =
      ⟨(Sparse.get resetOf regs GLB_MODE).toNat, trans, loupeFrom, img.op⟩ := (rfl)

/-- The same where the transition, the LOUPE mode and the image operation are those of devices at hand. -/
@[simp] theorem modeView_mk_of (d e f : Device) (regs force bank rdata : Sparse Word) (us free : Nat)
    (bridge : Bridge) (power : Power) (boot : Boot) (hv : Hv) (seg : Glass) (flt : Faults) (mem : Mem) (keep : Keep)
    (link : Link) (act mir : PrismSet) (swap : Swap) (srv : Survey) (ras : Raster) (dprx : Sparse PortX) (tap : Tap)
    (lay : Layers) (trn : Trn) (cmp : Cmp) (claims : List RunClaim) (mbx : Mbx) (ik : Ikiush) (hif : Hif)
    (clk : Clk) :
    (Device.mk regs force bank rdata us free bridge power boot d.trans e.loupeFrom hv seg flt mem keep link act
      mir swap srv ras f.img dprx tap lay trn cmp claims mbx ik hif clk).modeView =
      ⟨(Sparse.get resetOf regs GLB_MODE).toNat, d.modeView.trans, e.modeView.loupeFrom, f.modeView.op⟩ := (rfl)

@[simp] theorem get_regs_modeView (d : Device) : (Sparse.get resetOf d.regs GLB_MODE).toNat = d.modeView.mode := (rfl)

@[simp] theorem modeView_eta (v : ModeView) : (⟨v.mode, v.trans, v.loupeFrom, v.op⟩ : ModeView) = v := (rfl)

/-- The components of the view, for updates of a device that another operation made. -/
theorem trans_modeView (d : Device) : d.trans = d.modeView.trans := (rfl)

theorem loupeFrom_modeView (d : Device) : d.loupeFrom = d.modeView.loupeFrom := (rfl)

theorem op_modeView (d : Device) : d.img.op = d.modeView.op := (rfl)

/-- The instances of a register lie at a base plus a stride; GLB_MODE (offset 16) is none of them where the base is above it. -/
@[simp] theorem glbMode_eq_add (b n : Nat) : GLB_MODE = b + n ↔ b ≤ 16 ∧ n = 16 - b := by
  unfold GLB_MODE; omega

/-- The same for registers with instances of instances. -/
@[simp high] theorem glbMode_eq_add_add (b m n : Nat) : GLB_MODE = b + m + n ↔ b ≤ 16 ∧ m + n = 16 - b := by
  unfold GLB_MODE; omega

/-- A register write leaves the view alone but at GLB_MODE. -/
@[simp] theorem wr_modeView (d : Device) (off v : Nat) :
    (d.wr off v).modeView = if GLB_MODE = off then { d.modeView with mode := v % 2 ^ 32 } else d.modeView := by
  simp only [Device.modeView, Device.rd_wr, Device.wr_trans, Device.wr_loupeFrom, Device.wr_img]
  split <;> rfl

@[simp] theorem put_modeView (d : Device) (f : Fld) (v : Nat) :
    (d.put f v).modeView =
      if GLB_MODE = f.off then { d.modeView with mode := setBits (d.rd f.off) f.hi f.lo v % 2 ^ 32 } else d.modeView :=
  wr_modeView _ _ _

@[simp] theorem bump_modeView (d : Device) (f : Fld) (n : Nat) :
    (d.bump f n).modeView =
      if GLB_MODE = f.off then { d.modeView with mode := (d.bump f n).rd GLB_MODE } else d.modeView := by
  split
  · rfl
  · rename_i h; rw [Device.bump, put_modeView, if_neg h]

@[simp] theorem wrF_modeView (d : Device) (off v : Nat) : (d.wrF off v).modeView = d.modeView := (rfl)

@[simp] theorem wrB_modeView (d : Device) (m off v : Nat) : (d.wrB m off v).modeView = d.modeView := (rfl)

@[simp] theorem reply_modeView (d : Device) (m v : Nat) : (d.reply m v).modeView = d.modeView := (rfl)

@[simp] theorem drawn_modeView (d : Device) : d.drawn.modeView = d.modeView := (rfl)

/-- An operation that keeps the view keeps it over a list. -/
@[simp] theorem eachOf_modeView {α : Type} (l : List α) (f : α → Device → Device) (d : Device)
    (h : ∀ a d, (f a d).modeView = d.modeView) : (eachOf l f d).modeView = d.modeView := by
  induction l generalizing d with
  | nil => rfl
  | cons a l ih => exact (ih (f a d)).trans (h a d)

/-- The same where the operation keeps the view for the elements of the list. -/
theorem eachOf_modeView_of_mem {α : Type} (l : List α) (f : α → Device → Device) (d : Device)
    (h : ∀ a ∈ l, ∀ d, (f a d).modeView = d.modeView) : (eachOf l f d).modeView = d.modeView := by
  induction l generalizing d with
  | nil => rfl
  | cons a l ih => exact (ih (f a d) fun b hb => h b (List.mem_cons_of_mem a hb)).trans (h a List.mem_cons_self d)

/-- The same for a fold. -/
@[simp] theorem foldl_modeView {α : Type} (l : List α) (f : Device → α → Device) (d : Device)
    (h : ∀ d a, (f d a).modeView = d.modeView) : (l.foldl f d).modeView = d.modeView :=
  eachOf_modeView l (fun a d => f d a) d fun a d => h d a

/-- An operation that keeps the mode legal keeps it over a list. -/
theorem eachOf_legal {α : Type} (l : List α) (f : α → Device → Device) (d : Device)
    (h : ∀ a d, d.modeView.legal → (f a d).modeView.legal) (hd : d.modeView.legal) : (eachOf l f d).modeView.legal := by
  induction l generalizing d with
  | nil => exact hd
  | cons a l ih => exact ih (f a d) (h a d hd)

@[simp] theorem latch_modeView (d : Device) (m space addr code : Nat) :
    (d.latch m space addr code).modeView = d.modeView := by
  simp [Device.latch]

@[simp] theorem rejectAt_modeView (d : Device) (m space addr code : Nat) :
    (d.rejectAt m space addr code).modeView = d.modeView := by
  simp [Device.rejectAt]

@[simp] theorem reject_modeView (d : Device) (m off code : Nat) : (d.reject m off code).modeView = d.modeView :=
  rejectAt_modeView _ _ _ _ _

/-- A guarded operation leaves the view its operation leaves, or the view as it was. -/
@[simp] theorem guarded_modeView (d : Device) (m off : Nat) (checks : List (Bool × Nat)) (f : Device → Device) :
    (d.guarded m off checks f).modeView =
      if d.power.coreOn = true ∧ firstFail checks = none then (f d).modeView else d.modeView := by
  unfold Device.guarded
  cases d.power.coreOn with
  | false => simp
  | true => cases firstFail checks <;> simp

@[simp] theorem hvGuarded_modeView (d : Device) (m off : Nat) (checks : List (Bool × Nat)) (f : Device → Device) :
    (d.hvGuarded m off checks f).modeView =
      if d.bridge.lost = false ∧ d.power.coreOn = true ∧ firstFail checks = none then (f d).modeView else d.modeView := by
  unfold Device.hvGuarded
  cases hc : d.power.coreOn <;> cases hb : d.bridge.lost <;> simp [hc]

/-! ## Registers that are not GLB_MODE -/

theorem glbMode_not_mem_msRegs : GLB_MODE ∉ msRegs := by decide

theorem glbMode_not_mem_recordRegs : GLB_MODE ∉ recordRegs := by decide

theorem glbMode_not_mem_tmgLive : GLB_MODE ∉ tmgLive := by decide

/-! ## Commands -/

/-- A command that keeps the view. -/
def KeepsView (f : State → Out) : Prop :=
  ∀ s : State, ∃ e : Device, f s = .next { s with toDevice := e } ∧ e.modeView = s.toDevice.modeView

/-- A command that keeps the mode legal. -/
def KeepsMode (f : State → Out) : Prop :=
  ∀ s : State, s.toDevice.modeView.legal → ∃ e : Device, f s = .next { s with toDevice := e } ∧ e.modeView.legal

theorem keepsView_run {g : Device → Device} (h : ∀ d, (g d).modeView = d.modeView) : KeepsView (fun s => s.run g) :=
  fun s => ⟨g s.toDevice, rfl, h s.toDevice⟩

theorem keepsMode_run {g : Device → Device} (h : ∀ d, d.modeView.legal → (g d).modeView.legal) :
    KeepsMode (fun s => s.run g) :=
  fun s hs => ⟨g s.toDevice, rfl, h s.toDevice hs⟩

theorem KeepsView.keepsMode {f : State → Out} (h : KeepsView f) : KeepsMode f := fun s hs => by
  obtain ⟨e, he, hv⟩ := h s
  exact ⟨e, he, hv ▸ hs⟩

/-- A command run on the device alone keeps what the command keeps. -/
@[simp] theorem via_modeView (d : Device) (f : State → Out) (h : KeepsView f) : (d.via f).modeView = d.modeView := by
  obtain ⟨e, he, hv⟩ := h { toDevice := d, pending := [] }
  rw [Device.via, he]
  exact hv

end Sys2Proof.Machine

namespace Sys2Proof.Machine

/-! ## The PRESET entries of a checked image (check 20 of R77) -/

theorem all_of_firstBad_none {l : List (Bool × Nat)} (h : firstBad l = none) : ∀ c ∈ l, c.1 = true := by
  induction l with
  | nil => simp
  | cons c l ih =>
    obtain ⟨ok, o⟩ := c
    cases ok with
    | false => simp [firstBad] at h
    | true => simpa using ih h

theorem all_of_checkAll_ok {check code sec : Nat} {l : List (Bool × Nat)} {u : Unit} (h : checkAll check code l sec = .ok u) :
    ∀ c ∈ l, c.1 = true := by
  unfold checkAll at h
  split at h
  · exact all_of_firstBad_none ‹_›
  · cases h

/-- Where two checks in a row pass, both pass. -/
theorem ok_of_bind_ok {ε α β : Type} {x : Except ε α} {f : α → Except ε β} {b : β} (h : x >>= f = .ok b) :
    ∃ a, x = .ok a ∧ f a = .ok b := by
  cases x with
  | error e => cases h
  | ok a => exact ⟨a, rfl, h⟩

/-- A checked image presets mirror-set registers only. -/
theorem presets_mem_msRegs {b : ImgBytes} {x : ImgCtx} {u : Unit} (h : imgCheck21 b x = .ok u) :
    ∀ e ∈ (parseImage b).presets, e.1 ∈ msRegs := by
  obtain ⟨_, -, hp⟩ := ok_of_bind_ok h
  intro e he
  unfold imgCheckPresets at hp
  dsimp only at hp
  dsimp only [parseImage] at he
  cases hs : secOf (secTable b) 6 with
  | none => simp [hs] at he
  | some s =>
    rw [hs] at hp he
    obtain ⟨_, h20, -⟩ := ok_of_bind_ok hp
    obtain ⟨i, hi, rfl⟩ := List.mem_map.mp he
    have hall := all_of_checkAll_ok h20 (msRegs.contains (imgLe b (s.off + 8 * i) 4), s.off + 8 * i)
      (by simp only [List.map_map, List.mem_map]; exact ⟨i, hi, rfl⟩)
    exact List.contains_iff_mem.mp hall

/-- Presets of mirror-set registers, however each is written, leave the view alone. -/
theorem eachOf_presets_modeView {l : List (Nat × Nat)} {f : Nat × Nat → Device → Device} (h : ∀ e ∈ l, e.1 ∈ msRegs)
    (hf : ∀ e d, GLB_MODE ≠ e.1 → (f e d).modeView = d.modeView) (d : Device) : (eachOf l f d).modeView = d.modeView :=
  eachOf_modeView_of_mem _ _ _ fun e he d => hf e d fun hg => glbMode_not_mem_msRegs (hg ▸ h e he)

end Sys2Proof.Machine

namespace Sys2Proof.Machine

/-! # Operations that leave the mode's view alone

One lemma per operation of the model, in the order of the model's files: an operation that touches neither GLB_MODE nor
the transition, the LOUPE mode or the image operation keeps `Device.modeView`, and a command made of such ones is
`KeepsView`. -/

/-! ## Ops -/

@[simp] theorem ring_modeView (d : Device) (m b : Nat) : (d.ring m b).modeView = d.modeView := by
  simp [Device.ring]

/-! ## KeepOps -/

@[simp] theorem kSync_modeView (d : Device) : d.kSync.modeView = d.modeView := by
  simp [Device.kSync]

@[simp] theorem kDirty_modeView (d : Device) (page : Nat) : (d.kDirty page).modeView = d.modeView := by
  simp [Device.kDirty]

@[simp] theorem kWr_modeView (d : Device) (a : Nat) (bs : List Nat) : (d.kWr a bs).modeView = d.modeView := by
  simp [Device.kWr]

@[simp] theorem kStart_modeView (d : Device) (kind : Nat) : (d.kStart kind).modeView = d.modeView := by
  unfold Device.kStart
  split <;> simp

@[simp] theorem kSnapshot_modeView (d : Device) : d.kSnapshot.modeView = d.modeView := by
  unfold Device.kSnapshot
  split <;> simp

@[simp] theorem kComplete_modeView (d : Device) : d.kComplete.modeView = d.modeView := by
  unfold Device.kComplete
  split <;> simp

@[simp] theorem kFail_modeView (d : Device) : d.kFail.modeView = d.modeView := by
  unfold Device.kFail
  split <;> simp

@[simp] theorem ctrEnqueue_modeView (d : Device) (u : CtrUpdate) : (d.ctrEnqueue u).modeView = d.modeView := by
  unfold Device.ctrEnqueue
  split <;> simp

@[simp] theorem ctrApply_modeView (d : Device) (u : CtrUpdate) : (d.ctrApply u).modeView = d.modeView := by
  simp [Device.ctrApply]

@[simp] theorem ctrDone_modeView (d : Device) : d.ctrDone.modeView = d.modeView := by
  unfold Device.ctrDone
  dsimp only
  repeat' split
  all_goals simp

@[simp] theorem ctrAdd_modeView (d : Device) (index amount : Nat) : (d.ctrAdd index amount).modeView = d.modeView := by
  simp [Device.ctrAdd]

@[simp] theorem logAppend_modeView (d : Device) (body : List Nat) : (d.logAppend body).modeView = d.modeView := by
  simp [Device.logAppend]

@[simp] theorem logEntry_modeView (d : Device) (code inst kind sev : Nat) (data : List Nat) :
    (d.logEntry code inst kind sev data).modeView = d.modeView := by
  simp [Device.logEntry]

@[simp] theorem recTwin_modeView (d : Device) (r : Resolved) : (d.recTwin r).modeView = d.modeView := by
  simp [Device.recTwin]

@[simp] theorem recSave_modeView (d : Device) (id : Nat) (body : List Nat) :
    (d.recSave id body).modeView = d.modeView := by
  unfold Device.recSave
  repeat' split
  all_goals simp

@[simp] theorem kSaveRegs_modeView (d : Device) : d.kSaveRegs.modeView = d.modeView := by
  unfold Device.kSaveRegs
  dsimp only
  repeat' split
  all_goals simp

/-! ## LinkOps -/

@[simp] theorem setLane_modeView (d : Device) (n : Nat) (x : LaneX) : (d.setLane n x).modeView = d.modeView := by
  simp [Device.setLane]

@[simp] theorem setRet_modeView (d : Device) (m : Nat) (x : RetX) : (d.setRet m x).modeView = d.modeView := by
  simp [Device.setRet]

@[simp] theorem sendCtl_modeView (d : Device) (n target op : Nat) (data : List Nat) (integrator : Bool) :
    (d.sendCtl n target op data integrator).modeView = d.modeView := by
  simp [Device.sendCtl]

@[simp] theorem broadcastCtl_modeView (d : Device) (op : Nat) (data : List Nat) :
    (d.broadcastCtl op data).modeView = d.modeView := by
  simp [Device.broadcastCtl]

@[simp] theorem sendConfig_modeView (d : Device) (s : Nat) : (d.sendConfig s).modeView = d.modeView := by
  simp [Device.sendConfig]

@[simp] theorem linkAdopt_modeView (d : Device) : d.linkAdopt.modeView = d.modeView := by
  unfold Device.linkAdopt
  refine (eachOf_modeView _ _ _ fun k d => ?_).trans (eachOf_modeView _ _ _ fun n d => ?_)
  · split <;> simp
  · split <;> simp

@[simp] theorem trainStart_modeView (d : Device) (n : Nat) (full again retry : Bool) :
    (d.trainStart n full again retry).modeView = d.modeView := by
  unfold Device.trainStart
  dsimp only
  repeat' split
  all_goals simp

@[simp] theorem trainAll_modeView (d : Device) : d.trainAll.modeView = d.modeView := by
  simp [Device.trainAll]

@[simp] theorem laneOff_modeView (d : Device) (n : Nat) : (d.laneOff n).modeView = d.modeView := by
  unfold Device.laneOff
  dsimp only
  split <;> simp

@[simp] theorem moveToSpare_modeView (d : Device) (s k : Nat) : (d.moveToSpare s k).modeView = d.modeView := by
  simp [Device.moveToSpare]

@[simp] theorem moveBack_modeView (d : Device) (k : Nat) : (d.moveBack k).modeView = d.modeView := by
  simp [Device.moveBack]

@[simp] theorem laneFail_modeView (d : Device) (n err : Nat) : (d.laneFail n err).modeView = d.modeView := by
  unfold Device.laneFail
  dsimp only
  split <;> simp

@[simp] theorem silence_modeView (d : Device) (m : Nat) (byCmd : Bool) : (d.silence m byCmd).modeView = d.modeView := by
  unfold Device.silence
  extract_lets granted e x
  have he : e.modeView = d.modeView := eachOf_modeView _ _ _ fun j d => by split <;> simp
  simp [he]

@[simp] theorem holdover_modeView (d : Device) : d.holdover.modeView = d.modeView := by
  simp [Device.holdover]

@[simp] theorem depthSync_modeView (d : Device) : d.depthSync.modeView = d.modeView := by
  simp [Device.depthSync]

@[simp] theorem rasterSrc_modeView (d : Device) : d.rasterSrc.modeView = d.modeView := by
  unfold Device.rasterSrc
  dsimp only
  split <;> simp

@[simp] theorem rasterStart_modeView (d : Device) : d.rasterStart.modeView = d.modeView := by
  unfold Device.rasterStart
  dsimp only
  split <;> simp

@[simp] theorem scanJoin_modeView (d : Device) : d.scanJoin.modeView = d.modeView := by
  simp [Device.scanJoin]

/-! ## Power -/

@[simp] theorem seqStep_modeView (d : Device) (i : Nat) : (d.seqStep i).modeView = d.modeView := by
  unfold Device.seqStep
  split <;> simp

@[simp] theorem seqComplete_modeView (d : Device) : d.seqComplete.modeView = d.modeView := by
  simp [Device.seqComplete]

@[simp] theorem seqFrom_modeView (d : Device) (i : Nat) : (d.seqFrom i).modeView = d.modeView := by
  unfold Device.seqFrom
  split <;> simp

@[simp] theorem seqStart_modeView (d : Device) (by' : Nat) : (d.seqStart by').modeView = d.modeView := by
  simp [Device.seqStart]

@[simp] theorem seqGood_modeView (d : Device) (i : Nat) : (d.seqGood i).modeView = d.modeView := by
  unfold Device.seqGood
  dsimp only
  split <;> simp

@[simp] theorem disFinish_modeView (d : Device) : d.disFinish.modeView = d.modeView := by
  simp [Device.disFinish]

@[simp] theorem bleedGo_modeView (d : Device) : d.bleedGo.modeView = d.modeView := by
  unfold Device.bleedGo
  split <;> simp

@[simp] theorem senseCut_modeView (d : Device) : d.senseCut.modeView = d.modeView := by
  unfold Device.senseCut
  split <;> simp

@[simp] theorem disOpen_modeView (d : Device) : d.disOpen.modeView = d.modeView := by
  simp [Device.disOpen]

@[simp] theorem disStart_modeView (d : Device) (bridge : Bool) : (d.disStart bridge).modeView = d.modeView := by
  unfold Device.disStart
  repeat' split
  all_goals simp

@[simp] theorem disPowerFail_modeView (d : Device) : d.disPowerFail.modeView = d.modeView := by
  unfold Device.disPowerFail
  split <;> simp

@[simp] theorem segCode_modeView (d : Device) (kind code : Nat) : (d.segCode kind code).modeView = d.modeView := by
  simp [Device.segCode]

/-! ## Fault -/

@[simp] theorem grow_modeView (d : Device) (c n : Nat) : (d.grow c n).modeView = d.modeView := by
  simp [Device.grow]

@[simp] theorem spoil_modeView (d : Device) (c : Nat) : (d.spoil c).modeView = d.modeView := by
  simp [Device.spoil]

@[simp] theorem accountFlush_modeView (d : Device) : d.accountFlush.modeView = d.modeView := by
  unfold Device.accountFlush
  split
  · rfl
  · simp

@[simp] theorem fltLog_modeView (d : Device) (f : Flt) (entry lat otherCode otherInst detail : Nat) :
    (d.fltLog f entry lat otherCode otherInst detail).modeView = d.modeView := by
  simp [Device.fltLog]

@[simp] theorem newtAccount_modeView (d : Device) : d.newtAccount.modeView = d.modeView := by
  unfold Device.newtAccount
  split <;> simp

@[simp] theorem degrSync_modeView (d : Device) : d.degrSync.modeView = d.modeView := by
  simp [Device.degrSync]

@[simp] theorem fltSync_modeView (d : Device) : d.fltSync.modeView = d.modeView := by
  unfold Device.fltSync
  dsimp only
  repeat' split
  all_goals simp

@[simp] theorem fltOpen_modeView (d : Device) (r : Option Recovery) : (d.fltOpen r).modeView = d.modeView := by
  simp [Device.fltOpen]

@[simp] theorem tick_modeView (d : Device) : d.tick.modeView = d.modeView := by
  unfold Device.tick
  dsimp only
  split <;> simp

@[simp] theorem contain_modeView (d : Device) (f : Flt) : (d.contain f).modeView = d.modeView := by
  unfold Device.contain
  repeat' split
  all_goals simp

@[simp] theorem containS2_modeView (d : Device) (f : Flt) : (d.containS2 f).modeView = d.modeView := by
  unfold Device.containS2
  repeat' split
  all_goals simp

@[simp] theorem planesExchange_modeView (d : Device) : d.planesExchange.modeView = d.modeView := by
  simp [Device.planesExchange]

@[simp] theorem rampEnd_modeView (d : Device) : d.rampEnd.modeView = d.modeView := by
  simp [Device.rampEnd]

@[simp] theorem surveyAbandon_modeView (d : Device) : d.surveyAbandon.modeView = d.modeView := by
  unfold Device.surveyAbandon
  split <;> simp

@[simp] theorem swapDiscard_modeView (d : Device) : d.swapDiscard.modeView = d.modeView := by
  unfold Device.swapDiscard
  split <;> simp

@[simp] theorem leaveTadpole_modeView (d : Device) : d.leaveTadpole.modeView = d.modeView := by
  simp [Device.leaveTadpole]

@[simp] theorem newtHold_modeView (d : Device) : d.newtHold.modeView = d.modeView := by
  simp [Device.newtHold]

@[simp] theorem newtAfterDis_modeView (d : Device) : d.newtAfterDis.modeView = d.modeView := by
  simp [Device.newtAfterDis]

@[simp] theorem recoveryDone_modeView (d : Device) (late : Bool) : (d.recoveryDone late).modeView = d.modeView := by
  unfold Device.recoveryDone
  dsimp only
  repeat' split
  all_goals simp

@[simp] theorem fltRecord_modeView (d : Device) (f : Flt) (detail : Nat) :
    (d.fltRecord f detail).modeView = d.modeView := by
  simp [Device.fltRecord]

@[simp] theorem escalated_modeView (d : Device) (f : Flt) (other : Flt) (ctr : Nat) :
    (d.escalated f other ctr).modeView = d.modeView := by
  simp [Device.escalated]

@[simp] theorem recoveryAbandon_modeView (d : Device) : d.recoveryAbandon.modeView = d.modeView := by
  unfold Device.recoveryAbandon
  split <;> simp

/-! ## Memory -/

@[simp] theorem layOut_modeView (d : Device) : d.layOut.modeView = d.modeView := by
  simp [Device.layOut]

@[simp] theorem fsInit_modeView (d : Device) : d.fsInit.modeView = d.modeView := by
  simp [Device.fsInit]

@[simp] theorem fsPut_modeView (d : Device) (bs : List (Nat × Nat)) : (d.fsPut bs).modeView = d.modeView := by
  simp [Device.fsPut]

@[simp] theorem fsFound_modeView (d : Device) (l : List (Nat × Ecc)) : (d.fsFound l).modeView = d.modeView :=
  eachOf_modeView _ _ _ fun f d => by split <;> simp

@[simp] theorem fsCorrected_modeView (d : Device) (w : Nat) : (d.fsCorrected w).modeView = d.modeView := by
  unfold Device.fsCorrected
  dsimp only
  split <;> simp

@[simp] theorem fsFrame_modeView (d : Device) : d.fsFrame.modeView = d.modeView := by
  simp [Device.fsFrame]

@[simp] theorem execEccWriteback_keepsView (w : Nat) : KeepsView (execEccWriteback w) :=
  keepsView_run fun d => by simp

@[simp] theorem pondWr_modeView (d : Device) (a : Nat) (bs : List Nat) : (d.pondWr a bs).modeView = d.modeView := by
  simp [Device.pondWr]

@[simp] theorem busyCount_modeView (d : Device) (m : Nat) (write : Bool) :
    (d.busyCount m write).modeView = d.modeView := by
  simp [Device.busyCount]

@[simp] theorem execBankRetentionEnter_keepsView (i : Fin 384) : KeepsView (execBankRetentionEnter i) :=
  keepsView_run fun d => by simp

@[simp] theorem execBankWakeDone_keepsView (i : Fin 384) : KeepsView (execBankWakeDone i) :=
  keepsView_run fun d => by simp

@[simp] theorem marchEnd_modeView (d : Device) (err : Nat) : (d.marchEnd err).modeView = d.modeView := by
  simp [Device.marchEnd]

@[simp] theorem marchSegment_modeView (d : Device) (n : Nat) : (d.marchSegment n).modeView = d.modeView := by
  simp [Device.marchSegment]

@[simp] theorem marchStepOn_modeView (d : Device) : d.marchStepOn.modeView = d.modeView := by
  unfold Device.marchStepOn
  dsimp only
  repeat' split
  all_goals simp

@[simp] theorem execMarchPreserving_keepsView (m : Master) : KeepsView (execMarchPreserving m) :=
  keepsView_run fun d => by
    rw [guarded_modeView]
    dsimp only
    repeat' split
    all_goals simp

@[simp] theorem destroyBank_modeView (d : Device) (i : Nat) : (d.destroyBank i).modeView = d.modeView := by
  simp [Device.destroyBank]

@[simp] theorem execMarchDestroying_keepsView (m : Master) : KeepsView (execMarchDestroying m) :=
  keepsView_run fun d => by
    rw [guarded_modeView]
    dsimp only
    repeat' split
    all_goals simp

@[simp] theorem execMarchAbort_keepsView (m : Master) : KeepsView (execMarchAbort m) :=
  keepsView_run fun d => by simp

@[simp] theorem execMarchIntervalExpire_keepsView : KeepsView execMarchIntervalExpire :=
  keepsView_run fun d => by
    repeat' split
    all_goals simp

@[simp] theorem segCopy_modeView (d : Device) (src dst : Nat) : (d.segCopy src dst).modeView = d.modeView := by
  simp [Device.segCopy]

@[simp] theorem marchFail_modeView (d : Device) (bank seg word bit : Nat) :
    (d.marchFail bank seg word bit).modeView = d.modeView := by
  simp [Device.marchFail]

@[simp] theorem execMarchCopybackDone_keepsView : KeepsView execMarchCopybackDone :=
  keepsView_run fun d => by simp

/-! ## ModeOps -/

@[simp] theorem wakeUp_modeView (d : Device) (cause : Nat) : (d.wakeUp cause).modeView = d.modeView := by
  simp [Device.wakeUp]

/-! ## HvCmds -/

@[simp] theorem kNote_modeView (d : Device) (off : Nat) : (d.kNote off).modeView = d.modeView := by
  simp [Device.kNote]

@[simp] theorem execPowerUp_keepsView (m : Master) : KeepsView (execPowerUp m) :=
  keepsView_run fun d => by simp

@[simp] theorem execDischarge_keepsView (m : Master) : KeepsView (execDischarge m) :=
  keepsView_run fun d => by simp

@[simp] theorem execRailGood_keepsView (i : Fin 8) (mon : Nat) (tie : Bool) : KeepsView (execRailGood i mon tie) :=
  keepsView_run fun d => by simp

@[simp] theorem execSeqDelayExpire_keepsView : KeepsView execSeqDelayExpire :=
  keepsView_run fun d => by split <;> simp

@[simp] theorem execVinBelowWarn_keepsView : KeepsView execVinBelowWarn :=
  keepsView_run fun d => by
    dsimp only
    repeat' split
    all_goals simp

@[simp] theorem execVinRecover_keepsView (tie : Bool) : KeepsView (execVinRecover tie) :=
  keepsView_run fun d => by
    dsimp only
    repeat' split
    all_goals simp

@[simp] theorem segShow_modeView (d : Device) : d.segShow.modeView = d.modeView := by
  simp [Device.segShow]

/-! ## LinkCmds -/

@[simp] theorem aclEnd_modeView (d : Device) (err : Nat) : (d.aclEnd err).modeView = d.modeView := by
  simp [Device.aclEnd]

@[simp] theorem aclLaneEnd_modeView (d : Device) (n err : Nat) : (d.aclLaneEnd n err).modeView = d.modeView := by
  simp [Device.aclLaneEnd]

@[simp] theorem laneUp_modeView (d : Device) (n : Nat) : (d.laneUp n).modeView = d.modeView := by
  unfold Device.laneUp
  dsimp only
  repeat' split
  all_goals simp

@[simp] theorem announce_modeView (d : Device) (n p : Nat) : (d.announce n p).modeView = d.modeView := by
  simp [Device.announce]

@[simp] theorem lockDone_modeView (d : Device) (n : Nat) : (d.lockDone n).modeView = d.modeView := by
  unfold Device.lockDone
  dsimp only
  repeat' split
  all_goals simp

@[simp] theorem aclBegin_modeView (d : Device) (m op n : Nat) : (d.aclBegin m op n).modeView = d.modeView := by
  simp [Device.aclBegin]

@[simp] theorem execLaneFullTrain_keepsView (m : Master) (n : Lane) : KeepsView (execLaneFullTrain m n) :=
  keepsView_run fun d => by simp

@[simp] theorem execLaneFastRetrain_keepsView (m : Master) (n : Lane) : KeepsView (execLaneFastRetrain m n) :=
  keepsView_run fun d => by simp

@[simp] theorem execSparePlannedMove_keepsView (m : Master) (n : Lane) (k : Fin 4) :
    KeepsView (execSparePlannedMove m n k) :=
  keepsView_run fun d => by simp

@[simp] theorem execSparePlannedReturn_keepsView (m : Master) (n : Lane) : KeepsView (execSparePlannedReturn m n) :=
  keepsView_run fun d => by simp

@[simp] theorem planApply_modeView (d : Device) : d.planApply.modeView = d.modeView := by
  unfold Device.planApply
  split <;> simp

@[simp] theorem execReturnLaneRegrant_keepsView (m : Master) (r : RetLane) : KeepsView (execReturnLaneRegrant m r) :=
  keepsView_run fun d => by simp

@[simp] theorem execLaneOff_keepsView (m : Master) (n : Lane) : KeepsView (execLaneOff m n) :=
  keepsView_run fun d => by simp

@[simp] theorem execTrainAllLanes_keepsView (m : Master) : KeepsView (execTrainAllLanes m) :=
  keepsView_run fun d => by simp

@[simp] theorem execLaneWakeDone_keepsView (n : Lane) : KeepsView (execLaneWakeDone n) :=
  keepsView_run fun d => by
    dsimp only
    repeat' split
    all_goals simp

@[simp] theorem execEqPresetDone_keepsView (n : Lane) (growth fom : Nat) (ceased : Bool) :
    KeepsView (execEqPresetDone n growth fom ceased) :=
  keepsView_run fun d => by
    dsimp only
    repeat' split
    all_goals simp

@[simp] theorem execEqHoldDone_keepsView (n : Lane) : KeepsView (execEqHoldDone n) :=
  keepsView_run fun d => by simp

@[simp] theorem regrantFrom_modeView (d : Device) (r j : Nat) : (d.regrantFrom r j).modeView = d.modeView := by
  unfold Device.regrantFrom
  split <;> simp

@[simp] theorem burstHeard_modeView (d : Device) (n : Nat) (tie : Bool) :
    (d.burstHeard n tie).modeView = d.modeView := by
  simp [Device.burstHeard]

@[simp] theorem ackTaken_modeView (d : Device) (n st seq : Nat) : (d.ackTaken n st seq).modeView = d.modeView := by
  simp [Device.ackTaken]

@[simp] theorem execJamRetryTimer_keepsView (r : RetLane) : KeepsView (execJamRetryTimer r) :=
  keepsView_run fun d => by simp

@[simp] theorem execConfigResendTimer_keepsView (n : Lane) : KeepsView (execConfigResendTimer n) :=
  keepsView_run fun d => by split <;> simp

@[simp] theorem execControlPacketResend_keepsView (n : Lane) : KeepsView (execControlPacketResend n) :=
  keepsView_run fun d => by
    dsimp only
    split <;> simp

@[simp] theorem execIntegratorPacketSend_keepsView (m : Master) : KeepsView (execIntegratorPacketSend m) :=
  keepsView_run fun d => by simp

/-! ## Claims -/

@[simp] theorem claim_modeView (d : Device) (feature cls idx master : Nat) :
    (d.claim feature cls idx master).modeView = d.modeView := by
  simp [Device.claim]

@[simp] theorem unclaim_modeView (d : Device) (feature : Nat) (p : RunClaim → Bool) :
    (d.unclaim feature p).modeView = d.modeView := by
  simp [Device.unclaim]

/-! ## Mbx -/

@[simp] theorem mbSync_modeView (d : Device) (c : Nat) : (d.mbSync c).modeView = d.modeView := by
  simp [Device.mbSync]

@[simp] theorem mbPut_modeView (d : Device) (c : Nat) (ab : Bool) (q : List Word) :
    (d.mbPut c ab q).modeView = d.modeView := by
  simp [Device.mbPut]

@[simp] theorem ackRestart_modeView (d : Device) (c : Nat) (ab : Bool) : (d.ackRestart c ab).modeView = d.modeView := by
  simp [Device.ackRestart]

@[simp] theorem mbEmpty_modeView (d : Device) (c : Nat) : (d.mbEmpty c).modeView = d.modeView := by
  simp [Device.mbEmpty]

@[simp] theorem mbBind_modeView (d : Device) (c v : Nat) : (d.mbBind c v).modeView = d.modeView := by
  simp [Device.mbBind]

@[simp] theorem execChannelBind_keepsView (m : Master) (c : Fin 64) (val : Nat) : KeepsView (execChannelBind m c val) :=
  keepsView_run fun d => by simp

@[simp] theorem execChannelTableLock_keepsView (m : Master) : KeepsView (execChannelTableLock m) :=
  keepsView_run fun d => by simp

@[simp] theorem channelTable_modeView (d : Device) : d.channelTable.modeView = d.modeView := by
  unfold Device.channelTable
  dsimp only
  split <;> simp

@[simp] theorem mbPush_modeView (d : Device) (c : Nat) (ab : Bool) (w : Nat) :
    (d.mbPush c ab w).modeView = d.modeView := by
  simp [Device.mbPush]

@[simp] theorem mbSend_modeView (d : Device) (m c val : Nat) : (d.mbSend m c val).modeView = d.modeView := by
  simp [Device.mbSend]

@[simp] theorem mbPop_modeView (d : Device) (c : Nat) (ab : Bool) : (d.mbPop c ab).modeView = d.modeView := by
  simp [Device.mbPop]

@[simp] theorem mbRecv_modeView (d : Device) (m c : Nat) : (d.mbRecv m c).modeView = d.modeView := by
  unfold Device.mbRecv
  repeat' split
  all_goals simp

@[simp] theorem execMailboxSend_keepsView (m : Master) (c : Fin 64) (val : Nat) : KeepsView (execMailboxSend m c val) :=
  keepsView_run fun d => by simp

@[simp] theorem execMailboxReceive_keepsView (m : Master) (c : Fin 64) : KeepsView (execMailboxReceive m c) :=
  keepsView_run fun d => by simp

@[simp] theorem execMailboxAckTimeout_keepsView (c : Fin 64) (ab tie : Bool) :
    KeepsView (execMailboxAckTimeout c ab tie) :=
  keepsView_run fun d => by
    repeat' split
    all_goals simp

@[simp] theorem execMailboxXwait_keepsView (c : Fin 64) (tie : Bool) : KeepsView (execMailboxXwait c tie) :=
  keepsView_run fun d => by simp

@[simp] theorem dbRing_modeView (d : Device) (m val : Nat) : (d.dbRing m val).modeView = d.modeView := by
  simp [Device.dbRing]

@[simp] theorem execDoorbellRing_keepsView (m : Master) (val : Nat) : KeepsView (execDoorbellRing m val) :=
  keepsView_run fun d => by simp

@[simp] theorem lockPut_modeView (d : Device) (n v : Nat) : (d.lockPut n v).modeView = d.modeView := by
  simp [Device.lockPut]

@[simp] theorem lockRead_modeView (d : Device) (n : Nat) (ms : List Nat) : (d.lockRead n ms).modeView = d.modeView := by
  unfold Device.lockRead
  dsimp only
  repeat' split
  all_goals simp

@[simp] theorem execLockAcquireRead_keepsView (m : Master) (n : Fin 128) (tied : List Master) :
    KeepsView (execLockAcquireRead m n tied) :=
  keepsView_run fun d => by simp

@[simp] theorem lockWrite_modeView (d : Device) (m n val : Nat) : (d.lockWrite m n val).modeView = d.modeView := by
  simp [Device.lockWrite]

@[simp] theorem execLockRelease_keepsView (m : Master) (n : Fin 128) (val : Nat) :
    KeepsView (execLockRelease m n val) :=
  keepsView_run fun d => by simp

@[simp] theorem lockForce_modeView (d : Device) (n : Nat) : (d.lockForce n).modeView = d.modeView := by
  simp [Device.lockForce]

@[simp] theorem lockClear_modeView (d : Device) (m val : Nat) : (d.lockClear m val).modeView = d.modeView := by
  simp [Device.lockClear]

@[simp] theorem execLockForceClear_keepsView (m : Master) (val : Nat) : KeepsView (execLockForceClear m val) :=
  keepsView_run fun d => by simp

@[simp] theorem locksDrop_modeView (d : Device) (m : Nat) : (d.locksDrop m).modeView = d.modeView := by
  simp [Device.locksDrop]

/-! ## Flash -/

@[simp] theorem flashProgram_modeView (d : Device) (a : Nat) (bs : List Nat) :
    (d.flashProgram a bs).modeView = d.modeView := by
  simp [Device.flashProgram]

@[simp] theorem flashErase_modeView (d : Device) (a n : Nat) : (d.flashErase a n).modeView = d.modeView := by
  simp [Device.flashErase]

@[simp] theorem flashSpoil_modeView (d : Device) (a n : Nat) : (d.flashSpoil a n).modeView = d.modeView := by
  simp [Device.flashSpoil]

/-! ## KeepCmds -/

@[simp] theorem execKeepStoreCmd_keepsView (m : Master) : KeepsView (execKeepStoreCmd m) :=
  keepsView_run fun d => by simp

@[simp] theorem execKeepAutoStore_keepsView : KeepsView execKeepAutoStore :=
  keepsView_run fun d => by simp

@[simp] theorem execKeepSnapshot_keepsView : KeepsView execKeepSnapshot :=
  keepsView_run fun d => by simp

@[simp] theorem setPwWords_modeView (d : Device) (m : Nat) (l : List Nat) :
    (d.setPwWords m l).modeView = d.modeView := by
  simp [Device.setPwWords]

@[simp] theorem setUnlock_modeView (d : Device) (m j : Nat) (b : Bool) : (d.setUnlock m j b).modeView = d.modeView := by
  simp [Device.setUnlock]

@[simp] theorem execKeepUnlock_keepsView (m : Master) (j : Fin 16) : KeepsView (execKeepUnlock m j) :=
  keepsView_run fun d => by simp

@[simp] theorem execKeepLock_keepsView (m : Master) (j : Fin 16) : KeepsView (execKeepLock m j) :=
  keepsView_run fun d => by simp

@[simp] theorem execKeepLockAll_keepsView (m : Master) : KeepsView (execKeepLockAll m) :=
  keepsView_run fun d => by simp

@[simp] theorem execKeepStageRelease_keepsView (m : Master) : KeepsView (execKeepStageRelease m) :=
  keepsView_run fun d => by simp

@[simp] theorem pwCommit_modeView (d : Device) : d.pwCommit.modeView = d.modeView := by
  simp [Device.pwCommit]

@[simp] theorem execKeepSetPassword_keepsView (m : Master) (j : Fin 16) : KeepsView (execKeepSetPassword m j) :=
  keepsView_run fun d => by simp

@[simp] theorem execKeepPasswordWord_keepsView (m : Master) (val : Nat) : KeepsView (execKeepPasswordWord m val) :=
  keepsView_run fun d => by simp

@[simp] theorem execKeepRegionWrite_keepsView (m : Master) (j : Fin 16) (val : Nat) :
    KeepsView (execKeepRegionWrite m j val) :=
  keepsView_run fun d => by simp

@[simp] theorem execKeepDataRead_keepsView (m : Master) : KeepsView (execKeepDataRead m) :=
  keepsView_run fun d => by
    repeat' split
    all_goals simp

@[simp] theorem execKeepDataWrite_keepsView (m : Master) (val : Nat) : KeepsView (execKeepDataWrite m val) :=
  keepsView_run fun d => by
    repeat' split
    all_goals simp

@[simp] theorem stagePut_modeView (d : Device) (b : List Nat) : (d.stagePut b).modeView = d.modeView := by
  simp [Device.stagePut]

@[simp] theorem recResolveCmd_modeView (d : Device) (m id : Nat) : (d.recResolveCmd m id).modeView = d.modeView := by
  unfold Device.recResolveCmd
  dsimp only
  repeat' split
  all_goals simp

@[simp] theorem recCommitCmd_modeView (d : Device) (m id len : Nat) :
    (d.recCommitCmd m id len).modeView = d.modeView := by
  unfold Device.recCommitCmd
  split <;> simp

@[simp] theorem execRecordResolve_keepsView (m : Master) (id : Nat) (forEn : Bool) (who : Nat) :
    KeepsView (execRecordResolve m id forEn who) :=
  keepsView_run fun d => by simp

@[simp] theorem execRecordCommit_keepsView (m : Master) (id len : Nat) (forEn : Bool) (who : Nat) :
    KeepsView (execRecordCommit m id len forEn who) :=
  keepsView_run fun d => by simp

@[simp] theorem recCommitDone_modeView (d : Device) : d.recCommitDone.modeView = d.modeView := by
  unfold Device.recCommitDone
  split <;> simp

@[simp] theorem execKeepStageWrite_keepsView (m : Master) (i : Fin 256) (val : Nat) :
    KeepsView (execKeepStageWrite m i val) :=
  keepsView_run fun d => by simp

@[simp] theorem execCounterAdd_keepsView (m : Master) (amount : Nat) : KeepsView (execCounterAdd m amount) :=
  keepsView_run fun d => by simp

@[simp] theorem execCounterClear_keepsView (m : Master) : KeepsView (execCounterClear m) :=
  keepsView_run fun d => by simp

@[simp] theorem execCounterUpdateDone_keepsView : KeepsView execCounterUpdateDone :=
  keepsView_run fun d => by simp

@[simp] theorem execCounterRead_keepsView (m : Master) : KeepsView (execCounterRead m) :=
  keepsView_run fun d => by simp

@[simp] theorem execLogAppend_keepsView (m : Master) : KeepsView (execLogAppend m) :=
  keepsView_run fun d => by simp

@[simp] theorem execClockSet_keepsView (m : Master) (val : Nat) : KeepsView (execClockSet m val) :=
  keepsView_run fun d => by simp

@[simp] theorem execKeepClockTick_keepsView (vkeep : Bool) : KeepsView (execKeepClockTick vkeep) :=
  keepsView_run fun d => by simp

/-! ## Ikiush -/

@[simp] theorem setCore_modeView (d : Device) (k : Nat) (x : CoreX) : (d.setCore k x).modeView = d.modeView := by
  simp [Device.setCore]

@[simp] theorem bankTake_modeView (d : Device) (k f n : Nat) : (d.bankTake k f n).modeView = d.modeView := by
  simp [Device.bankTake]

@[simp] theorem bankGive_modeView (d : Device) (k : Nat) : (d.bankGive k).modeView = d.modeView := by
  simp [Device.bankGive]

@[simp] theorem coreAlloc_modeView (d : Device) (m k n : Nat) : (d.coreAlloc m k n).modeView = d.modeView := by
  unfold Device.coreAlloc
  rw [guarded_modeView]
  repeat' split
  all_goals simp

@[simp] theorem execBankAssign_keepsView (m : Master) (k : CoreId) (n : Nat) : KeepsView (execBankAssign m k n) :=
  keepsView_run fun d => by simp

@[simp] theorem execBankReturn_keepsView (m : Master) (k : CoreId) : KeepsView (execBankReturn m k) :=
  keepsView_run fun d => by simp

@[simp] theorem coreRelease_modeView (d : Device) (k : Nat) : (d.coreRelease k).modeView = d.modeView := by
  simp [Device.coreRelease]

@[simp] theorem claimsDrop_modeView (d : Device) (m : Nat) : (d.claimsDrop m).modeView = d.modeView := by
  simp [Device.claimsDrop]

@[simp] theorem coreReset_modeView (d : Device) (k : Nat) : (d.coreReset k).modeView = d.modeView := by
  simp [Device.coreReset]

@[simp] theorem coreHalt_modeView (d : Device) (k : Nat) : (d.coreHalt k).modeView = d.modeView := by
  simp [Device.coreHalt]

@[simp] theorem coreResume_modeView (d : Device) (k : Nat) : (d.coreResume k).modeView = d.modeView := by
  simp [Device.coreResume]

@[simp] theorem coreCtrl_modeView (d : Device) (m k : Nat) (run halt : Bool) :
    (d.coreCtrl m k run halt).modeView = d.modeView := by
  simp [Device.coreCtrl]

@[simp] theorem execCoreRun_keepsView (m : Master) (k : CoreId) : KeepsView (execCoreRun m k) :=
  keepsView_run fun d => by simp

@[simp] theorem execCoreReset_keepsView (m : Master) (k : CoreId) : KeepsView (execCoreReset m k) :=
  keepsView_run fun d => by simp

@[simp] theorem execCoreHalt_keepsView (m : Master) (k : CoreId) : KeepsView (execCoreHalt m k) :=
  keepsView_run fun d => by simp

@[simp] theorem execCoreResume_keepsView (m : Master) (k : CoreId) : KeepsView (execCoreResume m k) :=
  keepsView_run fun d => by simp

@[simp] theorem coreKick_modeView (d : Device) (m k : Nat) : (d.coreKick m k).modeView = d.modeView := by
  simp [Device.coreKick]

@[simp] theorem execCoreKick_keepsView (m : Master) (k : CoreId) : KeepsView (execCoreKick m k) :=
  keepsView_run fun d => by simp

@[simp] theorem takeTrap_modeView (d : Device) (k : Nat) (interrupt : Bool) (cause tval : Nat) :
    (d.takeTrap k interrupt cause tval).modeView = d.modeView := by
  simp [Device.takeTrap]

@[simp] theorem execCoreInterrupt_keepsView (k : CoreId) : KeepsView (execCoreInterrupt k) :=
  keepsView_run fun d => by
    repeat' split
    all_goals simp

@[simp] theorem execMtimerMatch_keepsView (k : CoreId) : KeepsView (execMtimerMatch k) :=
  keepsView_run fun d => by simp

@[simp] theorem mtimeRead_modeView (d : Device) (m : Nat) : (d.mtimeRead m).modeView = d.modeView := by
  simp [Device.mtimeRead]

@[simp] theorem execMtimeRead_keepsView (m : Master) : KeepsView (execMtimeRead m) :=
  keepsView_run fun d => by simp

@[simp] theorem consume_modeView (d : Device) (c n : Nat) : (d.consume c n).modeView = d.modeView := by
  simp [Device.consume]

@[simp] theorem answerOn_modeView (d : Device) (c op tag status : Nat) (payload : List Nat) :
    (d.answerOn c op tag status payload).modeView = d.modeView := by
  simp [Device.answerOn]

@[simp] theorem execPing_keepsView (c : Fin 6) : KeepsView (execPing c) :=
  keepsView_run fun d => by
    repeat' split
    all_goals simp

@[simp] theorem execCommit_keepsView (c : Fin 6) : KeepsView (execCommit c) :=
  keepsView_run fun d => by
    dsimp only
    repeat' split
    all_goals simp

@[simp] theorem execRecordCommitDone_keepsView : KeepsView execRecordCommitDone :=
  keepsView_run fun d => by
    dsimp only
    repeat' split
    all_goals simp

@[simp] theorem loadFail_modeView (d : Device) (k code : Nat) (reply : Option (Nat × Nat)) :
    (d.loadFail k code reply).modeView = d.modeView := by
  unfold Device.loadFail
  split <;> simp

@[simp] theorem loadBegin_modeView (d : Device) (k : Nat) (reply : Option (Nat × Nat)) :
    (d.loadBegin k reply).modeView = d.modeView := by
  unfold Device.loadBegin
  repeat' split
  all_goals simp

@[simp] theorem loadFinish_modeView (d : Device) (bad : Bool) : (d.loadFinish bad).modeView = d.modeView := by
  unfold Device.loadFinish
  repeat' split
  all_goals simp

@[simp] theorem execLoadCore_keepsView (c : Fin 6) : KeepsView (execLoadCore c) :=
  keepsView_run fun d => by
    repeat' split
    all_goals simp

@[simp] theorem execLoadCoreComplete_keepsView (bad : Bool) : KeepsView (execLoadCoreComplete bad) :=
  keepsView_run fun d => by simp

/-! ## Hif -/

@[simp] theorem latchClear_modeView (d : Device) (m : Nat) : (d.latchClear m).modeView = d.modeView := by
  simp [Device.latchClear]

@[simp] theorem errClear_modeView (d : Device) (m val : Nat) : (d.errClear m val).modeView = d.modeView := by
  simp [Device.errClear]

@[simp] theorem execErrorClear_keepsView (m : Master) (val : Nat) : KeepsView (execErrorClear m val) :=
  keepsView_run fun d => by simp

@[simp] theorem execPcieLinkUp_keepsView (speed width : Nat) (bme fnMask : Bool) :
    KeepsView (execPcieLinkUp speed width bme fnMask) :=
  keepsView_run fun d => by simp

@[simp] theorem msixReset_modeView (d : Device) : d.msixReset.modeView = d.modeView := by
  simp [Device.msixReset]

@[simp] theorem hostReset_modeView (d : Device) : d.hostReset.modeView = d.modeView := by
  simp [Device.hostReset]

@[simp] theorem execPcieFunctionReset_keepsView (k : PcieReset) : KeepsView (execPcieFunctionReset k) :=
  keepsView_run fun d => by
    repeat' split
    all_goals simp

@[simp] theorem execPcieD3hot_keepsView (enter : Bool) : KeepsView (execPcieD3hot enter) :=
  keepsView_run fun d => by simp

@[simp] theorem execPoisonedWrite_keepsView : KeepsView execPoisonedWrite :=
  keepsView_run fun d => by simp

@[simp] theorem pbaPut_modeView (d : Device) (v : Nat) (b : Bool) : (d.pbaPut v b).modeView = d.modeView := by
  simp [Device.pbaPut]

@[simp] theorem execMsixTrigger_keepsView (v : Fin 64) (w1c : Bool) : KeepsView (execMsixTrigger v w1c) :=
  keepsView_run fun d => by simp

@[simp] theorem xspiCmd_modeView (d : Device) (m op len : Nat) : (d.xspiCmd m op len).modeView = d.modeView := by
  unfold Device.xspiCmd
  split <;> simp

@[simp] theorem execXspiRead_keepsView (m : Master) (len : Fin 16) : KeepsView (execXspiRead m len) :=
  keepsView_run fun d => by simp

@[simp] theorem execXspiProgram_keepsView (m : Master) (len : Fin 16) : KeepsView (execXspiProgram m len) :=
  keepsView_run fun d => by simp

@[simp] theorem execXspiSectorErase_keepsView (m : Master) : KeepsView (execXspiSectorErase m) :=
  keepsView_run fun d => by simp

@[simp] theorem execXspiBlockErase_keepsView (m : Master) : KeepsView (execXspiBlockErase m) :=
  keepsView_run fun d => by simp

@[simp] theorem execXspiReadStatus_keepsView (m : Master) : KeepsView (execXspiReadStatus m) :=
  keepsView_run fun d => by simp

@[simp] theorem execXspiSoftwareReset_keepsView (m : Master) : KeepsView (execXspiSoftwareReset m) :=
  keepsView_run fun d => by simp

@[simp] theorem xspiEnd_modeView (d : Device) (err : Nat) : (d.xspiEnd err).modeView = d.modeView := by
  simp [Device.xspiEnd]

@[simp] theorem execXspiOpComplete_keepsView (status : Nat) (late : Bool) :
    KeepsView (execXspiOpComplete status late) :=
  keepsView_run fun d => by split <;> simp

@[simp] theorem execXspiBusyTimeout_keepsView (status : Nat) : KeepsView (execXspiBusyTimeout status) :=
  keepsView_run fun d => by split <;> simp

@[simp] theorem dmaStart_modeView (d : Device) (m ss ds : Nat) : (d.dmaStart m ss ds).modeView = d.modeView := by
  simp [Device.dmaStart]

@[simp] theorem dmaAbort_modeView (d : Device) (m : Nat) : (d.dmaAbort m).modeView = d.modeView := by
  simp [Device.dmaAbort]

@[simp] theorem execDmaStart_keepsView (m : Master) (ss ds : Fin 4) : KeepsView (execDmaStart m ss ds) :=
  keepsView_run fun d => by simp

@[simp] theorem execDmaAbort_keepsView (m : Master) : KeepsView (execDmaAbort m) :=
  keepsView_run fun d => by simp

@[simp] theorem i2cCmd_modeView (d : Device) (m n val : Nat) : (d.i2cCmd m n val).modeView = d.modeView := by
  simp [Device.i2cCmd]

@[simp] theorem execI2cTransaction_keepsView (m : Master) (n : Fin 2) (val : Nat) :
    KeepsView (execI2cTransaction m n val) :=
  keepsView_run fun d => by simp

@[simp] theorem i2cEnd_modeView (d : Device) (n : Nat) (x : I2c) (err : Nat) :
    (d.i2cEnd n x err).modeView = d.modeView := by
  unfold Device.i2cEnd
  split <;> simp

@[simp] theorem execI2cComplete_keepsView (n : Fin 2) (nack : Option Nat) (pecBad : Bool) (data : List Nat) :
    KeepsView (execI2cComplete n nack pecBad data) :=
  keepsView_run fun d => by
    repeat' split
    all_goals simp

@[simp] theorem execI2cClockLowTimeout_keepsView (n : Fin 2) (tie : Bool) : KeepsView (execI2cClockLowTimeout n tie) :=
  keepsView_run fun d => by split <;> simp

@[simp] theorem gpioEnable_modeView (d : Device) (m val : Nat) : (d.gpioEnable m val).modeView = d.modeView := by
  simp [Device.gpioEnable]

@[simp] theorem execGpioEnable_keepsView (m : Master) (val : Nat) : KeepsView (execGpioEnable m val) :=
  keepsView_run fun d => by simp

@[simp] theorem execGpioEdge_keepsView (p : Fin 16) (rise : Bool) : KeepsView (execGpioEdge p rise) :=
  keepsView_run fun d => by simp

@[simp] theorem execNtcSample_keepsView (k : Fin 4) (c : Nat) : KeepsView (execNtcSample k c) :=
  keepsView_run fun d => by simp

@[simp] theorem execJtagUpdateIr_keepsView (ir : Nat) : KeepsView (execJtagUpdateIr ir) :=
  keepsView_run fun d => by simp

@[simp] theorem execTestLogicReset_keepsView : KeepsView execTestLogicReset :=
  keepsView_run fun d => by simp

@[simp] theorem execDbgCapture_keepsView (running : Bool) : KeepsView (execDbgCapture running) :=
  keepsView_run fun d => by simp

@[simp] theorem spSync_modeView (d : Device) : d.spSync.modeView = d.modeView := by
  simp [Device.spSync]

@[simp] theorem execSidePortLowWrite_keepsView (a val : Nat) : KeepsView (execSidePortLowWrite a val) :=
  keepsView_run fun d => by simp

@[simp] theorem execSidePortHighRead_keepsView (a : Nat) : KeepsView (execSidePortHighRead a) :=
  keepsView_run fun d => by
    repeat' split
    all_goals simp

/-! ## Limits -/

@[simp] theorem rlimSync_modeView (d : Device) : d.rlimSync.modeView = d.modeView := by
  simp [Device.rlimSync]

/-! ## ClkCmds -/

@[simp] theorem wrFrame_modeView (d : Device) (off v : Nat) : (d.wrFrame off v).modeView = (d.wr off v).modeView := by
  unfold Device.wrFrame
  dsimp only
  split <;> rfl

@[simp] theorem sscWrite_modeView (d : Device) (m v : Nat) : (d.sscWrite m v).modeView = d.modeView := by
  simp [Device.sscWrite]

@[simp] theorem execSscHopEnable_keepsView (m : Master) (val : Nat) : KeepsView (execSscHopEnable m val) :=
  keepsView_run fun d => by simp

@[simp] theorem execSscHop_keepsView : KeepsView execSscHop :=
  keepsView_run fun d => by simp

@[simp] theorem fclkApply_modeView (d : Device) : d.fclkApply.modeView = d.modeView := by
  simp [Device.fclkApply]

@[simp] theorem fclkRequest_modeView (d : Device) (req : Nat) : (d.fclkRequest req).modeView = d.modeView := by
  simp [Device.fclkRequest]

@[simp] theorem execFclkStepRequest_keepsView (m : Master) (req : Fin 4) : KeepsView (execFclkStepRequest m req) :=
  keepsView_run fun d => by simp

@[simp] theorem execFclkStepEffect_keepsView : KeepsView execFclkStepEffect :=
  keepsView_run fun d => by simp

@[simp] theorem execAvsStep_keepsView : KeepsView execAvsStep :=
  keepsView_run fun d => by simp

@[simp] theorem execAvsMonitor_keepsView (mv : Nat) : KeepsView (execAvsMonitor mv) :=
  keepsView_run fun d => by simp

@[simp] theorem marginLog_modeView (d : Device) (action lane : Nat) :
    (d.marginLog action lane).modeView = d.modeView := by
  simp [Device.marginLog]

@[simp] theorem execMarginReplan_keepsView (after70 : Bool) : KeepsView (execMarginReplan after70) :=
  keepsView_run fun d => by simp

@[simp] theorem execPresetTrial_keepsView (n : Lane) (p : Fin 8) (fomUp hdrUp : Bool) :
    KeepsView (execPresetTrial n p fomUp hdrUp) :=
  keepsView_run fun d => by simp

@[simp] theorem eyeWrite_modeView (d : Device) (m v : Nat) : (d.eyeWrite m v).modeView = d.modeView := by
  unfold Device.eyeWrite
  dsimp only
  split <;> simp

@[simp] theorem execEyeMeasure_keepsView (m : Master) (val : Nat) : KeepsView (execEyeMeasure m val) :=
  keepsView_run fun d => by simp

@[simp] theorem execEyeMeasureDone_keepsView (horiz vert fom : Nat) (lost : Bool) :
    KeepsView (execEyeMeasureDone horiz vert fom lost) :=
  keepsView_run fun d => by split <;> simp

/-! ## Access -/

@[simp] theorem msWrite_modeView (d : Device) (m off v : Nat) (h : GLB_MODE ≠ off) :
    (d.msWrite m off v).modeView = d.modeView := by
  simp [Device.msWrite, h]

/-! ## Swap -/

@[simp] theorem bankUse_modeView (d : Device) (i use : Nat) : (d.bankUse i use).modeView = d.modeView := by
  simp [Device.bankUse]

theorem takeBanks_modeView {d : Device} {n use : Nat} {r : Device × List Nat} (h : d.takeBanks n use = some r) :
    r.1.modeView = d.modeView := by
  unfold Device.takeBanks at h
  split at h
  · cases h
  · cases h; simp

@[simp] theorem sizeUse_modeView (d : Device) (use n : Nat) : (d.sizeUse use n).modeView = d.modeView := by
  unfold Device.sizeUse
  dsimp only
  split
  · simp
  · split
    · exact takeBanks_modeView ‹_›
    · rfl

theorem placeLuts_modeView {p : PrismSet} {shared : List (LutBlock × List Nat)} {use : Nat} {bs : List LutBlock} :
    ∀ {d : Device} {r : Device × List LutPlace}, d.placeLuts p shared use bs = some r → r.1.modeView = d.modeView := by
  induction bs with
  | nil => intro d r h; cases h; rfl
  | cons b bs ih =>
    intro d r h
    unfold Device.placeLuts at h
    split at h
    · obtain ⟨q, hq, hr⟩ := Option.map_eq_some_iff.mp h
      cases hr
      exact ih (r := q) hq
    · split at h
      · cases h
      · obtain ⟨q, hq, hr⟩ := Option.map_eq_some_iff.mp h
        cases hr
        exact (ih (r := q) hq).trans (takeBanks_modeView ‹_›)

@[simp] theorem placeActive_modeView (d : Device) : d.placeActive.1.modeView = d.modeView := by
  unfold Device.placeActive
  dsimp only
  split
  next r h =>
    have hr := placeLuts_modeView h
    simpa [trans_modeView, loupeFrom_modeView, op_modeView] using hr
  next => simp

@[simp] theorem freeMirror_modeView (d : Device) : d.freeMirror.modeView = d.modeView := by
  simp [Device.freeMirror, trans_modeView, loupeFrom_modeView, op_modeView]

@[simp] theorem fabSync_modeView (d : Device) : d.fabSync.modeView = d.modeView := by
  unfold Device.fabSync
  refine (eachOf_modeView _ _ _ fun s d => ?_).trans ?_
  · split <;> simp
  · simp

@[simp] theorem wrDigest_modeView (d : Device) (reg : Nat → Nat) (dig : List Nat) (h : ∀ i, GLB_MODE ≠ reg i) :
    (d.wrDigest reg dig).modeView = d.modeView := by
  simp [Device.wrDigest, h]

@[simp] theorem execMsWrite_keepsView (m : Master) (off val : Nat) : KeepsView (execMsWrite m off val) :=
  keepsView_run fun d => by
    split
    next hm => exact msWrite_modeView _ _ _ _ fun h => glbMode_not_mem_msRegs (h ▸ List.contains_iff_mem.mp hm)
    next => rfl

@[simp] theorem swapRequest_modeView (d : Device) (m : Nat) (after cancel : Bool) :
    (d.swapRequest m after cancel).modeView = d.modeView := by
  unfold Device.swapRequest
  repeat' split
  all_goals simp

@[simp] theorem swapCancel_modeView (d : Device) (m : Nat) (after : Bool) :
    (d.swapCancel m after).modeView = d.modeView := by
  simp [Device.swapCancel]

@[simp] theorem swapCtrl_modeView (d : Device) (m v : Nat) : (d.swapCtrl m v).modeView = d.modeView := by
  simp [Device.swapCtrl]

@[simp] theorem execSwapRequest_keepsView (m : Master) (after cancel : Bool) :
    KeepsView (execSwapRequest m after cancel) :=
  keepsView_run fun d => by simp

@[simp] theorem execSwapCancel_keepsView (m : Master) (after : Bool) : KeepsView (execSwapCancel m after) :=
  keepsView_run fun d => by simp

@[simp] theorem swapAbandon_modeView (d : Device) (result : Nat) : (d.swapAbandon result).modeView = d.modeView := by
  simp [Device.swapAbandon]

@[simp] theorem execIslandReady_keepsView (i : Nat) (ecc : Bool) : KeepsView (execIslandReady i ecc) :=
  keepsView_run fun d => by simp

@[simp] theorem swapConfig_modeView (d : Device) : d.swapConfig.modeView = d.modeView := by
  simp [Device.swapConfig]

@[simp] theorem execSwapArm_keepsView : KeepsView execSwapArm :=
  keepsView_run fun d => by simp

@[simp] theorem execIslandDone_keepsView (i : Nat) : KeepsView (execIslandDone i) :=
  keepsView_run fun d => by simp

@[simp] theorem tilesEmpty_modeView (d : Device) : d.tilesEmpty.modeView = d.modeView := by
  simp [Device.tilesEmpty]

@[simp] theorem sweepRestart_modeView (d : Device) : d.sweepRestart.modeView = d.modeView := by
  simp [Device.sweepRestart]

@[simp] theorem geometryReset_modeView (d : Device) (geo : Bool) : (d.geometryReset geo).modeView = d.modeView := by
  unfold Device.geometryReset
  split <;> simp

@[simp] theorem msExchange_modeView (d : Device) : d.msExchange.modeView = d.modeView := by
  refine eachOf_modeView_of_mem _ _ _ fun o ho d => ?_
  have h : GLB_MODE ≠ o := fun h => glbMode_not_mem_msRegs (h ▸ ho)
  simp [h]

@[simp] theorem swapRegs_modeView (d : Device) (a b : Nat) (ha : GLB_MODE ≠ a) (hb : GLB_MODE ≠ b) :
    (d.swapRegs a b).modeView = d.modeView := by
  simp [Device.swapRegs, ha, hb]

@[simp] theorem lutExchange_modeView (d : Device) (after : Bool) : (d.lutExchange after).modeView = d.modeView := by
  simp [Device.lutExchange, trans_modeView, loupeFrom_modeView, op_modeView]

@[simp] theorem slotMoves_modeView (d : Device) (old : PrismSet) : (d.slotMoves old).modeView = d.modeView := by
  simp [Device.slotMoves]

@[simp] theorem swapTake_modeView (d : Device) : d.swapTake.modeView = d.modeView := by
  simp [Device.swapTake]

@[simp] theorem execSwapTakeEffect_keepsView : KeepsView execSwapTakeEffect :=
  keepsView_run fun d => by simp

@[simp] theorem mirrorRefill_modeView (d : Device) : d.mirrorRefill.modeView = d.modeView := by
  have hms : (eachOf msRegs (fun o d => d.wr o (d.rdF o)) d).modeView = d.modeView := by
    refine eachOf_modeView_of_mem _ _ _ fun o ho d => ?_
    have h : GLB_MODE ≠ o := fun h => glbMode_not_mem_msRegs (h ▸ ho)
    simp [h]
  simp [Device.mirrorRefill, hms, trans_modeView, loupeFrom_modeView, op_modeView]

@[simp] theorem execMirrorRefillComplete_keepsView : KeepsView execMirrorRefillComplete :=
  keepsView_run fun d => by simp

/-! ## Layers -/

@[simp] theorem setWin_modeView (d : Device) (w : Nat) (x : WinX) : (d.setWin w x).modeView = d.modeView := by
  simp [Device.setWin]

@[simp] theorem winSkip_modeView (d : Device) (taps : Nat) (rs : List Rect) :
    (d.winSkip taps rs).modeView = d.modeView := by
  simp [Device.winSkip]

@[simp] theorem tmgTear_modeView (d : Device) : d.tmgTear.modeView = d.modeView := by
  simp [Device.tmgTear]

@[simp] theorem tmgWrite_modeView (d : Device) (m off v : Nat) (h : GLB_MODE ≠ off) :
    (d.tmgWrite m off v).modeView = d.modeView := by
  simp [Device.tmgWrite, h]

@[simp] theorem execLiveTmgWrite_keepsView (m : Master) (off val : Nat) : KeepsView (execLiveTmgWrite m off val) :=
  keepsView_run fun d => by
    split
    next hm => exact tmgWrite_modeView _ _ _ _ fun h => glbMode_not_mem_tmgLive (h ▸ List.contains_iff_mem.mp hm)
    next => rfl

@[simp] theorem layTear_modeView (d : Device) (layers : List Nat) (old : List Rect) :
    (d.layTear layers old).modeView = d.modeView := by
  unfold Device.layTear
  dsimp only
  split <;> simp

@[simp] theorem layPlace_modeView (d : Device) (m i : Nat) (size : Bool) (v : Nat) :
    (d.layPlace m i size v).modeView = d.modeView := by
  unfold Device.layPlace
  split <;> simp

@[simp] theorem layEnable_modeView (d : Device) (m v : Nat) : (d.layEnable m v).modeView = d.modeView := by
  simp [Device.layEnable]

@[simp] theorem execLayerEnableWrite_keepsView (m : Master) (val : Nat) : KeepsView (execLayerEnableWrite m val) :=
  keepsView_run fun d => by simp

@[simp] theorem layHold_modeView (d : Device) (m off v : Nat) : (d.layHold m off v).modeView = d.modeView := by
  simp [Device.layHold]

@[simp] theorem execHeldWrite_keepsView (m : Master) (order : Bool) (val : Nat) :
    KeepsView (execHeldWrite m order val) :=
  keepsView_run fun d => by simp

@[simp] theorem layOrder_modeView (d : Device) (m v : Nat) : (d.layOrder m v).modeView = d.modeView := by
  simp [Device.layOrder]

@[simp] theorem execZorderApply_keepsView (m : Master) (val : Nat) : KeepsView (execZorderApply m val) :=
  keepsView_run fun d => by simp

@[simp] theorem palWrite_modeView (d : Device) (m v : Nat) : (d.palWrite m v).modeView = d.modeView := by
  simp [Device.palWrite]

@[simp] theorem execPaletteWrite_keepsView (m : Master) (val : Nat) : KeepsView (execPaletteWrite m val) :=
  keepsView_run fun d => by simp

@[simp] theorem liveWrite_modeView (d : Device) (m off v : Nat) : (d.liveWrite m off v).modeView = d.modeView := by
  unfold Device.liveWrite
  split
  next ht => exact tmgWrite_modeView d m off v fun h => glbMode_not_mem_tmgLive (h ▸ List.contains_iff_mem.mp ht)
  next => repeat' split
          all_goals simp

@[simp] theorem execLiveWrite_keepsView (m : Master) (off val : Nat) : KeepsView (execLiveWrite m off val) :=
  keepsView_run fun d => by simp

@[simp] theorem refSync_modeView (d : Device) : d.refSync.modeView = d.modeView := by
  simp [Device.refSync]

@[simp] theorem laySrc_modeView (d : Device) (m i v : Nat) : (d.laySrc m i v).modeView = d.modeView := by
  simp [Device.laySrc]

@[simp] theorem execLayerBufferRelease_keepsView (h : Fin 64) : KeepsView (execLayerBufferRelease h) :=
  keepsView_run fun d => by simp

@[simp] theorem poolSync_modeView (d : Device) : d.poolSync.modeView = d.modeView := by
  simp [Device.poolSync]

@[simp] theorem bufResult_modeView (d : Device) (m err : Nat) : (d.bufResult m err).modeView = d.modeView := by
  simp [Device.bufResult]

@[simp] theorem bufCmd_modeView (d : Device) (m : Nat) (checks : List (Bool × Nat)) (f : Device → Device)
    (h : ∀ d, (f d).modeView = d.modeView) : (d.bufCmd m checks f).modeView = d.modeView := by
  unfold Device.bufCmd
  repeat' split
  all_goals simp [h]

@[simp] theorem bufAlloc_modeView (d : Device) (m n : Nat) : (d.bufAlloc m n).modeView = d.modeView := by
  simp [Device.bufAlloc]

@[simp] theorem bufFree_modeView (d : Device) (m h : Nat) : (d.bufFree m h).modeView = d.modeView := by
  simp [Device.bufFree]

@[simp] theorem execLayerAllocate_keepsView (m : Master) (granules : Nat) : KeepsView (execLayerAllocate m granules) :=
  keepsView_run fun d => by simp

@[simp] theorem execLayerFree_keepsView (m : Master) (h : Fin 64) : KeepsView (execLayerFree m h) :=
  keepsView_run fun d => by simp

@[simp] theorem layBufCmd_modeView (d : Device) (m v : Nat) : (d.layBufCmd m v).modeView = d.modeView := by
  unfold Device.layBufCmd
  split <;> simp

@[simp] theorem layFrame_modeView (d : Device) : d.layFrame.modeView = d.modeView := by
  simp [Device.layFrame]

/-! ## Tap -/

@[simp] theorem tapDark_modeView (d : Device) : d.tapDark.modeView = d.modeView := by
  simp [Device.tapDark]

@[simp] theorem tapDown_modeView (d : Device) : d.tapDown.modeView = d.modeView := by
  simp [Device.tapDown]

@[simp] theorem tapTrain_modeView (d : Device) : d.tapTrain.modeView = d.modeView := by
  simp [Device.tapTrain]

@[simp] theorem tapRetrain_modeView (d : Device) : d.tapRetrain.modeView = d.modeView := by
  simp [Device.tapRetrain]

@[simp] theorem tapRelease_modeView (d : Device) : d.tapRelease.modeView = d.modeView := by
  simp [Device.tapRelease]

@[simp] theorem tapFrame_modeView (d : Device) (p : Nat) (f : VideoFormat) (ns : Nat) :
    (d.tapFrame p f ns).modeView = d.modeView := by
  unfold Device.tapFrame
  split <;> simp

@[simp] theorem tapStreamEnd_modeView (d : Device) (p : Nat) : (d.tapStreamEnd p).modeView = d.modeView := by
  simp [Device.tapStreamEnd]

@[simp] theorem tapReplay_modeView (d : Device) (p : Nat) (b : Bool) : (d.tapReplay p b).modeView = d.modeView := by
  simp [Device.tapReplay]

@[simp] theorem tapCtrl_modeView (d : Device) (m v : Nat) : (d.tapCtrl m v).modeView = d.modeView := by
  unfold Device.tapCtrl
  dsimp only
  split <;> simp

@[simp] theorem execTapEnable_keepsView (m : Master) (val : Nat) : KeepsView (execTapEnable m val) :=
  keepsView_run fun d => by simp

@[simp] theorem execTapDisable_keepsView (m : Master) (val : Nat) : KeepsView (execTapDisable m val) :=
  keepsView_run fun d => by simp

@[simp] theorem execTapSrcChange_keepsView (m : Master) (src : Port) : KeepsView (execTapSrcChange m src) :=
  keepsView_run fun d => by simp

@[simp] theorem execTapLinkParamChange_keepsView (m : Master) (rate lanes ssc : Nat) :
    KeepsView (execTapLinkParamChange m rate lanes ssc) :=
  keepsView_run fun d => by simp

@[simp] theorem execTapDownstreamHpd_keepsView (level : Bool) (rate lanes : Nat) :
    KeepsView (execTapDownstreamHpd level rate lanes) :=
  keepsView_run fun d => by simp

@[simp] theorem auxCmd_modeView (d : Device) (m v : Nat) : (d.auxCmd m v).modeView = d.modeView := by
  unfold Device.auxCmd
  dsimp only
  split <;> simp

@[simp] theorem execTapAuxNativeRead_keepsView (m : Master) (addr : Nat) (len : Fin 16) :
    KeepsView (execTapAuxNativeRead m addr len) :=
  keepsView_run fun d => by simp

@[simp] theorem execTapAuxNativeWrite_keepsView (m : Master) (addr : Nat) (len : Fin 16) :
    KeepsView (execTapAuxNativeWrite m addr len) :=
  keepsView_run fun d => by simp

@[simp] theorem execTapAuxI2cRead_keepsView (m : Master) (addr : Nat) (len : Fin 16) :
    KeepsView (execTapAuxI2cRead m addr len) :=
  keepsView_run fun d => by simp

@[simp] theorem execTapAuxI2cWrite_keepsView (m : Master) (addr : Nat) (len : Fin 16) :
    KeepsView (execTapAuxI2cWrite m addr len) :=
  keepsView_run fun d => by simp

@[simp] theorem auxEnd_modeView (d : Device) (reply : Nat) : (d.auxEnd reply).modeView = d.modeView := by
  simp [Device.auxEnd]

@[simp] theorem execTapAuxReply_keepsView (r : AuxReply) (data : List Nat) : KeepsView (execTapAuxReply r data) :=
  keepsView_run fun d => by
    repeat' split
    all_goals simp

@[simp] theorem execTapAuxTimeout_keepsView : KeepsView execTapAuxTimeout :=
  keepsView_run fun d => by simp

/-! ## Ports -/

@[simp] theorem setPort_modeView (d : Device) (p : Nat) (x : PortX) : (d.setPort p x).modeView = d.modeView := by
  simp [Device.setPort]

@[simp] theorem hpdSync_modeView (d : Device) : d.hpdSync.modeView = d.modeView := by
  simp [Device.hpdSync]

@[simp] theorem hpdPulse_modeView (d : Device) (p : Nat) : (d.hpdPulse p).modeView = d.modeView := by
  simp [Device.hpdPulse]

@[simp] theorem validSync_modeView (d : Device) : d.validSync.modeView = d.modeView := by
  simp [Device.validSync]

@[simp] theorem portCut_modeView (d : Device) (p : Nat) : (d.portCut p).modeView = d.modeView := by
  unfold Device.portCut
  split <;> simp

@[simp] theorem setValid_modeView (d : Device) (p : Nat) (b : Bool) : (d.setValid p b).modeView = d.modeView := by
  simp [Device.setValid]

@[simp] theorem streamEnd_modeView (d : Device) (p : Nat) : (d.streamEnd p).modeView = d.modeView := by
  simp [Device.streamEnd]

@[simp] theorem portDrop_modeView (d : Device) (p : Nat) : (d.portDrop p).modeView = d.modeView := by
  simp [Device.portDrop]

@[simp] theorem dprxCtrl_modeView (d : Device) (m p v : Nat) : (d.dprxCtrl m p v).modeView = d.modeView := by
  simp [Device.dprxCtrl]

@[simp] theorem execDprxCapChange_keepsView (m : Master) (p : Port) (val : Nat) :
    KeepsView (execDprxCapChange m p val) :=
  keepsView_run fun d => by simp

@[simp] theorem execHpdEnableClear_keepsView (m : Master) (p : Port) (val : Nat) :
    KeepsView (execHpdEnableClear m p val) :=
  keepsView_run fun d => by simp

@[simp] theorem execHpdPulseEnd_keepsView (p : Port) : KeepsView (execHpdPulseEnd p) :=
  keepsView_run fun d => by simp

@[simp] theorem execDprxLinkLock_keepsView (p : Port) (rate lanes : Nat) (tie : Bool) :
    KeepsView (execDprxLinkLock p rate lanes tie) :=
  keepsView_run fun d => by simp

@[simp] theorem execDprxLockLoss_keepsView (p : Port) : KeepsView (execDprxLockLoss p) :=
  keepsView_run fun d => by simp

@[simp] theorem execDprxRelockTimeout_keepsView (p : Port) : KeepsView (execDprxRelockTimeout p) :=
  keepsView_run fun d => by simp

@[simp] theorem execVideoStreamLoss_keepsView (p : Port) : KeepsView (execVideoStreamLoss p) :=
  keepsView_run fun d => by simp

@[simp] theorem skipFrame_modeView (d : Device) (n : Nat) : (d.skipFrame n).modeView = d.modeView := by
  simp [Device.skipFrame]

@[simp] theorem rasterLock_modeView (d : Device) (lineHz : Nat) : (d.rasterLock lineHz).modeView = d.modeView := by
  simp [Device.rasterLock]

@[simp] theorem latchFormat_modeView (d : Device) (p : Nat) (f : VideoFormat) (since skew : Nat) :
    (d.latchFormat p f since skew).modeView = d.modeView := by
  simp [Device.latchFormat]

@[simp] theorem execDprxFrameStart_keepsView (p : Port) (f : VideoFormat) (since skew lineHz : Nat) :
    KeepsView (execDprxFrameStart p f since skew lineHz) :=
  keepsView_run fun d => by simp

@[simp] theorem setStripe_modeView (d : Device) (s : Nat) (x : StripeX) : (d.setStripe s x).modeView = d.modeView := by
  simp [Device.setStripe]

@[simp] theorem abandon_modeView (d : Device) (s f : Nat) : (d.abandon s f).modeView = d.modeView := by
  induction f generalizing d with
  | zero => rfl
  | succ f ih =>
    unfold Device.abandon
    split
    · rfl
    · simp [ih]

@[simp] theorem setTile_modeView (d : Device) (t : Nat) (x : TileX) : (d.setTile t x).modeView = d.modeView := by
  simp [Device.setTile]

@[simp] theorem edidCommit_modeView (d : Device) (m p : Nat) : (d.edidCommit m p).modeView = d.modeView := by
  unfold Device.edidCommit
  repeat' split
  all_goals simp

@[simp] theorem execEdidCommit_keepsView (m : Master) (p : Port) : KeepsView (execEdidCommit m p) :=
  keepsView_run fun d => by simp

@[simp] theorem execEdidCommitDone_keepsView (p : Port) : KeepsView (execEdidCommitDone p) :=
  keepsView_run fun d => by simp

@[simp] theorem execDprxAuxRead_keepsView (p : Port) (off n : Nat) : KeepsView (execDprxAuxRead p off n) :=
  keepsView_run fun d => by simp

@[simp] theorem tapLoop_modeView (d : Device) (m v : Nat) (errs : List Nat) :
    (d.tapLoop m v errs).modeView = d.modeView := by
  simp [Device.tapLoop]

@[simp] theorem execLoopbackStart_keepsView (m : Master) (rate : Nat) : KeepsView (execLoopbackStart m rate) :=
  keepsView_run fun d => by simp

@[simp] theorem execLoopbackStop_keepsView (m : Master) (errs : List Nat) : KeepsView (execLoopbackStop m errs) :=
  keepsView_run fun d => by simp

/-! ## Tiles -/

@[simp] theorem knotWrite_modeView (d : Device) (m v : Nat) : (d.knotWrite m v).modeView = d.modeView := by
  simp [Device.knotWrite]

@[simp] theorem execKnotWrite_keepsView (m : Master) (val : Nat) : KeepsView (execKnotWrite m val) :=
  keepsView_run fun d => by simp

@[simp] theorem gridWrite_modeView (d : Device) (m k v : Nat) : (d.gridWrite m k v).modeView = d.modeView := by
  simp [Device.gridWrite]

@[simp] theorem execGridWrite_keepsView (m : Master) (k : Fin 144) (val : Nat) : KeepsView (execGridWrite m k val) :=
  keepsView_run fun d => by simp

@[simp] theorem kickCmd_modeView (d : Device) (m v : Nat) : (d.kickCmd m v).modeView = d.modeView := by
  simp [Device.kickCmd]

@[simp] theorem execKickRetarget_keepsView (m : Master) : KeepsView (execKickRetarget m) :=
  keepsView_run fun d => by simp

@[simp] theorem execKickSettle_keepsView (m : Master) : KeepsView (execKickSettle m) :=
  keepsView_run fun d => by simp

@[simp] theorem execKickFreeze_keepsView (m : Master) : KeepsView (execKickFreeze m) :=
  keepsView_run fun d => by simp

@[simp] theorem execKickUnfreeze_keepsView (m : Master) : KeepsView (execKickUnfreeze m) :=
  keepsView_run fun d => by simp

@[simp] theorem tileSettle_modeView (d : Device) (t : Nat) : (d.tileSettle t).modeView = d.modeView := by
  simp [Device.tileSettle]

@[simp] theorem trnStat_modeView (d : Device) : d.trnStat.modeView = d.modeView := by
  simp [Device.trnStat]

@[simp] theorem trnSuspended_modeView (d : Device) : d.trnSuspended.modeView = d.modeView := by
  simp [Device.trnSuspended]

@[simp] theorem tilesFinal_modeView (d : Device) : d.tilesFinal.modeView = d.modeView := by
  simp [Device.tilesFinal]

/-! ## Maps -/

@[simp] theorem adoptDefects_modeView (d : Device) (p : DefectMap) : (d.adoptDefects p).modeView = d.modeView := by
  simp [Device.adoptDefects]

@[simp] theorem defectsFrame_modeView (d : Device) : d.defectsFrame.modeView = d.modeView := by
  unfold Device.defectsFrame
  split <;> simp

@[simp] theorem knotLoad_modeView (d : Device) (bs : List Nat) : (d.knotLoad bs).modeView = d.modeView := by
  simp [Device.knotLoad]

@[simp] theorem mapSpoil_modeView (d : Device) (t : Nat) : (d.mapSpoil t).modeView = d.modeView := by
  unfold Device.mapSpoil
  split <;> simp

@[simp] theorem mapCmd_modeView (d : Device) (m v : Nat) : (d.mapCmd m v).modeView = d.modeView := by
  unfold Device.mapCmd
  dsimp only
  split <;> simp

@[simp] theorem execMapLoad_keepsView (m : Master) (t : Fin 4) : KeepsView (execMapLoad m t) :=
  keepsView_run fun d => by simp

@[simp] theorem execMapCheckAdopt_keepsView (m : Master) (t : Fin 4) : KeepsView (execMapCheckAdopt m t) :=
  keepsView_run fun d => by simp

/-! ## Frame -/

@[simp] theorem sendLine_modeView (d : Device) (s y : Nat) (hold zero : Bool) (codes : List Nat) :
    (d.sendLine s y hold zero codes).modeView = d.modeView := by
  simp [Device.sendLine]

/-! ## Survey -/

@[simp] theorem senseSync_modeView (d : Device) : d.senseSync.modeView = d.modeView := by
  simp [Device.senseSync]

@[simp] theorem sweepRing_modeView (d : Device) : d.sweepRing.modeView = d.modeView := by
  simp [Device.sweepRing]

@[simp] theorem srvCtrl_modeView (d : Device) (m v : Nat) : (d.srvCtrl m v).modeView = d.modeView := by
  simp [Device.srvCtrl]

@[simp] theorem execSensingEnable_keepsView (m : Master) (val : Nat) : KeepsView (execSensingEnable m val) :=
  keepsView_run fun d => by simp

@[simp] theorem execSenseTimerExpire_keepsView : KeepsView execSenseTimerExpire :=
  keepsView_run fun d => by simp

@[simp] theorem senseStart_modeView (d : Device) (r l : Nat) (again loupe : Bool) :
    (d.senseStart r l again loupe).modeView = d.modeView := by
  simp [Device.senseStart]

@[simp] theorem senseNoRoom_modeView (d : Device) : d.senseNoRoom.modeView = d.modeView := by
  unfold Device.senseNoRoom
  split <;> simp

@[simp] theorem execSenseOpStart_keepsView : KeepsView execSenseOpStart :=
  keepsView_run fun d => by
    dsimp only
    repeat' split
    all_goals simp

@[simp] theorem sweepEnd_modeView (d : Device) : d.sweepEnd.modeView = d.modeView := by
  simp [Device.sweepEnd]

@[simp] theorem rampLearn_modeView (d : Device) : d.rampLearn.modeView = d.modeView := by
  simp [Device.rampLearn]

@[simp] theorem rampFrame_modeView (d : Device) : d.rampFrame.modeView = d.modeView := by
  unfold Device.rampFrame
  repeat' split
  all_goals simp

@[simp] theorem srvBusy_modeView (d : Device) (m op types : Nat) : (d.srvBusy m op types).modeView = d.modeView := by
  simp [Device.srvBusy]

@[simp] theorem srvDone_modeView (d : Device) (op err : Nat) : (d.srvDone op err).modeView = d.modeView := by
  simp [Device.srvDone]

@[simp] theorem calSync_modeView (d : Device) : d.calSync.modeView = d.modeView := by
  simp [Device.calSync]

@[simp] theorem calibrate_modeView (d : Device) (version : Nat) (late : Bool) :
    (d.calibrate version late).modeView = d.modeView := by
  simp [Device.calibrate]

@[simp] theorem indexSave_modeView (d : Device) (es : List (Nat × MapEntry)) :
    (d.indexSave es).modeView = d.modeView := by
  simp [Device.indexSave]

/-! ## Scan -/

@[simp] theorem winTake_modeView (d : Device) (w s y : Nat) (bs : List Nat) (replayed : Bool) :
    (d.winTake w s y bs replayed).modeView = d.modeView := by
  simp [Device.winTake]

@[simp] theorem tapsPass_modeView (d : Device) (s y : Nat) (a : RowAcc) : (d.tapsPass s y a).modeView = d.modeView := by
  simp [Device.tapsPass]

@[simp] theorem tapSent_modeView (d : Device) (s y : Nat) (codes : List Nat) (replayed : Bool) :
    (d.tapSent s y codes replayed).modeView = d.modeView := by
  simp [Device.tapSent]

@[simp] theorem gateLine_modeView (d : Device) (g : Nat) : (d.gateLine g).modeView = d.modeView := by
  unfold Device.gateLine
  dsimp only
  split <;> simp

@[simp] theorem tileEvidence_modeView (d : Device) (s y : Nat) (px : List (Pix × Nat × Bool)) :
    (d.tileEvidence s y px).modeView = d.modeView :=
  foldl_modeView _ _ _ fun d e => by simp

@[simp] theorem execCreditReturn_keepsView (t : Lane) (j : Fin 14) : KeepsView (execCreditReturn t j) :=
  keepsView_run fun d => by simp

/-! ## Raster -/

@[simp] theorem stressFactors_modeView (d : Device) : d.stressFactors.modeView = d.modeView := by
  simp [Device.stressFactors]

@[simp] theorem chkFrame_modeView (d : Device) (noIn : Bool) : (d.chkFrame noIn).modeView = d.modeView := by
  simp [Device.chkFrame]

@[simp] theorem winRecord_modeView (d : Device) (frame : Nat) (e : DueWin) :
    (d.winRecord frame e).modeView = d.modeView := by
  simp [Device.winRecord]

@[simp] theorem chkCtrl_modeView (d : Device) (m w v : Nat) : (d.chkCtrl m w v).modeView = d.modeView := by
  simp [Device.chkCtrl]

theorem chkRect_modeView (d : Device) (m off v limit : Nat) (h : GLB_MODE ≠ off) :
    (d.chkRect m off v limit).modeView = d.modeView := by
  simp [Device.chkRect, h]

@[simp] theorem execChkLearn_keepsView (m : Master) (w : Fin 64) (val : Nat) : KeepsView (execChkLearn m w val) :=
  keepsView_run fun d => by simp

@[simp] theorem avCount_modeView (d : Device) (bits : Nat) : (d.avCount bits).modeView = d.modeView := by
  simp [Device.avCount]

@[simp] theorem avFrame_modeView (d : Device) (noIn : Bool) : (d.avFrame noIn).modeView = d.modeView := by
  simp [Device.avFrame]

@[simp] theorem parkFrame_modeView (d : Device) : d.parkFrame.modeView = d.modeView := by
  simp [Device.parkFrame]

@[simp] theorem recoveryFrame_modeView (d : Device) : d.recoveryFrame.modeView = d.modeView := by
  unfold Device.recoveryFrame
  split <;> simp

@[simp] theorem noinFrame_modeView (d : Device) : d.noinFrame.modeView = d.modeView := by
  simp [Device.noinFrame]

@[simp] theorem portTaken_modeView (d : Device) (p : Nat) : (d.portTaken p).modeView = d.modeView := by
  simp [Device.portTaken]

@[simp] theorem execNoinHoldExpire_keepsView (e : Fin 5) : KeepsView (execNoinHoldExpire e) :=
  keepsView_run fun d => by simp

@[simp] theorem drivenFlip_modeView (d : Device) : d.drivenFlip.modeView = d.modeView := by
  simp [Device.drivenFlip]

@[simp] theorem frameLatch_modeView (d : Device) : d.frameLatch.modeView = d.modeView := by
  simp [Device.frameLatch]

@[simp] theorem frameCounts_modeView (d : Device) : d.frameCounts.modeView = d.modeView := by
  simp [Device.frameCounts]

@[simp] theorem scanWrite_modeView (d : Device) (m v : Nat) : (d.scanWrite m v).modeView = d.modeView := by
  unfold Device.scanWrite
  dsimp only
  split <;> simp

@[simp] theorem execScanRun_keepsView (m : Master) : KeepsView (execScanRun m) :=
  keepsView_run fun d => by simp

@[simp] theorem execScanStop_keepsView (m : Master) : KeepsView (execScanStop m) :=
  keepsView_run fun d => by simp

@[simp] theorem testWrite_modeView (d : Device) (m v : Nat) : (d.testWrite m v).modeView = d.modeView := by
  simp [Device.testWrite]

@[simp] theorem execTestRasterWrite_keepsView (m : Master) (val : Nat) : KeepsView (execTestRasterWrite m val) :=
  keepsView_run fun d => by simp

@[simp] theorem poolWrite_modeView (d : Device) (m v : Nat) : (d.poolWrite m v).modeView = d.modeView := by
  simp [Device.poolWrite]

@[simp] theorem execPoolClaim_keepsView (m : Master) (val : Nat) : KeepsView (execPoolClaim m val) :=
  keepsView_run fun d => by simp

@[simp] theorem execPoolRelease_keepsView (m : Master) : KeepsView (execPoolRelease m) :=
  keepsView_run fun d => by simp

/-! ## FltCmds -/

@[simp] theorem execAccountingFlush_keepsView : KeepsView execAccountingFlush :=
  keepsView_run fun d => by simp

/-! ## SegCmds -/

@[simp] theorem wideClaim_modeView (d : Device) (m : Nat) : (d.wideClaim m).modeView = d.modeView := by
  simp [Device.wideClaim]

@[simp] theorem wideBoot_modeView (d : Device) : d.wideBoot.modeView = d.modeView := by
  simp [Device.wideBoot]

@[simp] theorem execSegFrameStart_keepsView : KeepsView execSegFrameStart :=
  keepsView_run fun d => by simp

@[simp] theorem execSegBlinkToggle_keepsView (ram : Bool) : KeepsView (execSegBlinkToggle ram) :=
  keepsView_run fun d => by simp

@[simp] theorem segCfg_modeView (d : Device) (m v : Nat) : (d.segCfg m v).modeView = d.modeView := by
  unfold Device.segCfg
  dsimp only
  split <;> simp

@[simp] theorem execSegWideSet_keepsView (m : Master) (val : Nat) : KeepsView (execSegWideSet m val) :=
  keepsView_run fun d => by simp

@[simp] theorem execSegWideClear_keepsView (m : Master) (val : Nat) : KeepsView (execSegWideClear m val) :=
  keepsView_run fun d => by simp

/-! ## Boot -/

@[simp] theorem bootShow_modeView (d : Device) : d.bootShow.modeView = d.modeView := by
  unfold Device.bootShow
  repeat' split
  all_goals simp

@[simp] theorem banksBegin_modeView (d : Device) : d.banksBegin.modeView = d.modeView := by
  simp [Device.banksBegin]

@[simp] theorem retire_modeView (d : Device) (failing : List Nat) (f : Nat) :
    (d.retire failing f).1.modeView = d.modeView := by
  unfold Device.retire
  split <;> simp

theorem bootRaster_modeView {d e : Device} (h : d.bootRaster = some e) : e.modeView = d.modeView := by
  unfold Device.bootRaster at h
  dsimp only at h
  split at h
  · cases h; simp
  · split at h
    · cases h
    · cases h; simp

theorem bootAdopt_modeView {d e : Device} (h : d.bootAdopt = .ok e) : e.modeView = d.modeView := by
  unfold Device.bootAdopt at h
  split at h
  · cases h
  next r hr =>
    dsimp only at h
    split at h
    · cases h
    · split at h
      · cases h; rw [placeActive_modeView, bootRaster_modeView hr]
      · cases h

theorem bootImage_modeView {d e : Device} {slot : Nat} (h : d.bootImage slot = .ok e) : e.modeView = d.modeView := by
  unfold Device.bootImage at h
  dsimp only at h
  split at h
  · cases h
  next hc =>
    rw [bootAdopt_modeView h]
    have hp := eachOf_presets_modeView (f := fun e d => (d.wr e.1 e.2).wrF e.1 e.2) (presets_mem_msRegs hc)
      fun e d he => by simp [he]
    simp [hp]

theorem bootMirror_modeView {d e : Device} (h : d.bootMirror = .ok e) : e.modeView = d.modeView := by
  unfold Device.bootMirror at h
  rw [bootAdopt_modeView h]
  simp

@[simp] theorem bootImgFail_modeView (d : Device) (f : ImgFail) : (d.bootImgFail f).modeView = d.modeView := by
  simp [Device.bootImgFail]

@[simp] theorem bootCalibrate_modeView (d : Device) : d.bootCalibrate.modeView = d.modeView := by
  unfold Device.bootCalibrate
  split <;> simp

@[simp] theorem bootCores_modeView (d : Device) : d.bootCores.modeView = d.modeView :=
  eachOf_modeView _ _ _ fun k d => by split <;> simp

@[simp] theorem recallPages_modeView (d : Device) : d.recallPages.modeView = d.modeView := by
  simp [Device.recallPages]

@[simp] theorem recallPasswords_modeView (d : Device) : d.recallPasswords.modeView = d.modeView := by
  unfold Device.recallPasswords
  split <;> simp

@[simp] theorem recallRegs_modeView (d : Device) : d.recallRegs.modeView = d.modeView := by
  have hne : ∀ i, GLB_MODE ≠ recordRegs.getD i 0 := fun i h => by
    rcases Nat.lt_or_ge i recordRegs.length with hi | hi
    · rw [List.getD_eq_getElem _ _ hi] at h
      exact glbMode_not_mem_recordRegs (h ▸ List.getElem_mem hi)
    · rw [List.getD_eq_default _ _ hi] at h
      cases h
  unfold Device.recallRegs
  split
  · rfl
  · refine eachOf_modeView _ _ _ fun i d => ?_
    dsimp only
    split
    · rw [wr_modeView, if_neg (hne i)]
    · rfl

@[simp] theorem recallEdid_modeView (d : Device) (p : Nat) : (d.recallEdid p).modeView = d.modeView := by
  unfold Device.recallEdid
  split <;> simp

@[simp] theorem recallLog_modeView (d : Device) : d.recallLog.modeView = d.modeView := by
  unfold Device.recallLog
  dsimp only
  split <;> simp

@[simp] theorem recallCounts_modeView (d : Device) (kept wake : Bool) :
    (d.recallCounts kept wake).modeView = d.modeView := by
  unfold Device.recallCounts
  dsimp only
  split <;> simp

@[simp] theorem recallLoad_modeView (d : Device) : d.recallLoad.modeView = d.modeView := by
  unfold Device.recallLoad
  extract_lets e1 e2 e3 cfg e4 cause
  have h1 : e1.modeView = d.modeView := eachOf_modeView _ _ _ fun id d => by split <;> simp
  simp [e4, e3, e2, h1]

/-! ## Modes -/

@[simp] theorem scanBegin_modeView (d : Device) : d.scanBegin.modeView = d.modeView := by
  simp [Device.scanBegin]

@[simp] theorem loupeDrop_modeView (d : Device) : d.loupeDrop.modeView = d.modeView := by
  simp [Device.loupeDrop]

@[simp] theorem enterLive_modeView (d : Device) (prev : Nat) : (d.enterLive prev).modeView = d.modeView := by
  unfold Device.enterLive
  split <;> simp

@[simp] theorem islandWake_modeView (d : Device) (cause : Nat) : (d.islandWake cause).modeView = d.modeView := by
  unfold Device.islandWake
  split <;> simp

@[simp] theorem wakeBy_modeView (d : Device) (latch : WakeLatch → WakeLatch) (cause : Nat) :
    (d.wakeBy latch cause).modeView = d.modeView := by
  simp [Device.wakeBy]

@[simp] theorem execSupplyApplied_keepsView : KeepsView execSupplyApplied :=
  keepsView_run fun d => by simp

@[simp] theorem execWakePin_keepsView (pin : Fin 2) (ns : Nat) : KeepsView (execWakePin pin ns) :=
  keepsView_run fun d => by simp

@[simp] theorem execWakeAlarm_keepsView : KeepsView execWakeAlarm :=
  keepsView_run fun d => by simp

@[simp] theorem execPwrupHoldExpire_keepsView : KeepsView execPwrupHoldExpire :=
  keepsView_run fun d => by
    dsimp only
    repeat' split
    all_goals simp

@[simp] theorem execKRegisterSave_keepsView : KeepsView execKRegisterSave :=
  keepsView_run fun d => by simp

/-! ## RegRead -/

/-- GLB_MODE is read-only: its three bits neither take a value nor clear. -/
def glbModeRow : RegRow := ⟨GLB_MODE, 1, 4, 1, 4, 0, 0, 0, 0, 7, .imm, 1⟩

theorem regAt_GLB_MODE : regAt GLB_MODE = some (glbModeRow, 0, 0) := by decide +kernel

/-- The row at an offset is GLB_MODE's where the offset is GLB_MODE. -/
theorem row_of_glbMode {off i j : Nat} {r : RegRow} (h : regAt off = some (r, i, j)) (ho : GLB_MODE = off) :
    r = glbModeRow := by
  subst ho
  rw [regAt_GLB_MODE] at h
  cases h; rfl

theorem readPlain_modeView (d : Device) (m off : Nat) (r : RegRow) (h : GLB_MODE = off → r = glbModeRow) :
    (d.readPlain m off r).modeView = d.modeView := by
  unfold Device.readPlain
  split
  · simp
  · dsimp only
    split
    · simp
    next hrc =>
      have hne : GLB_MODE ≠ off := fun ho => hrc (by rw [h ho]; rfl)
      simp [hne]

@[simp] theorem readDirect_modeView (d : Device) (m : Master) (off : Nat) :
    (d.readDirect m off).modeView = d.modeView := by
  unfold Device.readDirect
  split
  · simp
  next r i j hr =>
    repeat' split
    case isFalse.isFalse.isFalse.isFalse.isFalse.isFalse => exact readPlain_modeView _ _ _ _ (row_of_glbMode hr)
    all_goals simp

@[simp] theorem readActive_modeView (d : Device) (m : Master) : (d.readActive m).modeView = d.modeView := by
  simp [Device.readActive]

@[simp] theorem readAt_modeView (d : Device) (m : Master) (off : Nat) : (d.readAt m off).modeView = d.modeView := by
  simp [Device.readAt]

/-! ## RegWrite -/

@[simp] theorem hvpCmd_modeView (d : Device) (m : Master) (v : Nat) : (d.hvpCmd m v).modeView = d.modeView := by
  unfold Device.hvpCmd
  split <;> simp

@[simp] theorem aclCmd_modeView (d : Device) (m : Master) (v : Nat) : (d.aclCmd m v).modeView = d.modeView := by
  unfold Device.aclCmd
  dsimp only
  repeat' split
  all_goals simp

@[simp] theorem marchCmd_modeView (d : Device) (m : Master) (v : Nat) : (d.marchCmd m v).modeView = d.modeView := by
  unfold Device.marchCmd
  split <;> simp

@[simp] theorem keepCmd_modeView (d : Device) (m : Master) (v : Nat) : (d.keepCmd m v).modeView = d.modeView := by
  unfold Device.keepCmd
  split <;> simp

@[simp] theorem keepRecCmd_modeView (d : Device) (m : Master) (v : Nat) : (d.keepRecCmd m v).modeView = d.modeView := by
  unfold Device.keepRecCmd
  split <;> simp

@[simp] theorem keepCtrCmd_modeView (d : Device) (m : Master) (v : Nat) : (d.keepCtrCmd m v).modeView = d.modeView := by
  unfold Device.keepCtrCmd
  split <;> simp

@[simp] theorem dmaCmd_modeView (d : Device) (m v : Nat) : (d.dmaCmd m v).modeView = d.modeView := by
  unfold Device.dmaCmd
  split <;> simp

@[simp] theorem bitCmd_modeView (d : Device) (m off v mask : Nat) (f : Device → Device) :
    (d.bitCmd m off v mask f).modeView = if v.testBit 0 = true then (f d).modeView else d.modeView := by
  unfold Device.bitCmd
  split <;> simp
/-- A plain write leaves GLB_MODE as it was. -/
theorem written_glbMode (old v : Nat) (h : old < 2 ^ 32) : glbModeRow.written old v = old := by
  simpa [RegRow.written, glbModeRow] using maskOut_zero h

/-- A register written with what it holds keeps the view. -/
theorem wr_rd_modeView (d : Device) (off : Nat) : (d.wr off (d.rd off)).modeView = d.modeView := by
  rw [wr_modeView]
  split
  next h => subst h; rw [Nat.mod_eq_of_lt (d.rd_lt _)]; rfl
  next => rfl

theorem wr_written_modeView (d : Device) (off v : Nat) (r : RegRow) (h : GLB_MODE = off → r = glbModeRow) :
    (d.wr off (r.written (d.rd off) v)).modeView = d.modeView := by
  by_cases ho : GLB_MODE = off
  · rw [h ho, written_glbMode _ _ (d.rd_lt _), wr_rd_modeView]
  · simp [ho]

theorem store_modeView (d : Device) (m off v : Nat) (r : RegRow) (i : Nat) (h : GLB_MODE = off → r = glbModeRow) :
    (d.store m off v r i).modeView = d.modeView := by
  have hw := wr_written_modeView d off v r h
  have hn : (if recordRegs.contains off || off = GLB_BOOT_CFG then (d.wr off (r.written (d.rd off) v)).kNote off
      else d.wr off (r.written (d.rd off) v)).modeView = d.modeView := by split <;> simp only [kNote_modeView, hw]
  unfold Device.store
  split
  · simp
  split
  · simp
  split
  · simp
  dsimp only
  split
  · rw [wrFrame_modeView, hw]
  generalize (if recordRegs.contains off || off = GLB_BOOT_CFG then (d.wr off (r.written (d.rd off) v)).kNote off
      else d.wr off (r.written (d.rd off) v)) = e at hn ⊢
  repeat' split
  all_goals simp [hn]

theorem writePlain_modeView (d : Device) (m off v : Nat) (r : RegRow) (i : Nat) (h : GLB_MODE = off → r = glbModeRow) :
    (d.writePlain m off v r i).modeView = d.modeView := by
  simp [Device.writePlain, store_modeView _ _ _ _ _ _ h]
/-- A joined write does what the register's own rule does, or rejects. -/
theorem writeJoined_legal {d : Device} {f : Device → Device} (m off v : Nat) (r : RegRow) (hd : d.modeView.legal)
    (hf : (f d).modeView.legal) : (d.writeJoined m off v r f).modeView.legal := by
  unfold Device.writeJoined
  split
  · exact hf
  · dsimp only
    split
    · exact hf
    · simpa using hd

/-! ## HostBus -/

@[simp] theorem hvPost_modeView (d : Device) (m off v : Nat) : (d.hvPost m off v).modeView = d.modeView := by
  simp [Device.hvPost]

@[simp] theorem execHvAccessUnstall_keepsView : KeepsView execHvAccessUnstall :=
  keepsView_run fun d => by
    repeat' split
    all_goals simp

@[simp] theorem spBusyOn_modeView (d : Device) : d.spBusyOn.modeView = d.modeView := by
  simp [Device.spBusyOn]

@[simp] theorem spReturn_modeView (d : Device) (off v : Nat) : (d.spReturn off v).modeView = d.modeView := by
  simp [Device.spReturn]

@[simp] theorem execSidePortReadReady_keepsView : KeepsView execSidePortReadReady :=
  keepsView_run fun d => by split <;> simp

/-! ## CoreExec -/

@[simp] theorem coreFault_modeView (d : Device) (k cause a : Nat) : (d.coreFault k cause a).modeView = d.modeView := by
  simp [Device.coreFault]

@[simp] theorem coreIllegal_modeView (d : Device) (k w : Nat) : (d.coreIllegal k w).modeView = d.modeView := by
  simp [Device.coreIllegal]

@[simp] theorem coreRetire_modeView (d : Device) (k rd : Nat) (v : Option Nat) (pc : Nat) :
    (d.coreRetire k rd v pc).modeView = d.modeView := by
  simp [Device.coreRetire]

@[simp] theorem coreWait_modeView (d : Device) (k pc : Nat) : (d.coreWait k pc).modeView = d.modeView := by
  simp [Device.coreWait]

@[simp] theorem coreFenceI_modeView (d : Device) (k pc : Nat) : (d.coreFenceI k pc).modeView = d.modeView := by
  simp [Device.coreFenceI]

@[simp] theorem coreCsr_modeView (d : Device) (k w : Nat) (x : CoreX) (next : Nat) :
    (d.coreCsr k w x next).modeView = d.modeView := by
  unfold Device.coreCsr
  dsimp only
  split <;> simp

@[simp] theorem coreMret_modeView (d : Device) (k : Nat) : (d.coreMret k).modeView = d.modeView := by
  simp [Device.coreMret]

@[simp] theorem coreSystem_modeView (d : Device) (k w : Nat) (x : CoreX) (next : Nat) :
    (d.coreSystem k w x next).modeView = d.modeView := by
  simp [Device.coreSystem]

@[simp] theorem coreCycles_modeView (d : Device) (k : Nat) : (d.coreCycles k).modeView = d.modeView := by
  simp [Device.coreCycles]

@[simp] theorem execCoreWfi_keepsView (k : CoreId) : KeepsView (execCoreWfi k) :=
  keepsView_run fun d => by simp

@[simp] theorem execFenceI_keepsView (k : CoreId) : KeepsView (execFenceI k) :=
  keepsView_run fun d => by simp

end Sys2Proof.Machine

namespace Sys2Proof.Machine

/-! # Operations that set the mode or a target

What `ModeView.legal` asks of a new mode, target or LOUPE mode, and the operations that enter a mode, lose power or go down. -/

/-! ## Views that stay legal -/

namespace ModeView
variable {v : ModeView}

@[simp] theorem legal_trans_none (h : v.legal) : legal ⟨v.mode, none, v.loupeFrom, v.op⟩ :=
  ⟨h.1, fun _ ht => (nomatch ht), h.2.2⟩

@[simp] theorem legal_trans_some {t : Trans} (h : v.legal) (ht : t.target < 6) :
    legal ⟨v.mode, some t, v.loupeFrom, v.op⟩ :=
  ⟨h.1, fun _ hs => (by cases hs; exact ht), h.2.2⟩

theorem legal_mode {n : Nat} (h : v.legal) (hn : n < 6) : legal ⟨n, v.trans, v.loupeFrom, v.op⟩ := ⟨hn, h.2⟩

@[simp] theorem legal_loupeFrom {n : Nat} (h : v.legal) (hn : n < 6) :
    legal ⟨v.mode, v.trans, n, v.op⟩ := ⟨h.1, h.2.1, hn, h.2.2.2⟩

@[simp] theorem legal_op_none (h : v.legal) : legal ⟨v.mode, v.trans, v.loupeFrom, none⟩ :=
  ⟨h.1, h.2.1, h.2.2.1, fun _ ho => (nomatch ho)⟩

@[simp] theorem legal_op_some {o : ImgOp} (h : v.legal) (ho : ∀ p, o.set = some p → ∀ e ∈ p.presets, e.1 ∈ msRegs) :
    legal ⟨v.mode, v.trans, v.loupeFrom, some o⟩ :=
  ⟨h.1, h.2.1, h.2.2.1, fun _ hs => (by cases hs; exact ho)⟩

end ModeView

/-- The mode as the field of GLB_MODE is the register where that is below 6. -/
theorem mode_lt {d : Device} (h : d.modeView.legal) : d.mode < 6 :=
  Nat.lt_of_le_of_lt (Nat.mod_le _ _) h.1

/-- The target of the transition in progress is one of the six modes. -/
theorem target_lt {d : Device} {t : Trans} (h : d.modeView.legal) (ht : d.trans = some t) : t.target < 6 := h.2.1 t ht

/-- So is the target of a transition that is due. -/
theorem transDue_lt {d : Device} {t : Trans} (h : d.modeView.legal) (ht : d.transDue = some t) : t.target < 6 := by
  unfold Device.transDue at ht
  split at ht
  next u hu =>
    split at ht
    · cases ht
      exact target_lt h hu
    · cases ht
  next => cases ht

/-- GLB_MODE.state set to one of the six modes. -/
theorem put_state_legal {d : Device} {m : Nat} (h : d.modeView.legal) (hm : m < 6) :
    (d.put GLB_MODE_state m).modeView.legal := by
  have hn : d.rd GLB_MODE < 6 := h.1
  have hs : setBits (d.rd GLB_MODE) 2 0 m % 2 ^ 32 < 6 := by unfold setBits; omega
  rw [put_modeView, if_pos rfl]
  exact ModeView.legal_mode h hs

/-- A fold whose step keeps the mode of the device legal, beside a value of its own. -/
theorem foldl_fst_legal {α β : Type} (l : List α) (f : Device × β → α → Device × β) (r : Device × β)
    (h : ∀ r a, r.1.modeView.legal → (f r a).1.modeView.legal) (hr : r.1.modeView.legal) : (l.foldl f r).1.modeView.legal := by
  induction l generalizing r with
  | nil => exact hr
  | cons a l ih => exact ih (f r a) (h r a hr)

/-- Where no check fails, each one passes. -/
theorem firstFail_false {l : List (Bool × Nat)} (h : firstFail l = none) : ∀ c ∈ l, c.1 = false := by
  have hs : ∀ (l : List (Bool × Nat)) (e : Nat), l.foldl (fun acc c => match acc with
      | none => some c.2
      | some e => if errRank c.2 < errRank e then some c.2 else acc) (some e) ≠ none := by
    intro l
    induction l with
    | nil => simp
    | cons c l ih =>
      intro e
      rw [List.foldl_cons]
      dsimp only
      split
      · exact ih _
      · exact ih _
  intro c hc
  cases hb : c.1 with
  | false => rfl
  | true =>
    have hm : c ∈ l.filter (fun c => c.1) := List.mem_filter.mpr ⟨hc, hb⟩
    unfold firstFail at h
    cases hl : l.filter (fun c => c.1) with
    | nil => rw [hl] at hm; cases hm
    | cons x xs => rw [hl] at h; exact absurd h (hs xs x.2)

/-! ## Entering a mode -/

@[simp] theorem setMode_legal {d : Device} {mode : Nat} (cause : Nat) (h : d.modeView.legal) (hm : mode < 6) :
    (d.setMode mode cause).modeView.legal := by
  unfold Device.setMode
  dsimp only
  rw [put_modeView, if_neg (by decide), put_modeView, if_neg (by decide)]
  refine put_state_legal ?_ hm
  simpa using h

@[simp] theorem newtEntry_legal {d : Device} (f : Flt) (code : Nat) (h : d.modeView.legal) :
    (d.newtEntry f code).modeView.legal := by
  unfold Device.newtEntry
  extract_lets prev e1 e2 e3 aborted l e4 e5 e6 recent fails noRegen b f1 e7 f2 e8 e9 e10 e11 e12 up e13 e14
  have h3 : e3.modeView.legal := by simp [e3, e2, e1, h]
  have h4 : e4.modeView.legal := ModeView.legal_trans_none h3
  clear_value e4
  have h5 : e5.modeView.legal := by
    simp only [e5]
    split <;> simp [h4]
  clear_value e5
  have h6 : e6.modeView.legal := setMode_legal _ h5 (by decide)
  clear_value e6
  have h10 : e10.modeView.legal := by simp [e10, e9, e8, e7, h6]
  clear_value e10
  have h11 : e11.modeView.legal := by
    simp only [e11]
    split <;> simp [h10]
  clear_value e11
  have h14 : e14.modeView.legal := by simp [e14, e13, e12, h11]
  split <;> simp [h14]

/-! ## Restarts and losses of power -/

/-- What is kept of GLB_MODE over a loss of the core die is what it was or its reset value. -/
theorem coreLost_legal (d : Device) (kept : Nat → Bool) (h : d.modeView.legal) : (d.coreLost kept).modeView.legal := by
  have hg : Sparse.get resetOf (d.regs.filter fun e => kept e.1) GLB_MODE =
      if kept GLB_MODE = false then resetOf GLB_MODE else Sparse.get resetOf d.regs GLB_MODE := by
    have := Sparse.get_dropWhere resetOf d.regs (fun k => !kept k) GLB_MODE
    simpa [Sparse.dropWhere] using this
  have hm : (d.coreLost kept).modeView = ⟨(Sparse.get resetOf (d.regs.filter fun e => kept e.1) GLB_MODE).toNat, none, 1, none⟩ := rfl
  have hr : (resetOf GLB_MODE).toNat < 6 := by decide +kernel
  have hlt : (Sparse.get resetOf (d.regs.filter fun e => kept e.1) GLB_MODE).toNat < 6 := by
    rw [hg]
    split
    · exact hr
    · exact h.1
  rw [hm]
  exact ⟨hlt, fun _ ht => (nomatch ht), Nat.one_lt_ofNat, fun _ ho => (nomatch ho)⟩

@[simp] theorem tadpole_legal (d : Device) (restart : Bool) (cause : Nat) (h : d.modeView.legal) :
    (d.tadpole restart cause).modeView.legal := by
  have hc := coreLost_legal d (fun o => if restart then keptOverRestart.contains o else o == KEEP_CLK) h
  simpa [Device.tadpole] using hc

@[simp] theorem darkOff_legal (d : Device) (h : d.modeView.legal) : d.darkOff.modeView.legal := by
  have hc := coreLost_legal d (fun o => onHvDie o && !(o / 0x10000 == 17 && o != SEG_CFG)) h
  unfold Device.darkOff
  dsimp only
  rw [wr_modeView, if_neg (by decide), put_modeView, if_neg (by decide)]
  refine put_state_legal ?_ (by decide)
  exact hc

@[simp] theorem storeBegin_legal (d : Device) (t : Trans) (h : d.modeView.legal) (ht : t.target < 6) :
    (d.storeBegin t).modeView.legal := by
  unfold Device.storeBegin
  split
  · exact ModeView.legal_trans_some h ht
  · have hs : ModeView.legal ⟨d.modeView.mode, some { t with phase := .store }, d.modeView.loupeFrom, d.modeView.op⟩ :=
      ModeView.legal_trans_some h ht
    dsimp only
    split
    · simpa [trans_modeView, loupeFrom_modeView, op_modeView] using hs
    · rw [kStart_modeView]
      refine setMode_legal _ ?_ (by decide)
      simpa [trans_modeView, loupeFrom_modeView, op_modeView] using hs

@[simp] theorem downStart_legal (d : Device) (t : Trans) (h : d.modeView.legal) (ht : t.target < 6) :
    (d.downStart t).modeView.legal := by
  unfold Device.downStart
  dsimp only
  split
  · refine storeBegin_legal _ t ?_ ht
    simpa [trans_modeView, loupeFrom_modeView, op_modeView] using h
  · have hs : ModeView.legal ⟨d.modeView.mode, some { t with phase := .discharge }, d.modeView.loupeFrom, d.modeView.op⟩ :=
      ModeView.legal_trans_some h ht
    simpa [trans_modeView, loupeFrom_modeView, op_modeView] using hs

@[simp] theorem afterStore_legal (d : Device) (h : d.modeView.legal) : d.afterStore.modeView.legal := by
  unfold Device.afterStore
  split
  next t ht =>
    have := target_lt h ht
    split <;> simp [h, this]
  next => simp [h]

@[simp] theorem afterDischarge_legal (d : Device) (h : d.modeView.legal) : d.afterDischarge.modeView.legal := by
  unfold Device.afterDischarge
  split
  · exact h
  split
  next t ht =>
    have := target_lt h ht
    simp [h, this]
  next => simp [h]

end Sys2Proof.Machine

namespace Sys2Proof.Machine

/-! # Operations that may change the mode

One lemma per operation that can end in a change of mode, most of them by raising a fault (R33: any mode to NEWT): each
keeps `ModeView.legal`, and the commands made of them are `KeepsMode`. -/

/-! ## Fault -/

@[simp] theorem attemptFail_legal (d : Device) (err : Nat) (h : d.modeView.legal) :
    (d.attemptFail err).modeView.legal := by
  simp [Device.attemptFail, h, trans_modeView, loupeFrom_modeView, op_modeView]

@[simp] theorem fltRecover_legal (d : Device) (f : Flt) (h : d.modeView.legal) : (d.fltRecover f).modeView.legal := by
  unfold Device.fltRecover
  dsimp only
  repeat' split
  all_goals simp [h]

@[simp] theorem raise_legal (d : Device) (f : Flt) (detail : Nat) (h : d.modeView.legal) :
    (d.raise f detail).modeView.legal := by
  have hr : (d.fltRecord f detail).modeView.legal := by simpa using h
  unfold Device.raise
  split
  · split <;> simp [h]
  split
  · exact h
  extract_lets e e1
  replace hr : e.modeView.legal := hr
  split
  · split
    · exact attemptFail_legal _ _ (by simp only [e1]; split <;> simp [hr])
    · exact hr
  repeat' split
  all_goals simp [hr]

@[simp] theorem raiseCode_legal (d : Device) (code inst : Nat) (obj : Nat) (detail : Nat) (h : d.modeView.legal) :
    (d.raiseCode code inst obj detail).modeView.legal := by
  simp [Device.raiseCode, h]

@[simp] theorem budgetEnd_legal (d : Device) (h : d.modeView.legal) : d.budgetEnd.modeView.legal := by
  unfold Device.budgetEnd
  dsimp only
  repeat' split
  all_goals simp [h]

/-! ## Memory -/

@[simp] theorem fsLimit_legal (d : Device) (w : Nat) (h : d.modeView.legal) : (d.fsLimit w).modeView.legal := by
  simp [Device.fsLimit, h]

@[simp] theorem fsUncorrectable_legal (d : Device) (w : Nat) (own s1 : Bool) (h : d.modeView.legal) :
    (d.fsUncorrectable w own s1).modeView.legal := by
  simp [Device.fsUncorrectable, h]

@[simp] theorem fsReadCheck_legal (d : Device) (a n : Nat) (own : Bool) (h : d.modeView.legal) :
    (d.fsReadCheck a n own).modeView.legal := by
  refine eachOf_legal _ _ _ (fun w d h => ?_) h
  repeat' split
  all_goals simp [h]

@[simp] theorem fsWord_legal (d : Device) (m : Nat) (w : Nat) (bs : List (Nat × Nat)) (h : d.modeView.legal) :
    (d.fsWord m w bs).modeView.legal := by
  simp [Device.fsWord, h]

@[simp] theorem fsWrite_legal (d : Device) (m : Nat) (bs : List (Nat × Nat)) (h : d.modeView.legal) :
    (d.fsWrite m bs).modeView.legal := by
  exact eachOf_legal _ _ _ (fun w d h => fsWord_legal _ _ _ _ h) h

@[simp] theorem winWrite_legal (d : Device) (m : Nat) (bs : List (Nat × Nat)) (h : d.modeView.legal) :
    (d.winWrite m bs).modeView.legal := by
  unfold Device.winWrite
  split <;> simp [h]

@[simp] theorem bar2Write_legal (d : Device) (a : Nat) (bs : List (Option Nat)) (h : d.modeView.legal) :
    (d.bar2Write a bs).modeView.legal := by
  simp [Device.bar2Write, h]

@[simp] theorem bar2Read_legal (d : Device) (a n : Nat) (ecc : List (Nat × Ecc)) (h : d.modeView.legal) :
    (d.bar2Read a n ecc).modeView.legal := by
  simp [Device.bar2Read, h]

theorem execBar2Write_keepsMode (a : Nat) (bs : List (Option Nat)) : KeepsMode (execBar2Write a bs) :=
  keepsMode_run fun d h => by simp [h]

theorem execBar2Read_keepsMode (a n : Nat) (ecc : List (Nat × Ecc)) : KeepsMode (execBar2Read a n ecc) :=
  keepsMode_run fun d h => by simp [h]

theorem execScrubRead_keepsMode (found : Ecc) : KeepsMode (execScrubRead found) :=
  keepsMode_run fun d h => by simp [h]

@[simp] theorem pondEcc_legal (d : Device) (a : Nat) (found : Ecc) (raises : Bool) (h : d.modeView.legal) :
    (d.pondEcc a found raises).modeView.legal := by
  simp [Device.pondEcc, h]

@[simp] theorem pondAccess_legal (d : Device) (m a n : Nat) (val : Option (List Nat)) (pa : PortA) (found : Ecc) (h : d.modeView.legal) :
    (d.pondAccess m a n val pa found).1.modeView.legal := by
  unfold Device.pondAccess
  dsimp only
  repeat' split
  all_goals simp [h]

@[simp] theorem pondWindow_legal (d : Device) (m a : Nat) (val : Option Nat) (pa : PortA) (found : Ecc) (h : d.modeView.legal) :
    (d.pondWindow m a val pa found).modeView.legal := by
  unfold Device.pondWindow
  dsimp only
  repeat' split
  all_goals simp [h]

@[simp] theorem pondAt_legal (d : Device) (m off : Nat) (val : Option Nat) (pa : PortA) (found : Ecc) (h : d.modeView.legal) :
    (d.pondAt m off val pa found).modeView.legal := by
  simp [Device.pondAt, h]

theorem execPondWindowAccess_keepsMode (m : Master) (off : Nat) (val : Option Nat) (pa : PortA) (found : Ecc) :
    KeepsMode (execPondWindowAccess m off val pa found) :=
  keepsMode_run fun d h => by simp [h]

theorem execPondRetry_keepsMode (pa : PortA) : KeepsMode (execPondRetry pa) :=
  keepsMode_run fun d h => by split <;> simp [h]

theorem execMarchCopyinDone_keepsMode (ecc : List (Nat × Ecc)) : KeepsMode (execMarchCopyinDone ecc) :=
  keepsMode_run fun d h => by
    split
    · extract_lets a e1 e2
      have h1 : e1.modeView.legal := eachOf_legal _ _ _ (fun f d h => pondEcc_legal _ _ _ _ h) h
      simp [e2, h1]
    · exact h

theorem execMarchTestDone_keepsMode (fail : Option (Nat × Nat)) : KeepsMode (execMarchTestDone fail) :=
  keepsMode_run fun d h => by
    dsimp only
    repeat' split
    all_goals simp [h]

theorem execMarchBankDone_keepsMode (fail : Option (Nat × Nat × Nat)) : KeepsMode (execMarchBankDone fail) :=
  keepsMode_run fun d h => by
    dsimp only
    repeat' split
    all_goals simp [h]

/-! ## ModeOps -/

@[simp] theorem powerFail_legal (d : Device) (vkeep : Bool) (h : d.modeView.legal) :
    (d.powerFail vkeep).modeView.legal := by
  unfold Device.powerFail
  extract_lets e1 e2 e3 e4 e5 k
  have h3 : e3.modeView.legal := by
    simp only [e3, e2, e1]
    split <;> simp [h]
  have h4 : e4.modeView.legal := ModeView.legal_trans_none h3
  have h5 : e5.modeView.legal := setMode_legal _ h4 (Nat.zero_lt_succ _)
  split
  · exact darkOff_legal _ (by simpa using h5)
  split
  all_goals simp [h5]

/-! ## HvCmds -/

@[simp] theorem hvFault_legal (d : Device) (bit idx code inst : Nat) (h : d.modeView.legal) :
    (d.hvFault bit idx code inst).modeView.legal := by
  simp [Device.hvFault, h]

@[simp] theorem hvEvent_legal (d : Device) (code inst : Nat) (h : d.modeView.legal) :
    (d.hvEvent code inst).modeView.legal := by
  simp [Device.hvEvent, h]

theorem execPgTimeout_keepsMode : KeepsMode execPgTimeout :=
  keepsMode_run fun d h => by split <;> simp [h]

theorem execBrownoutWaitExpire_keepsMode : KeepsMode execBrownoutWaitExpire :=
  keepsMode_run fun d h => by
    repeat' split
    all_goals simp [h]

theorem execRailFaultDetect_keepsMode (k : RailFault) (i : Fin 8) : KeepsMode (execRailFaultDetect k i) :=
  keepsMode_run fun d h => by
    repeat' split
    all_goals simp [h]

theorem execHvOvertemp_keepsMode (temp : Nat) : KeepsMode (execHvOvertemp temp) :=
  keepsMode_run fun d h => by simp [h]

theorem execPsmSample_keepsMode (k : Fin 4) (v : Nat) : KeepsMode (execPsmSample k v) :=
  keepsMode_run fun d h => by simp [h]

theorem execDischargeHoldEnd_keepsMode : KeepsMode execDischargeHoldEnd :=
  keepsMode_run fun d h => by simp [h]

theorem execRailDischarged_keepsMode (i : Fin 8) (mon : Nat) (tie : Bool) : KeepsMode (execRailDischarged i mon tie) :=
  keepsMode_run fun d h => by simp [h]

theorem execBleedTimeout_keepsMode : KeepsMode execBleedTimeout :=
  keepsMode_run fun d h => by split <;> simp [h]

theorem execPfHoldExpire_keepsMode : KeepsMode execPfHoldExpire :=
  keepsMode_run fun d h => by simp [h]

theorem execCrackMeasure_keepsMode (ohm : Nat) : KeepsMode (execCrackMeasure ohm) :=
  keepsMode_run fun d h => by
    split
    · exact h
    extract_lets v e1 high low n nh nl hv e2 e3 e4 seqOn
    have h2 : e2.modeView.legal := by simp [e2, e1, h]
    have h3 : e3.modeView.legal := by
      simp only [e3]
      split <;> simp [h2]
    have h4 : e4.modeView.legal := by simp [e4, h3]
    repeat' split
    all_goals simp [h3, h4]

/-! ## LinkCmds -/

@[simp] theorem holdLine_legal (d : Device) (s : Nat) (h : d.modeView.legal) : (d.holdLine s).modeView.legal := by
  simp [Device.holdLine, h]

@[simp] theorem holdLines_legal (d : Device) (s n : Nat) (h : d.modeView.legal) : (d.holdLines s n).modeView.legal := by
  exact eachOf_legal _ _ _ (fun _ d h => holdLine_legal _ _ h) h

@[simp] theorem laneDead_legal (d : Device) (n err : Nat) (h : d.modeView.legal) :
    (d.laneDead n err).modeView.legal := by
  simp [Device.laneDead, h]

@[simp] theorem lockLost_legal (d : Device) (n : Nat) (h : d.modeView.legal) : (d.lockLost n).modeView.legal := by
  simp [Device.lockLost, h]

theorem execLaneLockTimeout_keepsMode (n : Lane) : KeepsMode (execLaneLockTimeout n) :=
  keepsMode_run fun d h => by simp [h]

@[simp] theorem driverLost_legal (d : Device) (s : Nat) (h : d.modeView.legal) : (d.driverLost s).modeView.legal := by
  simp [Device.driverLost, h]

@[simp] theorem jam_legal (d : Device) (r : Nat) (h : d.modeView.legal) : (d.jam r).modeView.legal := by
  simp [Device.jam, h]

@[simp] theorem retFrame_legal (d : Device) (r : Nat) (h : d.modeView.legal) : (d.retFrame r).modeView.legal := by
  unfold Device.retFrame
  dsimp only
  repeat' split
  all_goals simp [h]

theorem execMrkSend_keepsMode : KeepsMode execMrkSend :=
  keepsMode_run fun d h => by
    split
    · exact h
    refine eachOf_legal _ _ _ (fun r d h => retFrame_legal _ _ h) ?_
    refine eachOf_legal _ _ _ (fun n d h => ?_) ?_
    · repeat' split
      all_goals simp [h]
    · simpa using h

@[simp] theorem violation_legal (d : Device) (r j : Nat) (crcBad : Bool) (h : d.modeView.legal) :
    (d.violation r j crcBad).modeView.legal := by
  simp [Device.violation, h]

@[simp] theorem burstIn_legal (d : Device) (b : Burst) (h : d.modeView.legal) : (d.burstIn b).1.modeView.legal := by
  unfold Device.burstIn
  dsimp only
  repeat' split
  all_goals simp [h]

@[simp] theorem driverReset_legal (d : Device) (s : Nat) (h : d.modeView.legal) : (d.driverReset s).modeView.legal := by
  simp [Device.driverReset, h]

theorem execCapsBurst_keepsMode (b : Burst) (tie : Bool) : KeepsMode (execCapsBurst b tie) :=
  keepsMode_run fun d h => by
    have hb := burstIn_legal d b h
    split
    next e he => rw [he] at hb; exact hb
    next e st p he =>
      rw [he] at hb
      extract_lets n e1 e2 x prompted r y e3 z e4
      have h3 : e3.modeView.legal := by
        simp only [e3]
        repeat' split
        all_goals simp [e2, e1, hb]
      have h4 : e4.modeView.legal := by simp [e4, h3]
      repeat' split
      all_goals simp [h4]

@[simp] theorem in0Lost_legal (d : Device) (st : Nat) (h : d.modeView.legal) : (d.in0Lost st).modeView.legal := by
  unfold Device.in0Lost
  dsimp only
  split <;> simp [h]

theorem execStatusBurst_keepsMode (b : Burst) (tie ackTie : Bool) : KeepsMode (execStatusBurst b tie ackTie) :=
  keepsMode_run fun d h => by
    have hb := burstIn_legal d b h
    split
    next e he => rw [he] at hb; exact hb
    next e st p he =>
      rw [he] at hb
      extract_lets n old had e1 b0 e2 e3 x e4 u e5 e6 at2 holds e7 e8 e9 e10
      have h4 : e4.modeView.legal := by simp [e4, e3, e2, e1, hb]
      have h6 : e6.modeView.legal := by
        simp only [e6]
        split <;> simp [e5, h4]
      have h7 : e7.modeView.legal := by
        simp only [e7]
        split <;> simp [h6]
      have h8 : e8.modeView.legal := holdLines_legal _ _ _ h7
      have h9 : e9.modeView.legal := by
        simp only [e9]
        split <;> simp [h8]
      have h10 : e10.modeView.legal := by
        simp only [e10]
        repeat' split
        all_goals simp [h9]
      refine eachOf_legal _ _ _ (fun k d h => ?_) h10
      dsimp only
      repeat' split
      all_goals simp [h]

theorem execReturnSlotEnd_keepsMode (r : RetLane) (j : Fin 4) (guard : Bool) :
    KeepsMode (execReturnSlotEnd r j guard) :=
  keepsMode_run fun d h => by
    dsimp only
    repeat' split
    all_goals simp [h]

/-! ## KeepCmds -/

theorem execKeepStoreComplete_keepsMode (tie : Bool) : KeepsMode (execKeepStoreComplete tie) :=
  keepsMode_run fun d h => by split <;> simp [h]

theorem execKeepStoreTimeout_keepsMode : KeepsMode execKeepStoreTimeout :=
  keepsMode_run fun d h => by split <;> simp [h]

/-! ## Ikiush -/

theorem execWatchdogExpire_keepsMode (k : CoreId) (tie : Bool) : KeepsMode (execWatchdogExpire k tie) :=
  keepsMode_run fun d h => by simp [h]

/-! ## Hif -/

theorem execDmaComplete_keepsMode (stop : Option Nat) : KeepsMode (execDmaComplete stop) :=
  keepsMode_run fun d h => by split <;> simp [h]

@[simp] theorem spPond_legal (d : Device) (a : Nat) (val : Option Nat) (pa : PortA) (found : Ecc) (h : d.modeView.legal) :
    (d.spPond a val pa found).modeView.legal := by
  unfold Device.spPond
  dsimp only
  split <;> simp [h]

theorem execSidePortPondAccess_keepsMode (a : Nat) (val : Option Nat) (pa : PortA) (found : Ecc) :
    KeepsMode (execSidePortPondAccess a val pa found) :=
  keepsMode_run fun d h => by simp [h]

/-! ## ClkCmds -/

theorem execPllLockLoss_keepsMode (k : Fin 18) : KeepsMode (execPllLockLoss k) :=
  keepsMode_run fun d h => by simp [h]

theorem execMonitorSample_keepsMode (vals : List Nat) : KeepsMode (execMonitorSample vals) :=
  keepsMode_run fun d h => by
    dsimp only
    repeat' split
    all_goals simp [h]

/-! ## Swap -/

@[simp] theorem imgStart_legal (d : Device) (m op : Nat) (h : d.modeView.legal) : (d.imgStart m op).modeView.legal := by
  simp [Device.imgStart, h, trans_modeView, loupeFrom_modeView]

@[simp] theorem imgAbort_legal (d : Device) (m : Nat) (h : d.modeView.legal) : (d.imgAbort m).modeView.legal := by
  simp [Device.imgAbort, h, trans_modeView, loupeFrom_modeView, op_modeView]

@[simp] theorem imgCmd_legal (d : Device) (m op : Nat) (h : d.modeView.legal) : (d.imgCmd m op).modeView.legal := by
  simp [Device.imgCmd, h]

theorem execImgCheckDecode_keepsMode (m : Master) : KeepsMode (execImgCheckDecode m) :=
  keepsMode_run fun d h => by simp [h]

theorem execImgCheckOnly_keepsMode (m : Master) : KeepsMode (execImgCheckOnly m) :=
  keepsMode_run fun d h => by simp [h]

theorem execImgAbort_keepsMode (m : Master) : KeepsMode (execImgAbort m) :=
  keepsMode_run fun d h => by simp [h]

@[simp] theorem imgFail_legal (d : Device) (o : ImgOp) (f : ImgFail) (h : d.modeView.legal) :
    (d.imgFail o f).modeView.legal := by
  simp [Device.imgFail, h, trans_modeView, loupeFrom_modeView]

theorem imgDecode_legal {d e : Device} {p : PrismSet} (h : d.modeView.legal) (hp : ∀ q ∈ p.presets, q.1 ∈ msRegs)
    (he : d.imgDecode p = some e) : e.modeView.legal := by
  unfold Device.imgDecode at he
  dsimp only at he
  split at he
  · cases he
  next r hr =>
    rw [← Option.some.inj he]
    have hv := placeLuts_modeView hr
    rw [freeMirror_modeView] at hv
    have hw := eachOf_presets_modeView (f := fun e d => d.wr e.1 e.2) hp fun e d he => by simp [he]
    simp [hw, h, hv, trans_modeView, loupeFrom_modeView, op_modeView]

theorem imgDecoded_legal (d : Device) (p : PrismSet) (h : d.modeView.legal) (hp : ∀ q ∈ p.presets, q.1 ∈ msRegs) :
    (d.imgDecoded p).modeView.legal := by
  unfold Device.imgDecoded
  split
  next e he =>
    have := imgDecode_legal h hp he
    simpa using this
  next => simpa using h

theorem execImgOpComplete_keepsMode (decoding : Bool) : KeepsMode (execImgOpComplete decoding) :=
  keepsMode_run fun d h => by
    have hn : ModeView.legal ⟨d.modeView.mode, d.modeView.trans, d.modeView.loupeFrom, none⟩ := ModeView.legal_op_none h
    split
    · exact h
    next o ho =>
      dsimp only
      split
      next p hp => exact imgDecoded_legal _ p hn (h.2.2.2 o ho p hp)
      next =>
        split
        · simp [h]
        next u hc =>
          have hb := presets_mem_msRegs hc
          repeat' split
          · simpa [trans_modeView, loupeFrom_modeView, op_modeView] using hn
          · exact ModeView.legal_op_some h fun p hp => Option.some.inj hp ▸ hb
          · exact imgDecoded_legal _ _ hn hb

theorem execSwapDoneTimeout_keepsMode : KeepsMode execSwapDoneTimeout :=
  keepsMode_run fun d h => by simp [h]

/-! ## Layers -/

theorem execLayerUnderrun_keepsMode (i : Fin 16) (t : Lane) (x : Nat) : KeepsMode (execLayerUnderrun i t x) :=
  keepsMode_run fun d h => by simp [h]

/-! ## Ports -/

@[simp] theorem fsPutBits_legal (d : Device) (a bit b : Nat) (vs : List Nat) (h : d.modeView.legal) :
    (d.fsPutBits a bit b vs).modeView.legal := by
  simp [Device.fsPutBits, h]

@[simp] theorem writeSamples_legal (d : Device) (p x y : Nat) (vs : List Nat) (h : d.modeView.legal) :
    (d.writeSamples p x y vs).modeView.legal := by
  simp [Device.writeSamples, h]

theorem execDprxLineReceive_keepsMode (p : Port) (samples : List Nat) (corr uncorr : Nat) :
    KeepsMode (execDprxLineReceive p samples corr uncorr) :=
  keepsMode_run fun d h => by simp [h]

@[simp] theorem replayTrans_legal (d : Device) (target : Nat) (h : d.modeView.legal) (ht : target < 6) :
    (d.replayTrans target).modeView.legal := by
  simp [Device.replayTrans, h, ht, loupeFrom_modeView, op_modeView]

@[simp] theorem replayCheck_legal (d : Device) (h : d.modeView.legal) : d.replayCheck.modeView.legal := by
  simp [Device.replayCheck, h]

theorem execPanelReplayEntry_keepsMode (p : Port) : KeepsMode (execPanelReplayEntry p) :=
  keepsMode_run fun d h => by simp [h]

theorem execPanelReplayExit_keepsMode (p : Port) : KeepsMode (execPanelReplayExit p) :=
  keepsMode_run fun d h => by simp [h, trans_modeView, loupeFrom_modeView, op_modeView]

theorem execSelectiveUpdate_keepsMode (p : Port) (x y w h : Nat) (pixels : List Nat) :
    KeepsMode (execSelectiveUpdate p x y w h pixels) :=
  keepsMode_run fun d h' => by
    split
    · exact h'
    extract_lets e1 e2 t k tiles r e3
    have h2 : e2.modeView.legal := eachOf_legal _ _ _ (fun j d h => writeSamples_legal _ _ _ _ _ h) (by simpa [e1] using h')
    simp [e3, h2]

/-! ## Tiles -/

theorem execGridStale_keepsMode (tie : Bool) : KeepsMode (execGridStale tie) :=
  keepsMode_run fun d h => by simp [h]

@[simp] theorem trnPass_legal (d : Device) (adv : Nat → Bool) (bad : List Nat) (h : d.modeView.legal) :
    (d.trnPass adv bad).modeView.legal := by
  unfold Device.trnPass
  refine eachOf_legal _ _ _ (fun t d h => by simp [h]) ?_
  dsimp only
  split <;> simp [h]

/-! ## Maps -/

@[simp] theorem planeWrite_legal (d : Device) (rgn size : Nat) (bs : List Nat) (h : d.modeView.legal) :
    (d.planeWrite rgn size bs).modeView.legal := by
  exact eachOf_legal _ _ _ (fun y d h => fsWrite_legal _ _ _ h) h

@[simp] theorem mapPlace_legal (d : Device) (t : Nat) (bs : List Nat) (h : d.modeView.legal) :
    (d.mapPlace t bs).modeView.legal := by
  simp [Device.mapPlace, h]

@[simp] theorem mapRun_legal (d : Device) (op t : Nat) (err : Bool) (h : d.modeView.legal) :
    (d.mapRun op t err).1.modeView.legal := by
  unfold Device.mapRun
  dsimp only
  repeat' split
  all_goals simp [h]

theorem execMapOpComplete_keepsMode (err : Bool) : KeepsMode (execMapOpComplete err) :=
  keepsMode_run fun d h => by
    dsimp only
    repeat' split
    all_goals simp [h]

/-! ## Frame -/

@[simp] theorem drivenWrite_legal (d : Device) (s y : Nat) (codes : List Nat) (h : d.modeView.legal) :
    (d.drivenWrite s y codes).modeView.legal := by
  simp [Device.drivenWrite, h]

/-! ## Survey -/

theorem execSenseBurst_keepsMode (b : Burst) (tie : Bool) : KeepsMode (execSenseBurst b tie) :=
  keepsMode_run fun d h => by
    have hb := burstIn_legal d b h
    split
    next e he => rw [he] at hb; exact hb
    next e st p he =>
      rw [he] at hb
      simp [hb]

@[simp] theorem scratchWrite_legal (d : Device) (o : SenseOp) (row : List (Nat × List Nat)) (h : d.modeView.legal) :
    (d.scratchWrite o row).modeView.legal := by
  exact eachOf_legal _ _ _ (fun p d h => fsWrite_legal _ _ _ h) (fsWrite_legal _ _ _ h)

@[simp] theorem loupeTake_legal (d : Device) (o : SenseOp) (h : d.modeView.legal) : (d.loupeTake o).modeView.legal := by
  simp [Device.loupeTake, h]

@[simp] theorem senseEnd_legal (d : Device) (o : SenseOp) (h : d.modeView.legal) : (d.senseEnd o).modeView.legal := by
  unfold Device.senseEnd
  split <;> simp [h]

theorem execSenseReturnDeadline_keepsMode (tie : Bool) : KeepsMode (execSenseReturnDeadline tie) :=
  keepsMode_run fun d h => by split <;> simp [h]

@[simp] theorem loupeEnd_legal (d : Device) (h : d.modeView.legal) : d.loupeEnd.modeView.legal := by
  have hl : d.modeView.loupeFrom < 6 := h.2.2.1
  unfold Device.loupeEnd
  split
  · exact h
  · simp [h, hl, loupeFrom_modeView, op_modeView]

@[simp] theorem srvApply_legal (d : Device) (h : d.modeView.legal) : d.srvApply.modeView.legal := by
  simp [Device.srvApply, h]

@[simp] theorem srvCmd_legal (d : Device) (m v : Nat) (h : d.modeView.legal) : (d.srvCmd m v).modeView.legal := by
  unfold Device.srvCmd
  repeat' split
  all_goals simp [h]

theorem execSurveyStage_keepsMode (m : Master) : KeepsMode (execSurveyStage m) :=
  keepsMode_run fun d h => by simp [h]

theorem execSurveyApply_keepsMode (m : Master) : KeepsMode (execSurveyApply m) :=
  keepsMode_run fun d h => by simp [h]

theorem execSurveySave_keepsMode (m : Master) (types : Fin 4) : KeepsMode (execSurveySave m types) :=
  keepsMode_run fun d h => by simp [h]

theorem execSurveySenseNow_keepsMode (m : Master) : KeepsMode (execSurveySenseNow m) :=
  keepsMode_run fun d h => by simp [h]

theorem execSurveyRestartSweep_keepsMode (m : Master) : KeepsMode (execSurveyRestartSweep m) :=
  keepsMode_run fun d h => by simp [h]

theorem execSurveyEndLoupe_keepsMode (m : Master) : KeepsMode (execSurveyEndLoupe m) :=
  keepsMode_run fun d h => by simp [h]

theorem execIntegratorSaveTimer_keepsMode : KeepsMode execIntegratorSaveTimer :=
  keepsMode_run fun d h => by simp [h]

@[simp] theorem rgnReadCheck_legal (d : Device) (i : Nat) (h : d.modeView.legal) :
    (d.rgnReadCheck i).modeView.legal := by
  exact eachOf_legal _ _ _ (fun w d h => fsReadCheck_legal _ _ _ _ h) h

@[simp] theorem stageCopy_legal (d : Device) (h : d.modeView.legal) : d.stageCopy.modeView.legal := by
  simp [Device.stageCopy, h]

@[simp] theorem saveType_legal (d : Device) (t : Nat) (h : d.modeView.legal) : (d.saveType t).1.modeView.legal := by
  simp [Device.saveType, h]

@[simp] theorem saveEnd_legal (d : Device) (types : Nat) (err : Bool) (h : d.modeView.legal) :
    (d.saveEnd types err).modeView.legal := by
  unfold Device.saveEnd
  extract_lets r e e1 e2
  have hr : r.1.modeView.legal := foldl_fst_legal _ _ _ (fun p t hp => by split <;> simp [hp]) h
  have h2 : e2.modeView.legal := by simp [e2, e1, e, hr]
  split
  · exact hr
  split
  all_goals simp [h2]

theorem execSurveyCmdComplete_keepsMode (err : Bool) : KeepsMode (execSurveyCmdComplete err) :=
  keepsMode_run fun d h => by
    repeat' split
    all_goals simp [h]

/-! ## Scan -/

@[simp] theorem rowSent_legal (d : Device) (s y : Nat) (hold zero replayed : Bool) (codes : List Nat) (h : d.modeView.legal) :
    (d.rowSent s y hold zero replayed codes).modeView.legal := by
  simp [Device.rowSent, h]

@[simp] theorem plainSend_legal (d : Device) (s g : Nat) (h : d.modeView.legal) : (d.plainSend s g).modeView.legal := by
  unfold Device.plainSend
  dsimp only
  split <;> simp [h]

theorem plainUpTo_legal (s g n : Nat) : ∀ d : Device, d.modeView.legal → (d.plainUpTo s g n).modeView.legal := by
  induction n with
  | zero => exact fun d h => h
  | succ n ih =>
    intro d h
    unfold Device.plainUpTo
    dsimp only
    split
    · exact h
    · exact ih _ (plainSend_legal _ _ _ h)

@[simp] theorem plainLines_legal (d : Device) (g : Nat) (h : d.modeView.legal) : (d.plainLines g).modeView.legal := by
  unfold Device.plainLines
  split
  · exact h
  · exact eachOf_legal _ _ _ (fun s d h => plainUpTo_legal _ _ _ _ h) h

theorem execGlassLineStart_keepsMode : KeepsMode execGlassLineStart :=
  keepsMode_run fun d h => by simp [h]

@[simp] theorem bytesWrite_legal (d : Device) (s y : Nat) (bs : List Nat) (h : d.modeView.legal) :
    (d.bytesWrite s y bs).modeView.legal := by
  simp [Device.bytesWrite, h]

@[simp] theorem holdRow_legal (d : Device) (s y : Nat) (h : d.modeView.legal) : (d.holdRow s y).modeView.legal := by
  unfold Device.holdRow
  refine holdLine_legal _ _ ?_
  dsimp only
  split
  · exact rowSent_legal _ _ _ _ _ _ _ h
  · exact rowSent_legal _ _ _ _ _ _ _ (fsReadCheck_legal _ _ _ _ h)

theorem execLineDeadline_keepsMode (t : Lane) : KeepsMode (execLineDeadline t) :=
  keepsMode_run fun d h => by
    dsimp only
    repeat' split
    all_goals simp [h]

@[simp] theorem rowEcc_legal (d : Device) (s y : Nat) (src : RowSrc) (h : d.modeView.legal) :
    (d.rowEcc s y src).modeView.legal := by
  unfold Device.rowEcc
  split
  · exact h
  · refine eachOf_legal _ _ _ (fun r d h => fsReadCheck_legal _ _ _ _ ?_) ?_
    · split <;> simp [h]
    · split <;> simp [h]

@[simp] theorem rowDone_legal (d : Device) (s g : Nat) (src : RowSrc) (h : d.modeView.legal) :
    (d.rowDone s g src).modeView.legal := by
  simp [Device.rowDone, h]

theorem execPackedLineComplete_keepsMode (t : Lane) (lag : Nat) (tie : Bool) :
    KeepsMode (execPackedLineComplete t lag tie) :=
  keepsMode_run fun d h => by
    dsimp only
    repeat' split
    all_goals simp [h]

@[simp] theorem dataFound_legal (d : Device) (t : Nat) (f : FacetFound) (h : d.modeView.legal) :
    (d.dataFound t f).modeView.legal := by
  have he : ∀ e : Device, e.modeView.legal → (eachOf f.pond (fun a d => d.pondEcc a .uncorr f.knots.isEmpty) e).modeView.legal :=
    fun e he => eachOf_legal _ _ _ (fun a d h => pondEcc_legal _ _ _ _ h) he
  unfold Device.dataFound
  dsimp only
  split
  · exact he _ (by simp [h])
  · exact raiseCode_legal _ _ _ _ _ (he _ (by simp [h]))

theorem execFacetDataArrive_keepsMode (t : Lane) (f : FacetFound) : KeepsMode (execFacetDataArrive t f) :=
  keepsMode_run fun d h => by simp [h]

/-! ## Raster -/

@[simp] theorem stressPixel_legal (d : Device) (s x y : Nat) (h : d.modeView.legal) :
    (d.stressPixel s x y).modeView.legal := by
  simp [Device.stressPixel, h]

@[simp] theorem stressFrame_legal (d : Device) (h : d.modeView.legal) : d.stressFrame.modeView.legal := by
  unfold Device.stressFrame
  extract_lets on e
  have he : e.modeView.legal := by
    simp only [e]
    split
    · exact h
    · refine eachOf_legal _ _ _ (fun s d h => ?_) h
      refine eachOf_legal _ _ _ (fun y d h => ?_) h
      exact eachOf_legal _ _ _ (fun i d h => stressPixel_legal _ _ _ _ h) h
  simpa using he

@[simp] theorem chkRecord_legal (d : Device) (h : d.modeView.legal) : d.chkRecord.modeView.legal := by
  unfold Device.chkRecord
  split <;> simp [h]

theorem execChkWindowResult_keepsMode : KeepsMode execChkWindowResult :=
  keepsMode_run fun d h => by simp [h]

@[simp] theorem frameBegin_legal (d : Device) (take : Nat → Bool) (lag : Nat) (through : Bool) (h : d.modeView.legal) :
    (d.frameBegin take lag through).modeView.legal := by
  simp [Device.frameBegin, h]

@[simp] theorem repeatFrame_legal (d : Device) (h : d.modeView.legal) : d.repeatFrame.modeView.legal := by
  simp [Device.repeatFrame, h]

theorem execFrameStartDecision_keepsMode (lag : Nat) (latePassed : Bool) :
    KeepsMode (execFrameStartDecision lag latePassed) :=
  keepsMode_run fun d h => by simp [h]

theorem execThroughFrameStart_keepsMode : KeepsMode execThroughFrameStart :=
  keepsMode_run fun d h => by simp [h]

theorem execLateLimit_keepsMode (tie : Bool) : KeepsMode (execLateLimit tie) :=
  keepsMode_run fun d h => by simp [h]

theorem execLocalFrameStart_keepsMode (usable : Fin 16) : KeepsMode (execLocalFrameStart usable) :=
  keepsMode_run fun d h => by simp [h]

@[simp] theorem trnFrame_legal (d : Device) (processed : Bool) (bad : List Nat) (h : d.modeView.legal) :
    (d.trnFrame processed bad).modeView.legal := by
  simp [Device.trnFrame, h]

@[simp] theorem rasterStop_legal (d : Device) (h : d.modeView.legal) : d.rasterStop.modeView.legal := by
  simp [Device.rasterStop, h]

@[simp] theorem rasterNext_legal (d : Device) (stopping : Bool) (h : d.modeView.legal) :
    (d.rasterNext stopping).modeView.legal := by
  simp [Device.rasterNext, h]

@[simp] theorem swapPoint_legal (d : Device) (bad : List Nat) (h : d.modeView.legal) :
    (d.swapPoint bad).modeView.legal := by
  unfold Device.swapPoint
  split
  · exact h
  extract_lets noIn e1 processed stopping e2 e3 e4 e5 e6 w e7
  have h1 : e1.modeView.legal := by simp [e1, h]
  have h2 : e2.modeView.legal := by
    simp only [e2]
    split <;> simp [h1]
  have h4 : e4.modeView.legal := by simp [e4, e3, h2]
  have h5 : e5.modeView.legal := by simp [e5, h4]
  have h7 : e7.modeView.legal := by
    simp only [e7, e6]
    split <;> simp [h5]
  simp [h7]

theorem execVerticalSwapPoint_keepsMode (bad : List Nat) : KeepsMode (execVerticalSwapPoint bad) :=
  keepsMode_run fun d h => by simp [h]

/-! ## FltCmds -/

theorem execFaultRaise_keepsMode (code inst obj : Nat) : KeepsMode (execFaultRaise code inst obj) :=
  keepsMode_run fun d h => by simp [h]

@[simp] theorem fltRaise_legal (d : Device) (m v : Nat) (h : d.modeView.legal) : (d.fltRaise m v).modeView.legal := by
  simp [Device.fltRaise, h]

theorem execIntegratorFault_keepsMode (m : Master) (val : Nat) : KeepsMode (execIntegratorFault m val) :=
  keepsMode_run fun d h => by simp [h]

@[simp] theorem scrubScan_legal (d : Device) (h : d.modeView.legal) : d.scrubScan.modeView.legal := by
  exact eachOf_legal _ _ _ (fun w d h => fsWrite_legal _ _ _ h) h

theorem execRecoveryComplete_keepsMode (tie : Bool) : KeepsMode (execRecoveryComplete tie) :=
  keepsMode_run fun d h => by split <;> simp [h]

theorem execRecoveryBudgetEnd_keepsMode : KeepsMode execRecoveryBudgetEnd :=
  keepsMode_run fun d h => by simp [h]

@[simp] theorem regenStep_legal (d : Device) (n : Nat) (h : d.modeView.legal) : (d.regenStep n).modeView.legal := by
  unfold Device.regenStep
  extract_lets f e
  have he : e.modeView.legal := by simp [e, h, trans_modeView, loupeFrom_modeView, op_modeView]
  repeat' split
  · simp [he]
  · simp [he, trans_modeView, loupeFrom_modeView, op_modeView]
  · simp [he, loupeFrom_modeView, op_modeView]
  · exact he

theorem execRegenAttemptStart_keepsMode : KeepsMode execRegenAttemptStart :=
  keepsMode_run fun d h => by simp [h]

@[simp] theorem regenClear_legal (d : Device) (found : Bool) (h : d.modeView.legal) :
    (d.regenClear found).modeView.legal := by
  simp [Device.regenClear, h]

theorem execRegenStepDone_keepsMode (found : Bool) : KeepsMode (execRegenStepDone found) :=
  keepsMode_run fun d h => by
    repeat' split
    all_goals simp [h]

theorem execRegenTimeout_keepsMode : KeepsMode execRegenTimeout :=
  keepsMode_run fun d h => by simp [h]

/-! ## Boot -/

@[simp] theorem bootHalt_legal (d : Device) (code err : Nat) (h : d.modeView.legal) :
    (d.bootHalt code err).modeView.legal := by
  simp [Device.bootHalt, h, trans_modeView, loupeFrom_modeView, op_modeView]

@[simp] theorem bootStart_legal (d : Device) (n : Nat) (h : d.modeView.legal) : (d.bootStart n).modeView.legal := by
  unfold Device.bootStart
  split <;> simp [h]

@[simp] theorem bootNext_legal (d : Device) (n : Nat) (starts : List Nat) (h : d.modeView.legal) :
    (d.bootNext n starts).modeView.legal := by
  unfold Device.bootNext
  rw [bootShow_modeView]
  refine eachOf_legal _ _ _ (fun k d h => ?_) ?_
  · split <;> simp [h]
  · simpa using h

@[simp] theorem bootMarch_legal (d : Device) (failing : List Nat) (work : Bool) (h : d.modeView.legal) :
    (d.bootMarch failing work).modeView.legal := by
  unfold Device.bootMarch
  dsimp only
  split
  · simp [h]
  refine bootNext_legal _ _ _ ?_
  have hr : ∀ (bad : List Nat) (p : Device × List (Nat × Nat)), p.1.modeView.legal →
      (bad.foldl (fun (p : Device × List (Nat × Nat)) f =>
        ((p.1.retire bad f).1, p.2 ++ (p.1.retire bad f).2.toList)) p).1.modeView.legal :=
    fun bad p hp => foldl_fst_legal _ _ _ (fun p f hp => by simpa using hp) hp
  split
  · exact hr _ _ (by simpa using h)
  · rw [recSave_modeView]
    exact hr _ _ (by simpa using h)

@[simp] theorem bootSlots_legal (d : Device) (a b : BootSlotScan) (slow : Bool) (h : d.modeView.legal) :
    (d.bootSlots a b slow).modeView.legal := by
  simp [Device.bootSlots, h]

@[simp] theorem bootFirmware_legal (d : Device) (h : d.modeView.legal) : d.bootFirmware.modeView.legal := by
  simp [Device.bootFirmware, h]

@[simp] theorem bootSet_legal (d : Device) (h : d.modeView.legal) : d.bootSet.modeView.legal := by
  simp [Device.bootSet, h]

@[simp] theorem bootPrism_legal (d : Device) (h : d.modeView.legal) : d.bootPrism.modeView.legal := by
  have hi : ∀ f, (d.bootImgFail f).modeView.legal := fun f => by simpa using h
  unfold Device.bootPrism
  dsimp only
  split
  · split
    next e he => exact bootSet_legal _ (bootMirror_modeView he ▸ h)
    next f _ => exact bootHalt_legal _ _ _ (hi f)
  split
  next e he => exact bootSet_legal _ (bootImage_modeView he ▸ h)
  next f0 _ =>
    split
    next e he => exact bootSet_legal _ (bootImage_modeView he ▸ hi f0)
    next f _ => exact bootHalt_legal _ _ _ (by simpa using h)

@[simp] theorem bootStore_legal (d : Device) (uncorrectable : Bool) (h : d.modeView.legal) :
    (d.bootStore uncorrectable).modeView.legal := by
  simp [Device.bootStore, h]

@[simp] theorem bootMap_legal (d : Device) (op t : Nat) (flashErr : Bool) (bad : List (Nat × Nat)) (h : d.modeView.legal) :
    (d.bootMap op t flashErr bad).1.modeView.legal := by
  have hr := mapRun_legal d op t flashErr h
  unfold Device.bootMap
  split
  next e he => rw [he] at hr; exact hr
  next e f he =>
    rw [he] at hr
    split
    · simpa using hr
    · exact hr

@[simp] theorem bootFinish_legal (d : Device) (h : d.modeView.legal) : d.bootFinish.modeView.legal := by
  unfold Device.bootFinish
  dsimp only
  repeat' split
  all_goals simp [h, trans_modeView, loupeFrom_modeView, op_modeView]

@[simp] theorem bootCheck_legal (d : Device) (h : d.modeView.legal) : d.bootCheck.modeView.legal := by
  simp [Device.bootCheck, h]

@[simp] theorem bootMaps_legal (d : Device) (flashErr : Bool) (h : d.modeView.legal) :
    (d.bootMaps flashErr).modeView.legal := by
  have hf : ∀ (types : List Nat) (op : Nat) (p : Device × List (Nat × Nat)), p.1.modeView.legal →
      (types.foldl (fun (p : Device × List (Nat × Nat)) t => p.1.bootMap op t flashErr p.2) p).1.modeView.legal :=
    fun types op p hp => foldl_fst_legal _ _ _ (fun p t hp => bootMap_legal _ _ _ _ _ hp) hp
  unfold Device.bootMaps
  dsimp only
  split
  · exact bootHalt_legal _ _ _ (hf _ _ _ h)
  · refine bootCheck_legal _ (bootNext_legal _ _ _ ?_)
    rw [bootCores_modeView, bootCalibrate_modeView]
    exact hf _ _ _ h

theorem execBootStepComplete_keepsMode (n : Nat) (o : BootOutcome) : KeepsMode (execBootStepComplete n o) :=
  keepsMode_run fun d h => by
    repeat' split
    all_goals simp [h]

theorem execBootFwStartTimeout_keepsMode : KeepsMode execBootFwStartTimeout :=
  keepsMode_run fun d h => by simp [h]

@[simp] theorem bootRepeat_legal (d : Device) (h : d.modeView.legal) : d.bootRepeat.modeView.legal := by
  simp [Device.bootRepeat, h]

@[simp] theorem recallEnd_legal (d : Device) (h : d.modeView.legal) : d.recallEnd.modeView.legal := by
  unfold Device.recallEnd
  extract_lets kept pf e1 k e2 e3 e4 cause e5 e6
  have h4 : e4.modeView.legal := by simp [e4, e3, e2, e1, h]
  have h5 : e5.modeView.legal := by simp [e5, h4]
  have h6 : e6.modeView.legal := by simp [e6, h5]
  split
  next t ht =>
    have := target_lt h5 ht
    split <;> simp [h5, this]
  next =>
    repeat' split
    all_goals simp [h5, h6]

theorem execKeepRecallComplete_keepsMode : KeepsMode execKeepRecallComplete :=
  keepsMode_run fun d h => by simp [h]

/-! ## Modes -/

@[simp] theorem modeBegin_legal (d : Device) (t m : Nat) (h : d.modeView.legal) (ht : t < 6) :
    (d.modeBegin t m).modeView.legal := by
  unfold Device.modeBegin
  dsimp only
  split
  · exact downStart_legal _ _ h (Nat.zero_lt_succ _)
  split
  · exact downStart_legal _ _ h (Nat.one_lt_ofNat)
  repeat' split
  all_goals simp [h, ht, trans_modeView, loupeFrom_modeView, op_modeView]

@[simp] theorem modeReq_legal (d : Device) (m v : Nat) (h : d.modeView.legal) : (d.modeReq m v).modeView.legal := by
  unfold Device.modeReq
  rw [guarded_modeView]
  split
  next hc =>
    have hr := firstFail_false hc.2 (decide (5 < v % 8) || reservedBad GLB_MODE_REQ v, eRange) (by simp)
    have ht : v % 8 < 6 := by simp at hr; omega
    refine modeBegin_legal _ _ _ ?_ ht
    simpa using h
  next => exact h

theorem execModeReqDark_keepsMode (m : Master) : KeepsMode (execModeReqDark m) :=
  keepsMode_run fun d h => by simp [h]

theorem execModeReqTadpole_keepsMode (m : Master) : KeepsMode (execModeReqTadpole m) :=
  keepsMode_run fun d h => by simp [h]

theorem execModeReqLive_keepsMode (m : Master) : KeepsMode (execModeReqLive m) :=
  keepsMode_run fun d h => by simp [h]

theorem execModeReqGecko_keepsMode (m : Master) : KeepsMode (execModeReqGecko m) :=
  keepsMode_run fun d h => by simp [h]

theorem execModeReqLoupe_keepsMode (m : Master) : KeepsMode (execModeReqLoupe m) :=
  keepsMode_run fun d h => by simp [h]

@[simp] theorem enterLoupe_legal (d : Device) (prev : Nat) (h : d.modeView.legal) (hp : prev < 6) :
    (d.enterLoupe prev).modeView.legal := by
  simp [Device.enterLoupe, h, hp, trans_modeView, op_modeView]

@[simp] theorem failedLanes_legal (d : Device) (h : d.modeView.legal) : d.failedLanes.modeView.legal := by
  exact eachOf_legal _ _ _ (fun n d h => raiseCode_legal _ _ _ _ _ h) h

@[simp] theorem modeEffect_legal (d : Device) (t : Trans) (h : d.modeView.legal) (ht : t.target < 6) :
    (d.modeEffect t).modeView.legal := by
  have hp := mode_lt h
  have ha : (if d.mode = 4 then d.swapDiscard.leaveTadpole.surveyAbandon else d.swapDiscard.leaveTadpole).modeView.legal := by
    split <;> simpa using h
  unfold Device.modeEffect
  refine failedLanes_legal _ ?_
  dsimp only
  generalize (if d.mode = 4 then d.swapDiscard.leaveTadpole.surveyAbandon else d.swapDiscard.leaveTadpole) = e at ha ⊢
  have hm : (({ e with trans := none } : Device).setMode t.target t.cause).modeView.legal :=
    setMode_legal _ (ModeView.legal_trans_none ha) ht
  generalize ({ e with trans := none } : Device).setMode t.target t.cause = g at hm ⊢
  repeat' split
  all_goals simp [hm, hp]

theorem execModeTransitionEffect_keepsMode : KeepsMode execModeTransitionEffect :=
  keepsMode_run fun d h => by
    split
    next t ht =>
      have := transDue_lt h ht
      split <;> simp [h, this]
    next => exact h

theorem execLoupeReturn_keepsMode : KeepsMode execLoupeReturn :=
  keepsMode_run fun d h => by
    split
    next t ht =>
      have := transDue_lt h ht
      split <;> simp [h, this]
    next => exact h

theorem execBootEnterLive_keepsMode : KeepsMode execBootEnterLive :=
  keepsMode_run fun d h => by
    split
    next t ht =>
      have := transDue_lt h ht
      split <;> simp [h, this]
    next => exact h

@[simp] theorem coreStart_legal (d : Device) (h : d.modeView.legal) : d.coreStart.modeView.legal := by
  simp [Device.coreStart, h]

theorem execSysRstRelease_keepsMode : KeepsMode execSysRstRelease :=
  keepsMode_run fun d h => by simp [h]

theorem execSysRstAssert_keepsMode (vkeep : Bool) : KeepsMode (execSysRstAssert vkeep) :=
  keepsMode_run fun d h => by simp [h]

theorem execPowerFail_keepsMode (_src : PfSupply) (vkeep : Bool) : KeepsMode (execPowerFail _src vkeep) :=
  keepsMode_run fun d h => by simp [h]

theorem execCoreSuppliesGood_keepsMode : KeepsMode execCoreSuppliesGood :=
  keepsMode_run fun d h => by simp [h]

theorem execVddAoLoss_keepsMode : KeepsMode execVddAoLoss :=
  keepsMode_run fun d h => by
    extract_lets k e1 e2 e3 p
    have h1 : e1.modeView.legal := ModeView.legal_trans_none h
    have h2 : e2.modeView.legal := by
      simp only [e2]
      split <;> simp [h1]
    simp [e3, h2]

/-! ## RegWrite -/

/-- One arm of a table of registers' own rules: the rule found here keeps the mode legal, and so does one found further on. -/
theorem rule_legal {c : Prop} [Decidable c] {d : Device} {f g : Device → Device} {x : Option (Device → Device)}
    (hf : (if c then some g else x) = some f) (hx : x = some f → (f d).modeView.legal) (hg : c → (g d).modeView.legal) :
    (f d).modeView.legal := by
  split at hf
  next hc => cases hf; exact hg hc
  next => exact hx hf

theorem writeFront_legal {d : Device} {f : Device → Device} {m : Master} {off v base i : Nat} (h : d.modeView.legal)
    (hb : GLB_MODE = off → base = GLB_MODE) (hf : Device.writeFront m off v base i = some f) : (f d).modeView.legal := by
  have hm : isMirror off = true → GLB_MODE ≠ off := by
    rintro hm rfl
    revert hm
    decide +kernel
  have hx : base = CHK_RECT_X 0 → GLB_MODE ≠ off := fun hx ho => absurd ((hb ho).symm.trans hx) (by decide)
  have hy : base = CHK_RECT_Y 0 → GLB_MODE ≠ off := fun hy ho => absurd ((hb ho).symm.trans hy) (by decide)
  unfold Device.writeFront at hf
  iterate 25 refine rule_legal hf (fun hf => ?_) fun hc => ?_
  · cases hf
  all_goals simp [h, hc, hm, hx, hy, chkRect_modeView]

theorem writeBack_legal {d : Device} {f : Device → Device} {m : Master} {off v base i : Nat} (h : d.modeView.legal)
    (hf : Device.writeBack m off v base i = some f) : (f d).modeView.legal := by
  unfold Device.writeBack at hf
  iterate 30 refine rule_legal hf (fun hf => ?_) fun _ => ?_
  · cases hf
  all_goals simp [h]

@[simp] theorem writeAt_legal (d : Device) (m : Master) (off v : Nat) (h : d.modeView.legal) :
    (d.writeAt m off v).modeView.legal := by
  unfold Device.writeAt
  split
  · simpa using h
  next r i j hr =>
    have hb : GLB_MODE = off → r.off = GLB_MODE := fun ho => by rw [row_of_glbMode hr ho]; rfl
    split
    next f hf => exact writeJoined_legal _ _ _ _ h (writeFront_legal h hb hf)
    next f hf hg => exact writeJoined_legal _ _ _ _ h (writeBack_legal h hg)
    next => rw [writePlain_modeView _ _ _ _ _ _ (row_of_glbMode hr)]; exact h

/-! ## HostBus -/

@[simp] theorem busWrite_legal (d : Device) (m : Master) (off v be : Nat) (h : d.modeView.legal) :
    (d.busWrite m off v be).modeView.legal := by
  simp [Device.busWrite, h]

@[simp] theorem busRead_legal (d : Device) (m : Master) (off : Nat) (h : d.modeView.legal) :
    (d.busRead m off).modeView.legal := by
  simp [Device.busRead, h]

theorem execRegisterWrite_keepsMode (m : Master) (off val be : Nat) : KeepsMode (execRegisterWrite m off val be) :=
  keepsMode_run fun d h => by simp [h]

theorem execReadClear_keepsMode (m : Master) (off : Nat) : KeepsMode (execReadClear m off) :=
  keepsMode_run fun d h => by simp [h]

@[simp] theorem hvApply_legal (d : Device) (p : HvWrite) (h : d.modeView.legal) : (d.hvApply p).modeView.legal := by
  simp [Device.hvApply, h]

theorem execHvWriteComplete_keepsMode : KeepsMode execHvWriteComplete :=
  keepsMode_run fun d h => by split <;> simp [h]

@[simp] theorem hvDrain_legal (d : Device) (h : d.modeView.legal) : d.hvDrain.modeView.legal := by
  have hp : ∀ e : Device, e.modeView.legal → (eachOf d.bridge.posted (fun p d => d.hvApply p) e).modeView.legal :=
    fun e he => eachOf_legal _ _ _ (fun p d h => hvApply_legal _ _ h) he
  unfold Device.hvDrain
  rw [spSync_modeView]
  refine eachOf_legal _ _ _ (fun e d h => ?_) (hp _ h)
  split <;> simp [h]

@[simp] theorem bridgeLose_legal (d : Device) (h : d.modeView.legal) : d.bridgeLose.modeView.legal := by
  simp [Device.bridgeLose, h]

@[simp] theorem bridgeGood_legal (d : Device) (h : d.modeView.legal) : d.bridgeGood.modeView.legal := by
  simp [Device.bridgeGood, h]

theorem execHvBridgeTransfer_keepsMode (ok : Bool) : KeepsMode (execHvBridgeTransfer ok) :=
  keepsMode_run fun d h => by simp [h]

theorem execHvBridgeLost_keepsMode : KeepsMode execHvBridgeLost :=
  keepsMode_run fun d h => by simp [h]

@[simp] theorem pondDirect_legal (d : Device) (m a n : Nat) (val : Option (List Nat)) (h : d.modeView.legal) :
    (d.pondDirect m a n val).1.modeView.legal := by
  unfold Device.pondDirect
  dsimp only
  repeat' split
  all_goals simp [h]

@[simp] theorem pondDword_legal (d : Device) (m off : Nat) (val : Option Nat) (h : d.modeView.legal) :
    (d.pondDword m off val).modeView.legal := by
  unfold Device.pondDword
  dsimp only
  repeat' split
  all_goals simp [h]

@[simp] theorem hvTurn_legal (d : Device) (m off : Nat) (write : Bool) (h : d.modeView.legal) :
    (d.hvTurn m off write).modeView.legal := by
  simp [Device.hvTurn, h]

@[simp] theorem dwordRead_legal (d : Device) (m : Master) (off : Nat) (h : d.modeView.legal) :
    (d.dwordRead m off).modeView.legal := by
  simp [Device.dwordRead, h]

@[simp] theorem dwordWrite_legal (d : Device) (m : Master) (off v : Nat) (h : d.modeView.legal) :
    (d.dwordWrite m off v).modeView.legal := by
  simp [Device.dwordWrite, h]

theorem execActiveCopyRead_keepsMode (m : Master) : KeepsMode (execActiveCopyRead m) :=
  keepsMode_run fun d h => by simp [h]

@[simp] theorem bar0Dword_legal (d : Device) (a : Nat) (write : Option (List Nat)) (part : List Nat) (i : Nat) (h : d.modeView.legal) :
    (d.bar0Dword a write part i).modeView.legal := by
  unfold Device.bar0Dword
  split <;> simp [h]

theorem execBar0Request_keepsMode (a : Nat) (write : Option (List Nat)) (n : Nat) (part : List Nat) :
    KeepsMode (execBar0Request a write n part) :=
  keepsMode_run fun d h => by
    split
    · exact h
    split
    · simpa using h
    refine eachOf_legal _ _ _ (fun i d h => bar0Dword_legal _ _ _ _ _ h) ?_
    dsimp only
    split <;> simp [h]

theorem execSidePortHighWrite_keepsMode (a val : Nat) : KeepsMode (execSidePortHighWrite a val) :=
  keepsMode_run fun d h => by
    dsimp only
    repeat' split
    all_goals simp [h]

@[simp] theorem spRead_legal (d : Device) (a : Nat) (h : d.modeView.legal) : (d.spRead a).modeView.legal := by
  simp [Device.spRead, h]

theorem execSidePortLowRead_keepsMode (a : Nat) (ready : Bool) : KeepsMode (execSidePortLowRead a ready) :=
  keepsMode_run fun d h => by
    repeat' split
    all_goals simp [h]

theorem execDbgAccess_keepsMode (op off data : Nat) : KeepsMode (execDbgAccess op off data) :=
  keepsMode_run fun d h => by simp [h]

/-! ## CoreExec -/

@[simp] theorem corePondRead_legal (d : Device) (m a n : Nat) (h : d.modeView.legal) :
    (d.corePondRead m a n).1.modeView.legal := by
  unfold Device.corePondRead
  generalize a - 0x1000000 = o
  extract_lets p r
  split
  · simpa using h
  · refine foldl_fst_legal _ _ _ (fun r p hr => ?_) h
    have hx := pondDirect_legal r.1 m p.1 p.2 none hr
    dsimp only
    repeat' split
    all_goals simp [hr, hx]

@[simp] theorem corePondWrite_legal (d : Device) (m a : Nat) (bs : List Nat) (h : d.modeView.legal) :
    (d.corePondWrite m a bs).1.modeView.legal := by
  unfold Device.corePondWrite
  generalize a - 0x1000000 = o
  extract_lets p
  repeat' split
  · simpa using h
  · simpa using h
  · exact eachOf_legal _ _ _ (fun p d h => pondDirect_legal _ _ _ _ _ h) h

@[simp] theorem coreRead_legal (d : Device) (k a n : Nat) (h : d.modeView.legal) :
    (d.coreRead k a n).1.modeView.legal := by
  unfold Device.coreRead
  dsimp only
  repeat' split
  all_goals simp [h]

@[simp] theorem coreWrite_legal (d : Device) (k a n v : Nat) (h : d.modeView.legal) :
    (d.coreWrite k a n v).1.modeView.legal := by
  unfold Device.coreWrite
  dsimp only
  repeat' split
  all_goals simp [h]

@[simp] theorem coreFetch_legal (d : Device) (k a : Nat) (h : d.modeView.legal) :
    (d.coreFetch k a).1.modeView.legal := by
  unfold Device.coreFetch
  dsimp only
  repeat' split
  all_goals simp [h]

@[simp] theorem coreLoad_legal (d : Device) (k w rd f3 a next : Nat) (h : d.modeView.legal) :
    (d.coreLoad k w rd f3 a next).modeView.legal := by
  unfold Device.coreLoad
  dsimp only
  repeat' split
  all_goals simp [h]

@[simp] theorem coreStore_legal (d : Device) (k w f3 a v next : Nat) (h : d.modeView.legal) :
    (d.coreStore k w f3 a v next).modeView.legal := by
  simp [Device.coreStore, h]

@[simp] theorem coreRun_legal (d : Device) (k w len bits : Nat) (x : CoreX) (h : d.modeView.legal) :
    (d.coreRun k w len bits x).modeView.legal := by
  unfold Device.coreRun
  dsimp only
  repeat' split
  all_goals simp [h]

@[simp] theorem coreStep_legal (d : Device) (k : Nat) (h : d.modeView.legal) : (d.coreStep k).modeView.legal := by
  unfold Device.coreStep
  have hc : (d.coreCycles k).modeView.legal := by simpa using h
  have hf := fun a => coreFetch_legal (d.coreCycles k) k a hc
  have hg := fun a b => coreFetch_legal ((d.coreCycles k).coreFetch k a).1 k b (hf a)
  dsimp only
  repeat' split
  all_goals simp [hf, hg]

theorem execCoreInstruction_keepsMode (k : CoreId) : KeepsMode (execCoreInstruction k) :=
  keepsMode_run fun d h => by simp [h]

end Sys2Proof.Machine

namespace Sys2Proof.Machine

/-! ## Every step keeps the mode legal -/

/-- Every command keeps the mode legal: most keep all that the condition looks at. -/
theorem exec_keepsMode : ∀ i : Instr, KeepsMode (exec i)
  | .registerWrite m off val be => execRegisterWrite_keepsMode m off val be
  | .readClear m off => execReadClear_keepsMode m off
  | .hvAccessUnstall => execHvAccessUnstall_keepsView.keepsMode
  | .hvWriteComplete => execHvWriteComplete_keepsMode
  | .hvBridgeTransfer ok => execHvBridgeTransfer_keepsMode ok
  | .hvBridgeLost => execHvBridgeLost_keepsMode
  | .modeReqDark m => execModeReqDark_keepsMode m
  | .modeReqTadpole m => execModeReqTadpole_keepsMode m
  | .modeReqLive m => execModeReqLive_keepsMode m
  | .modeReqGecko m => execModeReqGecko_keepsMode m
  | .modeReqLoupe m => execModeReqLoupe_keepsMode m
  | .modeTransitionEffect => execModeTransitionEffect_keepsMode
  | .panelReplayEntry p => execPanelReplayEntry_keepsMode p
  | .panelReplayExit p => execPanelReplayExit_keepsMode p
  | .loupeReturn => execLoupeReturn_keepsMode
  | .supplyApplied => execSupplyApplied_keepsView.keepsMode
  | .sysRstRelease => execSysRstRelease_keepsMode
  | .sysRstAssert vkeep => execSysRstAssert_keepsMode vkeep
  | .powerFail src vkeep => execPowerFail_keepsMode src vkeep
  | .wakePin pin ns => (execWakePin_keepsView pin ns).keepsMode
  | .wakeAlarm => execWakeAlarm_keepsView.keepsMode
  | .pwrupHoldExpire => execPwrupHoldExpire_keepsView.keepsMode
  | .bootStepComplete n o => execBootStepComplete_keepsMode n o
  | .bootFwStartTimeout => execBootFwStartTimeout_keepsMode
  | .bootEnterLive => execBootEnterLive_keepsMode
  | .keepRecallComplete => execKeepRecallComplete_keepsMode
  | .imgCheckDecode m => execImgCheckDecode_keepsMode m
  | .imgCheckOnly m => execImgCheckOnly_keepsMode m
  | .imgAbort m => execImgAbort_keepsMode m
  | .imgOpComplete decoding => execImgOpComplete_keepsMode decoding
  | .msWrite m off val => (execMsWrite_keepsView m off val).keepsMode
  | .activeCopyRead m => execActiveCopyRead_keepsMode m
  | .swapRequest m after cancel => (execSwapRequest_keepsView m after cancel).keepsMode
  | .swapCancel m after => (execSwapCancel_keepsView m after).keepsMode
  | .islandReady n ecc => (execIslandReady_keepsView n ecc).keepsMode
  | .swapArm => execSwapArm_keepsView.keepsMode
  | .islandDone n => (execIslandDone_keepsView n).keepsMode
  | .swapTakeEffect => execSwapTakeEffect_keepsView.keepsMode
  | .swapDoneTimeout => execSwapDoneTimeout_keepsMode
  | .mirrorRefillComplete => execMirrorRefillComplete_keepsView.keepsMode
  | .liveWrite m off val => (execLiveWrite_keepsView m off val).keepsMode
  | .liveTmgWrite m off val => (execLiveTmgWrite_keepsView m off val).keepsMode
  | .heldWrite m order val => (execHeldWrite_keepsView m order val).keepsMode
  | .zorderApply m val => (execZorderApply_keepsView m val).keepsMode
  | .paletteWrite m val => (execPaletteWrite_keepsView m val).keepsMode
  | .layerEnableWrite m val => (execLayerEnableWrite_keepsView m val).keepsMode
  | .verticalSwapPoint bad => execVerticalSwapPoint_keepsMode bad
  | .frameStartDecision lag latePassed => execFrameStartDecision_keepsMode lag latePassed
  | .throughFrameStart => execThroughFrameStart_keepsMode
  | .lateLimit tie => execLateLimit_keepsMode tie
  | .localFrameStart usable => execLocalFrameStart_keepsMode usable
  | .glassLineStart => execGlassLineStart_keepsMode
  | .lineDeadline t => execLineDeadline_keepsMode t
  | .packedLineComplete t lag tie => execPackedLineComplete_keepsMode t lag tie
  | .creditReturn t j => (execCreditReturn_keepsView t j).keepsMode
  | .facetDataArrive t f => execFacetDataArrive_keepsMode t f
  | .noinHoldExpire e => (execNoinHoldExpire_keepsView e).keepsMode
  | .scanRun m => (execScanRun_keepsView m).keepsMode
  | .scanStop m => (execScanStop_keepsView m).keepsMode
  | .testRasterWrite m val => (execTestRasterWrite_keepsView m val).keepsMode
  | .chkLearn m w val => (execChkLearn_keepsView m w val).keepsMode
  | .chkWindowResult => execChkWindowResult_keepsMode
  | .dprxCapChange m p val => (execDprxCapChange_keepsView m p val).keepsMode
  | .hpdEnableClear m p val => (execHpdEnableClear_keepsView m p val).keepsMode
  | .hpdPulseEnd p => (execHpdPulseEnd_keepsView p).keepsMode
  | .dprxLinkLock p rate lanes tie => (execDprxLinkLock_keepsView p rate lanes tie).keepsMode
  | .dprxLockLoss p => (execDprxLockLoss_keepsView p).keepsMode
  | .dprxRelockTimeout p => (execDprxRelockTimeout_keepsView p).keepsMode
  | .dprxFrameStart p f since skew lineHz => (execDprxFrameStart_keepsView p f since skew lineHz).keepsMode
  | .dprxLineReceive p samples corr uncorr => execDprxLineReceive_keepsMode p samples corr uncorr
  | .selectiveUpdate p x y w h pixels => execSelectiveUpdate_keepsMode p x y w h pixels
  | .edidCommit m p => (execEdidCommit_keepsView m p).keepsMode
  | .edidCommitDone p => (execEdidCommitDone_keepsView p).keepsMode
  | .dprxAuxRead p off n => (execDprxAuxRead_keepsView p off n).keepsMode
  | .tapEnable m val => (execTapEnable_keepsView m val).keepsMode
  | .tapDisable m val => (execTapDisable_keepsView m val).keepsMode
  | .tapSrcChange m src => (execTapSrcChange_keepsView m src).keepsMode
  | .tapLinkParamChange m rate lanes ssc => (execTapLinkParamChange_keepsView m rate lanes ssc).keepsMode
  | .tapDownstreamHpd level rate lanes => (execTapDownstreamHpd_keepsView level rate lanes).keepsMode
  | .tapAuxNativeRead m addr len => (execTapAuxNativeRead_keepsView m addr len).keepsMode
  | .tapAuxNativeWrite m addr len => (execTapAuxNativeWrite_keepsView m addr len).keepsMode
  | .tapAuxI2cRead m addr len => (execTapAuxI2cRead_keepsView m addr len).keepsMode
  | .tapAuxI2cWrite m addr len => (execTapAuxI2cWrite_keepsView m addr len).keepsMode
  | .tapAuxReply r data => (execTapAuxReply_keepsView r data).keepsMode
  | .tapAuxTimeout => execTapAuxTimeout_keepsView.keepsMode
  | .loopbackStart m rate => (execLoopbackStart_keepsView m rate).keepsMode
  | .loopbackStop m errs => (execLoopbackStop_keepsView m errs).keepsMode
  | .layerAllocate m granules => (execLayerAllocate_keepsView m granules).keepsMode
  | .layerFree m h => (execLayerFree_keepsView m h).keepsMode
  | .layerBufferRelease h => (execLayerBufferRelease_keepsView h).keepsMode
  | .layerUnderrun n t x => execLayerUnderrun_keepsMode n t x
  | .poolClaim m val => (execPoolClaim_keepsView m val).keepsMode
  | .poolRelease m => (execPoolRelease_keepsView m).keepsMode
  | .knotWrite m val => (execKnotWrite_keepsView m val).keepsMode
  | .gridWrite m k val => (execGridWrite_keepsView m k val).keepsMode
  | .gridStale tie => execGridStale_keepsMode tie
  | .kickRetarget m => (execKickRetarget_keepsView m).keepsMode
  | .kickSettle m => (execKickSettle_keepsView m).keepsMode
  | .kickFreeze m => (execKickFreeze_keepsView m).keepsMode
  | .kickUnfreeze m => (execKickUnfreeze_keepsView m).keepsMode
  | .mapLoad m t => (execMapLoad_keepsView m t).keepsMode
  | .mapCheckAdopt m t => (execMapCheckAdopt_keepsView m t).keepsMode
  | .mapOpComplete err => execMapOpComplete_keepsMode err
  | .sensingEnable m val => (execSensingEnable_keepsView m val).keepsMode
  | .senseTimerExpire => execSenseTimerExpire_keepsView.keepsMode
  | .senseOpStart => execSenseOpStart_keepsView.keepsMode
  | .senseReturnDeadline tie => execSenseReturnDeadline_keepsMode tie
  | .surveyStage m => execSurveyStage_keepsMode m
  | .surveyApply m => execSurveyApply_keepsMode m
  | .surveySave m types => execSurveySave_keepsMode m types
  | .surveySenseNow m => execSurveySenseNow_keepsMode m
  | .surveyRestartSweep m => execSurveyRestartSweep_keepsMode m
  | .surveyEndLoupe m => execSurveyEndLoupe_keepsMode m
  | .surveyCmdComplete err => execSurveyCmdComplete_keepsMode err
  | .integratorSaveTimer => execIntegratorSaveTimer_keepsMode
  | .laneFullTrain m n => (execLaneFullTrain_keepsView m n).keepsMode
  | .laneFastRetrain m n => (execLaneFastRetrain_keepsView m n).keepsMode
  | .sparePlannedMove m n k => (execSparePlannedMove_keepsView m n k).keepsMode
  | .sparePlannedReturn m n => (execSparePlannedReturn_keepsView m n).keepsMode
  | .returnLaneRegrant m r => (execReturnLaneRegrant_keepsView m r).keepsMode
  | .laneOff m n => (execLaneOff_keepsView m n).keepsMode
  | .trainAllLanes m => (execTrainAllLanes_keepsView m).keepsMode
  | .laneWakeDone n => (execLaneWakeDone_keepsView n).keepsMode
  | .laneLockTimeout n => execLaneLockTimeout_keepsMode n
  | .eqPresetDone n growth fom ceased => (execEqPresetDone_keepsView n growth fom ceased).keepsMode
  | .eqHoldDone n => (execEqHoldDone_keepsView n).keepsMode
  | .mrkSend => execMrkSend_keepsMode
  | .capsBurst b tie => execCapsBurst_keepsMode b tie
  | .statusBurst b tie ackTie => execStatusBurst_keepsMode b tie ackTie
  | .senseBurst b tie => execSenseBurst_keepsMode b tie
  | .returnSlotEnd r j guard => execReturnSlotEnd_keepsMode r j guard
  | .jamRetryTimer r => (execJamRetryTimer_keepsView r).keepsMode
  | .configResendTimer n => (execConfigResendTimer_keepsView n).keepsMode
  | .controlPacketResend n => (execControlPacketResend_keepsView n).keepsMode
  | .integratorPacketSend m => (execIntegratorPacketSend_keepsView m).keepsMode
  | .powerUp m => (execPowerUp_keepsView m).keepsMode
  | .discharge m => (execDischarge_keepsView m).keepsMode
  | .railGood n mon tie => (execRailGood_keepsView n mon tie).keepsMode
  | .seqDelayExpire => execSeqDelayExpire_keepsView.keepsMode
  | .pgTimeout => execPgTimeout_keepsMode
  | .vinBelowWarn => execVinBelowWarn_keepsView.keepsMode
  | .vinRecover tie => (execVinRecover_keepsView tie).keepsMode
  | .brownoutWaitExpire => execBrownoutWaitExpire_keepsMode
  | .railFaultDetect k n => execRailFaultDetect_keepsMode k n
  | .hvOvertemp temp => execHvOvertemp_keepsMode temp
  | .psmSample k v => execPsmSample_keepsMode k v
  | .dischargeHoldEnd => execDischargeHoldEnd_keepsMode
  | .railDischarged n mon tie => execRailDischarged_keepsMode n mon tie
  | .bleedTimeout => execBleedTimeout_keepsMode
  | .pfHoldExpire => execPfHoldExpire_keepsMode
  | .crackMeasure ohm => execCrackMeasure_keepsMode ohm
  | .segFrameStart => execSegFrameStart_keepsView.keepsMode
  | .segBlinkToggle ram => (execSegBlinkToggle_keepsView ram).keepsMode
  | .segWideSet m val => (execSegWideSet_keepsView m val).keepsMode
  | .segWideClear m val => (execSegWideClear_keepsView m val).keepsMode
  | .bar2Write a bs => execBar2Write_keepsMode a bs
  | .bar2Read a n ecc => execBar2Read_keepsMode a n ecc
  | .eccWriteback w => (execEccWriteback_keepsView w).keepsMode
  | .scrubRead found => execScrubRead_keepsMode found
  | .pondWindowAccess m off val pa found => execPondWindowAccess_keepsMode m off val pa found
  | .pondRetry pa => execPondRetry_keepsMode pa
  | .bankRetentionEnter n => (execBankRetentionEnter_keepsView n).keepsMode
  | .bankWakeDone n => (execBankWakeDone_keepsView n).keepsMode
  | .marchPreserving m => (execMarchPreserving_keepsView m).keepsMode
  | .marchDestroying m => (execMarchDestroying_keepsView m).keepsMode
  | .marchAbort m => (execMarchAbort_keepsView m).keepsMode
  | .marchIntervalExpire => execMarchIntervalExpire_keepsView.keepsMode
  | .marchCopyinDone ecc => execMarchCopyinDone_keepsMode ecc
  | .marchTestDone fail => execMarchTestDone_keepsMode fail
  | .marchCopybackDone => execMarchCopybackDone_keepsView.keepsMode
  | .marchBankDone fail => execMarchBankDone_keepsMode fail
  | .keepStoreCmd m => (execKeepStoreCmd_keepsView m).keepsMode
  | .keepUnlock m j => (execKeepUnlock_keepsView m j).keepsMode
  | .keepLock m j => (execKeepLock_keepsView m j).keepsMode
  | .keepSetPassword m j => (execKeepSetPassword_keepsView m j).keepsMode
  | .keepLockAll m => (execKeepLockAll_keepsView m).keepsMode
  | .keepStageRelease m => (execKeepStageRelease_keepsView m).keepsMode
  | .keepAutoStore => execKeepAutoStore_keepsView.keepsMode
  | .keepSnapshot => execKeepSnapshot_keepsView.keepsMode
  | .keepStoreComplete tie => execKeepStoreComplete_keepsMode tie
  | .keepStoreTimeout => execKeepStoreTimeout_keepsMode
  | .keepDataRead m => (execKeepDataRead_keepsView m).keepsMode
  | .keepDataWrite m val => (execKeepDataWrite_keepsView m val).keepsMode
  | .keepPasswordWord m val => (execKeepPasswordWord_keepsView m val).keepsMode
  | .keepRegionWrite m j val => (execKeepRegionWrite_keepsView m j val).keepsMode
  | .recordResolve m id forEn who => (execRecordResolve_keepsView m id forEn who).keepsMode
  | .recordCommit m id len forEn who => (execRecordCommit_keepsView m id len forEn who).keepsMode
  | .recordCommitDone => execRecordCommitDone_keepsView.keepsMode
  | .keepStageWrite m n val => (execKeepStageWrite_keepsView m n val).keepsMode
  | .counterAdd m amount => (execCounterAdd_keepsView m amount).keepsMode
  | .counterClear m => (execCounterClear_keepsView m).keepsMode
  | .counterUpdateDone => execCounterUpdateDone_keepsView.keepsMode
  | .counterRead m => (execCounterRead_keepsView m).keepsMode
  | .logAppend m => (execLogAppend_keepsView m).keepsMode
  | .clockSet m val => (execClockSet_keepsView m val).keepsMode
  | .keepClockTick vkeep => (execKeepClockTick_keepsView vkeep).keepsMode
  | .coreRun m k => (execCoreRun_keepsView m k).keepsMode
  | .coreReset m k => (execCoreReset_keepsView m k).keepsMode
  | .coreHalt m k => (execCoreHalt_keepsView m k).keepsMode
  | .coreResume m k => (execCoreResume_keepsView m k).keepsMode
  | .coreInstruction k => execCoreInstruction_keepsMode k
  | .coreWfi k => (execCoreWfi_keepsView k).keepsMode
  | .fenceI k => (execFenceI_keepsView k).keepsMode
  | .coreInterrupt k => (execCoreInterrupt_keepsView k).keepsMode
  | .mtimerMatch k => (execMtimerMatch_keepsView k).keepsMode
  | .mtimeRead m => (execMtimeRead_keepsView m).keepsMode
  | .coreKick m k => (execCoreKick_keepsView m k).keepsMode
  | .watchdogExpire k tie => execWatchdogExpire_keepsMode k tie
  | .bankAssign m k n => (execBankAssign_keepsView m k n).keepsMode
  | .bankReturn m k => (execBankReturn_keepsView m k).keepsMode
  | .channelBind m c val => (execChannelBind_keepsView m c val).keepsMode
  | .channelTableLock m => (execChannelTableLock_keepsView m).keepsMode
  | .mailboxSend m c val => (execMailboxSend_keepsView m c val).keepsMode
  | .mailboxReceive m c => (execMailboxReceive_keepsView m c).keepsMode
  | .mailboxAckTimeout c ab tie => (execMailboxAckTimeout_keepsView c ab tie).keepsMode
  | .mailboxXwait c tie => (execMailboxXwait_keepsView c tie).keepsMode
  | .doorbellRing m val => (execDoorbellRing_keepsView m val).keepsMode
  | .lockAcquireRead m n tied => (execLockAcquireRead_keepsView m n tied).keepsMode
  | .lockRelease m n val => (execLockRelease_keepsView m n val).keepsMode
  | .lockForceClear m val => (execLockForceClear_keepsView m val).keepsMode
  | .ping c => (execPing_keepsView c).keepsMode
  | .commit c => (execCommit_keepsView c).keepsMode
  | .loadCore c => (execLoadCore_keepsView c).keepsMode
  | .loadCoreComplete bad => (execLoadCoreComplete_keepsView bad).keepsMode
  | .pcieFunctionReset k => (execPcieFunctionReset_keepsView k).keepsMode
  | .pcieD3hot enter => (execPcieD3hot_keepsView enter).keepsMode
  | .bar0Request a write n part => execBar0Request_keepsMode a write n part
  | .poisonedWrite => execPoisonedWrite_keepsView.keepsMode
  | .msixTrigger v w1c => (execMsixTrigger_keepsView v w1c).keepsMode
  | .errorClear m val => (execErrorClear_keepsView m val).keepsMode
  | .sidePortPondAccess a val pa found => execSidePortPondAccess_keepsMode a val pa found
  | .sidePortLowWrite a val => (execSidePortLowWrite_keepsView a val).keepsMode
  | .sidePortHighWrite a val => execSidePortHighWrite_keepsMode a val
  | .sidePortLowRead a ready => execSidePortLowRead_keepsMode a ready
  | .sidePortHighRead a => (execSidePortHighRead_keepsView a).keepsMode
  | .sidePortReadReady => execSidePortReadReady_keepsView.keepsMode
  | .xspiRead m len => (execXspiRead_keepsView m len).keepsMode
  | .xspiProgram m len => (execXspiProgram_keepsView m len).keepsMode
  | .xspiSectorErase m => (execXspiSectorErase_keepsView m).keepsMode
  | .xspiBlockErase m => (execXspiBlockErase_keepsView m).keepsMode
  | .xspiReadStatus m => (execXspiReadStatus_keepsView m).keepsMode
  | .xspiSoftwareReset m => (execXspiSoftwareReset_keepsView m).keepsMode
  | .xspiOpComplete status late => (execXspiOpComplete_keepsView status late).keepsMode
  | .xspiBusyTimeout status => (execXspiBusyTimeout_keepsView status).keepsMode
  | .dmaStart m ss ds => (execDmaStart_keepsView m ss ds).keepsMode
  | .dmaAbort m => (execDmaAbort_keepsView m).keepsMode
  | .dmaComplete stop => execDmaComplete_keepsMode stop
  | .i2cTransaction m n val => (execI2cTransaction_keepsView m n val).keepsMode
  | .i2cComplete n nack pecBad data => (execI2cComplete_keepsView n nack pecBad data).keepsMode
  | .i2cClockLowTimeout n tie => (execI2cClockLowTimeout_keepsView n tie).keepsMode
  | .gpioEnable m val => (execGpioEnable_keepsView m val).keepsMode
  | .gpioEdge p rise => (execGpioEdge_keepsView p rise).keepsMode
  | .ntcSample k c => (execNtcSample_keepsView k c).keepsMode
  | .jtagUpdateIr ir => (execJtagUpdateIr_keepsView ir).keepsMode
  | .dbgAccess op off data => execDbgAccess_keepsMode op off data
  | .dbgCapture running => (execDbgCapture_keepsView running).keepsMode
  | .faultRaise code inst obj => execFaultRaise_keepsMode code inst obj
  | .integratorFault m val => execIntegratorFault_keepsMode m val
  | .recoveryComplete tie => execRecoveryComplete_keepsMode tie
  | .recoveryBudgetEnd => execRecoveryBudgetEnd_keepsMode
  | .regenAttemptStart => execRegenAttemptStart_keepsMode
  | .regenStepDone found => execRegenStepDone_keepsMode found
  | .regenTimeout => execRegenTimeout_keepsMode
  | .accountingFlush => execAccountingFlush_keepsView.keepsMode
  | .pllLockLoss k => execPllLockLoss_keepsMode k
  | .sscHopEnable m val => (execSscHopEnable_keepsView m val).keepsMode
  | .sscHop => execSscHop_keepsView.keepsMode
  | .fclkStepRequest m req => (execFclkStepRequest_keepsView m req).keepsMode
  | .fclkStepEffect => execFclkStepEffect_keepsView.keepsMode
  | .avsStep => execAvsStep_keepsView.keepsMode
  | .avsMonitor mv => (execAvsMonitor_keepsView mv).keepsMode
  | .monitorSample vals => execMonitorSample_keepsMode vals
  | .marginReplan after70 => (execMarginReplan_keepsView after70).keepsMode
  | .presetTrial n p fomUp hdrUp => (execPresetTrial_keepsView n p fomUp hdrUp).keepsMode
  | .eyeMeasure m val => (execEyeMeasure_keepsView m val).keepsMode
  | .eyeMeasureDone horiz vert fom lost => (execEyeMeasureDone_keepsView horiz vert fom lost).keepsMode
  | .kRegisterSave => execKRegisterSave_keepsView.keepsMode
  | .vddAoLoss => execVddAoLoss_keepsMode
  | .coreSuppliesGood => execCoreSuppliesGood_keepsMode
  | .pcieLinkUp speed width bme fnMask => (execPcieLinkUp_keepsView speed width bme fnMask).keepsMode
  | .videoStreamLoss p => (execVideoStreamLoss_keepsView p).keepsMode
  | .testLogicReset => execTestLogicReset_keepsView.keepsMode

/-- A step, of a command that waits or of a free-running clock, keeps the mode legal. -/
theorem step_modeOk {s s' : State} (h : s.toDevice.modeOk) (hs : step s = .next s') : s'.toDevice.modeOk := by
  rw [modeOk_iff] at h ⊢
  unfold step at hs
  split at hs
  · cases hs
    exact (tick_modeView s.toDevice).symm ▸ h
  next c rest hp =>
    obtain ⟨e, he, hv⟩ := exec_keepsMode c { s with pending := rest } h
    rw [he] at hs
    cases hs
    exact hv

/-! ## Reading GLB_MODE -/

/-- Where GLB_MODE holds one of the six modes, its field is all of it: bits 31 to 3 are 0 (R3). -/
theorem mode_eq_rd {d : Device} (h : d.modeOk) : d.mode = d.rd GLB_MODE := by
  obtain ⟨hlt, -⟩ := h
  have hm : d.mode = d.rd GLB_MODE % 2 ^ 3 := by
    show bitsOf (d.rd GLB_MODE) 2 0 = _
    simp [bitsOf]
  rw [hm, Nat.mod_eq_of_lt (by omega)]

/-- GLB_MODE reads as what it holds. -/
theorem busRead_GLB_MODE {d : Device} {m : Master} (hc : d.power.coreOn = true) :
    d.busRead m GLB_MODE = d.reply m (d.rd GLB_MODE) := by
  refine busRead_plain (r := glbModeRow) (by decide) (by decide) (by decide) hc ?_ (Bool.and_false (decide (m.val = 1))) ?_
  · simp [Device.readAt, Device.readDirect, regAt_GLB_MODE]; rfl
  · rw [Device.value, regAt_GLB_MODE]; exact maskOut_rd d _

/-- Settles O5: the invariant holds over every command and over the clock, and GLB_MODE reads as the mode it holds. -/
theorem modeStaysLegal : Obligations.ModeStaysLegal := by
  refine ⟨fun s s' h hs => step_modeOk h hs, fun m s hc h => ⟨⟨s.toDevice.busRead m GLB_MODE, rfl, ?_⟩, mode_lt ((modeOk_iff _).mp h)⟩⟩
  rw [busRead_GLB_MODE hc, mode_eq_rd h]
  exact reply_replies _ m _ (s.toDevice.rd_lt _)

end Sys2Proof.Machine

namespace Sys2Proof.Machine

/-! ## The empty queue -/

/-- The fault status registers follow the fault engine and leave it as it is. -/
@[simp] theorem fltSync_flt (d : Device) : d.fltSync.flt = d.flt := by
  unfold Device.fltSync
  dsimp only
  repeat' split
  all_goals simp

/-- Setting the open recovery sets it and nothing else of the fault engine. -/
@[simp] theorem fltOpen_flt (d : Device) (r : Option Recovery) : (d.fltOpen r).flt = { d.flt with opened := r } := by
  simp [Device.fltOpen]

/-- With the raster stopped, the microsecond that ends a nominal frame period counts the period for the open recovery (R506). -/
theorem tick_opened_of_periodEnd {d : Device} {r : Recovery} (ho : d.flt.opened = some r)
    (hs : d.get TMG_STAT_raster = 0) (hn : d.nominalUs ≤ d.us + 1 - r.tickUs) :
    d.tick.flt.opened = some (Device.recTick { d with us := d.us + 1 } r) := by
  have hEnd : Device.get { d with us := d.us + 1 } TMG_STAT_raster = 0 ∧
      Device.nominalUs { d with us := d.us + 1 } ≤ d.us + 1 - r.tickUs := ⟨hs, hn⟩
  simp only [Device.tick, ho]
  rw [if_pos hEnd, fltOpen_flt]

/-- Reset's state, 9999 microseconds after a lane fault's recovery opened at time 0: the raster is stopped and no set is loaded, so a nominal frame period of 10 ms ends with the next microsecond (R506). -/
def periodEndState : State :=
  { State.reset with us := 9999, flt := { opened := some { flt := catalogue 0x22 0 0 } } }

/-- The next microsecond of `periodEndState` counts one frame period for its recovery. -/
theorem periodEndState_tick_opened : periodEndState.toDevice.tick.flt.opened =
    some { flt := catalogue 0x22 0 0, latency := 1, elapsed := 1, tickUs := 10000 } := by
  rw [tick_opened_of_periodEnd rfl (by decide +kernel) (by decide +kernel)]
  decide +kernel

/-- Refutes O1: its second clause fails. On an empty queue the time is not all that moves: with the raster stopped, the end of a nominal frame period is counted for the open recovery (R506). -/
theorem not_stepTakesTheFrontCommand : ¬ Obligations.StepTakesTheFrontCommand := by
  rintro ⟨-, hEmpty, -⟩
  have hStep : Host.Outcome.next { periodEndState with toDevice := periodEndState.toDevice.tick } =
      .next { periodEndState with us := periodEndState.us + 1 } := hEmpty periodEndState rfl
  injection hStep with hState
  have hKept : periodEndState.toDevice.tick.flt = periodEndState.flt := congrArg (fun s : State => s.flt) hState
  have hCounted := periodEndState_tick_opened
  rw [hKept] at hCounted
  exact absurd hCounted (by decide +kernel)

end Sys2Proof.Machine

namespace Sys2Proof.Machine

/-! ## Requests of a mode (R33, R34) -/

/-- A request that names a mode, and nothing else, has no reserved bit set. -/
theorem reservedBad_modeReq : ∀ t < 8, reservedBad GLB_MODE_REQ t = false := by decide +kernel

/-- A request that R33 permits, from a master that may make it, is accepted while no transition is in progress. -/
theorem modeReq_accepted {d : Device} {m t : Nat} (hc : d.power.coreOn = true) (hm : among m 0x387 = true) (ht : t ≤ 5)
    (hp : d.modePermits t = true) (hl : t = 4 → d.actView.levelsFit (d.get SRV_SENSE_levels) = true)
    (hb : d.get GLB_MODE_STAT_busy = 0) :
    d.modeReq m t = ((d.put GLB_MODE_REQ_target t).put GLB_MODE_STAT_aborted 0).modeBegin t m := by
  have hmod : t % 8 = t := Nat.mod_eq_of_lt (by omega)
  have hr := reservedBad_modeReq t (by omega)
  unfold Device.modeReq
  dsimp only
  rw [hmod]
  refine Device.guarded_pass hc ?_
  simpa [hm, hp, hr, hb] using ⟨ht, hl⟩

/-- A field of another register set leaves the mode as it is. -/
theorem mode_put_ne (d : Device) {f : Fld} (v : Nat) (h : GLB_MODE ≠ f.off) : (d.put f v).mode = d.mode := d.get_put_ne v h

/-! ## The ways down (R44, R547) -/

/-- A change of the mode leaves the transition in progress as it is. -/
@[simp] theorem setMode_trans (d : Device) (mode cause : Nat) : (d.setMode mode cause).trans = d.trans := by
  simp only [Device.setMode, Device.put_trans, Device.wr_trans]
  split <;> simp [trans_modeView]

/-- The store of a transition down starts, or waits: the transition stays, but for its phase. -/
theorem storeBegin_trans (d : Device) (t : Trans) : ∃ p, (d.storeBegin t).trans = some { t with phase := p } := by
  unfold Device.storeBegin
  split
  · exact ⟨.storeWait, rfl⟩
  · refine ⟨.store, ?_⟩
    dsimp only
    split
    · rfl
    · rw [trans_modeView, kStart_modeView, ← trans_modeView, setMode_trans, trans_modeView, accountFlush_modeView]
      rfl

/-- A transition down is in progress once it starts, in its discharge or at its store. -/
theorem downStart_trans (d : Device) (t : Trans) : ∃ p, (d.downStart t).trans = some { t with phase := p } := by
  unfold Device.downStart
  dsimp only
  split
  · exact storeBegin_trans _ t
  · exact ⟨.discharge, rfl⟩

theorem modeBegin_dark (d : Device) (m : Nat) : d.modeBegin 0 m = d.downStart { target := 0, cause := reqCause m, master := m } := by
  simp [Device.modeBegin]

theorem modeBegin_restart {d : Device} (m : Nat) (h : d.mode ≠ 4) :
    d.modeBegin 1 m = d.downStart { target := 1, cause := reqCause m, master := m, restart := true } := by
  simp [Device.modeBegin, h]

/-! ## Transitions that wait for their vertical swap point (R36, R40, R41) -/

/-- Writing of input frames ended at the ports below `n`; a request for GECKO ends it at all four. -/
def portsQuiet (n : Nat) (l : Sparse PortX) : Sparse PortX :=
  (List.range n).foldl (fun l p =>
    Sparse.set (fun _ => {}) l p { Sparse.get (fun _ => ({} : PortX)) l p with writing := false }) l

/-- The ports below `n` write no longer, and the others are as they were. -/
theorem get_portsQuiet (n : Nat) (l : Sparse PortX) (p : Nat) :
    Sparse.get (fun _ => ({} : PortX)) (portsQuiet n l) p =
      if p < n then { Sparse.get (fun _ => ({} : PortX)) l p with writing := false } else Sparse.get (fun _ => {}) l p := by
  induction n with
  | zero => rfl
  | succ n ih =>
    rw [portsQuiet, List.range_succ, List.foldl_append, List.foldl_cons, List.foldl_nil, ← portsQuiet, Sparse.get_set]
    by_cases h : p = n
    · subst h
      simp [ih]
    · rw [if_neg h, ih]
      simp [show p < n + 1 ↔ p < n by omega]

theorem loupeDrop_of_mode_ne {d : Device} (h : d.mode ≠ 4) : d.loupeDrop = d := if_pos h

/-- Outside TADPOLE and LOUPE, a request for a mode that no way down leads to waits: its transition is in progress, and a request for GECKO ends the writing of input frames. -/
theorem modeBegin_waits {d : Device} {t : Nat} (m : Nat) (h0 : t ≠ 0) (h1 : t ≠ 1) (hm1 : d.mode ≠ 1) (hm4 : d.mode ≠ 4) :
    d.modeBegin t m = { (d.put GLB_MODE_STAT_busy 1).put GLB_MODE_STAT_target t with
      trans := some { target := t, cause := reqCause m, master := m }
      dprx := if t = 3 then portsQuiet 4 d.dprx else d.dprx } := by
  have hmode (x : Option Trans) : ((Device.put { d with trans := x } GLB_MODE_STAT_busy 1).put GLB_MODE_STAT_target t).mode = d.mode :=
    (mode_put_ne _ t (by decide)).trans (mode_put_ne _ 1 (by decide))
  unfold Device.modeBegin
  dsimp only
  rw [if_neg h0, if_neg (fun h => h1 h.1), loupeDrop_of_mode_ne ((hmode _).trans_ne hm4)]
  split <;> exact if_pos ((hmode _).trans_ne hm1)

/-- A write of the four fields that an accepted request sets. -/
theorem sets_modeReq (b : Device) {t : Nat} (ht : t < 8) :
    b.sets ((((b.put GLB_MODE_REQ_target t).put GLB_MODE_STAT_aborted 0).put GLB_MODE_STAT_busy 1).put GLB_MODE_STAT_target t)
      [(GLB_MODE_REQ_target, t), (GLB_MODE_STAT_aborted, 0), (GLB_MODE_STAT_busy, 1), (GLB_MODE_STAT_target, t)] := by
  have hv : t % 8 = t := Nat.mod_eq_of_lt ht
  refine sets_of_reverse ?_
  refine sets_cons_put ?_ (by decide) (by decide) hv (by simp [Fld.apart])
  refine sets_cons_put ?_ (by decide) (by decide) rfl (by simp [Fld.apart])
  refine sets_cons_put ?_ (by decide) (by decide) rfl (by simp [Fld.apart])
  exact sets_cons_put (sets_nil b) (by decide) (by decide) hv (by simp)

/-- A transition and the ports set beside the registers take part in neither side. -/
theorem sets_beside {b e : Device} {l : List (Fld × Nat)} (trans : Option Trans) (dprx : Sparse PortX) (h : b.sets e l) :
    ({ b with trans := trans, dprx := dprx } : Device).sets { e with trans := trans, dprx := dprx } l := by
  obtain ⟨hval, hrest, hregs⟩ := h
  exact ⟨hval, hrest, congrArg (fun x : Device => { x with trans := trans, dprx := dprx }) hregs⟩

/-- Outside TADPOLE and LOUPE, an accepted request for such a mode sets the four fields; beside them its transition is in progress, and one for GECKO has ended the writing of input frames. -/
theorem modeReq_sets {d : Device} {m t : Nat} (hc : d.power.coreOn = true) (hm : among m 0x387 = true) (h2 : 2 ≤ t) (h5 : t ≤ 5)
    (hp : d.modePermits t = true) (hl : t = 4 → d.actView.levelsFit (d.get SRV_SENSE_levels) = true)
    (hb : d.get GLB_MODE_STAT_busy = 0) (hm1 : d.mode ≠ 1) (hm4 : d.mode ≠ 4) :
    ({ d with trans := some { target := t, cause := reqCause m, master := m }
              dprx := if t = 3 then portsQuiet 4 d.dprx else d.dprx } : Device).sets (d.modeReq m t)
      [(GLB_MODE_REQ_target, t), (GLB_MODE_STAT_aborted, 0), (GLB_MODE_STAT_busy, 1), (GLB_MODE_STAT_target, t)] := by
  have hmode : ((d.put GLB_MODE_REQ_target t).put GLB_MODE_STAT_aborted 0).mode = d.mode :=
    (mode_put_ne _ 0 (by decide)).trans (mode_put_ne d t (by decide))
  rw [modeReq_accepted hc hm h5 hp hl hb, modeBegin_waits m (by omega) (by omega) (hmode.trans_ne hm1) (hmode.trans_ne hm4)]
  exact sets_beside _ _ (sets_modeReq d (by omega))

/-- Settles O51: a request for DARK or TADPOLE starts the way down, and one for LIVE, GECKO or LOUPE waits for its vertical swap point. -/
theorem modeRequestsBegin : Obligations.ModeRequestsBegin := by
  refine ⟨?_, ?_, ?_, ?_, ?_⟩
  · intro m s hc hm hmode hb
    refine ⟨s.toDevice.modeReq m 0, rfl, ?_⟩
    rw [modeReq_accepted (t := 0) hc hm (by decide) (decide_eq_true hmode) nofun hb, modeBegin_dark]
    obtain ⟨p, hp⟩ := downStart_trans _ { target := 0, cause := reqCause m, master := m }
    exact ⟨_, hp, rfl, rfl, rfl, rfl⟩
  · intro m s hc hm hmode hmode4 hb
    refine ⟨s.toDevice.modeReq m 1, rfl, ?_⟩
    have hstay : ((s.toDevice.put GLB_MODE_REQ_target 1).put GLB_MODE_STAT_aborted 0).mode ≠ 4 := by
      rwa [mode_put_ne _ _ (by decide), mode_put_ne _ _ (by decide)]
    rw [modeReq_accepted (t := 1) hc hm (by decide) (decide_eq_true hmode) nofun hb, modeBegin_restart _ hstay]
    obtain ⟨p, hp⟩ := downStart_trans _ { target := 1, cause := reqCause m, master := m, restart := true }
    exact ⟨_, hp, rfl, rfl, rfl, rfl⟩
  · intro m s hc hm hmode hb
    refine ⟨s.toDevice.modeReq m 2, rfl, ?_⟩
    exact modeReq_sets hc hm (by decide) (by decide) (by simp [Device.modePermits, hmode]) nofun hb (by simp [hmode]) (by simp [hmode])
  · intro m s hc hm hmode hb
    refine ⟨s.toDevice.modeReq m 3, rfl, ?_⟩
    have hsets := modeReq_sets hc hm (t := 3) (by decide) (by decide) (by simp [Device.modePermits, hmode]) nofun hb
      (by simp [hmode]) (by simp [hmode])
    have hdprx : (s.toDevice.modeReq m 3).dprx = portsQuiet 4 s.toDevice.dprx := congrArg Device.dprx hsets.2.2
    refine ⟨?_, fun p => ?_⟩
    · rw [hdprx]
      exact hsets
    · rw [Device.portX, hdprx, get_portsQuiet, if_pos p.isLt]
      rfl
  · intro m s hc hm hmode hroles hlevels hb
    refine ⟨s.toDevice.modeReq m 4, rfl, ?_⟩
    exact modeReq_sets hc hm (by decide) (by decide) (by simp [Device.modePermits, hmode, hroles]) (fun _ => hlevels) hb
      (by simp [hmode]) (by simp [hmode])

end Sys2Proof.Machine

namespace Sys2Proof.Machine

/-! ## Bytes in little-endian order -/

theorem length_leBytes (k n : Nat) : (leBytes k n).length = k := by
  induction k generalizing n with
  | zero => rfl
  | succ k ih => rw [leBytes, List.length_cons, ih]

/-- Byte `i` of a number. -/
theorem getD_leBytes {k i : Nat} (h : i < k) (n : Nat) : (leBytes k n).getD i 0 = n / 256 ^ i % 256 := by
  induction k generalizing n i with
  | zero => omega
  | succ k ih =>
    rw [leBytes]
    cases i with
    | zero => simp
    | succ i => rw [List.getD_cons_succ, ih (by omega), Nat.div_div_eq_div_mul, ← Nat.pow_succ']

/-! ## A wake (R45, R412, R554) -/

/-- A wake writes the cause and the clock to the first eight bytes of page 417, and no other byte of Keep. -/
theorem wakeUp_kRd (d : Device) (cause x : Nat) :
    (d.wakeUp cause).kRd x =
      if 417 * 256 ≤ x ∧ x < 417 * 256 + 8 then (leBytes 4 cause ++ leBytes 4 (d.rd KEEP_CLK)).getD (x - 417 * 256) 0 % 256
      else d.kRd x := by
  have hlen : (leBytes 4 cause ++ leBytes 4 (d.rd KEEP_CLK)).length = 8 := by simp [length_leBytes]
  rw [Device.kRd, Device.wakeUp]
  dsimp only
  rw [atAddr, List.foldl_map, hlen]
  exact kRd_foldl _ _ x d.keep.vol 8

/-- What a wake does, the core die being off. -/
theorem wakeUp_woken {d : Device} (cause : Nat) (hc : d.power.coreOn = false) : d.woken (d.wakeUp cause) cause := by
  refine ⟨rfl, hc, rfl, rfl, rfl, fun i hi => ?_, fun a ha => ?_, fun _ => rfl, rfl⟩
  · rw [wakeUp_kRd, if_pos (by omega), Nat.add_sub_cancel_left, List.getD_append _ _ _ _ (by rwa [length_leBytes]),
      getD_leBytes hi, Nat.mod_mod]
  · rw [wakeUp_kRd, if_neg (by omega)]

/-- The island's wake is a wake: the clock that resumes after a loss of VDD_AO was not held (R432). -/
theorem islandWake_woken {d : Device} (cause : Nat) (hc : d.power.coreOn = false) : d.woken (d.islandWake cause) cause := by
  unfold Device.islandWake
  split
  · exact wakeUp_woken cause hc
  next hHeld =>
    obtain ⟨hEn, hOff, hGood, hHold, hWake, hCause, hRest, -, hShadow⟩ :=
      wakeUp_woken (d := { d.wr KEEP_CLK ((d.keep.dep.map (fun p => p.clock)).getD 0) with keep := { d.keep with clkLost := true } }) cause hc
    exact ⟨hEn, hOff, hGood, hHold, hWake, hCause, hRest, fun h => absurd h hHeld, hShadow⟩

theorem islandWake_sysRst (d : Device) (cause : Nat) : (d.islandWake cause).power.sysRst = d.power.sysRst := by
  unfold Device.islandWake
  split <;> rfl

/-! ## Sources of a wake (R45, R47, R49) -/

/-- With PWRUP_EN low past its minimum time, a source wakes at once. -/
theorem wakeBy_wakes {d : Device} (latch : WakeLatch → WakeLatch) (cause : Nat) (hh : d.power.hold10 = false)
    (he : d.power.pwrupEn = false) : d.wakeBy latch cause = d.islandWake cause := by
  simp [Device.wakeBy, hh, he]

/-- Within the minimum time, a source is latched. -/
theorem wakeBy_latches {d : Device} (latch : WakeLatch → WakeLatch) (cause : Nat) (hh : d.power.hold10 = true) :
    d.wakeBy latch cause = { d with power := { d.power with wake := latch d.power.wake } } := by
  simp [Device.wakeBy, hh]

theorem darkEntry_off {d : Device} (hc : d.power.coreOn = false) : d.darkEntry = false := by
  simp [Device.darkEntry, hc]

/-- The latch that a low level on a wake pin sets. -/
def pinLatch (pin : Fin 2) (w : WakeLatch) : WakeLatch := if pin.val = 0 then { w with pin0 := true } else { w with pin1 := true }

/-- A low level on an enabled pin, longer than its filter, is a source while the core die is off. -/
theorem exec_wakePin {pin : Fin 2} {ns : Nat} {s : State} (hc : s.power.coreOn = false)
    (hcfg : s.power.aoWakeCfg.testBit pin = true) (hns : filterNs (bitsOf s.power.aoWakeCfg 10 8) < ns) :
    exec (.wakePin pin ns) s = .next { s with toDevice := s.toDevice.wakeBy (pinLatch pin) (1 + pin) } := by
  have hlong : ¬ ns ≤ filterNs (bitsOf s.power.aoWakeCfg 10 8) := by omega
  show execWakePin pin ns s = _
  simp only [execWakePin, State.run, hc, hcfg, hlong, darkEntry_off hc, Bool.false_eq_true, Bool.not_true, decide_false,
    Bool.or_false, if_false]
  rfl

/-- An enabled alarm at or past its time is a source while the core die is off. -/
theorem exec_wakeAlarm {s : State} (hc : s.power.coreOn = false) (hcfg : s.power.aoWakeCfg.testBit 2 = true)
    (ha : s.power.aoWakeAlarm ≤ s.toDevice.rd KEEP_CLK) :
    exec .wakeAlarm s = .next { s with toDevice := s.toDevice.wakeBy (fun w => { w with alarm := true }) 3 } := by
  show execWakeAlarm s = _
  simp [execWakeAlarm, State.run, hc, hcfg, ha, darkEntry_off hc]

/-- SYS_RST_N is high, and nothing else changed. -/
def Device.rstHigh (d : Device) : Device := { d with power := { d.power with sysRst := false } }

/-- Supplies applied with the core die off: SYS_RST_N is high, and the application is a source. -/
theorem exec_supplyApplied {s : State} (hc : s.power.coreOn = false) :
    exec .supplyApplied s = .next { s with
      toDevice := s.toDevice.rstHigh.wakeBy (fun w => { w with supply := true }) s.toDevice.supplyCause } := by
  show execSupplyApplied s = _
  simp only [execSupplyApplied, State.run]
  rw [if_neg (by simp [hc])]
  rfl

/-- The minimum low time of PWRUP_EN is over, and nothing else changed. -/
def Device.holdOver (d : Device) : Device := { d with power := { d.power with hold10 := false } }

/-- The end of the minimum time without a latched event. -/
theorem exec_pwrupHoldExpire_quiet {s : State} (hh : s.power.hold10 = true) (hw : s.power.wake.cause = none) :
    exec .pwrupHoldExpire s = .next { s with toDevice := s.toDevice.holdOver } := by
  show execPwrupHoldExpire s = _
  simp [execPwrupHoldExpire, State.run, hh, hw, Device.holdOver]

/-- The end of the minimum time with a latched event of a pin or the alarm. -/
theorem exec_pwrupHoldExpire_latched {s : State} {c : Nat} (hh : s.power.hold10 = true) (hw : s.power.wake.cause = some c) (h4 : c ≠ 4) :
    exec .pwrupHoldExpire s = .next { s with toDevice := s.toDevice.holdOver.islandWake c } := by
  show execPwrupHoldExpire s = _
  simp [execPwrupHoldExpire, State.run, hh, hw, h4, Device.holdOver]

/-- Settles O52: each source is reduced to `Device.wakeBy`, which wakes or latches. -/
theorem wakeSourcesWake : Obligations.WakeSourcesWake := by
  refine ⟨?_, ?_, ?_, ?_, ?_, ?_⟩
  · intro s hc hh he
    refine ⟨_, exec_supplyApplied hc, ?_⟩
    rw [wakeBy_wakes (d := s.toDevice.rstHigh) _ _ hh he]
    exact ⟨islandWake_woken (d := s.toDevice.rstHigh) _ hc, islandWake_sysRst _ _⟩
  · intro pin ns s hc hh he hcfg hns
    refine ⟨_, exec_wakePin hc hcfg hns, ?_⟩
    rw [wakeBy_wakes _ _ hh he]
    exact islandWake_woken _ hc
  · intro s hc hh he hcfg ha
    refine ⟨_, exec_wakeAlarm hc hcfg ha, ?_⟩
    rw [wakeBy_wakes _ _ hh he]
    exact islandWake_woken _ hc
  · intro s _ hh hw
    exact exec_pwrupHoldExpire_quiet hh hw
  · intro c s hc hh hw h4
    exact ⟨_, exec_pwrupHoldExpire_latched hh hw h4, islandWake_woken (d := s.toDevice.holdOver) c hc⟩
  · intro pin ns s hc hh hcfg hns
    rw [Gives, exec_wakePin hc hcfg hns, wakeBy_latches _ _ hh]
    simp only [pinLatch, Fin.val_eq_zero_iff]

end Sys2Proof.Machine

namespace Sys2Proof.Machine

/-! # The link maps of the sets

The part of the device that `Device.linkFits` speaks of, and how the updates of the device change it. -/

/-- The active set, the mirror set, and the image operation in progress. -/
structure LinkView where
  act : PrismSet
  mir : PrismSet
  op : Option ImgOp

/-- What `Device.linkFits` looks at. -/
def Device.linkView (d : Device) : LinkView := ⟨d.act, d.mir, d.img.op⟩

/-- The condition of `Device.linkFits` on what it looks at. -/
def LinkView.fits (v : LinkView) : Prop :=
  v.act.linkOk ∧ v.mir.linkOk ∧ ∀ o, v.op = some o → ∀ p, o.set = some p → p.linkOk

theorem linkFits_iff (d : Device) : d.linkFits ↔ d.linkView.fits := Iff.rfl

/-! ## Updates -/

@[simp] theorem linkView_ite (c : Prop) [Decidable c] (a b : Device) :
    (if c then a else b).linkView = if c then a.linkView else b.linkView := apply_ite _ _ _ _

@[simp] theorem fits_ite (c : Prop) [Decidable c] (a b : LinkView) :
    (if c then a else b).fits ↔ if c then a.fits else b.fits := by split <;> rfl

/-- A record update of the device has the view that its sets and its image state give. -/
@[simp low] theorem linkView_mk (regs force bank rdata : Sparse Word) (us free : Nat) (bridge : Bridge)
    (power : Power) (boot : Boot) (trans : Option Trans) (loupeFrom : Nat) (hv : Hv) (seg : Glass) (flt : Faults)
    (mem : Mem) (keep : Keep) (link : Link) (act mir : PrismSet) (swap : Swap) (srv : Survey) (ras : Raster)
    (img : Img) (dprx : Sparse PortX) (tap : Tap) (lay : Layers) (trn : Trn) (cmp : Cmp) (claims : List RunClaim)
    (mbx : Mbx) (ik : Ikiush) (hif : Hif) (clk : Clk) :
    (Device.mk regs force bank rdata us free bridge power boot trans loupeFrom hv seg flt mem keep link act mir
      swap srv ras img dprx tap lay trn cmp claims mbx ik hif clk).linkView = ⟨act, mir, img.op⟩ := (rfl)

@[simp] theorem linkView_eta (d : Device) : (⟨d.act, d.mir, d.img.op⟩ : LinkView) = d.linkView := (rfl)

@[simp] theorem wr_linkView (d : Device) (off v : Nat) : (d.wr off v).linkView = d.linkView := (rfl)

@[simp] theorem put_linkView (d : Device) (f : Fld) (v : Nat) : (d.put f v).linkView = d.linkView := (rfl)

@[simp] theorem bump_linkView (d : Device) (f : Fld) (n : Nat) : (d.bump f n).linkView = d.linkView := (rfl)

@[simp] theorem wrF_linkView (d : Device) (off v : Nat) : (d.wrF off v).linkView = d.linkView := (rfl)

@[simp] theorem wrB_linkView (d : Device) (m off v : Nat) : (d.wrB m off v).linkView = d.linkView := (rfl)

@[simp] theorem reply_linkView (d : Device) (m v : Nat) : (d.reply m v).linkView = d.linkView := (rfl)

@[simp] theorem drawn_linkView (d : Device) : d.drawn.linkView = d.linkView := (rfl)

/-- An operation that keeps the view keeps it over a list. -/
@[simp] theorem eachOf_linkView {α : Type} (l : List α) (f : α → Device → Device) (d : Device)
    (h : ∀ a d, (f a d).linkView = d.linkView) : (eachOf l f d).linkView = d.linkView := by
  induction l generalizing d with
  | nil => rfl
  | cons a l ih => exact (ih (f a d)).trans (h a d)

/-- The same for a fold. -/
@[simp] theorem foldl_linkView {α : Type} (l : List α) (f : Device → α → Device) (d : Device)
    (h : ∀ d a, (f d a).linkView = d.linkView) : (l.foldl f d).linkView = d.linkView :=
  eachOf_linkView l (fun a d => f d a) d fun a d => h d a

/-- The same for a fold with a value of its own beside the device. -/
theorem foldl_fst_linkView {α β : Type} (l : List α) (f : Device × β → α → Device × β) (r : Device × β)
    (h : ∀ r a, (f r a).1.linkView = r.1.linkView) : (l.foldl f r).1.linkView = r.1.linkView := by
  induction l generalizing r with
  | nil => rfl
  | cons a l ih => exact (ih (f r a)).trans (h r a)

/-- An operation that keeps the link maps sound keeps them so over a list. -/
theorem eachOf_fits {α : Type} (l : List α) (f : α → Device → Device) (d : Device)
    (h : ∀ a d, d.linkView.fits → (f a d).linkView.fits) (hd : d.linkView.fits) : (eachOf l f d).linkView.fits := by
  induction l generalizing d with
  | nil => exact hd
  | cons a l ih => exact ih (f a d) (h a d hd)

@[simp] theorem latch_linkView (d : Device) (m space addr code : Nat) :
    (d.latch m space addr code).linkView = d.linkView := by
  simp [Device.latch]

@[simp] theorem rejectAt_linkView (d : Device) (m space addr code : Nat) :
    (d.rejectAt m space addr code).linkView = d.linkView := by
  simp [Device.rejectAt]

@[simp] theorem reject_linkView (d : Device) (m off code : Nat) : (d.reject m off code).linkView = d.linkView :=
  rejectAt_linkView _ _ _ _ _

/-- A guarded operation leaves the view its operation leaves, or the view as it was. -/
@[simp] theorem guarded_linkView (d : Device) (m off : Nat) (checks : List (Bool × Nat)) (f : Device → Device) :
    (d.guarded m off checks f).linkView =
      if d.power.coreOn = true ∧ firstFail checks = none then (f d).linkView else d.linkView := by
  unfold Device.guarded
  cases d.power.coreOn with
  | false => simp
  | true => cases firstFail checks <;> simp

@[simp] theorem hvGuarded_linkView (d : Device) (m off : Nat) (checks : List (Bool × Nat)) (f : Device → Device) :
    (d.hvGuarded m off checks f).linkView =
      if d.bridge.lost = false ∧ d.power.coreOn = true ∧ firstFail checks = none then (f d).linkView else d.linkView := by
  unfold Device.hvGuarded
  cases hc : d.power.coreOn <;> cases hb : d.bridge.lost <;> simp [hc]

/-! ## Commands -/

/-- A command that keeps the view. -/
def KeepsLink (f : State → Out) : Prop :=
  ∀ s : State, ∃ e : Device, f s = .next { s with toDevice := e } ∧ e.linkView = s.toDevice.linkView

/-- A command that keeps the link maps sound. -/
def KeepsFits (f : State → Out) : Prop :=
  ∀ s : State, s.toDevice.linkView.fits → ∃ e : Device, f s = .next { s with toDevice := e } ∧ e.linkView.fits

theorem keepsLink_run {g : Device → Device} (h : ∀ d, (g d).linkView = d.linkView) : KeepsLink (fun s => s.run g) :=
  fun s => ⟨g s.toDevice, rfl, h s.toDevice⟩

theorem keepsFits_run {g : Device → Device} (h : ∀ d, d.linkView.fits → (g d).linkView.fits) :
    KeepsFits (fun s => s.run g) :=
  fun s hs => ⟨g s.toDevice, rfl, h s.toDevice hs⟩

theorem KeepsLink.keepsFits {f : State → Out} (h : KeepsLink f) : KeepsFits f := fun s hs => by
  obtain ⟨e, he, hv⟩ := h s
  exact ⟨e, he, hv ▸ hs⟩

/-- A command run on the device alone keeps what the command keeps. -/
@[simp] theorem via_linkView (d : Device) (f : State → Out) (h : KeepsLink f) : (d.via f).linkView = d.linkView := by
  obtain ⟨e, he, hv⟩ := h { toDevice := d, pending := [] }
  rw [Device.via, he]
  exact hv

/-! ## The link map of a checked image (check 14 of R77) -/

theorem LinkView.fits_empty : LinkView.fits ⟨{}, {}, none⟩ := by
  obtain ⟨hact, hmir, -⟩ := reset_linkFits
  exact ⟨hact, hmir, fun _ h => (nomatch h)⟩

theorem LinkView.fits_op_none {v : LinkView} (h : v.fits) : LinkView.fits ⟨v.act, v.mir, none⟩ :=
  ⟨h.1, h.2.1, fun _ ho => (nomatch ho)⟩

theorem LinkView.fits_op_some {v : LinkView} {o : ImgOp} (h : v.fits) (ho : ∀ p, o.set = some p → p.linkOk) :
    LinkView.fits ⟨v.act, v.mir, some o⟩ :=
  ⟨h.1, h.2.1, fun _ hs => (by cases hs; exact ho)⟩

theorem all_of_checkSecs_ok {check code : Nat} {l : List (Bool × Nat × Nat)} {u : Unit} (h : checkSecs check code l = .ok u) :
    ∀ c ∈ l, c.1 = true := by
  induction l with
  | nil => simp
  | cons c l ih =>
    obtain ⟨ok, sec, o⟩ := c
    cases ok with
    | false => simp [checkSecs] at h
    | true => simpa using ih h

/-- A checked image is for 1 to 96 stripes (check 1 of R77). -/
theorem stripes_le_of_checked {b : ImgBytes} {x : ImgCtx} {u : Unit} (h : imgCheckHead b x = .ok u) : imgLe b 0x16 2 ≤ 96 := by
  obtain ⟨_, h1, -⟩ := ok_of_bind_ok h
  have hn := all_of_checkAll_ok h1 (decide (1 ≤ imgLe b 0x16 2 ∧ imgLe b 0x16 2 ≤ 96), 0x16) (by simp)
  exact (of_decide_eq_true hn).2

/-- The lanes and spares of an image that passes check 14 are in range. -/
theorem linkMap_of_checked {b : ImgBytes} {u : Unit} (h : imgCheckSections b = .ok u) :
    (parseImage b).spares.length ≤ 4 ∧ (∀ e ∈ (parseImage b).lanes, e.lane < 96 ∧ e.ret < 24 ∧ e.slot < 4) ∧
      ∀ e ∈ (parseImage b).spares, e.lane < 96 := by
  unfold imgCheckSections at h
  extract_lets t p n at_ idx off len lb lo cnt allLanes rets co cover jp at h
  have hjp : ∃ r, jp r = .ok u := by
    split at h
    · exact ⟨(), h⟩
    · obtain ⟨r, -, hr⟩ := ok_of_bind_ok h
      exact ⟨r, hr⟩
  obtain ⟨r, hr⟩ := hjp
  obtain ⟨_, -, hr⟩ := ok_of_bind_ok hr
  obtain ⟨_, h14, -⟩ := ok_of_bind_ok hr
  have hall := all_of_checkSecs_ok h14
  have hcnt := hall _ (List.mem_append_left _ (List.mem_append_left _ (List.mem_singleton_self _)))
  have hlane : ∀ i < n, _ := fun i hi =>
    hall _ (List.mem_append_left _ (List.mem_append_right _ (List.mem_map_of_mem (List.mem_range.mpr hi))))
  have hspare : ∀ i < cnt, _ := fun i hi => hall _ (List.mem_append_right _ (List.mem_map_of_mem (List.mem_range.mpr hi)))
  simp only [Bool.and_eq_true, decide_eq_true_eq] at hcnt hlane hspare
  have hnl : p.lanes.length = n := by simp [p, n, parseImage, parseLanes]
  have hns : p.spares.length = cnt := by simp only [p, parseImage, parseSpares, List.length_map, List.length_range]; rfl
  refine ⟨hns.trans_le hcnt.1.1.2, List.forall_mem_iff_getElem.mpr fun i hi => ?_, List.forall_mem_iff_getElem.mpr fun i hi => ?_⟩
  · exact List.getD_eq_getElem p.lanes {} hi ▸ (hlane i (hnl ▸ hi)).2
  · exact List.getD_eq_getElem p.spares {} hi ▸ (hspare i (hns ▸ hi)).1.1

/-- A checked image's set has a sound link map. -/
theorem linkOk_of_checked {b : ImgBytes} {x : ImgCtx} {u : Unit} (h : imgCheck21 b x = .ok u) : (parseImage b).linkOk := by
  obtain ⟨_, h19, -⟩ := ok_of_bind_ok h
  obtain ⟨_, hhead, hrest⟩ := ok_of_bind_ok h19
  obtain ⟨_, -, hrest⟩ := ok_of_bind_ok hrest
  obtain ⟨_, -, hsec⟩ := ok_of_bind_ok hrest
  obtain ⟨hspares, hlane, hspare⟩ := linkMap_of_checked hsec
  have hn : (parseImage b).lanes.length = imgLe b 0x16 2 := by simp [parseImage, parseLanes]
  exact ⟨hn ▸ stripes_le_of_checked hhead, hspares, hlane, hspare⟩

end Sys2Proof.Machine

namespace Sys2Proof.Machine

/-! # What each operation does to the sets

One lemma per operation of the model, in the order of the model's files. All but a few keep `Device.linkView`; those
that lose, decode, exchange or refill a set, or run an image operation, keep `LinkView.fits`. -/

/-! ## Ops -/

@[simp] theorem ring_linkView (d : Device) (m b : Nat) : (d.ring m b).linkView = d.linkView := by
  simp [Device.ring]

/-! ## KeepOps -/

@[simp] theorem kSync_linkView (d : Device) : d.kSync.linkView = d.linkView := by
  simp [Device.kSync]

@[simp] theorem kDirty_linkView (d : Device) (page : Nat) : (d.kDirty page).linkView = d.linkView := by
  simp [Device.kDirty]

@[simp] theorem kWr_linkView (d : Device) (a : Nat) (bs : List Nat) : (d.kWr a bs).linkView = d.linkView := by
  simp [Device.kWr]

@[simp] theorem kStart_linkView (d : Device) (kind : Nat) : (d.kStart kind).linkView = d.linkView := (rfl)

@[simp] theorem kSnapshot_linkView (d : Device) : d.kSnapshot.linkView = d.linkView := by
  unfold Device.kSnapshot
  split <;> simp

@[simp] theorem kComplete_linkView (d : Device) : d.kComplete.linkView = d.linkView := by
  unfold Device.kComplete
  split <;> simp

@[simp] theorem kFail_linkView (d : Device) : d.kFail.linkView = d.linkView := by
  unfold Device.kFail
  split <;> simp

@[simp] theorem ctrEnqueue_linkView (d : Device) (u : CtrUpdate) : (d.ctrEnqueue u).linkView = d.linkView := by
  unfold Device.ctrEnqueue
  split <;> simp

@[simp] theorem ctrApply_linkView (d : Device) (u : CtrUpdate) : (d.ctrApply u).linkView = d.linkView := by
  simp [Device.ctrApply]

@[simp] theorem ctrDone_linkView (d : Device) : d.ctrDone.linkView = d.linkView := by
  unfold Device.ctrDone
  dsimp only
  repeat' split
  all_goals simp

@[simp] theorem ctrAdd_linkView (d : Device) (index amount : Nat) : (d.ctrAdd index amount).linkView = d.linkView := by
  simp [Device.ctrAdd]

@[simp] theorem logAppend_linkView (d : Device) (body : List Nat) : (d.logAppend body).linkView = d.linkView := by
  simp [Device.logAppend]

@[simp] theorem logEntry_linkView (d : Device) (code inst kind sev : Nat) (data : List Nat) :
    (d.logEntry code inst kind sev data).linkView = d.linkView := by
  simp [Device.logEntry]

@[simp] theorem recTwin_linkView (d : Device) (r : Resolved) : (d.recTwin r).linkView = d.linkView := by
  simp [Device.recTwin]

@[simp] theorem recSave_linkView (d : Device) (id : Nat) (body : List Nat) :
    (d.recSave id body).linkView = d.linkView := by
  unfold Device.recSave
  repeat' split
  all_goals simp

@[simp] theorem kSaveRegs_linkView (d : Device) : d.kSaveRegs.linkView = d.linkView := by
  unfold Device.kSaveRegs
  dsimp only
  repeat' split
  all_goals simp

/-! ## LinkOps -/

@[simp] theorem setLane_linkView (d : Device) (n : Nat) (x : LaneX) : (d.setLane n x).linkView = d.linkView := (rfl)

@[simp] theorem setRet_linkView (d : Device) (m : Nat) (x : RetX) : (d.setRet m x).linkView = d.linkView := (rfl)

@[simp] theorem sendCtl_linkView (d : Device) (n target op : Nat) (data : List Nat) (integrator : Bool) :
    (d.sendCtl n target op data integrator).linkView = d.linkView := (rfl)

@[simp] theorem broadcastCtl_linkView (d : Device) (op : Nat) (data : List Nat) :
    (d.broadcastCtl op data).linkView = d.linkView := by
  simp [Device.broadcastCtl]

@[simp] theorem sendConfig_linkView (d : Device) (s : Nat) : (d.sendConfig s).linkView = d.linkView := (rfl)

@[simp] theorem linkAdopt_linkView (d : Device) : d.linkAdopt.linkView = d.linkView := by
  unfold Device.linkAdopt
  refine (eachOf_linkView _ _ _ fun k d => ?_).trans (eachOf_linkView _ _ _ fun n d => ?_)
  · split <;> simp
  · split <;> simp

@[simp] theorem trainStart_linkView (d : Device) (n : Nat) (full again retry : Bool) :
    (d.trainStart n full again retry).linkView = d.linkView := by
  unfold Device.trainStart
  dsimp only
  repeat' split
  all_goals simp

@[simp] theorem trainAll_linkView (d : Device) : d.trainAll.linkView = d.linkView := by
  simp [Device.trainAll]

@[simp] theorem laneOff_linkView (d : Device) (n : Nat) : (d.laneOff n).linkView = d.linkView := by
  unfold Device.laneOff
  dsimp only
  split <;> simp

@[simp] theorem moveToSpare_linkView (d : Device) (s k : Nat) : (d.moveToSpare s k).linkView = d.linkView := by
  simp [Device.moveToSpare]

@[simp] theorem moveBack_linkView (d : Device) (k : Nat) : (d.moveBack k).linkView = d.linkView := by
  simp [Device.moveBack]

@[simp] theorem laneFail_linkView (d : Device) (n err : Nat) : (d.laneFail n err).linkView = d.linkView := by
  unfold Device.laneFail
  dsimp only
  split <;> simp

@[simp] theorem silence_linkView (d : Device) (m : Nat) (byCmd : Bool) : (d.silence m byCmd).linkView = d.linkView := by
  unfold Device.silence
  extract_lets granted e x
  have he : e.linkView = d.linkView := eachOf_linkView _ _ _ fun j d => by split <;> simp
  simp [he]

@[simp] theorem holdover_linkView (d : Device) : d.holdover.linkView = d.linkView := by
  simp [Device.holdover]

@[simp] theorem depthSync_linkView (d : Device) : d.depthSync.linkView = d.linkView := (rfl)

@[simp] theorem rasterSrc_linkView (d : Device) : d.rasterSrc.linkView = d.linkView := by
  simp [Device.rasterSrc]

@[simp] theorem rasterStart_linkView (d : Device) : d.rasterStart.linkView = d.linkView := by
  simp [Device.rasterStart]

@[simp] theorem scanJoin_linkView (d : Device) : d.scanJoin.linkView = d.linkView := by
  simp [Device.scanJoin]

/-! ## Power -/

@[simp] theorem seqStep_linkView (d : Device) (i : Nat) : (d.seqStep i).linkView = d.linkView := by
  simp [Device.seqStep]

@[simp] theorem seqComplete_linkView (d : Device) : d.seqComplete.linkView = d.linkView := by
  simp [Device.seqComplete]

@[simp] theorem seqFrom_linkView (d : Device) (i : Nat) : (d.seqFrom i).linkView = d.linkView := by
  unfold Device.seqFrom
  split <;> simp

@[simp] theorem seqStart_linkView (d : Device) (by' : Nat) : (d.seqStart by').linkView = d.linkView := by
  simp [Device.seqStart]

@[simp] theorem seqGood_linkView (d : Device) (i : Nat) : (d.seqGood i).linkView = d.linkView := by
  simp [Device.seqGood]

@[simp] theorem disFinish_linkView (d : Device) : d.disFinish.linkView = d.linkView := by
  simp [Device.disFinish]

@[simp] theorem bleedGo_linkView (d : Device) : d.bleedGo.linkView = d.linkView := by
  unfold Device.bleedGo
  split <;> simp

@[simp] theorem senseCut_linkView (d : Device) : d.senseCut.linkView = d.linkView := by
  simp [Device.senseCut]

@[simp] theorem disOpen_linkView (d : Device) : d.disOpen.linkView = d.linkView := by
  simp [Device.disOpen]

@[simp] theorem disStart_linkView (d : Device) (bridge : Bool) : (d.disStart bridge).linkView = d.linkView := by
  unfold Device.disStart
  repeat' split
  all_goals simp

@[simp] theorem disPowerFail_linkView (d : Device) : d.disPowerFail.linkView = d.linkView := by
  simp [Device.disPowerFail]

@[simp] theorem segCode_linkView (d : Device) (kind code : Nat) : (d.segCode kind code).linkView = d.linkView := (rfl)

/-! ## Fault -/

@[simp] theorem grow_linkView (d : Device) (c n : Nat) : (d.grow c n).linkView = d.linkView := (rfl)

@[simp] theorem spoil_linkView (d : Device) (c : Nat) : (d.spoil c).linkView = d.linkView := (rfl)

@[simp] theorem accountFlush_linkView (d : Device) : d.accountFlush.linkView = d.linkView := by
  simp [Device.accountFlush]

@[simp] theorem fltLog_linkView (d : Device) (f : Flt) (entry lat otherCode otherInst detail : Nat) :
    (d.fltLog f entry lat otherCode otherInst detail).linkView = d.linkView := by
  simp [Device.fltLog]

@[simp] theorem newtAccount_linkView (d : Device) : d.newtAccount.linkView = d.linkView := by
  unfold Device.newtAccount
  split <;> simp

@[simp] theorem degrSync_linkView (d : Device) : d.degrSync.linkView = d.linkView := by
  simp [Device.degrSync]

@[simp] theorem fltSync_linkView (d : Device) : d.fltSync.linkView = d.linkView := by
  unfold Device.fltSync
  dsimp only
  repeat' split
  all_goals simp

@[simp] theorem fltOpen_linkView (d : Device) (r : Option Recovery) : (d.fltOpen r).linkView = d.linkView := by
  simp [Device.fltOpen]

@[simp] theorem tick_linkView (d : Device) : d.tick.linkView = d.linkView := by
  unfold Device.tick
  dsimp only
  split <;> simp

@[simp] theorem contain_linkView (d : Device) (f : Flt) : (d.contain f).linkView = d.linkView := by
  unfold Device.contain
  repeat' split
  all_goals simp

@[simp] theorem containS2_linkView (d : Device) (f : Flt) : (d.containS2 f).linkView = d.linkView := by
  unfold Device.containS2
  repeat' split
  all_goals simp

@[simp] theorem planesExchange_linkView (d : Device) : d.planesExchange.linkView = d.linkView := by
  simp [Device.planesExchange]

@[simp] theorem rampEnd_linkView (d : Device) : d.rampEnd.linkView = d.linkView := by
  simp [Device.rampEnd]

@[simp] theorem surveyAbandon_linkView (d : Device) : d.surveyAbandon.linkView = d.linkView := by
  simp [Device.surveyAbandon]

@[simp] theorem swapDiscard_linkView (d : Device) : d.swapDiscard.linkView = d.linkView := by
  simp [Device.swapDiscard]

@[simp] theorem leaveTadpole_linkView (d : Device) : d.leaveTadpole.linkView = d.linkView := by
  simp [Device.leaveTadpole]

@[simp] theorem setMode_linkView (d : Device) {mode : Nat} (cause : Nat) : (d.setMode mode cause).linkView = d.linkView := by
  simp [Device.setMode]

@[simp] theorem newtHold_linkView (d : Device) : d.newtHold.linkView = d.linkView := (rfl)

@[simp] theorem newtAfterDis_linkView (d : Device) : d.newtAfterDis.linkView = d.linkView := (rfl)

@[simp] theorem recoveryDone_linkView (d : Device) (late : Bool) : (d.recoveryDone late).linkView = d.linkView := by
  unfold Device.recoveryDone
  dsimp only
  repeat' split
  all_goals simp

@[simp] theorem newtEntry_linkView (d : Device) (f : Flt) (code : Nat) : (d.newtEntry f code).linkView = d.linkView := by
  simp [Device.newtEntry]

@[simp] theorem attemptFail_linkView (d : Device) (err : Nat) : (d.attemptFail err).linkView = d.linkView := by
  simp [Device.attemptFail]

@[simp] theorem fltRecord_linkView (d : Device) (f : Flt) (detail : Nat) :
    (d.fltRecord f detail).linkView = d.linkView := by
  simp [Device.fltRecord]

@[simp] theorem escalated_linkView (d : Device) (f : Flt) (other : Flt) (ctr : Nat) :
    (d.escalated f other ctr).linkView = d.linkView := by
  simp [Device.escalated]

@[simp] theorem fltRecover_linkView (d : Device) (f : Flt) : (d.fltRecover f).linkView = d.linkView := by
  unfold Device.fltRecover
  split <;> simp

@[simp] theorem raise_linkView (d : Device) (f : Flt) (detail : Nat) : (d.raise f detail).linkView = d.linkView := by
  unfold Device.raise
  dsimp only
  repeat' split
  all_goals simp

@[simp] theorem raiseCode_linkView (d : Device) (code inst : Nat) (obj : Nat) (detail : Nat) : (d.raiseCode code inst obj detail).linkView = d.linkView := by
  simp [Device.raiseCode]

@[simp] theorem budgetEnd_linkView (d : Device) : d.budgetEnd.linkView = d.linkView := by
  unfold Device.budgetEnd
  split <;> simp

@[simp] theorem recoveryAbandon_linkView (d : Device) : d.recoveryAbandon.linkView = d.linkView := by
  unfold Device.recoveryAbandon
  split <;> simp

/-! ## Memory -/

@[simp] theorem layOut_linkView (d : Device) : d.layOut.linkView = d.linkView := by
  simp [Device.layOut]

@[simp] theorem fsInit_linkView (d : Device) : d.fsInit.linkView = d.linkView := by
  simp [Device.fsInit]

@[simp] theorem fsPut_linkView (d : Device) (bs : List (Nat × Nat)) : (d.fsPut bs).linkView = d.linkView := (rfl)

@[simp] theorem fsFound_linkView (d : Device) (l : List (Nat × Ecc)) : (d.fsFound l).linkView = d.linkView :=
  eachOf_linkView _ _ _ fun f d => by split <;> simp

@[simp] theorem fsCorrected_linkView (d : Device) (w : Nat) : (d.fsCorrected w).linkView = d.linkView := by
  simp [Device.fsCorrected]

@[simp] theorem fsLimit_linkView (d : Device) (w : Nat) : (d.fsLimit w).linkView = d.linkView := by
  simp [Device.fsLimit]

@[simp] theorem fsUncorrectable_linkView (d : Device) (w : Nat) (own s1 : Bool) : (d.fsUncorrectable w own s1).linkView = d.linkView := by
  simp [Device.fsUncorrectable]

@[simp] theorem fsReadCheck_linkView (d : Device) (a n : Nat) (own : Bool) : (d.fsReadCheck a n own).linkView = d.linkView := by
  simp [Device.fsReadCheck]

@[simp] theorem fsWord_linkView (d : Device) (m : Nat) (w : Nat) (bs : List (Nat × Nat)) : (d.fsWord m w bs).linkView = d.linkView := by
  simp [Device.fsWord]

@[simp] theorem fsWrite_linkView (d : Device) (m : Nat) (bs : List (Nat × Nat)) : (d.fsWrite m bs).linkView = d.linkView := by
  simp [Device.fsWrite]

@[simp] theorem fsFrame_linkView (d : Device) : d.fsFrame.linkView = d.linkView := (rfl)

@[simp] theorem winWrite_linkView (d : Device) (m : Nat) (bs : List (Nat × Nat)) : (d.winWrite m bs).linkView = d.linkView := by
  unfold Device.winWrite
  split <;> simp

@[simp] theorem bar2Write_linkView (d : Device) (a : Nat) (bs : List (Option Nat)) : (d.bar2Write a bs).linkView = d.linkView := by
  simp [Device.bar2Write]

@[simp] theorem bar2Read_linkView (d : Device) (a n : Nat) (ecc : List (Nat × Ecc)) : (d.bar2Read a n ecc).linkView = d.linkView := by
  simp [Device.bar2Read]

@[simp] theorem pondWr_linkView (d : Device) (a : Nat) (bs : List Nat) : (d.pondWr a bs).linkView = d.linkView := (rfl)

@[simp] theorem busyCount_linkView (d : Device) (m : Nat) (write : Bool) :
    (d.busyCount m write).linkView = d.linkView := by
  simp [Device.busyCount]

@[simp] theorem pondEcc_linkView (d : Device) (a : Nat) (found : Ecc) (raises : Bool) : (d.pondEcc a found raises).linkView = d.linkView := by
  simp [Device.pondEcc]

@[simp] theorem pondAccess_linkView (d : Device) (m a n : Nat) (val : Option (List Nat)) (pa : PortA) (found : Ecc) : (d.pondAccess m a n val pa found).1.linkView = d.linkView := by
  unfold Device.pondAccess
  dsimp only
  repeat' split
  all_goals simp

@[simp] theorem pondWindow_linkView (d : Device) (m a : Nat) (val : Option Nat) (pa : PortA) (found : Ecc) : (d.pondWindow m a val pa found).linkView = d.linkView := by
  unfold Device.pondWindow
  dsimp only
  repeat' split
  all_goals simp

@[simp] theorem pondAt_linkView (d : Device) (m off : Nat) (val : Option Nat) (pa : PortA) (found : Ecc) : (d.pondAt m off val pa found).linkView = d.linkView := by
  simp [Device.pondAt]

@[simp] theorem marchEnd_linkView (d : Device) (err : Nat) : (d.marchEnd err).linkView = d.linkView := by
  simp [Device.marchEnd]

@[simp] theorem marchSegment_linkView (d : Device) (n : Nat) : (d.marchSegment n).linkView = d.linkView := by
  simp [Device.marchSegment]

@[simp] theorem marchStepOn_linkView (d : Device) : d.marchStepOn.linkView = d.linkView := by
  unfold Device.marchStepOn
  dsimp only
  repeat' split
  all_goals simp

@[simp] theorem execMarchPreserving_keepsLink (m : Master) : KeepsLink (execMarchPreserving m) :=
  keepsLink_run fun d => by
    rw [guarded_linkView]
    dsimp only
    repeat' split
    all_goals simp

@[simp] theorem destroyBank_linkView (d : Device) (i : Nat) : (d.destroyBank i).linkView = d.linkView := by
  simp [Device.destroyBank]

@[simp] theorem execMarchDestroying_keepsLink (m : Master) : KeepsLink (execMarchDestroying m) :=
  keepsLink_run fun d => by
    rw [guarded_linkView]
    dsimp only
    repeat' split
    all_goals simp

@[simp] theorem execMarchAbort_keepsLink (m : Master) : KeepsLink (execMarchAbort m) :=
  keepsLink_run fun d => by simp

@[simp] theorem segCopy_linkView (d : Device) (src dst : Nat) : (d.segCopy src dst).linkView = d.linkView := (rfl)

@[simp] theorem marchFail_linkView (d : Device) (bank seg word bit : Nat) :
    (d.marchFail bank seg word bit).linkView = d.linkView := by
  simp [Device.marchFail]

/-! ## ModeOps -/

theorem tadpole_linkView (d : Device) (restart : Bool) (cause : Nat) : (d.tadpole restart cause).linkView = ⟨{}, {}, none⟩ := (rfl)

@[simp] theorem tadpole_fits (d : Device) (restart : Bool) (cause : Nat) : (d.tadpole restart cause).linkView.fits :=
  tadpole_linkView d restart cause ▸ LinkView.fits_empty

theorem darkOff_linkView (d : Device) : d.darkOff.linkView = ⟨{}, {}, none⟩ := (rfl)

@[simp] theorem darkOff_fits (d : Device) : d.darkOff.linkView.fits := darkOff_linkView d ▸ LinkView.fits_empty

@[simp] theorem wakeUp_linkView (d : Device) (cause : Nat) : (d.wakeUp cause).linkView = d.linkView := (rfl)

@[simp] theorem storeBegin_linkView (d : Device) (t : Trans) : (d.storeBegin t).linkView = d.linkView := by
  simp [Device.storeBegin]

@[simp] theorem downStart_linkView (d : Device) (t : Trans) : (d.downStart t).linkView = d.linkView := by
  simp [Device.downStart]

@[simp] theorem afterStore_fits (d : Device) (h : d.linkView.fits) : d.afterStore.linkView.fits := by
  unfold Device.afterStore
  repeat' split
  all_goals simp [h]

@[simp] theorem afterDischarge_linkView (d : Device) : d.afterDischarge.linkView = d.linkView := by
  unfold Device.afterDischarge
  repeat' split
  all_goals simp

@[simp] theorem powerFail_fits (d : Device) (vkeep : Bool) (h : d.linkView.fits) : (d.powerFail vkeep).linkView.fits := by
  unfold Device.powerFail
  extract_lets e1 e2 e3 e4 e5 k
  have h5 : e5.linkView = d.linkView := by simp [e5, e4, e3, e2, e1]
  repeat' split
  all_goals simp [h5, h]

/-! ## HvCmds -/

@[simp] theorem kNote_linkView (d : Device) (off : Nat) : (d.kNote off).linkView = d.linkView := by
  simp [Device.kNote]

@[simp] theorem execPowerUp_keepsLink (m : Master) : KeepsLink (execPowerUp m) :=
  keepsLink_run fun d => by simp

@[simp] theorem execDischarge_keepsLink (m : Master) : KeepsLink (execDischarge m) :=
  keepsLink_run fun d => by simp

@[simp] theorem hvFault_linkView (d : Device) (bit idx code inst : Nat) : (d.hvFault bit idx code inst).linkView = d.linkView := by
  simp [Device.hvFault]

@[simp] theorem hvEvent_linkView (d : Device) (code inst : Nat) : (d.hvEvent code inst).linkView = d.linkView := by
  simp [Device.hvEvent]

@[simp] theorem segShow_linkView (d : Device) : d.segShow.linkView = d.linkView := (rfl)

/-! ## LinkCmds -/

@[simp] theorem holdLine_linkView (d : Device) (s : Nat) : (d.holdLine s).linkView = d.linkView := by
  simp [Device.holdLine]

@[simp] theorem holdLines_linkView (d : Device) (s n : Nat) : (d.holdLines s n).linkView = d.linkView := by
  simp [Device.holdLines]

@[simp] theorem aclEnd_linkView (d : Device) (err : Nat) : (d.aclEnd err).linkView = d.linkView := by
  simp [Device.aclEnd]

@[simp] theorem aclLaneEnd_linkView (d : Device) (n err : Nat) : (d.aclLaneEnd n err).linkView = d.linkView := by
  simp [Device.aclLaneEnd]

@[simp] theorem laneUp_linkView (d : Device) (n : Nat) : (d.laneUp n).linkView = d.linkView := by
  unfold Device.laneUp
  dsimp only
  repeat' split
  all_goals simp

@[simp] theorem laneDead_linkView (d : Device) (n err : Nat) : (d.laneDead n err).linkView = d.linkView := by
  simp [Device.laneDead]

@[simp] theorem lockLost_linkView (d : Device) (n : Nat) : (d.lockLost n).linkView = d.linkView := by
  simp [Device.lockLost]

@[simp] theorem announce_linkView (d : Device) (n p : Nat) : (d.announce n p).linkView = d.linkView := (rfl)

@[simp] theorem lockDone_linkView (d : Device) (n : Nat) : (d.lockDone n).linkView = d.linkView := by
  unfold Device.lockDone
  dsimp only
  repeat' split
  all_goals simp

@[simp] theorem aclBegin_linkView (d : Device) (m op n : Nat) : (d.aclBegin m op n).linkView = d.linkView := by
  simp [Device.aclBegin]

@[simp] theorem execLaneFullTrain_keepsLink (m : Master) (n : Lane) : KeepsLink (execLaneFullTrain m n) :=
  keepsLink_run fun d => by simp

@[simp] theorem execLaneFastRetrain_keepsLink (m : Master) (n : Lane) : KeepsLink (execLaneFastRetrain m n) :=
  keepsLink_run fun d => by simp

@[simp] theorem execSparePlannedMove_keepsLink (m : Master) (n : Lane) (k : Fin 4) :
    KeepsLink (execSparePlannedMove m n k) :=
  keepsLink_run fun d => by simp

@[simp] theorem execSparePlannedReturn_keepsLink (m : Master) (n : Lane) : KeepsLink (execSparePlannedReturn m n) :=
  keepsLink_run fun d => by simp

@[simp] theorem planApply_linkView (d : Device) : d.planApply.linkView = d.linkView := by
  unfold Device.planApply
  split <;> simp

@[simp] theorem execReturnLaneRegrant_keepsLink (m : Master) (r : RetLane) : KeepsLink (execReturnLaneRegrant m r) :=
  keepsLink_run fun d => by simp

@[simp] theorem execLaneOff_keepsLink (m : Master) (n : Lane) : KeepsLink (execLaneOff m n) :=
  keepsLink_run fun d => by simp

@[simp] theorem execTrainAllLanes_keepsLink (m : Master) : KeepsLink (execTrainAllLanes m) :=
  keepsLink_run fun d => by simp

@[simp] theorem regrantFrom_linkView (d : Device) (r j : Nat) : (d.regrantFrom r j).linkView = d.linkView := by
  unfold Device.regrantFrom
  split <;> simp

@[simp] theorem driverLost_linkView (d : Device) (s : Nat) : (d.driverLost s).linkView = d.linkView := by
  simp [Device.driverLost]

@[simp] theorem jam_linkView (d : Device) (r : Nat) : (d.jam r).linkView = d.linkView := by
  simp [Device.jam]

@[simp] theorem retFrame_linkView (d : Device) (r : Nat) : (d.retFrame r).linkView = d.linkView := by
  unfold Device.retFrame
  dsimp only
  repeat' split
  all_goals simp

@[simp] theorem violation_linkView (d : Device) (r j : Nat) (crcBad : Bool) : (d.violation r j crcBad).linkView = d.linkView := by
  simp [Device.violation]

@[simp] theorem burstIn_linkView (d : Device) (b : Burst) : (d.burstIn b).1.linkView = d.linkView := by
  unfold Device.burstIn
  dsimp only
  repeat' split
  all_goals simp

@[simp] theorem burstHeard_linkView (d : Device) (n : Nat) (tie : Bool) :
    (d.burstHeard n tie).linkView = d.linkView := by
  simp [Device.burstHeard]

@[simp] theorem driverReset_linkView (d : Device) (s : Nat) : (d.driverReset s).linkView = d.linkView := by
  simp [Device.driverReset]

@[simp] theorem ackTaken_linkView (d : Device) (n st seq : Nat) : (d.ackTaken n st seq).linkView = d.linkView := by
  simp [Device.ackTaken]

@[simp] theorem in0Lost_linkView (d : Device) (st : Nat) : (d.in0Lost st).linkView = d.linkView := by
  unfold Device.in0Lost
  dsimp only
  split <;> simp

@[simp] theorem execIntegratorPacketSend_keepsLink (m : Master) : KeepsLink (execIntegratorPacketSend m) :=
  keepsLink_run fun d => by simp

/-! ## Claims -/

@[simp] theorem claim_linkView (d : Device) (feature cls idx master : Nat) :
    (d.claim feature cls idx master).linkView = d.linkView := (rfl)

@[simp] theorem unclaim_linkView (d : Device) (feature : Nat) (p : RunClaim → Bool) :
    (d.unclaim feature p).linkView = d.linkView := (rfl)

/-! ## Mbx -/

@[simp] theorem mbSync_linkView (d : Device) (c : Nat) : (d.mbSync c).linkView = d.linkView := by
  simp [Device.mbSync]

@[simp] theorem mbPut_linkView (d : Device) (c : Nat) (ab : Bool) (q : List Word) :
    (d.mbPut c ab q).linkView = d.linkView := by
  simp [Device.mbPut]

@[simp] theorem ackRestart_linkView (d : Device) (c : Nat) (ab : Bool) : (d.ackRestart c ab).linkView = d.linkView := (rfl)

@[simp] theorem mbEmpty_linkView (d : Device) (c : Nat) : (d.mbEmpty c).linkView = d.linkView := by
  simp [Device.mbEmpty]

@[simp] theorem mbBind_linkView (d : Device) (c v : Nat) : (d.mbBind c v).linkView = d.linkView := by
  simp [Device.mbBind]

@[simp] theorem execChannelBind_keepsLink (m : Master) (c : Fin 64) (val : Nat) : KeepsLink (execChannelBind m c val) :=
  keepsLink_run fun d => by simp

@[simp] theorem channelTable_linkView (d : Device) : d.channelTable.linkView = d.linkView := by
  unfold Device.channelTable
  dsimp only
  split <;> simp

@[simp] theorem mbPush_linkView (d : Device) (c : Nat) (ab : Bool) (w : Nat) :
    (d.mbPush c ab w).linkView = d.linkView := by
  simp [Device.mbPush]

@[simp] theorem mbSend_linkView (d : Device) (m c val : Nat) : (d.mbSend m c val).linkView = d.linkView := by
  simp [Device.mbSend]

@[simp] theorem mbPop_linkView (d : Device) (c : Nat) (ab : Bool) : (d.mbPop c ab).linkView = d.linkView := by
  simp [Device.mbPop]

@[simp] theorem mbRecv_linkView (d : Device) (m c : Nat) : (d.mbRecv m c).linkView = d.linkView := by
  unfold Device.mbRecv
  repeat' split
  all_goals simp

@[simp] theorem dbRing_linkView (d : Device) (m val : Nat) : (d.dbRing m val).linkView = d.linkView := by
  simp [Device.dbRing]

@[simp] theorem lockPut_linkView (d : Device) (n v : Nat) : (d.lockPut n v).linkView = d.linkView := (rfl)

@[simp] theorem lockRead_linkView (d : Device) (n : Nat) (ms : List Nat) : (d.lockRead n ms).linkView = d.linkView := by
  unfold Device.lockRead
  dsimp only
  repeat' split
  all_goals simp

@[simp] theorem lockWrite_linkView (d : Device) (m n val : Nat) : (d.lockWrite m n val).linkView = d.linkView := by
  simp [Device.lockWrite]

@[simp] theorem lockForce_linkView (d : Device) (n : Nat) : (d.lockForce n).linkView = d.linkView := by
  simp [Device.lockForce]

@[simp] theorem lockClear_linkView (d : Device) (m val : Nat) : (d.lockClear m val).linkView = d.linkView := by
  simp [Device.lockClear]

@[simp] theorem locksDrop_linkView (d : Device) (m : Nat) : (d.locksDrop m).linkView = d.linkView := by
  simp [Device.locksDrop]

/-! ## Flash -/

@[simp] theorem flashProgram_linkView (d : Device) (a : Nat) (bs : List Nat) :
    (d.flashProgram a bs).linkView = d.linkView := (rfl)

@[simp] theorem flashErase_linkView (d : Device) (a n : Nat) : (d.flashErase a n).linkView = d.linkView := (rfl)

@[simp] theorem flashSpoil_linkView (d : Device) (a n : Nat) : (d.flashSpoil a n).linkView = d.linkView := (rfl)

/-! ## KeepCmds -/

@[simp] theorem execKeepStoreCmd_keepsLink (m : Master) : KeepsLink (execKeepStoreCmd m) :=
  keepsLink_run fun d => by simp

@[simp] theorem setPwWords_linkView (d : Device) (m : Nat) (l : List Nat) :
    (d.setPwWords m l).linkView = d.linkView := (rfl)

@[simp] theorem setUnlock_linkView (d : Device) (m j : Nat) (b : Bool) : (d.setUnlock m j b).linkView = d.linkView := (rfl)

@[simp] theorem execKeepUnlock_keepsLink (m : Master) (j : Fin 16) : KeepsLink (execKeepUnlock m j) :=
  keepsLink_run fun d => by simp

@[simp] theorem execKeepLock_keepsLink (m : Master) (j : Fin 16) : KeepsLink (execKeepLock m j) :=
  keepsLink_run fun d => by simp

@[simp] theorem execKeepLockAll_keepsLink (m : Master) : KeepsLink (execKeepLockAll m) :=
  keepsLink_run fun d => by simp

@[simp] theorem execKeepStageRelease_keepsLink (m : Master) : KeepsLink (execKeepStageRelease m) :=
  keepsLink_run fun d => by simp

@[simp] theorem pwCommit_linkView (d : Device) : d.pwCommit.linkView = d.linkView := by
  simp [Device.pwCommit]

@[simp] theorem execKeepSetPassword_keepsLink (m : Master) (j : Fin 16) : KeepsLink (execKeepSetPassword m j) :=
  keepsLink_run fun d => by simp

@[simp] theorem execKeepPasswordWord_keepsLink (m : Master) (val : Nat) : KeepsLink (execKeepPasswordWord m val) :=
  keepsLink_run fun d => by simp

@[simp] theorem execKeepRegionWrite_keepsLink (m : Master) (j : Fin 16) (val : Nat) :
    KeepsLink (execKeepRegionWrite m j val) :=
  keepsLink_run fun d => by simp

@[simp] theorem execKeepDataRead_keepsLink (m : Master) : KeepsLink (execKeepDataRead m) :=
  keepsLink_run fun d => by
    dsimp only
    repeat' split
    all_goals simp

@[simp] theorem execKeepDataWrite_keepsLink (m : Master) (val : Nat) : KeepsLink (execKeepDataWrite m val) :=
  keepsLink_run fun d => by
    dsimp only
    repeat' split
    all_goals simp

@[simp] theorem stagePut_linkView (d : Device) (b : List Nat) : (d.stagePut b).linkView = d.linkView := by
  simp [Device.stagePut]

@[simp] theorem recResolveCmd_linkView (d : Device) (m id : Nat) : (d.recResolveCmd m id).linkView = d.linkView := by
  unfold Device.recResolveCmd
  dsimp only
  repeat' split
  all_goals simp

@[simp] theorem recCommitCmd_linkView (d : Device) (m id len : Nat) :
    (d.recCommitCmd m id len).linkView = d.linkView := by
  unfold Device.recCommitCmd
  split <;> simp

@[simp] theorem execRecordResolve_keepsLink (m : Master) (id : Nat) (forEn : Bool) (who : Nat) :
    KeepsLink (execRecordResolve m id forEn who) :=
  keepsLink_run fun d => by simp

@[simp] theorem execRecordCommit_keepsLink (m : Master) (id len : Nat) (forEn : Bool) (who : Nat) :
    KeepsLink (execRecordCommit m id len forEn who) :=
  keepsLink_run fun d => by simp

@[simp] theorem recCommitDone_linkView (d : Device) : d.recCommitDone.linkView = d.linkView := by
  unfold Device.recCommitDone
  split <;> simp

@[simp] theorem execKeepStageWrite_keepsLink (m : Master) (i : Fin 256) (val : Nat) :
    KeepsLink (execKeepStageWrite m i val) :=
  keepsLink_run fun d => by simp

@[simp] theorem execCounterAdd_keepsLink (m : Master) (amount : Nat) : KeepsLink (execCounterAdd m amount) :=
  keepsLink_run fun d => by simp

@[simp] theorem execCounterClear_keepsLink (m : Master) : KeepsLink (execCounterClear m) :=
  keepsLink_run fun d => by simp

@[simp] theorem execCounterRead_keepsLink (m : Master) : KeepsLink (execCounterRead m) :=
  keepsLink_run fun d => by simp

@[simp] theorem execLogAppend_keepsLink (m : Master) : KeepsLink (execLogAppend m) :=
  keepsLink_run fun d => by simp

@[simp] theorem execClockSet_keepsLink (m : Master) (val : Nat) : KeepsLink (execClockSet m val) :=
  keepsLink_run fun d => by simp

/-! ## Ikiush -/

@[simp] theorem setCore_linkView (d : Device) (k : Nat) (x : CoreX) : (d.setCore k x).linkView = d.linkView := (rfl)

@[simp] theorem bankTake_linkView (d : Device) (k f n : Nat) : (d.bankTake k f n).linkView = d.linkView := by
  simp [Device.bankTake]

@[simp] theorem bankGive_linkView (d : Device) (k : Nat) : (d.bankGive k).linkView = d.linkView := by
  simp [Device.bankGive]

@[simp] theorem coreAlloc_linkView (d : Device) (m k n : Nat) : (d.coreAlloc m k n).linkView = d.linkView := by
  unfold Device.coreAlloc
  rw [guarded_linkView]
  repeat' split
  all_goals simp

@[simp] theorem coreRelease_linkView (d : Device) (k : Nat) : (d.coreRelease k).linkView = d.linkView := (rfl)

@[simp] theorem claimsDrop_linkView (d : Device) (m : Nat) : (d.claimsDrop m).linkView = d.linkView := by
  simp [Device.claimsDrop]

@[simp] theorem coreReset_linkView (d : Device) (k : Nat) : (d.coreReset k).linkView = d.linkView := by
  simp [Device.coreReset]

@[simp] theorem coreHalt_linkView (d : Device) (k : Nat) : (d.coreHalt k).linkView = d.linkView := by
  simp [Device.coreHalt]

@[simp] theorem coreResume_linkView (d : Device) (k : Nat) : (d.coreResume k).linkView = d.linkView := by
  simp [Device.coreResume]

@[simp] theorem coreCtrl_linkView (d : Device) (m k : Nat) (run halt : Bool) :
    (d.coreCtrl m k run halt).linkView = d.linkView := by
  simp [Device.coreCtrl]

@[simp] theorem coreKick_linkView (d : Device) (m k : Nat) : (d.coreKick m k).linkView = d.linkView := by
  simp [Device.coreKick]

@[simp] theorem takeTrap_linkView (d : Device) (k : Nat) (interrupt : Bool) (cause tval : Nat) :
    (d.takeTrap k interrupt cause tval).linkView = d.linkView := by
  simp [Device.takeTrap]

@[simp] theorem mtimeRead_linkView (d : Device) (m : Nat) : (d.mtimeRead m).linkView = d.linkView := (rfl)

@[simp] theorem consume_linkView (d : Device) (c n : Nat) : (d.consume c n).linkView = d.linkView := by
  simp [Device.consume]

@[simp] theorem answerOn_linkView (d : Device) (c op tag status : Nat) (payload : List Nat) :
    (d.answerOn c op tag status payload).linkView = d.linkView := by
  simp [Device.answerOn]

@[simp] theorem loadFail_linkView (d : Device) (k code : Nat) (reply : Option (Nat × Nat)) :
    (d.loadFail k code reply).linkView = d.linkView := by
  unfold Device.loadFail
  split <;> simp

@[simp] theorem loadBegin_linkView (d : Device) (k : Nat) (reply : Option (Nat × Nat)) :
    (d.loadBegin k reply).linkView = d.linkView := by
  unfold Device.loadBegin
  repeat' split
  all_goals simp

@[simp] theorem loadFinish_linkView (d : Device) (bad : Bool) : (d.loadFinish bad).linkView = d.linkView := by
  unfold Device.loadFinish
  repeat' split
  all_goals simp

/-! ## Hif -/

@[simp] theorem latchClear_linkView (d : Device) (m : Nat) : (d.latchClear m).linkView = d.linkView := (rfl)

@[simp] theorem errClear_linkView (d : Device) (m val : Nat) : (d.errClear m val).linkView = d.linkView := by
  simp [Device.errClear]

@[simp] theorem msixReset_linkView (d : Device) : d.msixReset.linkView = d.linkView := by
  simp [Device.msixReset]

@[simp] theorem hostReset_linkView (d : Device) : d.hostReset.linkView = d.linkView := by
  simp [Device.hostReset]

@[simp] theorem pbaPut_linkView (d : Device) (v : Nat) (b : Bool) : (d.pbaPut v b).linkView = d.linkView := (rfl)

@[simp] theorem xspiCmd_linkView (d : Device) (m op len : Nat) : (d.xspiCmd m op len).linkView = d.linkView := by
  simp [Device.xspiCmd]

@[simp] theorem xspiEnd_linkView (d : Device) (err : Nat) : (d.xspiEnd err).linkView = d.linkView := by
  simp [Device.xspiEnd]

@[simp] theorem dmaStart_linkView (d : Device) (m ss ds : Nat) : (d.dmaStart m ss ds).linkView = d.linkView := by
  simp [Device.dmaStart]

@[simp] theorem dmaAbort_linkView (d : Device) (m : Nat) : (d.dmaAbort m).linkView = d.linkView := by
  simp [Device.dmaAbort]

@[simp] theorem i2cCmd_linkView (d : Device) (m n val : Nat) : (d.i2cCmd m n val).linkView = d.linkView := by
  simp [Device.i2cCmd]

@[simp] theorem i2cEnd_linkView (d : Device) (n : Nat) (x : I2c) (err : Nat) :
    (d.i2cEnd n x err).linkView = d.linkView := by
  simp [Device.i2cEnd]

@[simp] theorem gpioEnable_linkView (d : Device) (m val : Nat) : (d.gpioEnable m val).linkView = d.linkView := by
  simp [Device.gpioEnable]

@[simp] theorem spSync_linkView (d : Device) : d.spSync.linkView = d.linkView := (rfl)

@[simp] theorem spPond_linkView (d : Device) (a : Nat) (val : Option Nat) (pa : PortA) (found : Ecc) : (d.spPond a val pa found).linkView = d.linkView := by
  unfold Device.spPond
  dsimp only
  split <;> simp

/-! ## Limits -/

@[simp] theorem rlimSync_linkView (d : Device) : d.rlimSync.linkView = d.linkView := by
  simp [Device.rlimSync]

/-! ## ClkCmds -/

@[simp] theorem wrFrame_linkView (d : Device) (off v : Nat) : (d.wrFrame off v).linkView = (d.wr off v).linkView := by
  simp [Device.wrFrame]

@[simp] theorem sscWrite_linkView (d : Device) (m v : Nat) : (d.sscWrite m v).linkView = d.linkView := by
  simp [Device.sscWrite]

@[simp] theorem fclkApply_linkView (d : Device) : d.fclkApply.linkView = d.linkView := by
  simp [Device.fclkApply]

@[simp] theorem fclkRequest_linkView (d : Device) (req : Nat) : (d.fclkRequest req).linkView = d.linkView := by
  simp [Device.fclkRequest]

@[simp] theorem execFclkStepRequest_keepsLink (m : Master) (req : Fin 4) : KeepsLink (execFclkStepRequest m req) :=
  keepsLink_run fun d => by simp

@[simp] theorem marginLog_linkView (d : Device) (action lane : Nat) :
    (d.marginLog action lane).linkView = d.linkView := by
  simp [Device.marginLog]

@[simp] theorem eyeWrite_linkView (d : Device) (m v : Nat) : (d.eyeWrite m v).linkView = d.linkView := by
  simp [Device.eyeWrite]

/-! ## Access -/

@[simp] theorem msWrite_linkView (d : Device) (m off v : Nat) :
    (d.msWrite m off v).linkView = d.linkView := by
  simp [Device.msWrite]

/-! ## Swap -/

@[simp] theorem bankUse_linkView (d : Device) (i use : Nat) : (d.bankUse i use).linkView = d.linkView := by
  simp [Device.bankUse]

theorem takeBanks_linkView {d : Device} {n use : Nat} {r : Device × List Nat} (h : d.takeBanks n use = some r) :
    r.1.linkView = d.linkView := by
  unfold Device.takeBanks at h
  split at h
  · cases h
  · cases h; simp

@[simp] theorem sizeUse_linkView (d : Device) (use n : Nat) : (d.sizeUse use n).linkView = d.linkView := by
  unfold Device.sizeUse
  dsimp only
  split
  · simp
  · split
    · exact takeBanks_linkView ‹_›
    · rfl

theorem placeLuts_linkView {p : PrismSet} {shared : List (LutBlock × List Nat)} {use : Nat} {bs : List LutBlock} :
    ∀ {d : Device} {r : Device × List LutPlace}, d.placeLuts p shared use bs = some r → r.1.linkView = d.linkView := by
  induction bs with
  | nil => intro d r h; cases h; rfl
  | cons b bs ih =>
    intro d r h
    unfold Device.placeLuts at h
    split at h
    · obtain ⟨q, hq, hr⟩ := Option.map_eq_some_iff.mp h
      cases hr
      exact ih (r := q) hq
    · split at h
      · cases h
      · obtain ⟨q, hq, hr⟩ := Option.map_eq_some_iff.mp h
        cases hr
        exact (ih (r := q) hq).trans (takeBanks_linkView ‹_›)

@[simp] theorem placeActive_linkView (d : Device) : d.placeActive.1.linkView = d.linkView := by
  unfold Device.placeActive
  dsimp only
  split
  next r h =>
    have hr := placeLuts_linkView h
    simpa using hr
  next => simp

@[simp] theorem freeMirror_linkView (d : Device) : d.freeMirror.linkView = d.linkView :=
  congrArg (fun v : LinkView => (⟨v.act, v.mir, d.img.op⟩ : LinkView)) (eachOf_linkView _ _ d fun i d => bankUse_linkView d i 0)

@[simp] theorem fabSync_linkView (d : Device) : d.fabSync.linkView = d.linkView := by
  unfold Device.fabSync
  refine (eachOf_linkView _ _ _ fun s d => ?_).trans ?_
  · split <;> simp
  · simp

@[simp] theorem imgStart_fits (d : Device) (m op : Nat) (h : d.linkView.fits) : (d.imgStart m op).linkView.fits := by
  have hs : LinkView.fits ⟨d.act, d.mir, some { op := op, master := m }⟩ := LinkView.fits_op_some h fun _ hp => (nomatch hp)
  simp [Device.imgStart, h, hs]

@[simp] theorem imgAbort_fits (d : Device) (m : Nat) (h : d.linkView.fits) : (d.imgAbort m).linkView.fits := by
  have hn : LinkView.fits ⟨d.act, d.mir, none⟩ := LinkView.fits_op_none h
  unfold Device.imgAbort
  rw [guarded_linkView]
  dsimp only
  repeat' split
  all_goals simp [h, hn]

@[simp] theorem imgCmd_fits (d : Device) (m op : Nat) (h : d.linkView.fits) : (d.imgCmd m op).linkView.fits := by
  simp [Device.imgCmd, h]

theorem imgFail_linkView (d : Device) (o : ImgOp) (f : ImgFail) : (d.imgFail o f).linkView = ⟨d.act, d.mir, none⟩ := by
  simp [Device.imgFail]

@[simp] theorem wrDigest_linkView (d : Device) (reg : Nat → Nat) (dig : List Nat) :
    (d.wrDigest reg dig).linkView = d.linkView := (rfl)

/-- Decoding changes the mirror set alone. -/
theorem imgDecode_linkView {d e : Device} {p : PrismSet} (h : d.imgDecode p = some e) : e.linkView = ⟨d.act, p, d.img.op⟩ := by
  unfold Device.imgDecode at h
  dsimp only at h
  split at h
  · cases h
  next r hr =>
    have hv : r.1.linkView = d.linkView := (placeLuts_linkView hr).trans (freeMirror_linkView d)
    have hact : r.1.act = d.act := congrArg LinkView.act hv
    have hop : r.1.img.op = d.img.op := congrArg LinkView.op hv
    rw [← Option.some.inj h]
    simp [hact, hop]

@[simp] theorem imgDecoded_fits (d : Device) (p : PrismSet) (h : d.linkView.fits) (hp : p.linkOk) : (d.imgDecoded p).linkView.fits := by
  obtain ⟨hact, -, hop⟩ := id h
  unfold Device.imgDecoded
  split
  next e he =>
    have hv : e.linkView.fits := imgDecode_linkView he ▸ ⟨hact, hp, hop⟩
    simpa using hv
  next => simpa using h

/-- An image operation ends as it was, with its set decoded into the mirror set, or with a checked set to decode. -/
theorem execImgOpComplete_keepsFits (decoding : Bool) : KeepsFits (execImgOpComplete decoding) :=
  keepsFits_run fun d h => by
    have hn : LinkView.fits ⟨d.act, d.mir, none⟩ := LinkView.fits_op_none h
    split
    · exact h
    next o ho =>
      obtain ⟨-, -, hop⟩ := id h
      dsimp only
      split
      next p hp => exact imgDecoded_fits _ p hn (hop o ho p hp)
      next =>
        split
        next => rw [imgFail_linkView]; exact hn
        next u hc =>
          have hb := linkOk_of_checked hc
          repeat' split
          · simpa using hn
          · exact LinkView.fits_op_some h fun p hp => Option.some.inj hp ▸ hb
          · exact imgDecoded_fits _ _ hn hb

@[simp] theorem swapRequest_linkView (d : Device) (m : Nat) (after cancel : Bool) :
    (d.swapRequest m after cancel).linkView = d.linkView := by
  unfold Device.swapRequest
  repeat' split
  all_goals simp

@[simp] theorem swapCancel_linkView (d : Device) (m : Nat) (after : Bool) :
    (d.swapCancel m after).linkView = d.linkView := by
  simp [Device.swapCancel]

@[simp] theorem swapCtrl_linkView (d : Device) (m v : Nat) : (d.swapCtrl m v).linkView = d.linkView := by
  simp [Device.swapCtrl]

@[simp] theorem swapAbandon_linkView (d : Device) (result : Nat) : (d.swapAbandon result).linkView = d.linkView := by
  simp [Device.swapAbandon]

@[simp] theorem swapConfig_linkView (d : Device) : d.swapConfig.linkView = d.linkView := by
  simp [Device.swapConfig]

@[simp] theorem tilesEmpty_linkView (d : Device) : d.tilesEmpty.linkView = d.linkView := (rfl)

@[simp] theorem sweepRestart_linkView (d : Device) : d.sweepRestart.linkView = d.linkView := (rfl)

@[simp] theorem geometryReset_linkView (d : Device) (geo : Bool) : (d.geometryReset geo).linkView = d.linkView := by
  simp [Device.geometryReset]

@[simp] theorem msExchange_linkView (d : Device) : d.msExchange.linkView = d.linkView := by
  simp [Device.msExchange]

@[simp] theorem swapRegs_linkView (d : Device) (a b : Nat) :
    (d.swapRegs a b).linkView = d.linkView := (rfl)

@[simp] theorem lutExchange_linkView (d : Device) (after : Bool) : (d.lutExchange after).linkView = d.linkView := by
  simp [Device.lutExchange]

@[simp] theorem slotMoves_linkView (d : Device) (old : PrismSet) : (d.slotMoves old).linkView = d.linkView := by
  simp [Device.slotMoves]

/-- A swap exchanges the two sets (R93). -/
theorem swapTake_linkView (d : Device) : d.swapTake.linkView = ⟨d.mir, d.act, d.img.op⟩ := by
  have hx : ({ d with act := d.mir, mir := d.act } : Device).linkView = ⟨d.mir, d.act, d.img.op⟩ := rfl
  simp [Device.swapTake, hx]

theorem execSwapTakeEffect_keepsFits : KeepsFits execSwapTakeEffect :=
  keepsFits_run fun d h => by
    split
    · rw [swapTake_linkView]
      exact ⟨h.2.1, h.1, h.2.2⟩
    · exact h

/-- A refill gives the mirror set what the active one holds (R93). -/
theorem mirrorRefill_linkView (d : Device) : d.mirrorRefill.linkView = ⟨d.act, d.act, d.img.op⟩ := by
  unfold Device.mirrorRefill
  extract_lets e e1 e2 e3
  have he : e.linkView = d.linkView := eachOf_linkView _ _ _ fun o d => wr_linkView d _ _
  clear_value e
  have hact : e.act = d.act := congrArg LinkView.act he
  have hop : e.img.op = d.img.op := congrArg LinkView.op he
  simp [e3, e2, e1, hact, hop]

@[simp] theorem mirrorRefill_fits (d : Device) (h : d.linkView.fits) : d.mirrorRefill.linkView.fits :=
  mirrorRefill_linkView d ▸ ⟨h.1, h.1, h.2.2⟩

/-! ## Layers -/

@[simp] theorem setWin_linkView (d : Device) (w : Nat) (x : WinX) : (d.setWin w x).linkView = d.linkView := (rfl)

@[simp] theorem winSkip_linkView (d : Device) (taps : Nat) (rs : List Rect) :
    (d.winSkip taps rs).linkView = d.linkView := by
  simp [Device.winSkip]

@[simp] theorem tmgTear_linkView (d : Device) : d.tmgTear.linkView = d.linkView := by
  simp [Device.tmgTear]

@[simp] theorem tmgWrite_linkView (d : Device) (m off v : Nat) :
    (d.tmgWrite m off v).linkView = d.linkView := by
  simp [Device.tmgWrite]

@[simp] theorem layTear_linkView (d : Device) (layers : List Nat) (old : List Rect) :
    (d.layTear layers old).linkView = d.linkView := by
  simp [Device.layTear]

@[simp] theorem layPlace_linkView (d : Device) (m i : Nat) (size : Bool) (v : Nat) :
    (d.layPlace m i size v).linkView = d.linkView := by
  simp [Device.layPlace]

@[simp] theorem layEnable_linkView (d : Device) (m v : Nat) : (d.layEnable m v).linkView = d.linkView := by
  simp [Device.layEnable]

@[simp] theorem layHold_linkView (d : Device) (m off v : Nat) : (d.layHold m off v).linkView = d.linkView := by
  simp [Device.layHold]

@[simp] theorem layOrder_linkView (d : Device) (m v : Nat) : (d.layOrder m v).linkView = d.linkView := by
  simp [Device.layOrder]

@[simp] theorem palWrite_linkView (d : Device) (m v : Nat) : (d.palWrite m v).linkView = d.linkView := by
  simp [Device.palWrite]

@[simp] theorem liveWrite_linkView (d : Device) (m off v : Nat) : (d.liveWrite m off v).linkView = d.linkView := by
  unfold Device.liveWrite
  repeat' split
  all_goals simp

@[simp] theorem refSync_linkView (d : Device) : d.refSync.linkView = d.linkView := by
  simp [Device.refSync]

@[simp] theorem laySrc_linkView (d : Device) (m i v : Nat) : (d.laySrc m i v).linkView = d.linkView := by
  simp [Device.laySrc]

@[simp] theorem poolSync_linkView (d : Device) : d.poolSync.linkView = d.linkView := (rfl)

@[simp] theorem bufResult_linkView (d : Device) (m err : Nat) : (d.bufResult m err).linkView = d.linkView := (rfl)

@[simp] theorem bufCmd_linkView (d : Device) (m : Nat) (checks : List (Bool × Nat)) (f : Device → Device)
    (h : ∀ d, (f d).linkView = d.linkView) : (d.bufCmd m checks f).linkView = d.linkView := by
  unfold Device.bufCmd
  repeat' split
  all_goals simp [h]

@[simp] theorem bufAlloc_linkView (d : Device) (m n : Nat) : (d.bufAlloc m n).linkView = d.linkView := by
  simp [Device.bufAlloc]

@[simp] theorem bufFree_linkView (d : Device) (m h : Nat) : (d.bufFree m h).linkView = d.linkView := by
  simp [Device.bufFree]

@[simp] theorem layBufCmd_linkView (d : Device) (m v : Nat) : (d.layBufCmd m v).linkView = d.linkView := by
  unfold Device.layBufCmd
  split <;> simp

@[simp] theorem layFrame_linkView (d : Device) : d.layFrame.linkView = d.linkView := by
  simp [Device.layFrame]

/-! ## Tap -/

@[simp] theorem tapDark_linkView (d : Device) : d.tapDark.linkView = d.linkView := (rfl)

@[simp] theorem tapDown_linkView (d : Device) : d.tapDown.linkView = d.linkView := by
  simp [Device.tapDown]

@[simp] theorem tapTrain_linkView (d : Device) : d.tapTrain.linkView = d.linkView := by
  simp [Device.tapTrain]

@[simp] theorem tapRetrain_linkView (d : Device) : d.tapRetrain.linkView = d.linkView := by
  simp [Device.tapRetrain]

@[simp] theorem tapRelease_linkView (d : Device) : d.tapRelease.linkView = d.linkView := by
  simp [Device.tapRelease]

@[simp] theorem tapFrame_linkView (d : Device) (p : Nat) (f : VideoFormat) (ns : Nat) :
    (d.tapFrame p f ns).linkView = d.linkView := by
  simp [Device.tapFrame]

@[simp] theorem tapStreamEnd_linkView (d : Device) (p : Nat) : (d.tapStreamEnd p).linkView = d.linkView := by
  simp [Device.tapStreamEnd]

@[simp] theorem tapReplay_linkView (d : Device) (p : Nat) (b : Bool) : (d.tapReplay p b).linkView = d.linkView := by
  simp [Device.tapReplay]

@[simp] theorem tapCtrl_linkView (d : Device) (m v : Nat) : (d.tapCtrl m v).linkView = d.linkView := by
  simp [Device.tapCtrl]

@[simp] theorem auxCmd_linkView (d : Device) (m v : Nat) : (d.auxCmd m v).linkView = d.linkView := by
  simp [Device.auxCmd]

@[simp] theorem auxEnd_linkView (d : Device) (reply : Nat) : (d.auxEnd reply).linkView = d.linkView := (rfl)

/-! ## Ports -/

@[simp] theorem setPort_linkView (d : Device) (p : Nat) (x : PortX) : (d.setPort p x).linkView = d.linkView := (rfl)

@[simp] theorem hpdSync_linkView (d : Device) : d.hpdSync.linkView = d.linkView := by
  simp [Device.hpdSync]

@[simp] theorem hpdPulse_linkView (d : Device) (p : Nat) : (d.hpdPulse p).linkView = d.linkView := by
  simp [Device.hpdPulse]

@[simp] theorem validSync_linkView (d : Device) : d.validSync.linkView = d.linkView := (rfl)

@[simp] theorem portCut_linkView (d : Device) (p : Nat) : (d.portCut p).linkView = d.linkView := by
  unfold Device.portCut
  split <;> simp

@[simp] theorem setValid_linkView (d : Device) (p : Nat) (b : Bool) : (d.setValid p b).linkView = d.linkView := by
  simp [Device.setValid]

@[simp] theorem streamEnd_linkView (d : Device) (p : Nat) : (d.streamEnd p).linkView = d.linkView := by
  simp [Device.streamEnd]

@[simp] theorem portDrop_linkView (d : Device) (p : Nat) : (d.portDrop p).linkView = d.linkView := by
  simp [Device.portDrop]

@[simp] theorem dprxCtrl_linkView (d : Device) (m p v : Nat) : (d.dprxCtrl m p v).linkView = d.linkView := by
  simp [Device.dprxCtrl]

@[simp] theorem skipFrame_linkView (d : Device) (n : Nat) : (d.skipFrame n).linkView = d.linkView := by
  simp [Device.skipFrame]

@[simp] theorem rasterLock_linkView (d : Device) (lineHz : Nat) : (d.rasterLock lineHz).linkView = d.linkView := by
  simp [Device.rasterLock]

@[simp] theorem latchFormat_linkView (d : Device) (p : Nat) (f : VideoFormat) (since skew : Nat) :
    (d.latchFormat p f since skew).linkView = d.linkView := by
  simp [Device.latchFormat]

@[simp] theorem fsPutBits_linkView (d : Device) (a bit b : Nat) (vs : List Nat) : (d.fsPutBits a bit b vs).linkView = d.linkView := by
  simp [Device.fsPutBits]

@[simp] theorem writeSamples_linkView (d : Device) (p x y : Nat) (vs : List Nat) : (d.writeSamples p x y vs).linkView = d.linkView := by
  simp [Device.writeSamples]

@[simp] theorem setStripe_linkView (d : Device) (s : Nat) (x : StripeX) : (d.setStripe s x).linkView = d.linkView := (rfl)

@[simp] theorem abandon_linkView (d : Device) (s f : Nat) : (d.abandon s f).linkView = d.linkView := by
  induction f generalizing d with
  | zero => rfl
  | succ f ih =>
    unfold Device.abandon
    split
    · rfl
    · simp [ih]

@[simp] theorem replayTrans_linkView (d : Device) (target : Nat) : (d.replayTrans target).linkView = d.linkView := (rfl)

@[simp] theorem replayCheck_linkView (d : Device) : d.replayCheck.linkView = d.linkView := by
  simp [Device.replayCheck]

@[simp] theorem setTile_linkView (d : Device) (t : Nat) (x : TileX) : (d.setTile t x).linkView = d.linkView := (rfl)

@[simp] theorem edidCommit_linkView (d : Device) (m p : Nat) : (d.edidCommit m p).linkView = d.linkView := by
  unfold Device.edidCommit
  repeat' split
  all_goals simp

@[simp] theorem tapLoop_linkView (d : Device) (m v : Nat) (errs : List Nat) :
    (d.tapLoop m v errs).linkView = d.linkView := by
  simp [Device.tapLoop]

/-! ## Tiles -/

@[simp] theorem knotWrite_linkView (d : Device) (m v : Nat) : (d.knotWrite m v).linkView = d.linkView := by
  simp [Device.knotWrite]

@[simp] theorem gridWrite_linkView (d : Device) (m k v : Nat) : (d.gridWrite m k v).linkView = d.linkView := by
  simp [Device.gridWrite]

@[simp] theorem kickCmd_linkView (d : Device) (m v : Nat) : (d.kickCmd m v).linkView = d.linkView := by
  simp [Device.kickCmd]

@[simp] theorem tileSettle_linkView (d : Device) (t : Nat) : (d.tileSettle t).linkView = d.linkView := by
  simp [Device.tileSettle]

@[simp] theorem trnStat_linkView (d : Device) : d.trnStat.linkView = d.linkView := by
  simp [Device.trnStat]

@[simp] theorem trnPass_linkView (d : Device) (adv : Nat → Bool) (bad : List Nat) : (d.trnPass adv bad).linkView = d.linkView := by
  simp [Device.trnPass]

@[simp] theorem trnSuspended_linkView (d : Device) : d.trnSuspended.linkView = d.linkView := (rfl)

@[simp] theorem tilesFinal_linkView (d : Device) : d.tilesFinal.linkView = d.linkView := by
  simp [Device.tilesFinal]

/-! ## Maps -/

@[simp] theorem adoptDefects_linkView (d : Device) (p : DefectMap) : (d.adoptDefects p).linkView = d.linkView := (rfl)

@[simp] theorem defectsFrame_linkView (d : Device) : d.defectsFrame.linkView = d.linkView := by
  unfold Device.defectsFrame
  split <;> simp

@[simp] theorem planeWrite_linkView (d : Device) (rgn size : Nat) (bs : List Nat) : (d.planeWrite rgn size bs).linkView = d.linkView := by
  simp [Device.planeWrite]

@[simp] theorem knotLoad_linkView (d : Device) (bs : List Nat) : (d.knotLoad bs).linkView = d.linkView := by
  simp [Device.knotLoad]

@[simp] theorem mapPlace_linkView (d : Device) (t : Nat) (bs : List Nat) : (d.mapPlace t bs).linkView = d.linkView := by
  simp [Device.mapPlace]

@[simp] theorem mapSpoil_linkView (d : Device) (t : Nat) : (d.mapSpoil t).linkView = d.linkView := by
  simp [Device.mapSpoil]

@[simp] theorem mapRun_linkView (d : Device) (op t : Nat) (err : Bool) : (d.mapRun op t err).1.linkView = d.linkView := by
  unfold Device.mapRun
  dsimp only
  repeat' split
  all_goals simp

@[simp] theorem mapCmd_linkView (d : Device) (m v : Nat) : (d.mapCmd m v).linkView = d.linkView := by
  simp [Device.mapCmd]

/-! ## Frame -/

@[simp] theorem drivenWrite_linkView (d : Device) (s y : Nat) (codes : List Nat) : (d.drivenWrite s y codes).linkView = d.linkView := by
  simp [Device.drivenWrite]

@[simp] theorem sendLine_linkView (d : Device) (s y : Nat) (hold zero : Bool) (codes : List Nat) :
    (d.sendLine s y hold zero codes).linkView = d.linkView := by
  simp [Device.sendLine]

/-! ## Survey -/

@[simp] theorem senseSync_linkView (d : Device) : d.senseSync.linkView = d.linkView := (rfl)

@[simp] theorem sweepRing_linkView (d : Device) : d.sweepRing.linkView = d.linkView := by
  simp [Device.sweepRing]

@[simp] theorem srvCtrl_linkView (d : Device) (m v : Nat) : (d.srvCtrl m v).linkView = d.linkView := by
  simp [Device.srvCtrl]

@[simp] theorem senseStart_linkView (d : Device) (r l : Nat) (again loupe : Bool) :
    (d.senseStart r l again loupe).linkView = d.linkView := by
  simp [Device.senseStart]

@[simp] theorem senseNoRoom_linkView (d : Device) : d.senseNoRoom.linkView = d.linkView := by
  simp [Device.senseNoRoom]

@[simp] theorem scratchWrite_linkView (d : Device) (o : SenseOp) (row : List (Nat × List Nat)) : (d.scratchWrite o row).linkView = d.linkView := by
  simp [Device.scratchWrite]

@[simp] theorem sweepEnd_linkView (d : Device) : d.sweepEnd.linkView = d.linkView := by
  simp [Device.sweepEnd]

@[simp] theorem loupeTake_linkView (d : Device) (o : SenseOp) : (d.loupeTake o).linkView = d.linkView := by
  simp [Device.loupeTake]

@[simp] theorem senseEnd_linkView (d : Device) (o : SenseOp) : (d.senseEnd o).linkView = d.linkView := by
  simp [Device.senseEnd]

@[simp] theorem rampLearn_linkView (d : Device) : d.rampLearn.linkView = d.linkView := by
  simp [Device.rampLearn]

@[simp] theorem rampFrame_linkView (d : Device) : d.rampFrame.linkView = d.linkView := by
  unfold Device.rampFrame
  repeat' split
  all_goals simp

@[simp] theorem loupeEnd_linkView (d : Device) : d.loupeEnd.linkView = d.linkView := by
  simp [Device.loupeEnd]

@[simp] theorem srvBusy_linkView (d : Device) (m op types : Nat) : (d.srvBusy m op types).linkView = d.linkView := (rfl)

@[simp] theorem srvDone_linkView (d : Device) (op err : Nat) : (d.srvDone op err).linkView = d.linkView := (rfl)

@[simp] theorem srvApply_linkView (d : Device) : d.srvApply.linkView = d.linkView := by
  simp [Device.srvApply]

@[simp] theorem srvCmd_linkView (d : Device) (m v : Nat) : (d.srvCmd m v).linkView = d.linkView := by
  unfold Device.srvCmd
  repeat' split
  all_goals simp

@[simp] theorem rgnReadCheck_linkView (d : Device) (i : Nat) : (d.rgnReadCheck i).linkView = d.linkView := by
  simp [Device.rgnReadCheck]

@[simp] theorem stageCopy_linkView (d : Device) : d.stageCopy.linkView = d.linkView := by
  simp [Device.stageCopy]

@[simp] theorem calSync_linkView (d : Device) : d.calSync.linkView = d.linkView := (rfl)

@[simp] theorem calibrate_linkView (d : Device) (version : Nat) (late : Bool) :
    (d.calibrate version late).linkView = d.linkView := by
  simp [Device.calibrate]

@[simp] theorem saveType_linkView (d : Device) (t : Nat) : (d.saveType t).1.linkView = d.linkView := by
  simp [Device.saveType]

@[simp] theorem indexSave_linkView (d : Device) (es : List (Nat × MapEntry)) :
    (d.indexSave es).linkView = d.linkView := by
  simp [Device.indexSave]

@[simp] theorem saveEnd_linkView (d : Device) (types : Nat) (err : Bool) : (d.saveEnd types err).linkView = d.linkView := by
  unfold Device.saveEnd
  extract_lets r e e1 e2
  have hr : r.1.linkView = d.linkView := foldl_fst_linkView _ _ _ fun p t => by dsimp only; split <;> simp
  repeat' split
  all_goals simp [e2, e1, e, hr]

/-! ## Scan -/

@[simp] theorem winTake_linkView (d : Device) (w s y : Nat) (bs : List Nat) (replayed : Bool) :
    (d.winTake w s y bs replayed).linkView = d.linkView := (rfl)

@[simp] theorem tapsPass_linkView (d : Device) (s y : Nat) (a : RowAcc) : (d.tapsPass s y a).linkView = d.linkView := by
  simp [Device.tapsPass]

@[simp] theorem tapSent_linkView (d : Device) (s y : Nat) (codes : List Nat) (replayed : Bool) :
    (d.tapSent s y codes replayed).linkView = d.linkView := by
  simp [Device.tapSent]

@[simp] theorem rowSent_linkView (d : Device) (s y : Nat) (hold zero replayed : Bool) (codes : List Nat) : (d.rowSent s y hold zero replayed codes).linkView = d.linkView := by
  simp [Device.rowSent]

@[simp] theorem plainSend_linkView (d : Device) (s g : Nat) : (d.plainSend s g).linkView = d.linkView := by
  unfold Device.plainSend
  dsimp only
  split <;> simp

@[simp] theorem plainUpTo_linkView (s g n : Nat) : ∀ d : Device, (d.plainUpTo s g n).linkView = d.linkView := by
  induction n with
  | zero => exact fun d => rfl
  | succ n ih =>
    intro d
    unfold Device.plainUpTo
    dsimp only
    split
    · rfl
    · rw [ih, plainSend_linkView]

@[simp] theorem plainLines_linkView (d : Device) (g : Nat) : (d.plainLines g).linkView = d.linkView := by
  simp [Device.plainLines]

@[simp] theorem gateLine_linkView (d : Device) (g : Nat) : (d.gateLine g).linkView = d.linkView := by
  simp [Device.gateLine]

@[simp] theorem bytesWrite_linkView (d : Device) (s y : Nat) (bs : List Nat) : (d.bytesWrite s y bs).linkView = d.linkView := by
  simp [Device.bytesWrite]

@[simp] theorem holdRow_linkView (d : Device) (s y : Nat) : (d.holdRow s y).linkView = d.linkView := by
  simp [Device.holdRow]

@[simp] theorem rowEcc_linkView (d : Device) (s y : Nat) (src : RowSrc) : (d.rowEcc s y src).linkView = d.linkView := by
  simp [Device.rowEcc]

@[simp] theorem tileEvidence_linkView (d : Device) (s y : Nat) (px : List (Pix × Nat × Bool)) :
    (d.tileEvidence s y px).linkView = d.linkView := by
  simp [Device.tileEvidence]

@[simp] theorem rowDone_linkView (d : Device) (s g : Nat) (src : RowSrc) : (d.rowDone s g src).linkView = d.linkView := by
  simp [Device.rowDone]

@[simp] theorem dataFound_linkView (d : Device) (t : Nat) (f : FacetFound) : (d.dataFound t f).linkView = d.linkView := by
  simp [Device.dataFound]

/-! ## Raster -/

@[simp] theorem stressPixel_linkView (d : Device) (s x y : Nat) : (d.stressPixel s x y).linkView = d.linkView := by
  simp [Device.stressPixel]

@[simp] theorem stressFrame_linkView (d : Device) : d.stressFrame.linkView = d.linkView := by
  unfold Device.stressFrame
  extract_lets on e
  show e.linkView = d.linkView
  simp only [e]
  split
  · rfl
  · exact eachOf_linkView _ _ _ fun s d => eachOf_linkView _ _ _ fun y d => eachOf_linkView _ _ _ fun i d => stressPixel_linkView _ _ _ _

@[simp] theorem stressFactors_linkView (d : Device) : d.stressFactors.linkView = d.linkView := by
  simp [Device.stressFactors]

@[simp] theorem chkFrame_linkView (d : Device) (noIn : Bool) : (d.chkFrame noIn).linkView = d.linkView := by
  simp [Device.chkFrame]

@[simp] theorem winRecord_linkView (d : Device) (frame : Nat) (e : DueWin) :
    (d.winRecord frame e).linkView = d.linkView := by
  simp [Device.winRecord]

@[simp] theorem chkRecord_linkView (d : Device) : d.chkRecord.linkView = d.linkView := by
  unfold Device.chkRecord
  split <;> simp

@[simp] theorem chkCtrl_linkView (d : Device) (m w v : Nat) : (d.chkCtrl m w v).linkView = d.linkView := by
  simp [Device.chkCtrl]

@[simp] theorem chkRect_linkView (d : Device) (m off v limit : Nat) :
    (d.chkRect m off v limit).linkView = d.linkView := by
  simp [Device.chkRect]

@[simp] theorem avCount_linkView (d : Device) (bits : Nat) : (d.avCount bits).linkView = d.linkView := by
  simp [Device.avCount]

@[simp] theorem avFrame_linkView (d : Device) (noIn : Bool) : (d.avFrame noIn).linkView = d.linkView := by
  simp [Device.avFrame]

@[simp] theorem parkFrame_linkView (d : Device) : d.parkFrame.linkView = d.linkView := by
  simp [Device.parkFrame]

@[simp] theorem recoveryFrame_linkView (d : Device) : d.recoveryFrame.linkView = d.linkView := by
  unfold Device.recoveryFrame
  split <;> simp

@[simp] theorem noinFrame_linkView (d : Device) : d.noinFrame.linkView = d.linkView := by
  simp [Device.noinFrame]

@[simp] theorem portTaken_linkView (d : Device) (p : Nat) : (d.portTaken p).linkView = d.linkView := by
  simp [Device.portTaken]

@[simp] theorem frameBegin_linkView (d : Device) (take : Nat → Bool) (lag : Nat) (through : Bool) : (d.frameBegin take lag through).linkView = d.linkView := by
  simp [Device.frameBegin]

@[simp] theorem repeatFrame_linkView (d : Device) : d.repeatFrame.linkView = d.linkView := by
  simp [Device.repeatFrame]

@[simp] theorem drivenFlip_linkView (d : Device) : d.drivenFlip.linkView = d.linkView := by
  simp [Device.drivenFlip]

@[simp] theorem frameLatch_linkView (d : Device) : d.frameLatch.linkView = d.linkView := (rfl)

@[simp] theorem trnFrame_linkView (d : Device) (processed : Bool) (bad : List Nat) : (d.trnFrame processed bad).linkView = d.linkView := by
  simp [Device.trnFrame]

@[simp] theorem frameCounts_linkView (d : Device) : d.frameCounts.linkView = d.linkView := (rfl)

@[simp] theorem rasterStop_linkView (d : Device) : d.rasterStop.linkView = d.linkView := by
  simp [Device.rasterStop]

@[simp] theorem rasterNext_linkView (d : Device) (stopping : Bool) : (d.rasterNext stopping).linkView = d.linkView := by
  simp [Device.rasterNext]

@[simp] theorem swapPoint_linkView (d : Device) (bad : List Nat) : (d.swapPoint bad).linkView = d.linkView := by
  simp [Device.swapPoint]

@[simp] theorem scanWrite_linkView (d : Device) (m v : Nat) : (d.scanWrite m v).linkView = d.linkView := by
  simp [Device.scanWrite]

@[simp] theorem testWrite_linkView (d : Device) (m v : Nat) : (d.testWrite m v).linkView = d.linkView := by
  simp [Device.testWrite]

@[simp] theorem poolWrite_linkView (d : Device) (m v : Nat) : (d.poolWrite m v).linkView = d.linkView := by
  simp [Device.poolWrite]

/-! ## FltCmds -/

@[simp] theorem fltRaise_linkView (d : Device) (m v : Nat) : (d.fltRaise m v).linkView = d.linkView := by
  simp [Device.fltRaise]

@[simp] theorem scrubScan_linkView (d : Device) : d.scrubScan.linkView = d.linkView := by
  simp [Device.scrubScan]

@[simp] theorem regenStep_linkView (d : Device) (n : Nat) : (d.regenStep n).linkView = d.linkView := by
  simp [Device.regenStep]

@[simp] theorem regenClear_linkView (d : Device) (found : Bool) : (d.regenClear found).linkView = d.linkView := by
  simp [Device.regenClear]

/-! ## SegCmds -/

@[simp] theorem wideClaim_linkView (d : Device) (m : Nat) : (d.wideClaim m).linkView = d.linkView := by
  simp [Device.wideClaim]

@[simp] theorem wideBoot_linkView (d : Device) : d.wideBoot.linkView = d.linkView := by
  simp [Device.wideBoot]

@[simp] theorem segCfg_linkView (d : Device) (m v : Nat) : (d.segCfg m v).linkView = d.linkView := by
  simp [Device.segCfg]

/-! ## Boot -/

@[simp] theorem bootShow_linkView (d : Device) : d.bootShow.linkView = d.linkView := by
  unfold Device.bootShow
  repeat' split
  all_goals simp

@[simp] theorem bootHalt_linkView (d : Device) (code err : Nat) : (d.bootHalt code err).linkView = d.linkView := by
  simp [Device.bootHalt]

@[simp] theorem bootStart_linkView (d : Device) (n : Nat) : (d.bootStart n).linkView = d.linkView := by
  simp [Device.bootStart]

@[simp] theorem bootNext_linkView (d : Device) (n : Nat) (starts : List Nat) : (d.bootNext n starts).linkView = d.linkView := by
  simp [Device.bootNext]

@[simp] theorem banksBegin_linkView (d : Device) : d.banksBegin.linkView = d.linkView := by
  simp [Device.banksBegin]

@[simp] theorem retire_linkView (d : Device) (failing : List Nat) (f : Nat) :
    (d.retire failing f).1.linkView = d.linkView := by
  unfold Device.retire
  split <;> simp

@[simp] theorem bootMarch_linkView (d : Device) (failing : List Nat) (work : Bool) :
    (d.bootMarch failing work).linkView = d.linkView := by
  unfold Device.bootMarch
  extract_lets bad m e1 r e2 e3
  have hr : r.1.linkView = d.linkView := (foldl_fst_linkView _ _ _ fun p f => by simp).trans (by simp [e1])
  split <;> simp [e3, e2, hr]

@[simp] theorem bootSlots_linkView (d : Device) (a b : BootSlotScan) (slow : Bool) : (d.bootSlots a b slow).linkView = d.linkView := by
  simp [Device.bootSlots]

@[simp] theorem bootFirmware_linkView (d : Device) : d.bootFirmware.linkView = d.linkView := by
  simp [Device.bootFirmware]

theorem bootRaster_linkView {d e : Device} (h : d.bootRaster = some e) : e.linkView = d.linkView := by
  unfold Device.bootRaster at h
  dsimp only at h
  split at h
  · cases h; simp
  · split at h
    · cases h
    · cases h; simp

theorem bootAdopt_linkView {d e : Device} (h : d.bootAdopt = .ok e) : e.linkView = d.linkView := by
  unfold Device.bootAdopt at h
  split at h
  · cases h
  next r hr =>
    dsimp only at h
    split at h
    · cases h
    · split at h
      · cases h; rw [placeActive_linkView, bootRaster_linkView hr]
      · cases h

/-- The active set is one that has been checked. -/
theorem bootImage_linkView {d e : Device} {slot : Nat} (h : d.bootImage slot = .ok e) :
    ∃ p : PrismSet, p.linkOk ∧ e.linkView = ⟨p, d.mir, d.img.op⟩ := by
  unfold Device.bootImage at h
  dsimp only at h
  split at h
  · cases h
  next hc => exact ⟨_, linkOk_of_checked hc, by rw [bootAdopt_linkView h]; simp⟩

/-- The active set is the mirror set. -/
theorem bootMirror_linkView {d e : Device} (h : d.bootMirror = .ok e) : e.linkView = ⟨d.mir, d.mir, d.img.op⟩ := by
  unfold Device.bootMirror at h
  have hmir : d.freeMirror.mir = d.mir := congrArg LinkView.mir (freeMirror_linkView d)
  have hop : d.freeMirror.img.op = d.img.op := congrArg LinkView.op (freeMirror_linkView d)
  rw [bootAdopt_linkView h]
  simp [hmir, hop]

@[simp] theorem bootSet_linkView (d : Device) : d.bootSet.linkView = d.linkView := by
  simp [Device.bootSet]

@[simp] theorem bootImgFail_linkView (d : Device) (f : ImgFail) : (d.bootImgFail f).linkView = d.linkView := by
  simp [Device.bootImgFail]

@[simp] theorem bootPrism_fits (d : Device) (h : d.linkView.fits) : d.bootPrism.linkView.fits := by
  obtain ⟨-, hmir, hop⟩ := id h
  have hbi : ∀ {d e : Device} {slot : Nat}, d.linkView.fits → d.bootImage slot = .ok e → e.linkView.fits := by
    rintro d e slot ⟨-, hmir, hop⟩ he
    obtain ⟨p, hp, hv⟩ := bootImage_linkView he
    exact hv ▸ ⟨hp, hmir, hop⟩
  unfold Device.bootPrism
  dsimp only
  split
  · split
    next e he =>
      have hv : e.linkView.fits := bootMirror_linkView he ▸ ⟨hmir, hmir, hop⟩
      simpa using hv
    next => simpa using h
  split
  next e he => simpa using hbi h he
  next f0 _ =>
    split
    next e he => simpa using hbi (d := d.bootImgFail f0) (by simpa using h) he
    next => simpa using h

@[simp] theorem bootStore_linkView (d : Device) (uncorrectable : Bool) : (d.bootStore uncorrectable).linkView = d.linkView := by
  simp [Device.bootStore]

@[simp] theorem bootCalibrate_linkView (d : Device) : d.bootCalibrate.linkView = d.linkView := by
  unfold Device.bootCalibrate
  split <;> simp

@[simp] theorem bootCores_linkView (d : Device) : d.bootCores.linkView = d.linkView :=
  eachOf_linkView _ _ _ fun k d => by split <;> simp

@[simp] theorem bootMap_linkView (d : Device) (op t : Nat) (flashErr : Bool) (bad : List (Nat × Nat)) :
    (d.bootMap op t flashErr bad).1.linkView = d.linkView := by
  have hr := mapRun_linkView d op t flashErr
  unfold Device.bootMap
  split
  next e he => rw [he] at hr; exact hr
  next e f he =>
    rw [he] at hr
    split
    · simpa using hr
    · exact hr

@[simp] theorem bootFinish_fits (d : Device) (h : d.linkView.fits) : d.bootFinish.linkView.fits := by
  have hr := mirrorRefill_fits d h
  unfold Device.bootFinish
  dsimp only
  repeat' split
  all_goals simp [hr]

@[simp] theorem bootCheck_fits (d : Device) (h : d.linkView.fits) : d.bootCheck.linkView.fits := by
  simp [Device.bootCheck, h]

@[simp] theorem bootMaps_fits (d : Device) (flashErr : Bool) (h : d.linkView.fits) : (d.bootMaps flashErr).linkView.fits := by
  unfold Device.bootMaps
  extract_lets again types r e failed f
  have hf : f.linkView = d.linkView := foldl_fst_linkView _ _ _ fun p t => bootMap_linkView _ _ _ _ _
  split <;> simp [hf, h]

@[simp] theorem bootRepeat_linkView (d : Device) : d.bootRepeat.linkView = d.linkView := by
  simp [Device.bootRepeat]

@[simp] theorem recallPages_linkView (d : Device) : d.recallPages.linkView = d.linkView := by
  simp [Device.recallPages]

@[simp] theorem recallPasswords_linkView (d : Device) : d.recallPasswords.linkView = d.linkView := by
  unfold Device.recallPasswords
  split <;> simp

@[simp] theorem recallRegs_linkView (d : Device) : d.recallRegs.linkView = d.linkView := by
  unfold Device.recallRegs
  split <;> simp

@[simp] theorem recallEdid_linkView (d : Device) (p : Nat) : (d.recallEdid p).linkView = d.linkView := by
  unfold Device.recallEdid
  split <;> simp

@[simp] theorem recallLog_linkView (d : Device) : d.recallLog.linkView = d.linkView := by
  unfold Device.recallLog
  dsimp only
  split <;> simp

@[simp] theorem recallCounts_linkView (d : Device) (kept wake : Bool) :
    (d.recallCounts kept wake).linkView = d.linkView := by
  unfold Device.recallCounts
  dsimp only
  split <;> simp

@[simp] theorem recallLoad_linkView (d : Device) : d.recallLoad.linkView = d.linkView := by
  unfold Device.recallLoad
  extract_lets e1 e2 e3 cfg e4 cause
  have h1 : e1.linkView = d.linkView := eachOf_linkView _ _ _ fun id d => by split <;> simp
  simp [e4, e3, e2, h1]

@[simp] theorem recallEnd_linkView (d : Device) : d.recallEnd.linkView = d.linkView := by
  unfold Device.recallEnd
  dsimp only
  split <;> simp

/-! ## Modes -/

@[simp] theorem scanBegin_linkView (d : Device) : d.scanBegin.linkView = d.linkView := by
  simp [Device.scanBegin]

@[simp] theorem loupeDrop_linkView (d : Device) : d.loupeDrop.linkView = d.linkView := by
  simp [Device.loupeDrop]

@[simp] theorem modeBegin_linkView (d : Device) (t m : Nat) : (d.modeBegin t m).linkView = d.linkView := by
  simp [Device.modeBegin]

@[simp] theorem modeReq_linkView (d : Device) (m v : Nat) : (d.modeReq m v).linkView = d.linkView := by
  simp [Device.modeReq]

@[simp] theorem enterLive_linkView (d : Device) (prev : Nat) : (d.enterLive prev).linkView = d.linkView := by
  simp [Device.enterLive]

@[simp] theorem enterLoupe_linkView (d : Device) (prev : Nat) : (d.enterLoupe prev).linkView = d.linkView := by
  simp [Device.enterLoupe]

@[simp] theorem failedLanes_linkView (d : Device) : d.failedLanes.linkView = d.linkView := by
  simp [Device.failedLanes]

@[simp] theorem modeEffect_linkView (d : Device) (t : Trans) : (d.modeEffect t).linkView = d.linkView := by
  simp [Device.modeEffect]

@[simp] theorem islandWake_linkView (d : Device) (cause : Nat) : (d.islandWake cause).linkView = d.linkView := by
  simp [Device.islandWake]

@[simp] theorem wakeBy_linkView (d : Device) (latch : WakeLatch → WakeLatch) (cause : Nat) :
    (d.wakeBy latch cause).linkView = d.linkView := by
  simp [Device.wakeBy]

@[simp] theorem coreStart_fits (d : Device) : d.coreStart.linkView.fits := by
  simp [Device.coreStart]

/-! ## RegRead -/

@[simp] theorem readPlain_linkView (d : Device) (m off : Nat) (r : RegRow) :
    (d.readPlain m off r).linkView = d.linkView := by
  simp [Device.readPlain]

@[simp] theorem readDirect_linkView (d : Device) (m : Master) (off : Nat) : (d.readDirect m off).linkView = d.linkView := by
  unfold Device.readDirect
  repeat' split
  all_goals simp

@[simp] theorem readActive_linkView (d : Device) (m : Master) : (d.readActive m).linkView = d.linkView := by
  simp [Device.readActive]

@[simp] theorem readAt_linkView (d : Device) (m : Master) (off : Nat) : (d.readAt m off).linkView = d.linkView := by
  simp [Device.readAt]

/-! ## RegWrite -/

@[simp] theorem hvpCmd_linkView (d : Device) (m : Master) (v : Nat) : (d.hvpCmd m v).linkView = d.linkView := by
  unfold Device.hvpCmd
  split <;> simp

@[simp] theorem aclCmd_linkView (d : Device) (m : Master) (v : Nat) : (d.aclCmd m v).linkView = d.linkView := by
  unfold Device.aclCmd
  dsimp only
  repeat' split
  all_goals simp

@[simp] theorem marchCmd_linkView (d : Device) (m : Master) (v : Nat) : (d.marchCmd m v).linkView = d.linkView := by
  unfold Device.marchCmd
  split <;> simp

@[simp] theorem keepCmd_linkView (d : Device) (m : Master) (v : Nat) : (d.keepCmd m v).linkView = d.linkView := by
  unfold Device.keepCmd
  split <;> simp

@[simp] theorem keepRecCmd_linkView (d : Device) (m : Master) (v : Nat) : (d.keepRecCmd m v).linkView = d.linkView := by
  unfold Device.keepRecCmd
  split <;> simp

@[simp] theorem keepCtrCmd_linkView (d : Device) (m : Master) (v : Nat) : (d.keepCtrCmd m v).linkView = d.linkView := by
  unfold Device.keepCtrCmd
  split <;> simp

@[simp] theorem dmaCmd_linkView (d : Device) (m v : Nat) : (d.dmaCmd m v).linkView = d.linkView := by
  unfold Device.dmaCmd
  split <;> simp

@[simp] theorem bitCmd_linkView (d : Device) (m off v mask : Nat) (f : Device → Device) :
    (d.bitCmd m off v mask f).linkView = if v.testBit 0 = true then (f d).linkView else d.linkView := by
  simp [Device.bitCmd]

/-- One arm of a table of registers' own rules: the rule found here keeps the link maps sound, and so does one found further on. -/
theorem rule_fits {c : Prop} [Decidable c] {d : Device} {f g : Device → Device} {x : Option (Device → Device)}
    (hf : (if c then some g else x) = some f) (hx : x = some f → (f d).linkView.fits) (hg : (g d).linkView.fits) :
    (f d).linkView.fits := by
  split at hf
  · cases hf; exact hg
  · exact hx hf

theorem writeFront_fits {d : Device} {f : Device → Device} {m : Master} {off v base i : Nat} (h : d.linkView.fits)
    (hf : Device.writeFront m off v base i = some f) : (f d).linkView.fits := by
  unfold Device.writeFront at hf
  iterate 25 refine rule_fits hf (fun hf => ?_) ?_
  · cases hf
  all_goals simp [h]

theorem writeBack_fits {d : Device} {f : Device → Device} {m : Master} {off v base i : Nat} (h : d.linkView.fits)
    (hf : Device.writeBack m off v base i = some f) : (f d).linkView.fits := by
  unfold Device.writeBack at hf
  iterate 30 refine rule_fits hf (fun hf => ?_) ?_
  · cases hf
  all_goals simp [h]

@[simp] theorem store_linkView (d : Device) (m off v : Nat) (r : RegRow) (i : Nat) :
    (d.store m off v r i).linkView = d.linkView := by
  simp [Device.store]

@[simp] theorem writePlain_linkView (d : Device) (m off v : Nat) (r : RegRow) (i : Nat) :
    (d.writePlain m off v r i).linkView = d.linkView := by
  simp [Device.writePlain]

/-- A joined write does what the register's own rule does, or rejects. -/
theorem writeJoined_fits {d : Device} {f : Device → Device} (m off v : Nat) (r : RegRow) (h : d.linkView.fits)
    (hf : (f d).linkView.fits) : (d.writeJoined m off v r f).linkView.fits := by
  unfold Device.writeJoined
  dsimp only
  repeat' split
  all_goals simp [h, hf]

@[simp] theorem writeAt_fits (d : Device) (m : Master) (off v : Nat) (h : d.linkView.fits) : (d.writeAt m off v).linkView.fits := by
  unfold Device.writeAt
  split
  · simpa using h
  · split
    next f hf => exact writeJoined_fits _ _ _ _ h (writeFront_fits h hf)
    next f _ hf => exact writeJoined_fits _ _ _ _ h (writeBack_fits h hf)
    next => simpa using h

/-! ## HostBus -/

@[simp] theorem hvPost_linkView (d : Device) (m off v : Nat) : (d.hvPost m off v).linkView = d.linkView := by
  simp [Device.hvPost]

@[simp] theorem busWrite_fits (d : Device) (m : Master) (off v be : Nat) (h : d.linkView.fits) :
    (d.busWrite m off v be).linkView.fits := by
  simp [Device.busWrite, h]

@[simp] theorem busRead_linkView (d : Device) (m : Master) (off : Nat) : (d.busRead m off).linkView = d.linkView := by
  simp [Device.busRead]

@[simp] theorem hvApply_fits (d : Device) (p : HvWrite) (h : d.linkView.fits) : (d.hvApply p).linkView.fits := by
  simp [Device.hvApply, h]

@[simp] theorem hvDrain_fits (d : Device) (h : d.linkView.fits) : d.hvDrain.linkView.fits := by
  have hp : ∀ e : Device, e.linkView.fits → (eachOf d.bridge.posted (fun p d => d.hvApply p) e).linkView.fits :=
    fun e he => eachOf_fits _ _ _ (fun p d h => hvApply_fits _ _ h) he
  unfold Device.hvDrain
  rw [spSync_linkView]
  refine eachOf_fits _ _ _ (fun e d h => ?_) (hp _ h)
  split <;> simp [h]

@[simp] theorem bridgeLose_linkView (d : Device) : d.bridgeLose.linkView = d.linkView := by
  simp [Device.bridgeLose]

@[simp] theorem bridgeGood_linkView (d : Device) : d.bridgeGood.linkView = d.linkView := by
  simp [Device.bridgeGood]

@[simp] theorem pondDirect_linkView (d : Device) (m a n : Nat) (val : Option (List Nat)) : (d.pondDirect m a n val).1.linkView = d.linkView := by
  unfold Device.pondDirect
  dsimp only
  repeat' split
  all_goals simp

@[simp] theorem pondDword_linkView (d : Device) (m off : Nat) (val : Option Nat) : (d.pondDword m off val).linkView = d.linkView := by
  unfold Device.pondDword
  dsimp only
  repeat' split
  all_goals simp

@[simp] theorem hvTurn_fits (d : Device) (m off : Nat) (write : Bool) (h : d.linkView.fits) : (d.hvTurn m off write).linkView.fits := by
  simp [Device.hvTurn, h]

@[simp] theorem dwordRead_fits (d : Device) (m : Master) (off : Nat) (h : d.linkView.fits) : (d.dwordRead m off).linkView.fits := by
  simp [Device.dwordRead, h]

@[simp] theorem dwordWrite_fits (d : Device) (m : Master) (off v : Nat) (h : d.linkView.fits) : (d.dwordWrite m off v).linkView.fits := by
  simp [Device.dwordWrite, h]

@[simp] theorem bar0Dword_fits (d : Device) (a : Nat) (write : Option (List Nat)) (part : List Nat) (i : Nat) (h : d.linkView.fits) :
    (d.bar0Dword a write part i).linkView.fits := by
  unfold Device.bar0Dword
  split <;> simp [h]

@[simp] theorem spBusyOn_linkView (d : Device) : d.spBusyOn.linkView = d.linkView := (rfl)

@[simp] theorem spRead_fits (d : Device) (a : Nat) (h : d.linkView.fits) : (d.spRead a).linkView.fits := by
  simp [Device.spRead, h]

@[simp] theorem spReturn_linkView (d : Device) (off v : Nat) : (d.spReturn off v).linkView = d.linkView := (rfl)

/-! ## CoreExec -/

@[simp] theorem corePondRead_linkView (d : Device) (m a n : Nat) : (d.corePondRead m a n).1.linkView = d.linkView := by
  unfold Device.corePondRead
  generalize a - 0x1000000 = o
  extract_lets p r
  split
  · simp
  · refine foldl_fst_linkView _ _ _ fun r p => ?_
    dsimp only
    repeat' split
    all_goals simp

@[simp] theorem corePondWrite_linkView (d : Device) (m a : Nat) (bs : List Nat) : (d.corePondWrite m a bs).1.linkView = d.linkView := by
  unfold Device.corePondWrite
  generalize a - 0x1000000 = o
  extract_lets p
  repeat' split
  all_goals simp

@[simp] theorem coreRead_fits (d : Device) (k a n : Nat) (h : d.linkView.fits) : (d.coreRead k a n).1.linkView.fits := by
  unfold Device.coreRead
  dsimp only
  repeat' split
  all_goals simp [h]

@[simp] theorem coreWrite_fits (d : Device) (k a n v : Nat) (h : d.linkView.fits) : (d.coreWrite k a n v).1.linkView.fits := by
  unfold Device.coreWrite
  dsimp only
  repeat' split
  all_goals simp [h]

@[simp] theorem coreFault_linkView (d : Device) (k cause a : Nat) : (d.coreFault k cause a).linkView = d.linkView := by
  simp [Device.coreFault]

@[simp] theorem coreIllegal_linkView (d : Device) (k w : Nat) : (d.coreIllegal k w).linkView = d.linkView := by
  simp [Device.coreIllegal]

@[simp] theorem coreFetch_fits (d : Device) (k a : Nat) (h : d.linkView.fits) : (d.coreFetch k a).1.linkView.fits := by
  unfold Device.coreFetch
  dsimp only
  repeat' split
  all_goals simp [h]

@[simp] theorem coreRetire_linkView (d : Device) (k rd : Nat) (v : Option Nat) (pc : Nat) :
    (d.coreRetire k rd v pc).linkView = d.linkView := by
  simp [Device.coreRetire]

@[simp] theorem coreWait_linkView (d : Device) (k pc : Nat) : (d.coreWait k pc).linkView = d.linkView := by
  simp [Device.coreWait]

@[simp] theorem coreFenceI_linkView (d : Device) (k pc : Nat) : (d.coreFenceI k pc).linkView = d.linkView := by
  simp [Device.coreFenceI]

@[simp] theorem coreLoad_fits (d : Device) (k w rd f3 a next : Nat) (h : d.linkView.fits) :
    (d.coreLoad k w rd f3 a next).linkView.fits := by
  unfold Device.coreLoad
  dsimp only
  repeat' split
  all_goals simp [h]

@[simp] theorem coreStore_fits (d : Device) (k w f3 a v next : Nat) (h : d.linkView.fits) :
    (d.coreStore k w f3 a v next).linkView.fits := by
  simp [Device.coreStore, h]

@[simp] theorem coreCsr_linkView (d : Device) (k w : Nat) (x : CoreX) (next : Nat) :
    (d.coreCsr k w x next).linkView = d.linkView := by
  unfold Device.coreCsr
  dsimp only
  split <;> simp

@[simp] theorem coreMret_linkView (d : Device) (k : Nat) : (d.coreMret k).linkView = d.linkView := by
  simp [Device.coreMret]

@[simp] theorem coreSystem_linkView (d : Device) (k w : Nat) (x : CoreX) (next : Nat) :
    (d.coreSystem k w x next).linkView = d.linkView := by
  simp [Device.coreSystem]

@[simp] theorem coreRun_fits (d : Device) (k w len bits : Nat) (x : CoreX) (h : d.linkView.fits) :
    (d.coreRun k w len bits x).linkView.fits := by
  unfold Device.coreRun
  dsimp only
  repeat' split
  all_goals simp [h]

@[simp] theorem coreCycles_linkView (d : Device) (k : Nat) : (d.coreCycles k).linkView = d.linkView := (rfl)

@[simp] theorem coreStep_fits (d : Device) (k : Nat) (h : d.linkView.fits) : (d.coreStep k).linkView.fits := by
  unfold Device.coreStep
  have hc : (d.coreCycles k).linkView.fits := by simpa using h
  have hf := fun a => coreFetch_fits (d.coreCycles k) k a hc
  have hg := fun a b => coreFetch_fits ((d.coreCycles k).coreFetch k a).1 k b (hf a)
  dsimp only
  repeat' split
  all_goals simp [hf, hg]

end Sys2Proof.Machine

namespace Sys2Proof.Machine

/-! # Every step keeps the link maps sound -/

/-! ## Commands with a proof of their own -/

theorem execMrkSend_keepsLink : KeepsLink execMrkSend :=
  keepsLink_run fun d => by
    split
    · rfl
    · refine (eachOf_linkView _ _ _ fun r d => retFrame_linkView d r).trans ((eachOf_linkView _ _ _ fun n d => ?_).trans rfl)
      repeat' split
      all_goals simp

theorem execCapsBurst_keepsLink (b : Burst) (tie : Bool) : KeepsLink (execCapsBurst b tie) :=
  keepsLink_run fun d => by
    have hb := burstIn_linkView d b
    split
    next e he => rw [he] at hb; exact hb
    next e st p he =>
      rw [he] at hb
      extract_lets n e1 e2 x prompted r y e3 z e4
      have h3 : e3.linkView = d.linkView := by
        simp only [e3]
        repeat' split
        all_goals simp [e2, e1, hb]
      repeat' split
      all_goals simp [e4, h3]

theorem execStatusBurst_keepsLink (b : Burst) (tie ackTie : Bool) : KeepsLink (execStatusBurst b tie ackTie) :=
  keepsLink_run fun d => by
    have hb := burstIn_linkView d b
    split
    next e he => rw [he] at hb; exact hb
    next e st p he =>
      rw [he] at hb
      refine (eachOf_linkView _ _ _ fun k d => ?_).trans (by simp [hb])
      dsimp only
      repeat' split
      all_goals simp

theorem execSenseBurst_keepsLink (b : Burst) (tie : Bool) : KeepsLink (execSenseBurst b tie) :=
  keepsLink_run fun d => by
    have hb := burstIn_linkView d b
    split
    next e he => rw [he] at hb; exact hb
    next e st p he =>
      rw [he] at hb
      simp [hb]

theorem execBar0Request_keepsFits (a : Nat) (write : Option (List Nat)) (n : Nat) (part : List Nat) :
    KeepsFits (execBar0Request a write n part) :=
  keepsFits_run fun d h => by
    split
    · exact h
    split
    · simpa using h
    · refine eachOf_fits _ _ _ (fun i d h => bar0Dword_fits _ _ _ _ _ h) ?_
      dsimp only
      split <;> simp [h]

/-! ## The other commands -/

theorem execRegisterWrite_keepsFits (m : Master) (off val be : Nat) : KeepsFits (execRegisterWrite m off val be) :=
  keepsFits_run fun d h => by simp [h]

theorem execReadClear_keepsLink (m : Master) (off : Nat) : KeepsLink (execReadClear m off) :=
  keepsLink_run fun d => by simp

theorem execHvAccessUnstall_keepsLink : KeepsLink execHvAccessUnstall :=
  keepsLink_run fun d => by
    repeat' split
    all_goals simp

theorem execHvWriteComplete_keepsFits : KeepsFits execHvWriteComplete :=
  keepsFits_run fun d h => by
    repeat' split
    all_goals simp [h]

theorem execHvBridgeTransfer_keepsLink (ok : Bool) : KeepsLink (execHvBridgeTransfer ok) :=
  keepsLink_run fun d => by simp

theorem execHvBridgeLost_keepsLink : KeepsLink execHvBridgeLost :=
  keepsLink_run fun d => by simp

theorem execModeReqDark_keepsLink (m : Master) : KeepsLink (execModeReqDark m) :=
  keepsLink_run fun d => by simp

theorem execModeReqTadpole_keepsLink (m : Master) : KeepsLink (execModeReqTadpole m) :=
  keepsLink_run fun d => by simp

theorem execModeReqLive_keepsLink (m : Master) : KeepsLink (execModeReqLive m) :=
  keepsLink_run fun d => by simp

theorem execModeReqGecko_keepsLink (m : Master) : KeepsLink (execModeReqGecko m) :=
  keepsLink_run fun d => by simp

theorem execModeReqLoupe_keepsLink (m : Master) : KeepsLink (execModeReqLoupe m) :=
  keepsLink_run fun d => by simp

theorem execModeTransitionEffect_keepsLink : KeepsLink execModeTransitionEffect :=
  keepsLink_run fun d => by
    repeat' split
    all_goals simp

theorem execPanelReplayEntry_keepsLink (p : Port) : KeepsLink (execPanelReplayEntry p) :=
  keepsLink_run fun d => by simp

theorem execPanelReplayExit_keepsLink (p : Port) : KeepsLink (execPanelReplayExit p) :=
  keepsLink_run fun d => by simp

theorem execLoupeReturn_keepsLink : KeepsLink execLoupeReturn :=
  keepsLink_run fun d => by
    repeat' split
    all_goals simp

theorem execSupplyApplied_keepsLink : KeepsLink execSupplyApplied :=
  keepsLink_run fun d => by simp

theorem execSysRstRelease_keepsFits : KeepsFits execSysRstRelease :=
  keepsFits_run fun d h => by simp [h]

theorem execSysRstAssert_keepsFits (vkeep : Bool) : KeepsFits (execSysRstAssert vkeep) :=
  keepsFits_run fun d h => by simp [h]

theorem execPowerFail_keepsFits (_src : PfSupply) (vkeep : Bool) : KeepsFits (execPowerFail _src vkeep) :=
  keepsFits_run fun d h => by simp [h]

theorem execWakePin_keepsLink (pin : Fin 2) (ns : Nat) : KeepsLink (execWakePin pin ns) :=
  keepsLink_run fun d => by simp

theorem execWakeAlarm_keepsLink : KeepsLink execWakeAlarm :=
  keepsLink_run fun d => by simp

theorem execPwrupHoldExpire_keepsLink : KeepsLink execPwrupHoldExpire :=
  keepsLink_run fun d => by
    dsimp only
    repeat' split
    all_goals simp

theorem execBootStepComplete_keepsFits (n : Nat) (o : BootOutcome) : KeepsFits (execBootStepComplete n o) :=
  keepsFits_run fun d h => by
    repeat' split
    all_goals simp [h]

theorem execBootFwStartTimeout_keepsLink : KeepsLink execBootFwStartTimeout :=
  keepsLink_run fun d => by simp

theorem execBootEnterLive_keepsLink : KeepsLink execBootEnterLive :=
  keepsLink_run fun d => by
    repeat' split
    all_goals simp

theorem execKeepRecallComplete_keepsLink : KeepsLink execKeepRecallComplete :=
  keepsLink_run fun d => by simp

theorem execImgCheckDecode_keepsFits (m : Master) : KeepsFits (execImgCheckDecode m) :=
  keepsFits_run fun d h => by simp [h]

theorem execImgCheckOnly_keepsFits (m : Master) : KeepsFits (execImgCheckOnly m) :=
  keepsFits_run fun d h => by simp [h]

theorem execImgAbort_keepsFits (m : Master) : KeepsFits (execImgAbort m) :=
  keepsFits_run fun d h => by simp [h]

theorem execMsWrite_keepsLink (m : Master) (off val : Nat) : KeepsLink (execMsWrite m off val) :=
  keepsLink_run fun d => by simp

theorem execActiveCopyRead_keepsFits (m : Master) : KeepsFits (execActiveCopyRead m) :=
  keepsFits_run fun d h => by simp [h]

theorem execSwapRequest_keepsLink (m : Master) (after cancel : Bool) : KeepsLink (execSwapRequest m after cancel) :=
  keepsLink_run fun d => by simp

theorem execSwapCancel_keepsLink (m : Master) (after : Bool) : KeepsLink (execSwapCancel m after) :=
  keepsLink_run fun d => by simp

theorem execIslandReady_keepsLink (i : Nat) (ecc : Bool) : KeepsLink (execIslandReady i ecc) :=
  keepsLink_run fun d => by simp

theorem execSwapArm_keepsLink : KeepsLink execSwapArm :=
  keepsLink_run fun d => by simp

theorem execIslandDone_keepsLink (i : Nat) : KeepsLink (execIslandDone i) :=
  keepsLink_run fun d => by simp

theorem execSwapDoneTimeout_keepsLink : KeepsLink execSwapDoneTimeout :=
  keepsLink_run fun d => by simp

theorem execMirrorRefillComplete_keepsFits : KeepsFits execMirrorRefillComplete :=
  keepsFits_run fun d h => by simp [h]

theorem execLiveWrite_keepsLink (m : Master) (off val : Nat) : KeepsLink (execLiveWrite m off val) :=
  keepsLink_run fun d => by simp

theorem execLiveTmgWrite_keepsLink (m : Master) (off val : Nat) : KeepsLink (execLiveTmgWrite m off val) :=
  keepsLink_run fun d => by simp

theorem execHeldWrite_keepsLink (m : Master) (order : Bool) (val : Nat) : KeepsLink (execHeldWrite m order val) :=
  keepsLink_run fun d => by simp

theorem execZorderApply_keepsLink (m : Master) (val : Nat) : KeepsLink (execZorderApply m val) :=
  keepsLink_run fun d => by simp

theorem execPaletteWrite_keepsLink (m : Master) (val : Nat) : KeepsLink (execPaletteWrite m val) :=
  keepsLink_run fun d => by simp

theorem execLayerEnableWrite_keepsLink (m : Master) (val : Nat) : KeepsLink (execLayerEnableWrite m val) :=
  keepsLink_run fun d => by simp

theorem execVerticalSwapPoint_keepsLink (bad : List Nat) : KeepsLink (execVerticalSwapPoint bad) :=
  keepsLink_run fun d => by simp

theorem execFrameStartDecision_keepsLink (lag : Nat) (latePassed : Bool) :
    KeepsLink (execFrameStartDecision lag latePassed) :=
  keepsLink_run fun d => by simp

theorem execThroughFrameStart_keepsLink : KeepsLink execThroughFrameStart :=
  keepsLink_run fun d => by simp

theorem execLateLimit_keepsLink (tie : Bool) : KeepsLink (execLateLimit tie) :=
  keepsLink_run fun d => by simp

theorem execLocalFrameStart_keepsLink (usable : Fin 16) : KeepsLink (execLocalFrameStart usable) :=
  keepsLink_run fun d => by simp

theorem execGlassLineStart_keepsLink : KeepsLink execGlassLineStart :=
  keepsLink_run fun d => by simp

theorem execLineDeadline_keepsLink (t : Lane) : KeepsLink (execLineDeadline t) :=
  keepsLink_run fun d => by
    dsimp only
    repeat' split
    all_goals simp

theorem execPackedLineComplete_keepsLink (t : Lane) (lag : Nat) (tie : Bool) :
    KeepsLink (execPackedLineComplete t lag tie) :=
  keepsLink_run fun d => by
    dsimp only
    repeat' split
    all_goals simp

theorem execCreditReturn_keepsLink (t : Lane) (j : Fin 14) : KeepsLink (execCreditReturn t j) :=
  keepsLink_run fun d => by simp

theorem execFacetDataArrive_keepsLink (t : Lane) (f : FacetFound) : KeepsLink (execFacetDataArrive t f) :=
  keepsLink_run fun d => by simp

theorem execNoinHoldExpire_keepsLink (e : Fin 5) : KeepsLink (execNoinHoldExpire e) :=
  keepsLink_run fun d => by simp

theorem execScanRun_keepsLink (m : Master) : KeepsLink (execScanRun m) :=
  keepsLink_run fun d => by simp

theorem execScanStop_keepsLink (m : Master) : KeepsLink (execScanStop m) :=
  keepsLink_run fun d => by simp

theorem execTestRasterWrite_keepsLink (m : Master) (val : Nat) : KeepsLink (execTestRasterWrite m val) :=
  keepsLink_run fun d => by simp

theorem execChkLearn_keepsLink (m : Master) (w : Fin 64) (val : Nat) : KeepsLink (execChkLearn m w val) :=
  keepsLink_run fun d => by simp

theorem execChkWindowResult_keepsLink : KeepsLink execChkWindowResult :=
  keepsLink_run fun d => by simp

theorem execDprxCapChange_keepsLink (m : Master) (p : Port) (val : Nat) : KeepsLink (execDprxCapChange m p val) :=
  keepsLink_run fun d => by simp

theorem execHpdEnableClear_keepsLink (m : Master) (p : Port) (val : Nat) : KeepsLink (execHpdEnableClear m p val) :=
  keepsLink_run fun d => by simp

theorem execHpdPulseEnd_keepsLink (p : Port) : KeepsLink (execHpdPulseEnd p) :=
  keepsLink_run fun d => by simp

theorem execDprxLinkLock_keepsLink (p : Port) (rate lanes : Nat) (tie : Bool) :
    KeepsLink (execDprxLinkLock p rate lanes tie) :=
  keepsLink_run fun d => by simp

theorem execDprxLockLoss_keepsLink (p : Port) : KeepsLink (execDprxLockLoss p) :=
  keepsLink_run fun d => by simp

theorem execDprxRelockTimeout_keepsLink (p : Port) : KeepsLink (execDprxRelockTimeout p) :=
  keepsLink_run fun d => by simp

theorem execDprxFrameStart_keepsLink (p : Port) (f : VideoFormat) (since skew lineHz : Nat) :
    KeepsLink (execDprxFrameStart p f since skew lineHz) :=
  keepsLink_run fun d => by simp

theorem execDprxLineReceive_keepsLink (p : Port) (samples : List Nat) (corr uncorr : Nat) :
    KeepsLink (execDprxLineReceive p samples corr uncorr) :=
  keepsLink_run fun d => by simp

theorem execSelectiveUpdate_keepsLink (p : Port) (x y w h : Nat) (pixels : List Nat) :
    KeepsLink (execSelectiveUpdate p x y w h pixels) :=
  keepsLink_run fun d => by simp

theorem execEdidCommit_keepsLink (m : Master) (p : Port) : KeepsLink (execEdidCommit m p) :=
  keepsLink_run fun d => by simp

theorem execEdidCommitDone_keepsLink (p : Port) : KeepsLink (execEdidCommitDone p) :=
  keepsLink_run fun d => by simp

theorem execDprxAuxRead_keepsLink (p : Port) (off n : Nat) : KeepsLink (execDprxAuxRead p off n) :=
  keepsLink_run fun d => by simp

theorem execTapEnable_keepsLink (m : Master) (val : Nat) : KeepsLink (execTapEnable m val) :=
  keepsLink_run fun d => by simp

theorem execTapDisable_keepsLink (m : Master) (val : Nat) : KeepsLink (execTapDisable m val) :=
  keepsLink_run fun d => by simp

theorem execTapSrcChange_keepsLink (m : Master) (src : Port) : KeepsLink (execTapSrcChange m src) :=
  keepsLink_run fun d => by simp

theorem execTapLinkParamChange_keepsLink (m : Master) (rate lanes ssc : Nat) :
    KeepsLink (execTapLinkParamChange m rate lanes ssc) :=
  keepsLink_run fun d => by simp

theorem execTapDownstreamHpd_keepsLink (level : Bool) (rate lanes : Nat) :
    KeepsLink (execTapDownstreamHpd level rate lanes) :=
  keepsLink_run fun d => by simp

theorem execTapAuxNativeRead_keepsLink (m : Master) (addr : Nat) (len : Fin 16) :
    KeepsLink (execTapAuxNativeRead m addr len) :=
  keepsLink_run fun d => by simp

theorem execTapAuxNativeWrite_keepsLink (m : Master) (addr : Nat) (len : Fin 16) :
    KeepsLink (execTapAuxNativeWrite m addr len) :=
  keepsLink_run fun d => by simp

theorem execTapAuxI2cRead_keepsLink (m : Master) (addr : Nat) (len : Fin 16) :
    KeepsLink (execTapAuxI2cRead m addr len) :=
  keepsLink_run fun d => by simp

theorem execTapAuxI2cWrite_keepsLink (m : Master) (addr : Nat) (len : Fin 16) :
    KeepsLink (execTapAuxI2cWrite m addr len) :=
  keepsLink_run fun d => by simp

theorem execTapAuxReply_keepsLink (r : AuxReply) (data : List Nat) : KeepsLink (execTapAuxReply r data) :=
  keepsLink_run fun d => by
    repeat' split
    all_goals simp

theorem execTapAuxTimeout_keepsLink : KeepsLink execTapAuxTimeout :=
  keepsLink_run fun d => by simp

theorem execLoopbackStart_keepsLink (m : Master) (rate : Nat) : KeepsLink (execLoopbackStart m rate) :=
  keepsLink_run fun d => by simp

theorem execLoopbackStop_keepsLink (m : Master) (errs : List Nat) : KeepsLink (execLoopbackStop m errs) :=
  keepsLink_run fun d => by simp

theorem execLayerAllocate_keepsLink (m : Master) (granules : Nat) : KeepsLink (execLayerAllocate m granules) :=
  keepsLink_run fun d => by simp

theorem execLayerFree_keepsLink (m : Master) (h : Fin 64) : KeepsLink (execLayerFree m h) :=
  keepsLink_run fun d => by simp

theorem execLayerBufferRelease_keepsLink (h : Fin 64) : KeepsLink (execLayerBufferRelease h) :=
  keepsLink_run fun d => by simp

theorem execLayerUnderrun_keepsLink (i : Fin 16) (t : Lane) (x : Nat) : KeepsLink (execLayerUnderrun i t x) :=
  keepsLink_run fun d => by simp

theorem execPoolClaim_keepsLink (m : Master) (val : Nat) : KeepsLink (execPoolClaim m val) :=
  keepsLink_run fun d => by simp

theorem execPoolRelease_keepsLink (m : Master) : KeepsLink (execPoolRelease m) :=
  keepsLink_run fun d => by simp

theorem execKnotWrite_keepsLink (m : Master) (val : Nat) : KeepsLink (execKnotWrite m val) :=
  keepsLink_run fun d => by simp

theorem execGridWrite_keepsLink (m : Master) (k : Fin 144) (val : Nat) : KeepsLink (execGridWrite m k val) :=
  keepsLink_run fun d => by simp

theorem execGridStale_keepsLink (tie : Bool) : KeepsLink (execGridStale tie) :=
  keepsLink_run fun d => by simp

theorem execKickRetarget_keepsLink (m : Master) : KeepsLink (execKickRetarget m) :=
  keepsLink_run fun d => by simp

theorem execKickSettle_keepsLink (m : Master) : KeepsLink (execKickSettle m) :=
  keepsLink_run fun d => by simp

theorem execKickFreeze_keepsLink (m : Master) : KeepsLink (execKickFreeze m) :=
  keepsLink_run fun d => by simp

theorem execKickUnfreeze_keepsLink (m : Master) : KeepsLink (execKickUnfreeze m) :=
  keepsLink_run fun d => by simp

theorem execMapLoad_keepsLink (m : Master) (t : Fin 4) : KeepsLink (execMapLoad m t) :=
  keepsLink_run fun d => by simp

theorem execMapCheckAdopt_keepsLink (m : Master) (t : Fin 4) : KeepsLink (execMapCheckAdopt m t) :=
  keepsLink_run fun d => by simp

theorem execMapOpComplete_keepsLink (err : Bool) : KeepsLink (execMapOpComplete err) :=
  keepsLink_run fun d => by
    dsimp only
    repeat' split
    all_goals simp

theorem execSensingEnable_keepsLink (m : Master) (val : Nat) : KeepsLink (execSensingEnable m val) :=
  keepsLink_run fun d => by simp

theorem execSenseTimerExpire_keepsLink : KeepsLink execSenseTimerExpire :=
  keepsLink_run fun d => by simp

theorem execSenseOpStart_keepsLink : KeepsLink execSenseOpStart :=
  keepsLink_run fun d => by
    dsimp only
    repeat' split
    all_goals simp

theorem execSenseReturnDeadline_keepsLink (tie : Bool) : KeepsLink (execSenseReturnDeadline tie) :=
  keepsLink_run fun d => by
    repeat' split
    all_goals simp

theorem execSurveyStage_keepsLink (m : Master) : KeepsLink (execSurveyStage m) :=
  keepsLink_run fun d => by simp

theorem execSurveyApply_keepsLink (m : Master) : KeepsLink (execSurveyApply m) :=
  keepsLink_run fun d => by simp

theorem execSurveySave_keepsLink (m : Master) (types : Fin 4) : KeepsLink (execSurveySave m types) :=
  keepsLink_run fun d => by simp

theorem execSurveySenseNow_keepsLink (m : Master) : KeepsLink (execSurveySenseNow m) :=
  keepsLink_run fun d => by simp

theorem execSurveyRestartSweep_keepsLink (m : Master) : KeepsLink (execSurveyRestartSweep m) :=
  keepsLink_run fun d => by simp

theorem execSurveyEndLoupe_keepsLink (m : Master) : KeepsLink (execSurveyEndLoupe m) :=
  keepsLink_run fun d => by simp

theorem execSurveyCmdComplete_keepsLink (err : Bool) : KeepsLink (execSurveyCmdComplete err) :=
  keepsLink_run fun d => by
    repeat' split
    all_goals simp

theorem execIntegratorSaveTimer_keepsLink : KeepsLink execIntegratorSaveTimer :=
  keepsLink_run fun d => by simp

theorem execLaneWakeDone_keepsLink (n : Lane) : KeepsLink (execLaneWakeDone n) :=
  keepsLink_run fun d => by
    dsimp only
    repeat' split
    all_goals simp

theorem execLaneLockTimeout_keepsLink (n : Lane) : KeepsLink (execLaneLockTimeout n) :=
  keepsLink_run fun d => by simp

theorem execEqPresetDone_keepsLink (n : Lane) (growth fom : Nat) (ceased : Bool) :
    KeepsLink (execEqPresetDone n growth fom ceased) :=
  keepsLink_run fun d => by
    dsimp only
    repeat' split
    all_goals simp

theorem execEqHoldDone_keepsLink (n : Lane) : KeepsLink (execEqHoldDone n) :=
  keepsLink_run fun d => by simp

theorem execReturnSlotEnd_keepsLink (r : RetLane) (j : Fin 4) (guard : Bool) :
    KeepsLink (execReturnSlotEnd r j guard) :=
  keepsLink_run fun d => by
    dsimp only
    repeat' split
    all_goals simp

theorem execJamRetryTimer_keepsLink (r : RetLane) : KeepsLink (execJamRetryTimer r) :=
  keepsLink_run fun d => by simp

theorem execConfigResendTimer_keepsLink (n : Lane) : KeepsLink (execConfigResendTimer n) :=
  keepsLink_run fun d => by
    repeat' split
    all_goals simp

theorem execControlPacketResend_keepsLink (n : Lane) : KeepsLink (execControlPacketResend n) :=
  keepsLink_run fun d => by
    dsimp only
    repeat' split
    all_goals simp

theorem execRailGood_keepsLink (i : Fin 8) (mon : Nat) (tie : Bool) : KeepsLink (execRailGood i mon tie) :=
  keepsLink_run fun d => by simp

theorem execSeqDelayExpire_keepsLink : KeepsLink execSeqDelayExpire :=
  keepsLink_run fun d => by
    repeat' split
    all_goals simp

theorem execPgTimeout_keepsLink : KeepsLink execPgTimeout :=
  keepsLink_run fun d => by
    repeat' split
    all_goals simp

theorem execVinBelowWarn_keepsLink : KeepsLink execVinBelowWarn :=
  keepsLink_run fun d => by
    dsimp only
    repeat' split
    all_goals simp

theorem execVinRecover_keepsLink (tie : Bool) : KeepsLink (execVinRecover tie) :=
  keepsLink_run fun d => by
    dsimp only
    repeat' split
    all_goals simp

theorem execBrownoutWaitExpire_keepsLink : KeepsLink execBrownoutWaitExpire :=
  keepsLink_run fun d => by
    repeat' split
    all_goals simp

theorem execRailFaultDetect_keepsLink (k : RailFault) (i : Fin 8) : KeepsLink (execRailFaultDetect k i) :=
  keepsLink_run fun d => by
    repeat' split
    all_goals simp

theorem execHvOvertemp_keepsLink (temp : Nat) : KeepsLink (execHvOvertemp temp) :=
  keepsLink_run fun d => by simp

theorem execPsmSample_keepsLink (k : Fin 4) (v : Nat) : KeepsLink (execPsmSample k v) :=
  keepsLink_run fun d => by simp

theorem execDischargeHoldEnd_keepsLink : KeepsLink execDischargeHoldEnd :=
  keepsLink_run fun d => by simp

theorem execRailDischarged_keepsLink (i : Fin 8) (mon : Nat) (tie : Bool) :
    KeepsLink (execRailDischarged i mon tie) :=
  keepsLink_run fun d => by simp

theorem execBleedTimeout_keepsLink : KeepsLink execBleedTimeout :=
  keepsLink_run fun d => by
    repeat' split
    all_goals simp

theorem execPfHoldExpire_keepsLink : KeepsLink execPfHoldExpire :=
  keepsLink_run fun d => by simp

theorem execCrackMeasure_keepsLink (ohm : Nat) : KeepsLink (execCrackMeasure ohm) :=
  keepsLink_run fun d => by simp

theorem execSegFrameStart_keepsLink : KeepsLink execSegFrameStart :=
  keepsLink_run fun d => by simp

theorem execSegBlinkToggle_keepsLink (ram : Bool) : KeepsLink (execSegBlinkToggle ram) :=
  keepsLink_run fun d => by simp

theorem execSegWideSet_keepsLink (m : Master) (val : Nat) : KeepsLink (execSegWideSet m val) :=
  keepsLink_run fun d => by simp

theorem execSegWideClear_keepsLink (m : Master) (val : Nat) : KeepsLink (execSegWideClear m val) :=
  keepsLink_run fun d => by simp

theorem execBar2Write_keepsLink (a : Nat) (bs : List (Option Nat)) : KeepsLink (execBar2Write a bs) :=
  keepsLink_run fun d => by simp

theorem execBar2Read_keepsLink (a n : Nat) (ecc : List (Nat × Ecc)) : KeepsLink (execBar2Read a n ecc) :=
  keepsLink_run fun d => by simp

theorem execEccWriteback_keepsLink (w : Nat) : KeepsLink (execEccWriteback w) :=
  keepsLink_run fun d => by simp

theorem execScrubRead_keepsLink (found : Ecc) : KeepsLink (execScrubRead found) :=
  keepsLink_run fun d => by simp

theorem execPondWindowAccess_keepsLink (m : Master) (off : Nat) (val : Option Nat) (pa : PortA) (found : Ecc) :
    KeepsLink (execPondWindowAccess m off val pa found) :=
  keepsLink_run fun d => by simp

theorem execPondRetry_keepsLink (pa : PortA) : KeepsLink (execPondRetry pa) :=
  keepsLink_run fun d => by
    repeat' split
    all_goals simp

theorem execBankRetentionEnter_keepsLink (i : Fin 384) : KeepsLink (execBankRetentionEnter i) :=
  keepsLink_run fun d => by simp

theorem execBankWakeDone_keepsLink (i : Fin 384) : KeepsLink (execBankWakeDone i) :=
  keepsLink_run fun d => by simp

theorem execMarchIntervalExpire_keepsLink : KeepsLink execMarchIntervalExpire :=
  keepsLink_run fun d => by
    repeat' split
    all_goals simp

theorem execMarchCopyinDone_keepsLink (ecc : List (Nat × Ecc)) : KeepsLink (execMarchCopyinDone ecc) :=
  keepsLink_run fun d => by
    repeat' split
    all_goals simp

theorem execMarchTestDone_keepsLink (fail : Option (Nat × Nat)) : KeepsLink (execMarchTestDone fail) :=
  keepsLink_run fun d => by
    dsimp only
    repeat' split
    all_goals simp

theorem execMarchCopybackDone_keepsLink : KeepsLink execMarchCopybackDone :=
  keepsLink_run fun d => by simp

theorem execMarchBankDone_keepsLink (fail : Option (Nat × Nat × Nat)) : KeepsLink (execMarchBankDone fail) :=
  keepsLink_run fun d => by
    dsimp only
    repeat' split
    all_goals simp

theorem execKeepAutoStore_keepsLink : KeepsLink execKeepAutoStore :=
  keepsLink_run fun d => by simp

theorem execKeepSnapshot_keepsLink : KeepsLink execKeepSnapshot :=
  keepsLink_run fun d => by simp

theorem execKeepStoreComplete_keepsFits (tie : Bool) : KeepsFits (execKeepStoreComplete tie) :=
  keepsFits_run fun d h => by
    repeat' split
    all_goals simp [h]

theorem execKeepStoreTimeout_keepsFits : KeepsFits execKeepStoreTimeout :=
  keepsFits_run fun d h => by
    repeat' split
    all_goals simp [h]

theorem execRecordCommitDone_keepsLink : KeepsLink execRecordCommitDone :=
  keepsLink_run fun d => by
    dsimp only
    repeat' split
    all_goals simp

theorem execCounterUpdateDone_keepsLink : KeepsLink execCounterUpdateDone :=
  keepsLink_run fun d => by simp

theorem execKeepClockTick_keepsLink (vkeep : Bool) : KeepsLink (execKeepClockTick vkeep) :=
  keepsLink_run fun d => by simp

theorem execCoreRun_keepsLink (m : Master) (k : CoreId) : KeepsLink (execCoreRun m k) :=
  keepsLink_run fun d => by simp

theorem execCoreReset_keepsLink (m : Master) (k : CoreId) : KeepsLink (execCoreReset m k) :=
  keepsLink_run fun d => by simp

theorem execCoreHalt_keepsLink (m : Master) (k : CoreId) : KeepsLink (execCoreHalt m k) :=
  keepsLink_run fun d => by simp

theorem execCoreResume_keepsLink (m : Master) (k : CoreId) : KeepsLink (execCoreResume m k) :=
  keepsLink_run fun d => by simp

theorem execCoreInstruction_keepsFits (k : CoreId) : KeepsFits (execCoreInstruction k) :=
  keepsFits_run fun d h => by simp [h]

theorem execCoreWfi_keepsLink (k : CoreId) : KeepsLink (execCoreWfi k) :=
  keepsLink_run fun d => by simp

theorem execFenceI_keepsLink (k : CoreId) : KeepsLink (execFenceI k) :=
  keepsLink_run fun d => by simp

theorem execCoreInterrupt_keepsLink (k : CoreId) : KeepsLink (execCoreInterrupt k) :=
  keepsLink_run fun d => by
    repeat' split
    all_goals simp

theorem execMtimerMatch_keepsLink (k : CoreId) : KeepsLink (execMtimerMatch k) :=
  keepsLink_run fun d => by simp

theorem execMtimeRead_keepsLink (m : Master) : KeepsLink (execMtimeRead m) :=
  keepsLink_run fun d => by simp

theorem execCoreKick_keepsLink (m : Master) (k : CoreId) : KeepsLink (execCoreKick m k) :=
  keepsLink_run fun d => by simp

theorem execWatchdogExpire_keepsLink (k : CoreId) (tie : Bool) : KeepsLink (execWatchdogExpire k tie) :=
  keepsLink_run fun d => by simp

theorem execBankAssign_keepsLink (m : Master) (k : CoreId) (n : Nat) : KeepsLink (execBankAssign m k n) :=
  keepsLink_run fun d => by simp

theorem execBankReturn_keepsLink (m : Master) (k : CoreId) : KeepsLink (execBankReturn m k) :=
  keepsLink_run fun d => by simp

theorem execChannelTableLock_keepsLink (m : Master) : KeepsLink (execChannelTableLock m) :=
  keepsLink_run fun d => by simp

theorem execMailboxSend_keepsLink (m : Master) (c : Fin 64) (val : Nat) : KeepsLink (execMailboxSend m c val) :=
  keepsLink_run fun d => by simp

theorem execMailboxReceive_keepsLink (m : Master) (c : Fin 64) : KeepsLink (execMailboxReceive m c) :=
  keepsLink_run fun d => by simp

theorem execMailboxAckTimeout_keepsLink (c : Fin 64) (ab tie : Bool) : KeepsLink (execMailboxAckTimeout c ab tie) :=
  keepsLink_run fun d => by simp

theorem execMailboxXwait_keepsLink (c : Fin 64) (tie : Bool) : KeepsLink (execMailboxXwait c tie) :=
  keepsLink_run fun d => by simp

theorem execDoorbellRing_keepsLink (m : Master) (val : Nat) : KeepsLink (execDoorbellRing m val) :=
  keepsLink_run fun d => by simp

theorem execLockAcquireRead_keepsLink (m : Master) (n : Fin 128) (tied : List Master) :
    KeepsLink (execLockAcquireRead m n tied) :=
  keepsLink_run fun d => by simp

theorem execLockRelease_keepsLink (m : Master) (n : Fin 128) (val : Nat) : KeepsLink (execLockRelease m n val) :=
  keepsLink_run fun d => by simp

theorem execLockForceClear_keepsLink (m : Master) (val : Nat) : KeepsLink (execLockForceClear m val) :=
  keepsLink_run fun d => by simp

theorem execPing_keepsLink (c : Fin 6) : KeepsLink (execPing c) :=
  keepsLink_run fun d => by
    repeat' split
    all_goals simp

theorem execCommit_keepsLink (c : Fin 6) : KeepsLink (execCommit c) :=
  keepsLink_run fun d => by
    dsimp only
    repeat' split
    all_goals simp

theorem execLoadCore_keepsLink (c : Fin 6) : KeepsLink (execLoadCore c) :=
  keepsLink_run fun d => by
    repeat' split
    all_goals simp

theorem execLoadCoreComplete_keepsLink (bad : Bool) : KeepsLink (execLoadCoreComplete bad) :=
  keepsLink_run fun d => by simp

theorem execPcieFunctionReset_keepsLink (k : PcieReset) : KeepsLink (execPcieFunctionReset k) :=
  keepsLink_run fun d => by
    repeat' split
    all_goals simp

theorem execPcieD3hot_keepsLink (enter : Bool) : KeepsLink (execPcieD3hot enter) :=
  keepsLink_run fun d => by simp

theorem execPoisonedWrite_keepsLink : KeepsLink execPoisonedWrite :=
  keepsLink_run fun d => by simp

theorem execMsixTrigger_keepsLink (v : Fin 64) (w1c : Bool) : KeepsLink (execMsixTrigger v w1c) :=
  keepsLink_run fun d => by simp

theorem execErrorClear_keepsLink (m : Master) (val : Nat) : KeepsLink (execErrorClear m val) :=
  keepsLink_run fun d => by simp

theorem execSidePortPondAccess_keepsLink (a : Nat) (val : Option Nat) (pa : PortA) (found : Ecc) :
    KeepsLink (execSidePortPondAccess a val pa found) :=
  keepsLink_run fun d => by simp

theorem execSidePortLowWrite_keepsLink (a val : Nat) : KeepsLink (execSidePortLowWrite a val) :=
  keepsLink_run fun d => by simp

theorem execSidePortHighWrite_keepsFits (a val : Nat) : KeepsFits (execSidePortHighWrite a val) :=
  keepsFits_run fun d h => by
    dsimp only
    repeat' split
    all_goals simp [h]

theorem execSidePortLowRead_keepsFits (a : Nat) (ready : Bool) : KeepsFits (execSidePortLowRead a ready) :=
  keepsFits_run fun d h => by
    repeat' split
    all_goals simp [h]

theorem execSidePortHighRead_keepsLink (a : Nat) : KeepsLink (execSidePortHighRead a) :=
  keepsLink_run fun d => by
    repeat' split
    all_goals simp

theorem execSidePortReadReady_keepsLink : KeepsLink execSidePortReadReady :=
  keepsLink_run fun d => by
    repeat' split
    all_goals simp

theorem execXspiRead_keepsLink (m : Master) (len : Fin 16) : KeepsLink (execXspiRead m len) :=
  keepsLink_run fun d => by simp

theorem execXspiProgram_keepsLink (m : Master) (len : Fin 16) : KeepsLink (execXspiProgram m len) :=
  keepsLink_run fun d => by simp

theorem execXspiSectorErase_keepsLink (m : Master) : KeepsLink (execXspiSectorErase m) :=
  keepsLink_run fun d => by simp

theorem execXspiBlockErase_keepsLink (m : Master) : KeepsLink (execXspiBlockErase m) :=
  keepsLink_run fun d => by simp

theorem execXspiReadStatus_keepsLink (m : Master) : KeepsLink (execXspiReadStatus m) :=
  keepsLink_run fun d => by simp

theorem execXspiSoftwareReset_keepsLink (m : Master) : KeepsLink (execXspiSoftwareReset m) :=
  keepsLink_run fun d => by simp

theorem execXspiOpComplete_keepsLink (status : Nat) (late : Bool) : KeepsLink (execXspiOpComplete status late) :=
  keepsLink_run fun d => by
    repeat' split
    all_goals simp

theorem execXspiBusyTimeout_keepsLink (status : Nat) : KeepsLink (execXspiBusyTimeout status) :=
  keepsLink_run fun d => by
    repeat' split
    all_goals simp

theorem execDmaStart_keepsLink (m : Master) (ss ds : Fin 4) : KeepsLink (execDmaStart m ss ds) :=
  keepsLink_run fun d => by simp

theorem execDmaAbort_keepsLink (m : Master) : KeepsLink (execDmaAbort m) :=
  keepsLink_run fun d => by simp

theorem execDmaComplete_keepsLink (stop : Option Nat) : KeepsLink (execDmaComplete stop) :=
  keepsLink_run fun d => by
    repeat' split
    all_goals simp

theorem execI2cTransaction_keepsLink (m : Master) (n : Fin 2) (val : Nat) : KeepsLink (execI2cTransaction m n val) :=
  keepsLink_run fun d => by simp

theorem execI2cComplete_keepsLink (n : Fin 2) (nack : Option Nat) (pecBad : Bool) (data : List Nat) :
    KeepsLink (execI2cComplete n nack pecBad data) :=
  keepsLink_run fun d => by
    repeat' split
    all_goals simp

theorem execI2cClockLowTimeout_keepsLink (n : Fin 2) (tie : Bool) : KeepsLink (execI2cClockLowTimeout n tie) :=
  keepsLink_run fun d => by
    repeat' split
    all_goals simp

theorem execGpioEnable_keepsLink (m : Master) (val : Nat) : KeepsLink (execGpioEnable m val) :=
  keepsLink_run fun d => by simp

theorem execGpioEdge_keepsLink (p : Fin 16) (rise : Bool) : KeepsLink (execGpioEdge p rise) :=
  keepsLink_run fun d => by simp

theorem execNtcSample_keepsLink (k : Fin 4) (c : Nat) : KeepsLink (execNtcSample k c) :=
  keepsLink_run fun d => by simp

theorem execJtagUpdateIr_keepsLink (ir : Nat) : KeepsLink (execJtagUpdateIr ir) :=
  keepsLink_run fun d => by simp

theorem execDbgAccess_keepsFits (op off data : Nat) : KeepsFits (execDbgAccess op off data) :=
  keepsFits_run fun d h => by simp [h]

theorem execDbgCapture_keepsLink (running : Bool) : KeepsLink (execDbgCapture running) :=
  keepsLink_run fun d => by simp

theorem execFaultRaise_keepsLink (code inst obj : Nat) : KeepsLink (execFaultRaise code inst obj) :=
  keepsLink_run fun d => by simp

theorem execIntegratorFault_keepsLink (m : Master) (val : Nat) : KeepsLink (execIntegratorFault m val) :=
  keepsLink_run fun d => by simp

theorem execRecoveryComplete_keepsLink (tie : Bool) : KeepsLink (execRecoveryComplete tie) :=
  keepsLink_run fun d => by
    repeat' split
    all_goals simp

theorem execRecoveryBudgetEnd_keepsLink : KeepsLink execRecoveryBudgetEnd :=
  keepsLink_run fun d => by simp

theorem execRegenAttemptStart_keepsLink : KeepsLink execRegenAttemptStart :=
  keepsLink_run fun d => by simp

theorem execRegenStepDone_keepsLink (found : Bool) : KeepsLink (execRegenStepDone found) :=
  keepsLink_run fun d => by
    repeat' split
    all_goals simp

theorem execRegenTimeout_keepsLink : KeepsLink execRegenTimeout :=
  keepsLink_run fun d => by simp

theorem execAccountingFlush_keepsLink : KeepsLink execAccountingFlush :=
  keepsLink_run fun d => by simp

theorem execPllLockLoss_keepsLink (k : Fin 18) : KeepsLink (execPllLockLoss k) :=
  keepsLink_run fun d => by simp

theorem execSscHopEnable_keepsLink (m : Master) (val : Nat) : KeepsLink (execSscHopEnable m val) :=
  keepsLink_run fun d => by simp

theorem execSscHop_keepsLink : KeepsLink execSscHop :=
  keepsLink_run fun d => by simp

theorem execFclkStepEffect_keepsLink : KeepsLink execFclkStepEffect :=
  keepsLink_run fun d => by simp

theorem execAvsStep_keepsLink : KeepsLink execAvsStep :=
  keepsLink_run fun d => by simp

theorem execAvsMonitor_keepsLink (mv : Nat) : KeepsLink (execAvsMonitor mv) :=
  keepsLink_run fun d => by simp

theorem execMonitorSample_keepsLink (vals : List Nat) : KeepsLink (execMonitorSample vals) :=
  keepsLink_run fun d => by
    dsimp only
    repeat' split
    all_goals simp

theorem execMarginReplan_keepsLink (after70 : Bool) : KeepsLink (execMarginReplan after70) :=
  keepsLink_run fun d => by simp

theorem execPresetTrial_keepsLink (n : Lane) (p : Fin 8) (fomUp hdrUp : Bool) :
    KeepsLink (execPresetTrial n p fomUp hdrUp) :=
  keepsLink_run fun d => by simp

theorem execEyeMeasure_keepsLink (m : Master) (val : Nat) : KeepsLink (execEyeMeasure m val) :=
  keepsLink_run fun d => by simp

theorem execEyeMeasureDone_keepsLink (horiz vert fom : Nat) (lost : Bool) :
    KeepsLink (execEyeMeasureDone horiz vert fom lost) :=
  keepsLink_run fun d => by
    repeat' split
    all_goals simp

theorem execKRegisterSave_keepsLink : KeepsLink execKRegisterSave :=
  keepsLink_run fun d => by simp

theorem execVddAoLoss_keepsFits : KeepsFits execVddAoLoss :=
  keepsFits_run fun d h => by simp [h]

theorem execCoreSuppliesGood_keepsFits : KeepsFits execCoreSuppliesGood :=
  keepsFits_run fun d h => by simp [h]

theorem execPcieLinkUp_keepsLink (speed width : Nat) (bme fnMask : Bool) :
    KeepsLink (execPcieLinkUp speed width bme fnMask) :=
  keepsLink_run fun d => by simp

theorem execVideoStreamLoss_keepsLink (p : Port) : KeepsLink (execVideoStreamLoss p) :=
  keepsLink_run fun d => by simp

theorem execTestLogicReset_keepsLink : KeepsLink execTestLogicReset :=
  keepsLink_run fun d => by simp

/-! ## Every command -/

/-- Every command keeps the link maps sound: most keep all that the condition looks at. -/
theorem exec_keepsFits : ∀ i : Instr, KeepsFits (exec i)
  | .registerWrite m off val be => execRegisterWrite_keepsFits m off val be
  | .readClear m off => (execReadClear_keepsLink m off).keepsFits
  | .hvAccessUnstall => execHvAccessUnstall_keepsLink.keepsFits
  | .hvWriteComplete => execHvWriteComplete_keepsFits
  | .hvBridgeTransfer ok => (execHvBridgeTransfer_keepsLink ok).keepsFits
  | .hvBridgeLost => execHvBridgeLost_keepsLink.keepsFits
  | .modeReqDark m => (execModeReqDark_keepsLink m).keepsFits
  | .modeReqTadpole m => (execModeReqTadpole_keepsLink m).keepsFits
  | .modeReqLive m => (execModeReqLive_keepsLink m).keepsFits
  | .modeReqGecko m => (execModeReqGecko_keepsLink m).keepsFits
  | .modeReqLoupe m => (execModeReqLoupe_keepsLink m).keepsFits
  | .modeTransitionEffect => execModeTransitionEffect_keepsLink.keepsFits
  | .panelReplayEntry p => (execPanelReplayEntry_keepsLink p).keepsFits
  | .panelReplayExit p => (execPanelReplayExit_keepsLink p).keepsFits
  | .loupeReturn => execLoupeReturn_keepsLink.keepsFits
  | .supplyApplied => execSupplyApplied_keepsLink.keepsFits
  | .sysRstRelease => execSysRstRelease_keepsFits
  | .sysRstAssert vkeep => execSysRstAssert_keepsFits vkeep
  | .powerFail src vkeep => execPowerFail_keepsFits src vkeep
  | .wakePin pin ns => (execWakePin_keepsLink pin ns).keepsFits
  | .wakeAlarm => execWakeAlarm_keepsLink.keepsFits
  | .pwrupHoldExpire => execPwrupHoldExpire_keepsLink.keepsFits
  | .bootStepComplete n o => execBootStepComplete_keepsFits n o
  | .bootFwStartTimeout => execBootFwStartTimeout_keepsLink.keepsFits
  | .bootEnterLive => execBootEnterLive_keepsLink.keepsFits
  | .keepRecallComplete => execKeepRecallComplete_keepsLink.keepsFits
  | .imgCheckDecode m => execImgCheckDecode_keepsFits m
  | .imgCheckOnly m => execImgCheckOnly_keepsFits m
  | .imgAbort m => execImgAbort_keepsFits m
  | .imgOpComplete decoding => execImgOpComplete_keepsFits decoding
  | .msWrite m off val => (execMsWrite_keepsLink m off val).keepsFits
  | .activeCopyRead m => execActiveCopyRead_keepsFits m
  | .swapRequest m after cancel => (execSwapRequest_keepsLink m after cancel).keepsFits
  | .swapCancel m after => (execSwapCancel_keepsLink m after).keepsFits
  | .islandReady n ecc => (execIslandReady_keepsLink n ecc).keepsFits
  | .swapArm => execSwapArm_keepsLink.keepsFits
  | .islandDone n => (execIslandDone_keepsLink n).keepsFits
  | .swapTakeEffect => execSwapTakeEffect_keepsFits
  | .swapDoneTimeout => execSwapDoneTimeout_keepsLink.keepsFits
  | .mirrorRefillComplete => execMirrorRefillComplete_keepsFits
  | .liveWrite m off val => (execLiveWrite_keepsLink m off val).keepsFits
  | .liveTmgWrite m off val => (execLiveTmgWrite_keepsLink m off val).keepsFits
  | .heldWrite m order val => (execHeldWrite_keepsLink m order val).keepsFits
  | .zorderApply m val => (execZorderApply_keepsLink m val).keepsFits
  | .paletteWrite m val => (execPaletteWrite_keepsLink m val).keepsFits
  | .layerEnableWrite m val => (execLayerEnableWrite_keepsLink m val).keepsFits
  | .verticalSwapPoint bad => (execVerticalSwapPoint_keepsLink bad).keepsFits
  | .frameStartDecision lag latePassed => (execFrameStartDecision_keepsLink lag latePassed).keepsFits
  | .throughFrameStart => execThroughFrameStart_keepsLink.keepsFits
  | .lateLimit tie => (execLateLimit_keepsLink tie).keepsFits
  | .localFrameStart usable => (execLocalFrameStart_keepsLink usable).keepsFits
  | .glassLineStart => execGlassLineStart_keepsLink.keepsFits
  | .lineDeadline t => (execLineDeadline_keepsLink t).keepsFits
  | .packedLineComplete t lag tie => (execPackedLineComplete_keepsLink t lag tie).keepsFits
  | .creditReturn t j => (execCreditReturn_keepsLink t j).keepsFits
  | .facetDataArrive t f => (execFacetDataArrive_keepsLink t f).keepsFits
  | .noinHoldExpire e => (execNoinHoldExpire_keepsLink e).keepsFits
  | .scanRun m => (execScanRun_keepsLink m).keepsFits
  | .scanStop m => (execScanStop_keepsLink m).keepsFits
  | .testRasterWrite m val => (execTestRasterWrite_keepsLink m val).keepsFits
  | .chkLearn m w val => (execChkLearn_keepsLink m w val).keepsFits
  | .chkWindowResult => execChkWindowResult_keepsLink.keepsFits
  | .dprxCapChange m p val => (execDprxCapChange_keepsLink m p val).keepsFits
  | .hpdEnableClear m p val => (execHpdEnableClear_keepsLink m p val).keepsFits
  | .hpdPulseEnd p => (execHpdPulseEnd_keepsLink p).keepsFits
  | .dprxLinkLock p rate lanes tie => (execDprxLinkLock_keepsLink p rate lanes tie).keepsFits
  | .dprxLockLoss p => (execDprxLockLoss_keepsLink p).keepsFits
  | .dprxRelockTimeout p => (execDprxRelockTimeout_keepsLink p).keepsFits
  | .dprxFrameStart p f since skew lineHz => (execDprxFrameStart_keepsLink p f since skew lineHz).keepsFits
  | .dprxLineReceive p samples corr uncorr => (execDprxLineReceive_keepsLink p samples corr uncorr).keepsFits
  | .selectiveUpdate p x y w h pixels => (execSelectiveUpdate_keepsLink p x y w h pixels).keepsFits
  | .edidCommit m p => (execEdidCommit_keepsLink m p).keepsFits
  | .edidCommitDone p => (execEdidCommitDone_keepsLink p).keepsFits
  | .dprxAuxRead p off n => (execDprxAuxRead_keepsLink p off n).keepsFits
  | .tapEnable m val => (execTapEnable_keepsLink m val).keepsFits
  | .tapDisable m val => (execTapDisable_keepsLink m val).keepsFits
  | .tapSrcChange m src => (execTapSrcChange_keepsLink m src).keepsFits
  | .tapLinkParamChange m rate lanes ssc => (execTapLinkParamChange_keepsLink m rate lanes ssc).keepsFits
  | .tapDownstreamHpd level rate lanes => (execTapDownstreamHpd_keepsLink level rate lanes).keepsFits
  | .tapAuxNativeRead m addr len => (execTapAuxNativeRead_keepsLink m addr len).keepsFits
  | .tapAuxNativeWrite m addr len => (execTapAuxNativeWrite_keepsLink m addr len).keepsFits
  | .tapAuxI2cRead m addr len => (execTapAuxI2cRead_keepsLink m addr len).keepsFits
  | .tapAuxI2cWrite m addr len => (execTapAuxI2cWrite_keepsLink m addr len).keepsFits
  | .tapAuxReply r data => (execTapAuxReply_keepsLink r data).keepsFits
  | .tapAuxTimeout => execTapAuxTimeout_keepsLink.keepsFits
  | .loopbackStart m rate => (execLoopbackStart_keepsLink m rate).keepsFits
  | .loopbackStop m errs => (execLoopbackStop_keepsLink m errs).keepsFits
  | .layerAllocate m granules => (execLayerAllocate_keepsLink m granules).keepsFits
  | .layerFree m h => (execLayerFree_keepsLink m h).keepsFits
  | .layerBufferRelease h => (execLayerBufferRelease_keepsLink h).keepsFits
  | .layerUnderrun n t x => (execLayerUnderrun_keepsLink n t x).keepsFits
  | .poolClaim m val => (execPoolClaim_keepsLink m val).keepsFits
  | .poolRelease m => (execPoolRelease_keepsLink m).keepsFits
  | .knotWrite m val => (execKnotWrite_keepsLink m val).keepsFits
  | .gridWrite m k val => (execGridWrite_keepsLink m k val).keepsFits
  | .gridStale tie => (execGridStale_keepsLink tie).keepsFits
  | .kickRetarget m => (execKickRetarget_keepsLink m).keepsFits
  | .kickSettle m => (execKickSettle_keepsLink m).keepsFits
  | .kickFreeze m => (execKickFreeze_keepsLink m).keepsFits
  | .kickUnfreeze m => (execKickUnfreeze_keepsLink m).keepsFits
  | .mapLoad m t => (execMapLoad_keepsLink m t).keepsFits
  | .mapCheckAdopt m t => (execMapCheckAdopt_keepsLink m t).keepsFits
  | .mapOpComplete err => (execMapOpComplete_keepsLink err).keepsFits
  | .sensingEnable m val => (execSensingEnable_keepsLink m val).keepsFits
  | .senseTimerExpire => execSenseTimerExpire_keepsLink.keepsFits
  | .senseOpStart => execSenseOpStart_keepsLink.keepsFits
  | .senseReturnDeadline tie => (execSenseReturnDeadline_keepsLink tie).keepsFits
  | .surveyStage m => (execSurveyStage_keepsLink m).keepsFits
  | .surveyApply m => (execSurveyApply_keepsLink m).keepsFits
  | .surveySave m types => (execSurveySave_keepsLink m types).keepsFits
  | .surveySenseNow m => (execSurveySenseNow_keepsLink m).keepsFits
  | .surveyRestartSweep m => (execSurveyRestartSweep_keepsLink m).keepsFits
  | .surveyEndLoupe m => (execSurveyEndLoupe_keepsLink m).keepsFits
  | .surveyCmdComplete err => (execSurveyCmdComplete_keepsLink err).keepsFits
  | .integratorSaveTimer => execIntegratorSaveTimer_keepsLink.keepsFits
  | .laneFullTrain m n => (execLaneFullTrain_keepsLink m n).keepsFits
  | .laneFastRetrain m n => (execLaneFastRetrain_keepsLink m n).keepsFits
  | .sparePlannedMove m n k => (execSparePlannedMove_keepsLink m n k).keepsFits
  | .sparePlannedReturn m n => (execSparePlannedReturn_keepsLink m n).keepsFits
  | .returnLaneRegrant m r => (execReturnLaneRegrant_keepsLink m r).keepsFits
  | .laneOff m n => (execLaneOff_keepsLink m n).keepsFits
  | .trainAllLanes m => (execTrainAllLanes_keepsLink m).keepsFits
  | .laneWakeDone n => (execLaneWakeDone_keepsLink n).keepsFits
  | .laneLockTimeout n => (execLaneLockTimeout_keepsLink n).keepsFits
  | .eqPresetDone n growth fom ceased => (execEqPresetDone_keepsLink n growth fom ceased).keepsFits
  | .eqHoldDone n => (execEqHoldDone_keepsLink n).keepsFits
  | .mrkSend => execMrkSend_keepsLink.keepsFits
  | .capsBurst b tie => (execCapsBurst_keepsLink b tie).keepsFits
  | .statusBurst b tie ackTie => (execStatusBurst_keepsLink b tie ackTie).keepsFits
  | .senseBurst b tie => (execSenseBurst_keepsLink b tie).keepsFits
  | .returnSlotEnd r j guard => (execReturnSlotEnd_keepsLink r j guard).keepsFits
  | .jamRetryTimer r => (execJamRetryTimer_keepsLink r).keepsFits
  | .configResendTimer n => (execConfigResendTimer_keepsLink n).keepsFits
  | .controlPacketResend n => (execControlPacketResend_keepsLink n).keepsFits
  | .integratorPacketSend m => (execIntegratorPacketSend_keepsLink m).keepsFits
  | .powerUp m => (execPowerUp_keepsLink m).keepsFits
  | .discharge m => (execDischarge_keepsLink m).keepsFits
  | .railGood n mon tie => (execRailGood_keepsLink n mon tie).keepsFits
  | .seqDelayExpire => execSeqDelayExpire_keepsLink.keepsFits
  | .pgTimeout => execPgTimeout_keepsLink.keepsFits
  | .vinBelowWarn => execVinBelowWarn_keepsLink.keepsFits
  | .vinRecover tie => (execVinRecover_keepsLink tie).keepsFits
  | .brownoutWaitExpire => execBrownoutWaitExpire_keepsLink.keepsFits
  | .railFaultDetect k n => (execRailFaultDetect_keepsLink k n).keepsFits
  | .hvOvertemp temp => (execHvOvertemp_keepsLink temp).keepsFits
  | .psmSample k v => (execPsmSample_keepsLink k v).keepsFits
  | .dischargeHoldEnd => execDischargeHoldEnd_keepsLink.keepsFits
  | .railDischarged n mon tie => (execRailDischarged_keepsLink n mon tie).keepsFits
  | .bleedTimeout => execBleedTimeout_keepsLink.keepsFits
  | .pfHoldExpire => execPfHoldExpire_keepsLink.keepsFits
  | .crackMeasure ohm => (execCrackMeasure_keepsLink ohm).keepsFits
  | .segFrameStart => execSegFrameStart_keepsLink.keepsFits
  | .segBlinkToggle ram => (execSegBlinkToggle_keepsLink ram).keepsFits
  | .segWideSet m val => (execSegWideSet_keepsLink m val).keepsFits
  | .segWideClear m val => (execSegWideClear_keepsLink m val).keepsFits
  | .bar2Write a bs => (execBar2Write_keepsLink a bs).keepsFits
  | .bar2Read a n ecc => (execBar2Read_keepsLink a n ecc).keepsFits
  | .eccWriteback w => (execEccWriteback_keepsLink w).keepsFits
  | .scrubRead found => (execScrubRead_keepsLink found).keepsFits
  | .pondWindowAccess m off val pa found => (execPondWindowAccess_keepsLink m off val pa found).keepsFits
  | .pondRetry pa => (execPondRetry_keepsLink pa).keepsFits
  | .bankRetentionEnter n => (execBankRetentionEnter_keepsLink n).keepsFits
  | .bankWakeDone n => (execBankWakeDone_keepsLink n).keepsFits
  | .marchPreserving m => (execMarchPreserving_keepsLink m).keepsFits
  | .marchDestroying m => (execMarchDestroying_keepsLink m).keepsFits
  | .marchAbort m => (execMarchAbort_keepsLink m).keepsFits
  | .marchIntervalExpire => execMarchIntervalExpire_keepsLink.keepsFits
  | .marchCopyinDone ecc => (execMarchCopyinDone_keepsLink ecc).keepsFits
  | .marchTestDone fail => (execMarchTestDone_keepsLink fail).keepsFits
  | .marchCopybackDone => execMarchCopybackDone_keepsLink.keepsFits
  | .marchBankDone fail => (execMarchBankDone_keepsLink fail).keepsFits
  | .keepStoreCmd m => (execKeepStoreCmd_keepsLink m).keepsFits
  | .keepUnlock m j => (execKeepUnlock_keepsLink m j).keepsFits
  | .keepLock m j => (execKeepLock_keepsLink m j).keepsFits
  | .keepSetPassword m j => (execKeepSetPassword_keepsLink m j).keepsFits
  | .keepLockAll m => (execKeepLockAll_keepsLink m).keepsFits
  | .keepStageRelease m => (execKeepStageRelease_keepsLink m).keepsFits
  | .keepAutoStore => execKeepAutoStore_keepsLink.keepsFits
  | .keepSnapshot => execKeepSnapshot_keepsLink.keepsFits
  | .keepStoreComplete tie => execKeepStoreComplete_keepsFits tie
  | .keepStoreTimeout => execKeepStoreTimeout_keepsFits
  | .keepDataRead m => (execKeepDataRead_keepsLink m).keepsFits
  | .keepDataWrite m val => (execKeepDataWrite_keepsLink m val).keepsFits
  | .keepPasswordWord m val => (execKeepPasswordWord_keepsLink m val).keepsFits
  | .keepRegionWrite m j val => (execKeepRegionWrite_keepsLink m j val).keepsFits
  | .recordResolve m id forEn who => (execRecordResolve_keepsLink m id forEn who).keepsFits
  | .recordCommit m id len forEn who => (execRecordCommit_keepsLink m id len forEn who).keepsFits
  | .recordCommitDone => execRecordCommitDone_keepsLink.keepsFits
  | .keepStageWrite m n val => (execKeepStageWrite_keepsLink m n val).keepsFits
  | .counterAdd m amount => (execCounterAdd_keepsLink m amount).keepsFits
  | .counterClear m => (execCounterClear_keepsLink m).keepsFits
  | .counterUpdateDone => execCounterUpdateDone_keepsLink.keepsFits
  | .counterRead m => (execCounterRead_keepsLink m).keepsFits
  | .logAppend m => (execLogAppend_keepsLink m).keepsFits
  | .clockSet m val => (execClockSet_keepsLink m val).keepsFits
  | .keepClockTick vkeep => (execKeepClockTick_keepsLink vkeep).keepsFits
  | .coreRun m k => (execCoreRun_keepsLink m k).keepsFits
  | .coreReset m k => (execCoreReset_keepsLink m k).keepsFits
  | .coreHalt m k => (execCoreHalt_keepsLink m k).keepsFits
  | .coreResume m k => (execCoreResume_keepsLink m k).keepsFits
  | .coreInstruction k => execCoreInstruction_keepsFits k
  | .coreWfi k => (execCoreWfi_keepsLink k).keepsFits
  | .fenceI k => (execFenceI_keepsLink k).keepsFits
  | .coreInterrupt k => (execCoreInterrupt_keepsLink k).keepsFits
  | .mtimerMatch k => (execMtimerMatch_keepsLink k).keepsFits
  | .mtimeRead m => (execMtimeRead_keepsLink m).keepsFits
  | .coreKick m k => (execCoreKick_keepsLink m k).keepsFits
  | .watchdogExpire k tie => (execWatchdogExpire_keepsLink k tie).keepsFits
  | .bankAssign m k n => (execBankAssign_keepsLink m k n).keepsFits
  | .bankReturn m k => (execBankReturn_keepsLink m k).keepsFits
  | .channelBind m c val => (execChannelBind_keepsLink m c val).keepsFits
  | .channelTableLock m => (execChannelTableLock_keepsLink m).keepsFits
  | .mailboxSend m c val => (execMailboxSend_keepsLink m c val).keepsFits
  | .mailboxReceive m c => (execMailboxReceive_keepsLink m c).keepsFits
  | .mailboxAckTimeout c ab tie => (execMailboxAckTimeout_keepsLink c ab tie).keepsFits
  | .mailboxXwait c tie => (execMailboxXwait_keepsLink c tie).keepsFits
  | .doorbellRing m val => (execDoorbellRing_keepsLink m val).keepsFits
  | .lockAcquireRead m n tied => (execLockAcquireRead_keepsLink m n tied).keepsFits
  | .lockRelease m n val => (execLockRelease_keepsLink m n val).keepsFits
  | .lockForceClear m val => (execLockForceClear_keepsLink m val).keepsFits
  | .ping c => (execPing_keepsLink c).keepsFits
  | .commit c => (execCommit_keepsLink c).keepsFits
  | .loadCore c => (execLoadCore_keepsLink c).keepsFits
  | .loadCoreComplete bad => (execLoadCoreComplete_keepsLink bad).keepsFits
  | .pcieFunctionReset k => (execPcieFunctionReset_keepsLink k).keepsFits
  | .pcieD3hot enter => (execPcieD3hot_keepsLink enter).keepsFits
  | .bar0Request a write n part => execBar0Request_keepsFits a write n part
  | .poisonedWrite => execPoisonedWrite_keepsLink.keepsFits
  | .msixTrigger v w1c => (execMsixTrigger_keepsLink v w1c).keepsFits
  | .errorClear m val => (execErrorClear_keepsLink m val).keepsFits
  | .sidePortPondAccess a val pa found => (execSidePortPondAccess_keepsLink a val pa found).keepsFits
  | .sidePortLowWrite a val => (execSidePortLowWrite_keepsLink a val).keepsFits
  | .sidePortHighWrite a val => execSidePortHighWrite_keepsFits a val
  | .sidePortLowRead a ready => execSidePortLowRead_keepsFits a ready
  | .sidePortHighRead a => (execSidePortHighRead_keepsLink a).keepsFits
  | .sidePortReadReady => execSidePortReadReady_keepsLink.keepsFits
  | .xspiRead m len => (execXspiRead_keepsLink m len).keepsFits
  | .xspiProgram m len => (execXspiProgram_keepsLink m len).keepsFits
  | .xspiSectorErase m => (execXspiSectorErase_keepsLink m).keepsFits
  | .xspiBlockErase m => (execXspiBlockErase_keepsLink m).keepsFits
  | .xspiReadStatus m => (execXspiReadStatus_keepsLink m).keepsFits
  | .xspiSoftwareReset m => (execXspiSoftwareReset_keepsLink m).keepsFits
  | .xspiOpComplete status late => (execXspiOpComplete_keepsLink status late).keepsFits
  | .xspiBusyTimeout status => (execXspiBusyTimeout_keepsLink status).keepsFits
  | .dmaStart m ss ds => (execDmaStart_keepsLink m ss ds).keepsFits
  | .dmaAbort m => (execDmaAbort_keepsLink m).keepsFits
  | .dmaComplete stop => (execDmaComplete_keepsLink stop).keepsFits
  | .i2cTransaction m n val => (execI2cTransaction_keepsLink m n val).keepsFits
  | .i2cComplete n nack pecBad data => (execI2cComplete_keepsLink n nack pecBad data).keepsFits
  | .i2cClockLowTimeout n tie => (execI2cClockLowTimeout_keepsLink n tie).keepsFits
  | .gpioEnable m val => (execGpioEnable_keepsLink m val).keepsFits
  | .gpioEdge p rise => (execGpioEdge_keepsLink p rise).keepsFits
  | .ntcSample k c => (execNtcSample_keepsLink k c).keepsFits
  | .jtagUpdateIr ir => (execJtagUpdateIr_keepsLink ir).keepsFits
  | .dbgAccess op off data => execDbgAccess_keepsFits op off data
  | .dbgCapture running => (execDbgCapture_keepsLink running).keepsFits
  | .faultRaise code inst obj => (execFaultRaise_keepsLink code inst obj).keepsFits
  | .integratorFault m val => (execIntegratorFault_keepsLink m val).keepsFits
  | .recoveryComplete tie => (execRecoveryComplete_keepsLink tie).keepsFits
  | .recoveryBudgetEnd => execRecoveryBudgetEnd_keepsLink.keepsFits
  | .regenAttemptStart => execRegenAttemptStart_keepsLink.keepsFits
  | .regenStepDone found => (execRegenStepDone_keepsLink found).keepsFits
  | .regenTimeout => execRegenTimeout_keepsLink.keepsFits
  | .accountingFlush => execAccountingFlush_keepsLink.keepsFits
  | .pllLockLoss k => (execPllLockLoss_keepsLink k).keepsFits
  | .sscHopEnable m val => (execSscHopEnable_keepsLink m val).keepsFits
  | .sscHop => execSscHop_keepsLink.keepsFits
  | .fclkStepRequest m req => (execFclkStepRequest_keepsLink m req).keepsFits
  | .fclkStepEffect => execFclkStepEffect_keepsLink.keepsFits
  | .avsStep => execAvsStep_keepsLink.keepsFits
  | .avsMonitor mv => (execAvsMonitor_keepsLink mv).keepsFits
  | .monitorSample vals => (execMonitorSample_keepsLink vals).keepsFits
  | .marginReplan after70 => (execMarginReplan_keepsLink after70).keepsFits
  | .presetTrial n p fomUp hdrUp => (execPresetTrial_keepsLink n p fomUp hdrUp).keepsFits
  | .eyeMeasure m val => (execEyeMeasure_keepsLink m val).keepsFits
  | .eyeMeasureDone horiz vert fom lost => (execEyeMeasureDone_keepsLink horiz vert fom lost).keepsFits
  | .kRegisterSave => execKRegisterSave_keepsLink.keepsFits
  | .vddAoLoss => execVddAoLoss_keepsFits
  | .coreSuppliesGood => execCoreSuppliesGood_keepsFits
  | .pcieLinkUp speed width bme fnMask => (execPcieLinkUp_keepsLink speed width bme fnMask).keepsFits
  | .videoStreamLoss p => (execVideoStreamLoss_keepsLink p).keepsFits
  | .testLogicReset => execTestLogicReset_keepsLink.keepsFits

/-- A step, of a command that waits or of a free-running clock, keeps the link maps sound. -/
theorem step_linkFits {s s' : State} (h : s.toDevice.linkFits) (hs : step s = .next s') : s'.toDevice.linkFits := by
  rw [linkFits_iff] at h ⊢
  unfold step at hs
  split at hs
  · cases hs
    exact (tick_linkView s.toDevice).symm ▸ h
  next c rest hp =>
    obtain ⟨e, he, hv⟩ := exec_keepsFits c { s with pending := rest } h
    rw [he] at hs
    cases hs
    exact hv

/-- Settles O8: the invariant holds over every command and over the clock; a set is replaced by another set of the device, by an empty one, or by one that has passed check 14 of R77. -/
theorem setsFitTheLink : Obligations.SetsFitTheLink :=
  fun _ _ h hs => step_linkFits h hs

end Sys2Proof.Machine

namespace Sys2Proof.Machine

/-! # The other ways to the registers -/

/-- The side-port address of the low half of HIF_GPIO_EDGE. -/
def gpioEdgeLow : Nat := 7 * 2 ^ 15 + HIF_GPIO_EDGE % 0x10000 / 2

theorem spOffset_gpioEdgeLow : spOffset gpioEdgeLow = HIF_GPIO_EDGE := by decide

theorem spUnmapped_gpioEdgeLow : spUnmapped gpioEdgeLow = false := by decide

/-- HIF_GPIO_EDGE is read at once by a master that waits. -/
theorem dwordRead_HIF_GPIO_EDGE {d : Device} {m : Master} (hc : d.power.coreOn = true) :
    d.dwordRead m HIF_GPIO_EDGE = d.reply m (d.rd HIF_GPIO_EDGE) := by
  have hdie : onHvDie HIF_GPIO_EDGE = false := gpioEdge_plain.die
  have hin : ¬ 0x1000000 ≤ HIF_GPIO_EDGE := by decide
  simp [Device.dwordRead, Device.hvTurn, hdie, hin, busRead_HIF_GPIO_EDGE hc]

/-- After a side-port read of the low half of HIF_GPIO_EDGE whose data is there, the word read is what the side port, master 1, read last. -/
theorem execSidePortLowRead_answer {s : State} (hc : s.power.coreOn = true) (hh : s.hif.heldRead = none) :
    ∃ e, exec (.sidePortLowRead gpioEdgeLow true) s = .next { s with toDevice := e } ∧ e.answer 1 = s.toDevice.rd HIF_GPIO_EDGE := by
  refine ⟨_, rfl, ?_⟩
  have hr : s.toDevice.dwordRead 1 HIF_GPIO_EDGE = s.toDevice.reply 1 (s.toDevice.rd HIF_GPIO_EDGE) := dwordRead_HIF_GPIO_EDGE hc
  simp only [hc, hh, Bool.not_true, Bool.false_eq_true, if_false, if_true, Device.spRead, spOffset_gpioEdgeLow,
    spUnmapped_gpioEdgeLow, hr]
  show (s.toDevice.reply 1 (s.toDevice.rd HIF_GPIO_EDGE)).answer 1 = _
  rw [Device.answer_reply_same, Nat.mod_eq_of_lt (s.toDevice.rd_lt _)]

/-- The state of reset with a GPIO edge recorded, which master 1 has not read. -/
def edgeState : State := { State.reset with regs := (State.reset.toDevice.wr HIF_GPIO_EDGE 1).regs }

/-- Refutes O11: the fifth clause has a low read of the side port change registers and the host interfaces alone, but the word it reads becomes what master 1 read last (as in the clauses on BAR0 and the debug port). From `edgeState` the word is 1, and master 1 read 0 last. -/
theorem not_otherWaysToRegisters : ¬ Obligations.OtherWaysToRegisters := by
  unfold Obligations.OtherWaysToRegisters
  intro h
  obtain ⟨-, -, -, -, hlow, -, -⟩ := h
  obtain ⟨⟨e, he, -, -, hrest⟩, -⟩ := hlow gpioEdgeLow edgeState rfl spUnmapped_gpioEdgeLow spOffset_gpioEdgeLow rfl
  obtain ⟨e', he', hread⟩ := execSidePortLowRead_answer (s := edgeState) rfl rfl
  obtain rfl : e = e' := by
    rw [he] at he'
    injection he' with hs
    exact congrArg State.toDevice hs
  have hlast : e.answer 1 = edgeState.toDevice.answer 1 := by rw [hrest]; rfl
  have hword : edgeState.toDevice.rd HIF_GPIO_EDGE = 1 := by decide
  rw [hread, hword] at hlast
  exact absurd hlast (by decide)

end Sys2Proof.Machine

namespace Sys2Proof.Machine

/-! # Updates of registers alone -/

/-- From `d` to `e` nothing but registers changes. -/
def Device.regsAlone (d e : Device) : Prop := ∃ r, e = { d with regs := r }

theorem regsAlone_refl (d : Device) : d.regsAlone d := ⟨d.regs, rfl⟩

theorem Device.regsAlone.trans {a b c : Device} (h : a.regsAlone b) (h' : b.regsAlone c) : a.regsAlone c := by
  obtain ⟨r, rfl⟩ := h
  obtain ⟨r', rfl⟩ := h'
  exact ⟨r', rfl⟩

theorem Device.regsAlone.wr {d e : Device} (h : d.regsAlone e) (off v : Nat) : d.regsAlone (e.wr off v) :=
  h.trans ⟨_, rfl⟩

theorem Device.regsAlone.put {d e : Device} (h : d.regsAlone e) (f : Fld) (v : Nat) : d.regsAlone (e.put f v) :=
  h.trans ⟨_, rfl⟩

theorem Device.regsAlone.mir_eq {d e : Device} (h : d.regsAlone e) : e.mir = d.mir := by obtain ⟨r, rfl⟩ := h; rfl

theorem Device.regsAlone.act_eq {d e : Device} (h : d.regsAlone e) : e.act = d.act := by obtain ⟨r, rfl⟩ := h; rfl

theorem Device.regsAlone.img_eq {d e : Device} (h : d.regsAlone e) : e.img = d.img := by obtain ⟨r, rfl⟩ := h; rfl

theorem Device.regsAlone.force_eq {d e : Device} (h : d.regsAlone e) : e.force = d.force := by obtain ⟨r, rfl⟩ := h; rfl

theorem Device.regsAlone.mem_eq {d e : Device} (h : d.regsAlone e) : e.mem = d.mem := by obtain ⟨r, rfl⟩ := h; rfl

theorem Device.regsAlone.eachOf {α : Type} {d e : Device} (h : d.regsAlone e) (l : List α) (f : α → Device → Device)
    (hf : ∀ a (d : Device), d.regsAlone (f a d)) : d.regsAlone (Machine.eachOf l f e) := by
  induction l generalizing e with
  | nil => exact h
  | cons a l ih => exact ih (h.trans (hf a e))

/-! # Image operations

What decoding writes beside the mirror set and its banks. -/

theorem bankUse_regsAlone (d : Device) (i use : Nat) : d.regsAlone (d.bankUse i use) :=
  (((regsAlone_refl d).put _ _).put _ _).put _ _

theorem takeBanks_regsAlone {d : Device} {n use : Nat} {r : Device × List Nat} (h : d.takeBanks n use = some r) :
    d.regsAlone r.1 := by
  unfold Device.takeBanks at h
  split at h
  · cases h
  · cases h
    exact (regsAlone_refl d).eachOf _ _ fun i d => bankUse_regsAlone d i use

theorem placeLuts_regsAlone {p : PrismSet} {shared : List (LutBlock × List Nat)} {use : Nat} {bs : List LutBlock} :
    ∀ {d : Device} {r : Device × List LutPlace}, d.placeLuts p shared use bs = some r → d.regsAlone r.1 := by
  induction bs with
  | nil => intro d r h; cases h; exact regsAlone_refl _
  | cons b bs ih =>
    intro d r h
    unfold Device.placeLuts at h
    split at h
    · obtain ⟨q, hq, rfl⟩ := Option.map_eq_some_iff.mp h
      exact ih (r := q) hq
    · split at h
      · cases h
      next q hq =>
        obtain ⟨w, hw, rfl⟩ := Option.map_eq_some_iff.mp h
        exact (takeBanks_regsAlone hq).trans (ih (r := w) hw)

theorem wrDigest_regsAlone (d : Device) (reg : Nat → Nat) (dig : List Nat) : d.regsAlone (d.wrDigest reg dig) :=
  (regsAlone_refl d).eachOf _ _ fun _ d => (regsAlone_refl d).wr _ _

/-- Freeing the banks of the mirror set touches registers and the list of those banks. -/
theorem freeMirror_keeps (d : Device) : d.freeMirror.act = d.act ∧ d.freeMirror.img.op = d.img.op ∧
    d.freeMirror.force = d.force ∧ d.freeMirror.mem = d.mem := by
  have h := (regsAlone_refl d).eachOf ((List.range 384).filter (fun i => d.get (MEM_BANK_INFO_use i) = 10))
    (fun i d => d.bankUse i 0) fun i d => bankUse_regsAlone d i 0
  exact ⟨h.act_eq, rfl, h.force_eq, h.mem_eq⟩

/-- FAB_MIR_STAT shows a valid set that came from an image and has not been written since. -/
theorem mirValid_sets (d : Device) :
    d.sets (((d.put FAB_MIR_STAT_src 1).put FAB_MIR_STAT_dirty 0).put FAB_MIR_STAT_valid 1)
      [(FAB_MIR_STAT_valid, 1), (FAB_MIR_STAT_dirty, 0), (FAB_MIR_STAT_src, 1)] :=
  sets_cons_put (sets_cons_put (sets_cons_put (sets_nil d) (by decide) (by decide) rfl (by simp))
    (by decide) (by decide) rfl (by simp [Fld.apart])) (by decide) (by decide) rfl (by simp [Fld.apart])

/-- A decoded image stands in the mirror set alone (R80). -/
theorem imgDecode_keeps {d e : Device} {p : PrismSet} (h : d.imgDecode p = some e) :
    e.mir = p ∧ e.act = d.act ∧ e.img.op = d.img.op ∧ e.force = d.force ∧ e.mem = d.mem := by
  unfold Device.imgDecode at h
  dsimp only at h
  split at h
  · cases h
  next q hq =>
    obtain ⟨hact, hop, hforce, hmem⟩ := freeMirror_keeps d
    have h1 := placeLuts_regsAlone hq
    generalize hd1 : ({ q.1 with mir := p, img := { q.1.img with mirLuts := q.2 } } : Device) = d1 at h
    have h2 := ((regsAlone_refl d1).eachOf p.presets (fun e d => d.wr e.1 e.2) fun e d => (regsAlone_refl d).wr _ _).wr
      FAB_MIR_VER p.version
    have h3 := (((h2.trans (wrDigest_regsAlone _ FAB_MIR_DIG p.digest)).put FAB_MIR_STAT_src 1).put FAB_MIR_STAT_dirty 0).put
      FAB_MIR_STAT_valid 1
    rw [Option.some.inj h] at h3
    refine ⟨?_, ?_, ?_, ?_, ?_⟩
    · rw [h3.mir_eq, ← hd1]
    · rw [h3.act_eq, ← hd1]; exact h1.act_eq.trans hact
    · rw [h3.img_eq, ← hd1]; exact (congrArg Img.op h1.img_eq).trans hop
    · rw [h3.force_eq, ← hd1]; exact h1.force_eq.trans hforce
    · rw [h3.mem_eq, ← hd1]; exact h1.mem_eq.trans hmem

/-- It leaves FAB_MIR_STAT with a valid set, from an image, with no write since. -/
theorem imgDecode_stat {d e : Device} {p : PrismSet} (h : d.imgDecode p = some e) :
    e.get FAB_MIR_STAT_valid = 1 ∧ e.get FAB_MIR_STAT_src = 1 ∧ e.get FAB_MIR_STAT_dirty = 0 := by
  unfold Device.imgDecode at h
  dsimp only at h
  split at h
  · cases h
  next q hq =>
    revert h
    generalize Device.wrDigest _ FAB_MIR_DIG p.digest = x
    intro h
    obtain ⟨hstat, -, -⟩ := mirValid_sets x
    rw [Option.some.inj h] at hstat
    exact ⟨hstat (FAB_MIR_STAT_valid, 1) (by simp), hstat (FAB_MIR_STAT_src, 1) (by simp), hstat (FAB_MIR_STAT_dirty, 0) (by simp)⟩

/-- An operation that passes its checks starts (R76). -/
theorem imgStart_pass {d : Device} {m : Master} {op : Nat} (hc : d.power.coreOn = true) (h : ∀ x ∈ d.imgChecks m op, x.1 = false) :
    d.imgStart m op = ({ d with img := { d.img with op := some { op := op, master := m } } }).wr FAB_IMG_STAT 0xFF000001 :=
  Device.guarded_pass hc h

/-- The two registers of a finished operation: FAB_IMG_STAT and FAB_IMG_FAIL_OFF. -/
theorem imgResult_sets {b d : Device} {stat off : Nat} {l : List (Fld × Nat)} (hs : b.sets d l)
    (h1 : ∀ p ∈ l, p.1.off ≠ FAB_IMG_STAT) (h2 : ∀ p ∈ l, p.1.off ≠ FAB_IMG_FAIL_OFF) :
    b.sets ((d.wr FAB_IMG_STAT stat).wr FAB_IMG_FAIL_OFF off)
      (l ++ [(whole FAB_IMG_STAT, stat % 2 ^ 32), (whole FAB_IMG_FAIL_OFF, off % 2 ^ 32)]) := by
  refine sets_of_mem (fun p => ?_) (sets_cons_wr (sets_cons_wr hs rfl h1) rfl ?_)
  · simp [or_comm, or_assoc]
  · intro p hp
    rcases List.mem_cons.mp hp with rfl | hp
    · exact show FAB_IMG_STAT ≠ FAB_IMG_FAIL_OFF by decide
    · exact h2 p hp

/-- An operation in progress is aborted; one that decodes leaves the mirror set invalid (R80). -/
theorem imgAbort_sets {d : Device} {m : Master} {o : ImgOp} (hc : d.power.coreOn = true) (hm : among m mFabric = true)
    (ho : d.img.op = some o) :
    ({ d with img := { d.img with op := none } }).sets (d.imgAbort m)
      ((if o.set.isSome then [(FAB_MIR_STAT_valid, 0)] else []) ++ [(whole FAB_IMG_STAT, 0xFF0A0002), (whole FAB_IMG_FAIL_OFF, 0)]) := by
  have hdec : d.decoding = o.set.isSome := by simp [Device.decoding, ho]
  rw [Device.imgAbort, Device.guarded_pass hc (by simp [hm, ho])]
  simp only [hdec]
  cases o.set with
  | none => exact imgResult_sets (sets_nil _) (by simp) (by simp)
  | some p =>
    exact imgResult_sets (l := [(FAB_MIR_STAT_valid, 0)])
      (sets_cons_put (e := { d with img := { d.img with op := none } }) (sets_nil _) (by decide) (by decide) rfl (by simp))
      (by simp) (by simp)

/-- Settles O12: each command's equation, and for the end of decoding `imgDecode_some`. -/
theorem imagesAreChecked : Obligations.ImagesAreChecked := by
  refine ⟨?_, ?_, ?_, ?_, ?_, ?_⟩
  · intro m s hc h
    refine ⟨s.toDevice.imgStart m 1, rfl, ?_⟩
    rw [imgStart_pass hc h]
    exact sets_cons_wr (sets_nil _) rfl (by simp)
  · intro m s hc h
    refine ⟨s.toDevice.imgStart m 2, rfl, ?_⟩
    rw [imgStart_pass hc h]
    exact sets_cons_wr (sets_nil _) rfl (by simp)
  · intro m o s hc hm ho
    exact ⟨_, rfl, imgAbort_sets hc hm ho⟩
  · intro m o f b s ho hm hset hf hcode
    refine ⟨_, rfl, ?_⟩
    simp only [ho, hset, hf, Device.imgFail, hm]
    exact ⟨_, imgResult_sets (sets_nil _) (by simp) (by simp), reject_rejects _ m FAB_IMG_CMD f.code (by omega) (by decide),
      by simp, by simp⟩
  · intro o b s ho hset hop hok
    refine ⟨_, rfl, ?_⟩
    simp only [ho, hset, hok, hop, if_true]
    exact imgResult_sets (sets_nil _) (by simp) (by simp)
  · intro o p d b s ho hset hd
    refine ⟨_, rfl, ?_⟩
    simp only [ho, hset, Device.imgDecoded, hd]
    obtain ⟨hmir, hact, hop, hforce, hmem⟩ := imgDecode_keeps hd
    obtain ⟨hvalid, hsrc, hdirty⟩ := imgDecode_stat hd
    obtain ⟨hres, hother, -⟩ : d.sets ((d.wr FAB_IMG_STAT 0xFF000002).wr FAB_IMG_FAIL_OFF 0)
        ([] ++ [(whole FAB_IMG_STAT, 0xFF000002 % 2 ^ 32), (whole FAB_IMG_FAIL_OFF, 0 % 2 ^ 32)]) :=
      imgResult_sets (sets_nil d) (by simp) (by simp)
    refine ⟨hmir, hact, ?_, ?_, ?_, ?_, hop, hforce, hmem⟩
    · exact (hother _ (by simp [Fld.apart, whole])).trans hvalid
    · exact (hother _ (by simp [Fld.apart, whole])).trans hsrc
    · exact (hother _ (by simp [Fld.apart, whole])).trans hdirty
    · exact (get_whole _ _).symm.trans (hres (whole FAB_IMG_STAT, 0xFF000002) (by simp))

end Sys2Proof.Machine

namespace Sys2Proof.Machine

/-! # Live writes

What a live write does to the frame it meets. -/

/-- What tears a frame is seen in TMG_STAT alone. -/
theorem tearsNow_wr (d : Device) {off : Nat} (v : Nat) (h : TMG_STAT ≠ off) : (d.wr off v).tearsNow = d.tearsNow := by
  rw [Device.tearsNow, Device.tearsNow, Device.rasterStopped, Device.rasterStopped, Device.get_wr_ne d v h]
  rfl

/-- Skipping windows changes the windows alone. -/
theorem winSkip_eq (d : Device) (taps : Nat) (rs : List Rect) :
    ∃ w, d.winSkip taps rs = { d with ras := { d.ras with wins := w } } := by
  unfold Device.winSkip
  generalize (List.range 64).filter _ = l
  induction l generalizing d with
  | nil => exact ⟨d.ras.wins, rfl⟩
  | cons a l ih =>
    obtain ⟨w, hw⟩ := ih (d.setWin a { d.win a with skip := true })
    exact ⟨w, hw⟩

/-- The tiles that a live write of layers leaves dirty, where their rectangles were `old` (R158). -/
def Device.layDirty (d : Device) (layers : List Nat) (old : List Rect) : List Nat :=
  (d.ras.dirty ++ (old ++ layers.map d.layRect).flatMap d.tilesIn).eraseDups

/-- Outside the active lines a live layer write marks tiles dirty. -/
theorem layTear_calm {d : Device} (h : d.tearsNow = false) (layers : List Nat) (old : List Rect) :
    d.layTear layers old = { d with ras := { d.ras with dirty := d.layDirty layers old } } := by
  have hd : (!d.tearsNow) = true := by rw [h]; rfl
  exact if_pos hd

/-- The count of FAB_TEAR_CNT after one more frame torn by layers (R101). -/
def layTearCount (n : Nat) : Nat := Nat.min (n / 65536 + 1) 65535 * 65536 + n % 65536

theorem layTearCount_lt (n : Nat) : layTearCount n < 2 ^ 32 := by
  have h : Nat.min (n / 65536 + 1) 65535 ≤ 65535 := Nat.min_le_right _ _
  unfold layTearCount
  generalize Nat.min (n / 65536 + 1) 65535 = k at h ⊢
  omega

/-- In the active lines the first live layer write of a frame tears it and is counted; a further one is not counted. -/
theorem layTear_torn {d : Device} (h : d.tearsNow = true) (layers : List Nat) (old : List Rect) :
    ∃ w, d.layTear layers old =
      { (if d.ras.layTorn then d else d.wr FAB_TEAR_CNT (layTearCount (d.rd FAB_TEAR_CNT))) with
        ras := { d.ras with dirty := d.layDirty layers old, layTorn := true, wins := w } } := by
  have hd : ¬ (!d.tearsNow) = true := by simp [h]
  obtain ⟨w, hw⟩ := winSkip_eq
    { (if d.ras.layTorn then d else d.wr FAB_TEAR_CNT (layTearCount (d.rd FAB_TEAR_CNT))) with
      ras := { d.ras with dirty := d.layDirty layers old, layTorn := true } } 7 (old ++ layers.map d.layRect)
  refine ⟨w, (if_neg hd).trans (Eq.trans ?_ hw)⟩
  cases d.ras.layTorn <;> rfl

/-- Beside the raster, a live layer write counts in FAB_TEAR_CNT alone. -/
theorem layTear_within (d : Device) (layers : List Nat) (old : List Rect) :
    ∃ r x, d.layTear layers old = { d with regs := r, ras := x } ∧ ∀ o, o ≠ FAB_TEAR_CNT → (d.layTear layers old).rd o = d.rd o := by
  cases h : d.tearsNow with
  | false => rw [layTear_calm h]; exact ⟨d.regs, _, rfl, fun _ _ => rfl⟩
  | true =>
    obtain ⟨w, hw⟩ := layTear_torn h layers old
    rw [hw]
    cases d.ras.layTorn
    · exact ⟨_, _, rfl, fun o ho => Device.rd_wr_ne d _ ho⟩
    · exact ⟨d.regs, _, rfl, fun _ _ => rfl⟩

/-- The rows of LAY_POS among the live registers. -/
theorem layPos_row (i : Fin 16) :
    classOf (LAY_POS i) = .live ∧ tmgLive.contains (LAY_POS i) = false ∧ LAY_POS i ≠ LAY_EN ∧ LAY_POS i ≠ LAY_ZORDER_LO ∧
    LAY_POS i ≠ LAY_PAL_DATA0 ∧ LAY_POS i ≠ LAY_ZORDER_HI ∧ LAY_POS i ≠ LAY_PAL_DATA1 ∧ LAY_POS i ≠ LAY_PAL_IDX ∧
    (List.range 16).find? (fun j => LAY_POS j = LAY_POS i) = some i.val ∧ TMG_STAT ≠ LAY_POS i ∧ FAB_TEAR_CNT ≠ LAY_POS i := by
  revert i
  decide +kernel

/-- A LAY_POS write in range takes effect at once (R97, R171). -/
theorem execLiveWrite_LAY_POS {m : Master} {i : Fin 16} {val : Nat} {s : State} (hc : s.power.coreOn = true)
    (hm : among m mSide = true) (hr : reservedBad (LAY_POS i) val = false) (hv : val < 2 ^ 32) (hx : bitsOf val 13 0 ≤ 8191)
    (hy : bitsOf val 28 16 ≤ 4351) :
    exec (.liveWrite m (LAY_POS i) val) s =
      .next { s with toDevice := (s.toDevice.wr (LAY_POS i) val).layTear [i.val] [s.toDevice.layRect i] } := by
  obtain ⟨hcls, h1, h2, h3, h4, h5, h6, h7, hfind, -, -⟩ := layPos_row i
  have hw : s.toDevice.layPlace m i false val = (s.toDevice.wr (LAY_POS i) val).layTear [i.val] [s.toDevice.layRect i] := by
    simp only [Device.layPlace, Bool.false_eq_true, if_false]
    rw [Device.guarded_pass hc]
    simp [layPerm, hm, hr, hx, hy]
  rw [← hw]
  simp only [exec, execLiveWrite, run_next, hcls, if_true, Device.liveWrite, h1, h2, h3, h4, h5, h6, h7, hfind,
    Nat.mod_eq_of_lt hv, Bool.false_eq_true, or_self, if_false]

/-- Setting the raster before or after makes no difference to the registers. -/
theorem sets_with_ras {b e : Device} {l : List (Fld × Nat)} (x : Raster) (hs : b.sets e l) :
    ({ b with ras := x } : Device).sets { e with ras := x } l := by
  obtain ⟨hl, ho, heq⟩ := hs
  exact ⟨hl, ho, congrArg (fun y : Device => { y with ras := x }) heq⟩

/-- A live TMG write outside the active lines tears nothing. -/
theorem tmgTear_calm {d : Device} (h : d.tearsNow = false) : d.tmgTear = d := if_pos (by rw [h]; rfl)

/-- The count of FAB_TEAR_CNT after one more frame torn by timing (R101). -/
def tmgTearCount (n : Nat) : Nat := Nat.min (n % 65536 + 1) 65535 + n / 65536 * 65536

theorem tmgTearCount_lt {n : Nat} (hn : n < 2 ^ 32) : tmgTearCount n < 2 ^ 32 := by
  have h : Nat.min (n % 65536 + 1) 65535 ≤ 65535 := Nat.min_le_right _ _
  unfold tmgTearCount
  generalize Nat.min (n % 65536 + 1) 65535 = k at h ⊢
  omega

/-- In the active lines it tears a frame, which is counted (R101, R102). -/
theorem tmgTear_first {d : Device} (h : d.tearsNow = true) (ht : d.ras.torn = 0) :
    d.tmgTear = { d.wr FAB_TEAR_CNT (tmgTearCount (d.rd FAB_TEAR_CNT)) with
      ras := { d.ras with torn := 2 } } := by
  simp [Device.tmgTear, tmgTearCount, h, ht]

/-- Beside the raster, it counts in FAB_TEAR_CNT alone. -/
theorem tmgTear_within (d : Device) :
    (∃ r x, d.tmgTear = { d with regs := r, ras := x }) ∧ ∀ o, o ≠ FAB_TEAR_CNT → d.tmgTear.rd o = d.rd o := by
  unfold Device.tmgTear
  split
  · exact ⟨⟨_, _, rfl⟩, fun _ _ => rfl⟩
  · dsimp only
    split
    · exact ⟨⟨_, _, rfl⟩, fun _ _ => rfl⟩
    · exact ⟨⟨_, _, rfl⟩, fun o ho => Device.rd_wr_ne d _ ho⟩

/-- CLK_RLIM follows the set and the step. -/
theorem rlimSync_within (d : Device) : (∃ r, d.rlimSync = { d with regs := r }) ∧ ∀ o, o ≠ CLK_RLIM → d.rlimSync.rd o = d.rd o := by
  unfold Device.rlimSync
  split
  · exact ⟨⟨_, rfl⟩, fun _ _ => rfl⟩
  · exact ⟨⟨_, rfl⟩, fun o ho => Device.rd_wr_ne d _ ho⟩

/-- Record a register of reset value K as not yet saved (R12). -/
def Device.unsaved (d : Device) (off : Nat) : Device :=
  { d with keep := { d.keep with
    kUnsaved := if d.keep.kUnsaved.contains off then d.keep.kUnsaved else d.keep.kUnsaved ++ [off] } }

theorem mem_unsaved (d : Device) (off : Nat) : off ∈ (d.unsaved off).keep.kUnsaved := by
  unfold Device.unsaved
  by_cases h : d.keep.kUnsaved.contains off = true
  · simp only [h, if_true]
    exact List.contains_iff_mem.mp h
  · simp only [h]
    exact List.mem_append_right _ (List.mem_singleton_self off)

/-- What a live TMG write that passes its checks leaves. -/
def Device.tmgWritten (d : Device) (off v : Nat) : Device := (((d.wr off v).tmgTear).unsaved off).rlimSync

theorem execLiveTmgWrite_pass {m : Master} {off val : Nat} {s : State} (hc : s.power.coreOn = true) (hoff : off ∈ tmgLive)
    (hm : among m mFabric = true) (hk : s.toDevice.kRegShut m = false) (hv : val < 2 ^ 32) (hok : tmgOk off val = true)
    (hl : s.toDevice.breaksLive off val = false) (hr : reservedBad off val = false) (hro : s.toDevice.roBad off val = false) :
    exec (.liveTmgWrite m off val) s = .next { s with toDevice := s.toDevice.tmgWritten off val } := by
  have hin : tmgLive.contains off = true := List.contains_iff_mem.mpr hoff
  have hw : s.toDevice.tmgWrite m off val = s.toDevice.tmgWritten off val := by
    simp only [Device.tmgWrite]
    rw [Device.guarded_pass hc]
    · rfl
    · simp [Device.formChecks, hm, hk, hok, hl, hr, hro]
  rw [← hw]
  simp only [exec, execLiveTmgWrite, run_next, hin, if_true, Nat.mod_eq_of_lt hv]

/-- The live TMG registers lie apart from TMG_STAT, the count and the limit. -/
theorem tmgLive_apart {off : Nat} (h : off ∈ tmgLive) : TMG_STAT ≠ off ∧ FAB_TEAR_CNT ≠ off ∧ CLK_RLIM ≠ off := by
  revert off
  decide

/-- The registers and the raster after a live TMG write are those of its tear, but for CLK_RLIM. -/
theorem tmgWritten_within (d : Device) (off v : Nat) :
    off ∈ (d.tmgWritten off v).keep.kUnsaved ∧ (d.tmgWritten off v).ras = (d.wr off v).tmgTear.ras ∧
    (∃ r x k, d.tmgWritten off v = { d with regs := r, ras := x, keep := { d.keep with kUnsaved := k } }) ∧
    ∀ o, o ≠ CLK_RLIM → (d.tmgWritten off v).rd o = (d.wr off v).tmgTear.rd o := by
  obtain ⟨⟨r, x, hx⟩, -⟩ := tmgTear_within (d.wr off v)
  obtain ⟨⟨r', h'⟩, hrd⟩ := rlimSync_within (((d.wr off v).tmgTear).unsaved off)
  refine ⟨?_, ?_, ⟨r', x, (((d.wr off v).tmgTear).unsaved off).keep.kUnsaved, ?_⟩, hrd⟩
  · rw [Device.tmgWritten, h']
    exact mem_unsaved _ off
  · rw [Device.tmgWritten, h']
    rfl
  · rw [Device.tmgWritten, h', Device.unsaved, hx]
    rfl

/-- A held half waits for its master's second half (R99). -/
theorem execHeldWrite_pass {m : Master} {order : Bool} {val : Nat} {s : State} (hc : s.power.coreOn = true) (hm : among m mSide = true)
    (hv : val < 2 ^ 32) (hr : reservedBad (if order then LAY_ZORDER_LO else LAY_PAL_DATA0) val = false) :
    exec (.heldWrite m order val) s = .next { s with lay :=
      if order then { s.lay with heldOrder := Sparse.set (fun _ => none) s.lay.heldOrder m (some val) }
      else { s.lay with heldPal := Sparse.set (fun _ => none) s.lay.heldPal m (some val) } } := by
  simp only [exec, execHeldWrite, run_next, Nat.mod_eq_of_lt hv, Device.layHold]
  rw [Device.guarded_pass hc (by simp [layPerm, hm, hr])]
  cases order <;> rfl

/-- Master `m`'s held half after a half is put in its place, or taken from it. -/
theorem heldOf_set_same (l : Sparse (Option Nat)) (m : Nat) (v : Option Nat) : heldOf (Sparse.set (fun _ => none) l m v) m = v :=
  Sparse.get_set_same _ l m v

/-- The held halves of the other masters stay. -/
theorem heldOf_set_ne (l : Sparse (Option Nat)) {m k : Nat} (v : Option Nat) (h : k ≠ m) :
    heldOf (Sparse.set (fun _ => none) l m v) k = heldOf l k := by
  rw [heldOf, Sparse.get_set, if_neg h, heldOf]

/-- The two registers of the order. -/
theorem zorder_sets (d : Device) {lo hi : Nat} (hlo : lo < 2 ^ 32) (hhi : hi < 2 ^ 32) :
    d.sets ((d.wr LAY_ZORDER_LO lo).wr LAY_ZORDER_HI hi) [(whole LAY_ZORDER_LO, lo), (whole LAY_ZORDER_HI, hi)] :=
  sets_wr (l := [_]) (sets_wr (sets_nil d) hlo (by simp)) hhi (by simp [whole])

/-- A LAY_ZORDER_HI write with a held low half that names every layer applies the order (R99). -/
theorem execZorderApply_pass {m : Master} {lo val : Nat} {s : State} (hc : s.power.coreOn = true) (hm : among m mSide = true)
    (hv : val < 2 ^ 32) (hr : reservedBad LAY_ZORDER_HI val = false) (hlo : heldOf s.lay.heldOrder m = some lo)
    (hperm : ∀ i < 16, ∃ p < 16, orderAt lo val p = i) :
    ∃ moved, exec (.zorderApply m val) s = .next { s with toDevice :=
      (((({ s.toDevice with lay := { s.lay with heldOrder := Sparse.set (fun _ => none) s.lay.heldOrder m none } } : Device).wr
        LAY_ZORDER_LO lo).wr LAY_ZORDER_HI val).layTear moved []) } := by
  refine ⟨((List.range 16).filter (fun p => orderAt lo val p ≠
    orderAt (s.toDevice.rd LAY_ZORDER_LO) (s.toDevice.rd LAY_ZORDER_HI) p)).map (orderAt lo val), ?_⟩
  simp only [exec, execZorderApply, run_next, Nat.mod_eq_of_lt hv, Device.layOrder, hlo, Option.getD_some]
  rw [Device.guarded_pass hc]
  simpa [layPerm, hm, hr] using hperm

/-- The palette entry of two halves (R175). -/
def palEntry (lo v : Nat) : Nat := bitsOf lo 11 0 + bitsOf lo 27 16 * 2 ^ 12 + bitsOf v 11 0 * 2 ^ 24 + bitsOf v 27 16 * 2 ^ 36

/-- The entry that master `m`'s LAY_PAL_IDX selects becomes `w`, and no half is held. -/
def Device.palSet (d : Device) (m w : Nat) : Device :=
  { d with lay := { d.lay with
    pal := Sparse.set (fun _ => 0) d.lay.pal (d.palKey m) w,
    heldPal := Sparse.set (fun _ => none) d.lay.heldPal m none } }

theorem palSet_palAt_same (d : Device) (m w : Nat) : (d.palSet m w).palAt (d.palKey m) = w := by
  rw [Device.palAt, Device.palSet, Sparse.get_set_same]

theorem palSet_palAt_ne (d : Device) (m w : Nat) {k : Nat} (h : k ≠ d.palKey m) : (d.palSet m w).palAt k = d.palAt k := by
  rw [Device.palAt, Device.palSet, Sparse.get_set, if_neg h, Device.palAt]

/-- The tear after it leaves the layers as the entry leaves them, and of the registers changes FAB_TEAR_CNT alone. -/
theorem palSet_layTear (d : Device) (m w : Nat) (layers : List Nat) :
    ((d.palSet m w).layTear layers []).lay = (d.palSet m w).lay ∧ ((d.palSet m w).layTear layers []).bank = d.bank ∧
    (∃ r x l, (d.palSet m w).layTear layers [] = { d with regs := r, ras := x, lay := l }) ∧
    ∀ o, o ≠ FAB_TEAR_CNT → ((d.palSet m w).layTear layers []).rd o = d.rd o := by
  obtain ⟨r, x, heq, hrd⟩ := layTear_within (d.palSet m w) layers []
  refine ⟨?_, ?_, ⟨r, x, (d.palSet m w).lay, ?_⟩, hrd⟩
  · rw [heq]
  · rw [heq]
    rfl
  · rw [heq]
    rfl

/-- A LAY_PAL_DATA1 write with a held half writes the entry that LAY_PAL_IDX selects; the index stays where it does not count (R175). -/
theorem execPaletteWrite_pass {m : Master} {lo val : Nat} {s : State} (hc : s.power.coreOn = true) (hm : among m mSide = true)
    (hv : val < 2 ^ 32) (hr : reservedBad LAY_PAL_DATA1 val = false) (hlo : heldOf s.lay.heldPal m = some lo)
    (hidx : (s.toDevice.rdB m LAY_PAL_IDX).testBit 16 = false) :
    exec (.paletteWrite m val) s = .next { s with toDevice :=
      ((s.toDevice.palSet m (palEntry lo val)).layTear [bitsOf (s.toDevice.rdB m LAY_PAL_IDX) 11 8] []) } := by
  simp only [exec, execPaletteWrite, run_next, Nat.mod_eq_of_lt hv, Device.palWrite]
  rw [Device.guarded_pass hc (by simp [layPerm, hm, hr])]
  simp only [hlo, hidx, Option.getD_some, Bool.false_eq_true, if_false]
  rfl

/-- LAY_EN has a bit for each of the 16 layers. -/
theorem fields_LAY_EN : (regAt LAY_EN).map (fun r => r.1.fields) = some 0xFFFF := by decide +kernel

theorem reservedBad_LAY_EN {val : Nat} (hv : val < 65536) : reservedBad LAY_EN val = false := by
  obtain ⟨⟨r, i, j⟩, hrow, hf⟩ := Option.map_eq_some_iff.mp fields_LAY_EN
  have hmask : maskOut 32 val 0xFFFF = 0 := by
    rw [maskOut, ← Nat.and_two_pow_sub_one_of_lt_two_pow (n := 16) hv, Nat.and_assoc]
    exact Nat.and_zero val
  simp only [reservedBad, hrow]
  rw [hf, hmask]
  rfl

/-- A LAY_EN write whose new layers are bound, sized and without fault takes effect at once (R174). -/
theorem execLayerEnableWrite_pass {m : Master} {val : Nat} {s : State} (hc : s.power.coreOn = true) (hm : among m mSide = true)
    (hv : val < 65536)
    (h : ∀ i < 16, val.testBit i = true → (s.toDevice.rd LAY_FAULT).testBit i = false ∧
      ((s.toDevice.rd LAY_EN).testBit i = true ∨
        s.toDevice.get (LAY_SRC_bound i) = 1 ∧ s.toDevice.get (LAY_SIZE_width i) ≠ 0 ∧ s.toDevice.get (LAY_SIZE_height i) ≠ 0)) :
    ∃ changed, exec (.layerEnableWrite m val) s = .next { s with toDevice := (s.toDevice.wr LAY_EN val).layTear changed [] } := by
  refine ⟨bitList 16 (val ^^^ s.toDevice.rd LAY_EN), ?_⟩
  have hbad : ∀ i ∈ bitList 16 val, (s.toDevice.rd LAY_FAULT).testBit i = false ∧
      ((s.toDevice.rd LAY_EN).testBit i = true ∨
        s.toDevice.get (LAY_SRC_bound i) = 1 ∧ s.toDevice.get (LAY_SIZE_width i) ≠ 0 ∧ s.toDevice.get (LAY_SIZE_height i) ≠ 0) := by
    intro i hi
    obtain ⟨hi, hbit⟩ := List.mem_filter.mp hi
    exact h i (List.mem_range.mp hi) hbit
  simp only [exec, execLayerEnableWrite, run_next, Nat.mod_eq_of_lt (show val < 2 ^ 32 by omega), Device.layEnable]
  rw [Device.guarded_pass hc]
  simp only [layPerm, hm, reservedBad_LAY_EN hv, List.mem_append, List.mem_cons, List.not_mem_nil, or_false, Bool.not_true]
  rintro c ((rfl | rfl) | rfl)
  · rfl
  · rfl
  · simp only [Bool.or_eq_false_iff, List.any_eq_false]
    refine ⟨fun i hi => ?_, fun i hi => ?_⟩
    · obtain ⟨-, hon | ⟨hb, hw, hh⟩⟩ := hbad i hi
      · simp [hon]
      · simp [hb, hw, hh]
    · obtain ⟨hf, -⟩ := hbad i hi
      simp [hf]

/-- Settles O14: each live write's equation, with what its tear leaves as it was. -/
theorem liveWritesActAtOnce : Obligations.LiveWritesActAtOnce := by
  refine ⟨?_, ?_, ?_, ?_, ?_, ?_⟩
  · intro m i val s hc hm hr hv hx hy
    obtain ⟨-, -, -, -, -, -, -, -, -, hstat, hcnt⟩ := layPos_row i
    have hw := execLiveWrite_LAY_POS hc hm hr hv hx hy
    have ht' := tearsNow_wr s.toDevice (off := LAY_POS i) val hstat
    refine ⟨fun ht => ⟨_, hw, ?_⟩, fun ht hfirst => ⟨_, hw, ?_⟩⟩
    · rw [layTear_calm (ht'.trans ht)]
      exact sets_cons_wr (sets_nil _) (Nat.mod_eq_of_lt hv) (by simp)
    · obtain ⟨w, hw⟩ := layTear_torn (ht'.trans ht) [i.val] [s.toDevice.layRect i]
      rw [hw, if_neg (by simp [hfirst])]
      refine ⟨?_, rfl, ?_, ?_, rfl⟩
      · refine (Device.rd_wr_ne _ _ hcnt.symm).trans ?_
        rw [Device.rd_wr_same, Nat.mod_eq_of_lt hv]
      · refine (Device.rd_wr_same _ _ _).trans ?_
        rw [Device.rd_wr_ne _ _ hcnt]
        exact Nat.mod_eq_of_lt (layTearCount_lt _)
      · exact fun o h1 h2 => (Device.rd_wr_ne _ _ h2).trans (Device.rd_wr_ne _ _ h1)
  · intro m off val s hc hoff hm hk hv hok hl hr hro
    obtain ⟨hstat, hcnt, hlim⟩ := tmgLive_apart hoff
    refine ⟨_, execLiveTmgWrite_pass hc hoff hm hk hv hok hl hr hro, ?_⟩
    have ht' := tearsNow_wr s.toDevice val hstat
    obtain ⟨hmem, hras, ⟨r, x, k, heq⟩, hrd⟩ := tmgWritten_within s.toDevice off val
    obtain ⟨-, hrd'⟩ := tmgTear_within (s.toDevice.wr off val)
    refine ⟨?_, hmem, ?_, fun ht htorn => ⟨?_, ?_⟩, fun ht => ?_, ?_, by rw [heq]⟩
    · rw [hrd _ hlim.symm, hrd' _ hcnt.symm, Device.rd_wr_same, Nat.mod_eq_of_lt hv]
    · intro o ho hne
      obtain ⟨-, hcnt', hlim'⟩ := tmgLive_apart ho
      rw [hrd _ hlim'.symm, hrd' _ hcnt'.symm, Device.rd_wr_ne _ _ hne]
    · rw [hras, tmgTear_first (ht'.trans ht) htorn]
    · rw [hrd _ (by decide), tmgTear_first (ht'.trans ht) htorn, Device.rd_wr_ne _ _ hcnt]
      refine (Device.rd_wr_same _ _ _).trans (Nat.mod_eq_of_lt ?_)
      exact tmgTearCount_lt (s.toDevice.rd_lt _)
    · rw [hras, tmgTear_calm (ht'.trans ht)]
      rfl
    · intro o ho
      simp only [List.mem_cons, List.not_mem_nil, or_false, not_or] at ho
      obtain ⟨h1, h2, h3⟩ := ho
      rw [hrd _ h3, hrd' _ h2, Device.rd_wr_ne _ _ h1]
  · intro m order val s hc hm hv hr
    refine ⟨_, execHeldWrite_pass hc hm hv hr, ?_⟩
    cases order with
    | true =>
      simp only [if_true]
      exact ⟨heldOf_set_same _ _ _, fun k hk => ⟨heldOf_set_ne _ _ hk, trivial⟩, trivial⟩
    | false =>
      simp only [Bool.false_eq_true, if_false]
      exact ⟨heldOf_set_same _ _ _, fun k hk => ⟨trivial, heldOf_set_ne _ _ hk⟩, trivial⟩
  · intro m lo val s hc hm hv hlo hr hheld hperm ht
    obtain ⟨moved, hw⟩ := execZorderApply_pass hc hm hv hr hheld hperm
    refine ⟨_, hw, ?_⟩
    rw [layTear_calm]
    · refine ⟨heldOf_set_same s.lay.heldOrder m none, ?_⟩
      exact sets_with_ras _ (zorder_sets _ hlo hv)
    · rw [tearsNow_wr _ _ (by decide), tearsNow_wr _ _ (by decide)]
      exact ht
  · intro m lo val s hc hm hv hr hheld hidx
    refine ⟨_, execPaletteWrite_pass hc hm hv hr hheld hidx, ?_⟩
    obtain ⟨hlay, hbank, hrest, hrd⟩ := palSet_layTear s.toDevice m (palEntry lo val) [bitsOf (s.toDevice.rdB m LAY_PAL_IDX) 11 8]
    refine ⟨?_, fun k hk => ?_, ?_, hbank, hrd, ?_⟩
    · rw [Device.palAt, hlay]
      exact palSet_palAt_same _ _ _
    · rw [Device.palAt, hlay]
      exact palSet_palAt_ne _ _ _ hk
    · rw [hlay]
      exact heldOf_set_same s.lay.heldPal m none
    · obtain ⟨r, x, l, heq⟩ := hrest
      rw [heq]
  · intro m val s hc hm hv ht h
    obtain ⟨changed, hw⟩ := execLayerEnableWrite_pass hc hm hv h
    refine ⟨_, hw, ?_⟩
    rw [layTear_calm ((tearsNow_wr _ _ (by decide)).trans ht)]
    exact sets_cons_wr (sets_nil _) (Nat.mod_eq_of_lt (by omega)) (by simp)

end Sys2Proof.Machine

namespace Sys2Proof.Machine

/-! # Check windows -/

/-- One bit among `n` from `lo` on. -/
theorem sum_bit (k lo n : Nat) :
    ((List.range n).map (fun i => if k == lo + i then 2 ^ i else 0)).sum = if lo ≤ k ∧ k < lo + n then 2 ^ (k - lo) else 0 := by
  induction n with
  | zero => simp
  | succ n ih =>
    rw [List.range_succ, List.map_append, List.sum_append, ih]
    by_cases h : k = lo + n
    · simp [h]
    · have : (lo ≤ k ∧ k < lo + (n + 1)) ↔ (lo ≤ k ∧ k < lo + n) := by omega
      simp [h, this]

/-- What registers a list of fields leaves alone. -/
theorem onlyRegs_of_sets {b e : Device} {l : List (Fld × Nat)} (hs : b.sets e l) {offs : List Nat} (h : ∀ p ∈ l, p.1.off ∈ offs) :
    b.onlyRegs e offs := by
  intro o ho
  obtain ⟨-, hother, -⟩ := hs
  rw [← get_whole, ← get_whole]
  exact hother (whole o) fun p hp => Or.inl fun heq => ho (show (whole o).off ∈ offs from heq ▸ h p hp)

/-- The comparison of a window whose value is the wanted one: its CRC, and a count. -/
theorem winRecord_match {d : Device} {frame : Nat} {w : DueWin} (hl : w.learn = 0) (hc : w.crc < 2 ^ 32)
    (h : w.crc = d.winWant frame w) :
    d.sets (d.winRecord frame w) [(whole (CHK_CRC w.w), w.crc),
      (CHK_MISS_comparisons w.w, Nat.min (d.get (CHK_MISS_comparisons w.w) + 1) 0xFFFF)] := by
  have hs := sets_wr (off := CHK_CRC w.w) (sets_nil d) hc (by simp)
  have hb := sets_bump (f := CHK_MISS_comparisons w.w) (n := 1) hs (by simp) (by simp) (by simp [Fld.apart, whole])
  rw [Device.get_wr_ne _ _ (by simp)] at hb
  simpa [Device.winRecord, hl, ← h] using hb

/-- The comparison of a window with another value: a mismatch is counted too. -/
theorem winRecord_miss {d : Device} {frame : Nat} {w : DueWin} (hl : w.learn = 0) (hc : w.crc < 2 ^ 32)
    (h : w.crc ≠ d.winWant frame w) :
    d.sets (d.winRecord frame w) [(whole (CHK_CRC w.w), w.crc),
      (CHK_MISS_comparisons w.w, Nat.min (d.get (CHK_MISS_comparisons w.w) + 1) 0xFFFF),
      (CHK_MISS_mismatches w.w, Nat.min (d.get (CHK_MISS_mismatches w.w) + 1) 0xFFFF)] := by
  have hs := sets_wr (off := CHK_CRC w.w) (sets_nil d) hc (by simp)
  have hb := sets_bump (f := CHK_MISS_comparisons w.w) (n := 1) hs (by simp) (by simp) (by simp [Fld.apart, whole])
  have hm := sets_bump (f := CHK_MISS_mismatches w.w) (n := 1) hb (by simp) (by simp) (by simp [Fld.apart, whole])
  rw [Device.get_wr_ne _ _ (by simp), sets_get hb (by simp [Fld.apart, whole])] at hm
  simpa [Device.winRecord, hl, h] using hm

/-- The four words of windows that failed and of windows that did not run. -/
theorem chkWords_sets {b d : Device} {l : List (Fld × Nat)} (hs : b.sets d l) (hl : ∀ p ∈ l, p.1.off < CHK_FAIL_LO) {v1 v2 : Nat}
    (h1 : v1 < 2 ^ 32) (h2 : v2 < 2 ^ 32) (v3 v4 : Nat) :
    b.sets ((((d.wr CHK_FAIL_LO v1).wr CHK_FAIL_HI v2).wr CHK_SKIP_LO v3).wr CHK_SKIP_HI v4)
      ([(whole CHK_SKIP_HI, v4 % 2 ^ 32), (whole CHK_SKIP_LO, v3 % 2 ^ 32), (whole CHK_FAIL_HI, v2), (whole CHK_FAIL_LO, v1)] ++ l) := by
  have hne : ∀ o, CHK_FAIL_LO ≤ o → ∀ p ∈ l, p.1.off ≠ o := fun o ho p hp => Nat.ne_of_lt (Nat.lt_of_lt_of_le (hl p hp) ho)
  have a1 := sets_cons_wr hs (Nat.mod_eq_of_lt h1) (hne CHK_FAIL_LO (by decide))
  have a2 := sets_cons_wr a1 (off := CHK_FAIL_HI) (Nat.mod_eq_of_lt h2)
    (List.forall_mem_cons.mpr ⟨show CHK_FAIL_LO ≠ CHK_FAIL_HI by decide, hne _ (by decide)⟩)
  have a3 := sets_cons_wr a2 (off := CHK_SKIP_LO) (v := v3) rfl
    (List.forall_mem_cons.mpr ⟨show CHK_FAIL_HI ≠ CHK_SKIP_LO by decide,
      List.forall_mem_cons.mpr ⟨show CHK_FAIL_LO ≠ CHK_SKIP_LO by decide, hne _ (by decide)⟩⟩)
  exact sets_cons_wr a3 (off := CHK_SKIP_HI) (v := v4) rfl
    (List.forall_mem_cons.mpr ⟨show CHK_SKIP_LO ≠ CHK_SKIP_HI by decide,
      List.forall_mem_cons.mpr ⟨show CHK_FAIL_HI ≠ CHK_SKIP_HI by decide,
      List.forall_mem_cons.mpr ⟨show CHK_FAIL_LO ≠ CHK_SKIP_HI by decide, hne _ (by decide)⟩⟩⟩)

/-- The device after the results of a frame are recorded without a fault. -/
def Device.chkDone (d : Device) : Device :=
  { d with ras := { d.ras with due := none }, flt := { d.flt with chkGood := true } }

/-- Recording makes no difference to the registers beside. -/
theorem sets_chkDone {b e : Device} {l : List (Fld × Nat)} (hs : b.sets e l) : b.chkDone.sets e.chkDone l := by
  obtain ⟨hl, ho, heq⟩ := hs
  exact ⟨hl, ho, congrArg Device.chkDone heq⟩

theorem put_chkDone (d : Device) (f : Fld) (v : Nat) : (d.put f v).chkDone = d.chkDone.put f v := rfl

theorem bump_chkDone (d : Device) (f : Fld) (n : Nat) : (d.bump f n).chkDone = d.chkDone.bump f n := rfl

/-- A frame of one window that matched (R167). -/
theorem chkRecord_match {d : Device} {frame : Nat} {w : DueWin} (hdue : d.ras.due = some { frame := frame, wins := [w] })
    (hl : w.learn = 0) (h : w.crc = d.winWant frame w) :
    ∃ v3 v4, d.chkRecord = (((((d.winRecord frame w).wr CHK_FAIL_LO 0).wr CHK_FAIL_HI 0).wr CHK_SKIP_LO v3).wr CHK_SKIP_HI v4).chkDone := by
  simp only [Device.chkRecord, hdue]
  simp [hl, ← h, eachOf, Device.chkDone]
  exact ⟨_, _, rfl⟩

/-- A frame of one window that did not match and raises no fault (R167). -/
theorem chkRecord_miss {d : Device} {frame : Nat} {w : DueWin} (hdue : d.ras.due = some { frame := frame, wins := [w] })
    (hl : w.learn = 0) (h : w.crc ≠ d.winWant frame w) (hf : d.getF (CHK_CTRL_fault w.w) = 0) :
    ∃ v3 v4, d.chkRecord = (((((((d.winRecord frame w).wr CHK_FAIL_LO (if w.w < 32 then 2 ^ w.w else 0)).wr CHK_FAIL_HI
      (if 32 ≤ w.w ∧ w.w < 64 then 2 ^ (w.w - 32) else 0)).wr CHK_SKIP_LO v3).wr CHK_SKIP_HI v4).bump CHK_BAD_FRAMES_val).put
      CHK_IRQ_mismatch 1).chkDone := by
  unfold Device.chkRecord
  split
  next hnone => rw [hdue] at hnone; cases hnone
  next f hsome =>
    obtain rfl : f = { frame := frame, wins := [w] } := by rw [hdue] at hsome; exact (Option.some.inj hsome).symm
    extract_lets miss bits failed idle raises d1 d2 d3 d4 d5
    have hmiss : miss = [w] := by simp [miss, hl, h]
    have hraises : raises = false := by simp [raises, hmiss, hf]
    have hlo : bits failed 0 = if w.w < 32 then 2 ^ w.w else 0 := by
      simpa [bits, failed, hmiss] using sum_bit w.w 0 32
    have hhi : bits failed 32 = if 32 ≤ w.w ∧ w.w < 64 then 2 ^ (w.w - 32) else 0 := by
      simpa [bits, failed, hmiss] using sum_bit w.w 32 32
    refine ⟨bits idle 0, bits idle 32, ?_⟩
    rw [← hlo, ← hhi, if_neg (by simp [hmiss]), if_neg (by simp [hraises])]
    clear_value bits idle raises
    subst hraises
    rw [put_chkDone, bump_chkDone]
    rfl

/-- A result of a matching window: its CRC, the comparison, and words in which nothing failed (R166, R167). -/
theorem chkRecord_match_sets {d : Device} {frame : Nat} {w : DueWin} (hdue : d.ras.due = some { frame := frame, wins := [w] })
    (hw : w.w < 64) (hl : w.learn = 0) (hc : w.crc < 2 ^ 32) (h : w.crc = d.winWant frame w) :
    ∃ v3 v4, d.chkDone.sets d.chkRecord
      [(whole CHK_SKIP_HI, v4), (whole CHK_SKIP_LO, v3), (whole CHK_FAIL_HI, 0), (whole CHK_FAIL_LO, 0), (whole (CHK_CRC w.w), w.crc),
       (CHK_MISS_comparisons w.w, Nat.min (d.get (CHK_MISS_comparisons w.w) + 1) 0xFFFF)] := by
  obtain ⟨v3, v4, he⟩ := chkRecord_match hdue hl h
  refine ⟨v3 % 2 ^ 32, v4 % 2 ^ 32, ?_⟩
  rw [he]
  exact sets_chkDone (chkWords_sets (v1 := 0) (v2 := 0) (winRecord_match hl hc h)
    (by simp [whole, CHK_CRC, CHK_MISS, CHK_FAIL_LO]; omega) (by decide) (by decide) v3 v4)

/-- A result of a window that did not match: the mismatch is counted, and its bit marks the frame as bad (R166, R167). -/
theorem chkRecord_miss_sets {d : Device} {frame : Nat} {w : DueWin} (hdue : d.ras.due = some { frame := frame, wins := [w] })
    (hw : w.w < 64) (hl : w.learn = 0) (hc : w.crc < 2 ^ 32) (h : w.crc ≠ d.winWant frame w) (hf : d.getF (CHK_CTRL_fault w.w) = 0) :
    ∃ v3 v4, d.chkDone.sets d.chkRecord
      [(CHK_IRQ_mismatch, 1), (CHK_BAD_FRAMES_val, Nat.min (d.get CHK_BAD_FRAMES_val + 1) (2 ^ 32 - 1)),
       (whole CHK_SKIP_HI, v4), (whole CHK_SKIP_LO, v3), (whole CHK_FAIL_HI, if 32 ≤ w.w ∧ w.w < 64 then 2 ^ (w.w - 32) else 0),
       (whole CHK_FAIL_LO, if w.w < 32 then 2 ^ w.w else 0), (whole (CHK_CRC w.w), w.crc),
       (CHK_MISS_comparisons w.w, Nat.min (d.get (CHK_MISS_comparisons w.w) + 1) 0xFFFF),
       (CHK_MISS_mismatches w.w, Nat.min (d.get (CHK_MISS_mismatches w.w) + 1) 0xFFFF)] := by
  obtain ⟨v3, v4, he⟩ := chkRecord_miss hdue hl h hf
  have hlo : (if w.w < 32 then 2 ^ w.w else 0) < 2 ^ 32 := by
    split
    · exact Nat.pow_lt_pow_right (by decide) ‹_›
    · decide
  have hhi : (if 32 ≤ w.w ∧ w.w < 64 then 2 ^ (w.w - 32) else 0) < 2 ^ 32 := by
    split
    · exact Nat.pow_lt_pow_right (by decide) (by omega)
    · decide
  have hs := chkWords_sets (winRecord_miss hl hc h)
    (by simp [whole, CHK_CRC, CHK_MISS, CHK_FAIL_LO]; omega) hlo hhi v3 v4
  have hb := sets_cons_bump (f := CHK_BAD_FRAMES_val) (n := 1) hs (by decide) (by decide) rfl
    (by simp [whole, Fld.apart, CHK_CRC, CHK_MISS, CHK_BAD_FRAMES]; omega)
  have hi := sets_cons_put (f := CHK_IRQ_mismatch) (v := 1) (w := 1) hb (by decide) (by decide) rfl
    (by simp [whole, Fld.apart, CHK_CRC, CHK_MISS, CHK_IRQ]; omega)
  refine ⟨v3 % 2 ^ 32, v4 % 2 ^ 32, ?_⟩
  rw [he]
  exact sets_chkDone hi

end Sys2Proof.Machine

namespace Sys2Proof.Machine

/-! # Frame-latched writes -/

/-- Setting a bit that is set changes nothing. -/
theorem onBit_of_testBit {n i : Nat} (h : n.testBit i = true) : onBit n i = n := by
  refine Nat.eq_of_testBit_eq fun j => ?_
  rw [onBit, Nat.testBit_or, Nat.testBit_two_pow]
  by_cases hj : i = j
  · simp [← hj, h]
  · simp [hj]

theorem rasterStopped_wr (d : Device) {off : Nat} (v : Nat) (h : TMG_STAT ≠ off) : (d.wr off v).rasterStopped = d.rasterStopped := by
  rw [Device.rasterStopped, Device.rasterStopped, Device.get_wr_ne d v h]

/-- A frame-latched write acts on the value in force at once where scan-out is stopped, and waits for the swap point elsewhere (R59). -/
theorem wrFrame_eq (d : Device) {off : Nat} (v : Nat) (h : TMG_STAT ≠ off) :
    d.wrFrame off v = if d.rasterStopped then (d.wr off v).wrF off v else d.wr off v := by
  rw [Device.wrFrame, ← rasterStopped_wr d v h]

/-- What a frame-latched write leaves in force and beside. -/
theorem wrFrame_rdF (d : Device) {off v : Nat} (h : TMG_STAT ≠ off) (hv : v < 2 ^ 32) (o : Nat) :
    (d.wrFrame off v).rdF o = if o = off ∧ d.rasterStopped = true then v else d.rdF o := by
  rw [wrFrame_eq d v h]
  cases d.rasterStopped with
  | true => rw [if_pos rfl, Device.rdF_wrF, Device.rdF_wr, Nat.mod_eq_of_lt hv]; simp
  | false => simp

theorem wrFrame_rd (d : Device) {off v : Nat} (h : TMG_STAT ≠ off) (hv : v < 2 ^ 32) (o : Nat) :
    (d.wrFrame off v).rd o = if o = off then v else d.rd o := by
  have hw : (d.wr off v).rd o = if o = off then v else d.rd o := by
    by_cases ho : o = off
    · rw [ho, if_pos rfl, Device.rd_wr_same, Nat.mod_eq_of_lt hv]
    · rw [if_neg ho, Device.rd_wr_ne _ _ ho]
  rw [wrFrame_eq d v h]
  cases d.rasterStopped
  · exact hw
  · exact hw

theorem wrFrame_within (d : Device) {off : Nat} (v : Nat) (h : TMG_STAT ≠ off) :
    ∃ r f, d.wrFrame off v = { d with regs := r, force := f } := by
  rw [wrFrame_eq d v h]
  cases d.rasterStopped
  · exact ⟨_, d.force, rfl⟩
  · exact ⟨_, _, rfl⟩

/-! # Learning -/

/-- What a CHK_CTRL write that starts to learn leaves, once it passes. -/
theorem execChkLearn_pass {m : Master} {w : Fin 64} {val : Nat} {s : State} (hc : s.power.coreOn = true) (hm : among m mSide = true)
    (hv : val < 2 ^ 32) (hl : val.testBit 4 = true) (h1 : bitsOf val 9 8 ≠ 1) (h3 : bitsOf val 9 8 ≠ 3) (hp : bitsOf val 13 12 ≠ 3)
    (hr : reservedBad (CHK_CTRL w) val = false) (hro : s.toDevice.roBad (CHK_CTRL w) val = false) :
    exec (.chkLearn m w val) s = .next { s with toDevice :=
      (s.toDevice.setWin w { s.toDevice.win w with learned := 0 }).wrFrame (CHK_CTRL w) val } := by
  simp only [exec, execChkLearn, run_next, Nat.mod_eq_of_lt hv, onBit_of_testBit hl, Device.chkCtrl]
  rw [Device.guarded_pass hc]
  · simp only [hl, if_true]
  · simp [Device.formChecks, hm, h1, h3, hp, hr, hro]

theorem win_setWin_same (d : Device) (w : Nat) (x : WinX) : (d.setWin w x).win w = x := Sparse.get_set_same _ _ _ _

theorem win_setWin_ne (d : Device) {w k : Nat} (x : WinX) (h : k ≠ w) : (d.setWin w x).win k = d.win k :=
  Sparse.get_set_ne _ _ _ h

/-! # Run control -/

/-- The raster of a test, or of no input, is one of its own (R142, R156). -/
def Device.ownRaster (d : Device) : Bool := (d.mode = 1 && d.getF TMG_TEST_en = 1) || d.getF TMG_CTRL_src = 0

/-- A raster of its own that is to follow an input goes into holdover (R142). -/
theorem rasterSrc_of_own {d : Device} (hr : d.get TMG_STAT_raster = 1) (hm : d.mode ≠ 3) :
    d.rasterSrc = if d.ownRaster then d else
      ((d.put TMG_STAT_raster 3).bump TMG_LOCK_EVT_holdovers).put TMG_IRQ_holdover 1 := by
  simp [Device.rasterSrc, Device.holdover, Device.ownRaster, hr, hm]

/-- A raster of its own that has just started, with its depth. -/
def Device.freshRaster (d : Device) (depth : Nat) : Device :=
  (({ d with ras := { d.ras with stop := false, last := false, active := false, vsp := false, wait := .no, lines := 0 } } : Device).put
    TMG_STAT_raster 1).wr FAB_DEPTH depth

/-- A raster that goes into holdover (R142). -/
def Device.intoHoldover (d : Device) : Device := ((d.put TMG_STAT_raster 3).bump TMG_LOCK_EVT_holdovers).put TMG_IRQ_holdover 1

theorem freshRaster_raster (d : Device) (v : Nat) : (d.freshRaster v).get TMG_STAT_raster = 1 := by
  rw [Device.freshRaster, Device.get_wr_ne _ _ (by decide), Device.get_put_same _ _ (by decide) (by decide)]
  rfl

theorem freshRaster_rd (d : Device) (v : Nat) {o : Nat} (h1 : o ≠ TMG_STAT) (h2 : o ≠ FAB_DEPTH) : (d.freshRaster v).rd o = d.rd o := by
  rw [Device.freshRaster, Device.rd_wr_ne _ _ h2, Device.rd_put_ne _ _ h1]
  rfl

theorem freshRaster_mode (d : Device) (v : Nat) : (d.freshRaster v).mode = d.mode := by
  rw [Device.freshRaster, Device.mode, Device.get_wr_ne _ _ (by decide), Device.get_put_ne _ _ (by decide)]
  rfl

theorem intoHoldover_raster (d : Device) : d.intoHoldover.get TMG_STAT_raster = 3 := by
  rw [Device.intoHoldover, Device.get_put_ne _ _ (by decide), Device.get_bump_ne _ _ (by decide),
    Device.get_put_same _ _ (by decide) (by decide)]
  rfl

theorem intoHoldover_rd (d : Device) {o : Nat} (h1 : o ≠ TMG_STAT) (h2 : o ≠ TMG_LOCK_EVT) (h3 : o ≠ TMG_IRQ) :
    d.intoHoldover.rd o = d.rd o := by
  rw [Device.intoHoldover, Device.rd_put_ne _ _ h3, Device.rd_bump_ne _ _ h2, Device.rd_put_ne _ _ h1]

/-- A stopped raster starts as one of its own, and goes into holdover where it is to follow an input (R142, R154). -/
theorem rasterStart_stopped {d : Device} (hs : d.rasterStopped = true) (hm : d.mode ≠ 3) :
    ∃ v, d.rasterStart = if d.ownRaster then d.freshRaster v else (d.freshRaster v).intoHoldover := by
  have hstep : ∃ v, d.rasterStart = (d.freshRaster v).rasterSrc := by
    have hrun : ¬ (!d.rasterStopped) = true := by simp [hs]
    exact ⟨_, if_neg hrun⟩
  obtain ⟨v, hv⟩ := hstep
  have hown : (d.freshRaster v).ownRaster = d.ownRaster := by
    rw [Device.ownRaster, freshRaster_mode]
    rfl
  refine ⟨v, ?_⟩
  rw [hv, rasterSrc_of_own (freshRaster_raster d v) (by rw [freshRaster_mode]; exact hm), hown]
  rfl

/-- A run is started (R154). -/
theorem execScanRun_pass {m : Master} {s : State} (hc : s.power.coreOn = true) (hm : among m mFabric = true) (hmode : s.toDevice.mode = 1)
    (ht : s.toDevice.claimedLanes.all (fun n => s.toDevice.laneTrained n) = true) (hro : s.toDevice.roBad TMG_SCAN 1 = false) :
    exec (.scanRun m) s = .next { s with toDevice := (s.toDevice.wr TMG_SCAN 1).rasterStart } := by
  have hr : reservedBad TMG_SCAN 1 = false := by decide +kernel
  have ht' : s.toDevice.claimedLanes.any (fun n => !s.toDevice.laneTrained n) = false := by
    rw [List.any_eq_false]
    intro n hn
    simp [List.all_eq_true.mp ht n hn]
  simp only [exec, execScanRun, run_next, Device.scanWrite]
  rw [Device.guarded_pass hc]
  · rfl
  · simp only [Device.formChecks, hm, hmode, ht', hr, hro]
    decide

/-- A run is asked to stop (R154). -/
theorem execScanStop_pass {m : Master} {s : State} (hc : s.power.coreOn = true) (hm : among m mFabric = true) (hmode : s.toDevice.mode = 1)
    (hro : s.toDevice.roBad TMG_SCAN 0 = false) (hrun : s.toDevice.get TMG_SCAN_run = 1) (hs : s.toDevice.get TMG_STAT_raster ≠ 0)
    (ht : s.toDevice.getF TMG_TEST_en = 0) :
    exec (.scanStop m) s = .next { s with toDevice :=
      (({ s.toDevice with ras := { s.ras with stop := true } } : Device).wr TMG_SCAN 0) } := by
  have hr : reservedBad TMG_SCAN 0 = false := by decide +kernel
  have hs' : (s.toDevice.wr TMG_SCAN 0).rasterStopped = false := by
    rw [rasterStopped_wr _ _ (by decide), Device.rasterStopped]
    simp [hs]
  have ht' : (s.toDevice.wr TMG_SCAN 0).getF TMG_TEST_en = 0 := ht
  simp only [exec, execScanStop, run_next, Device.scanWrite]
  rw [Device.guarded_pass hc]
  · simp [hrun, hs', ht']
  · simp [Device.formChecks, hm, hmode, hr, hro]

/-- A write of TMG_TEST that passes. -/
theorem execTestRasterWrite_pass {m : Master} {val : Nat} {s : State} (hc : s.power.coreOn = true) (hm : among m mFabric = true)
    (hmode : s.toDevice.mode = 1) (hv : val < 2 ^ 32) (hen : val.testBit 0 = true) (hp : bitsOf val 7 4 ≤ 7)
    (hr : reservedBad TMG_TEST val = false) (hro : s.toDevice.roBad TMG_TEST val = false) (hs : s.toDevice.rasterStopped = true) :
    exec (.testRasterWrite m val) s = .next { s with toDevice := (s.toDevice.wrFrame TMG_TEST val).rasterStart } := by
  have hs' : (s.toDevice.wrFrame TMG_TEST val).rasterStopped = true := by
    rw [wrFrame_eq _ _ (by decide), hs]
    exact (rasterStopped_wr _ _ (by decide)).trans hs
  simp only [exec, execTestRasterWrite, run_next, Nat.mod_eq_of_lt hv, onBit_of_testBit hen, Device.testWrite]
  rw [Device.guarded_pass hc]
  · simp only [hen, hs', Bool.and_self, if_true]
  · simp [Device.formChecks, hm, hmode, hr, hro, hp]

/-- A run or a test starts from a stopped raster: what a start leaves. -/
theorem freshRaster_within (d : Device) (v : Nat) : ∃ r x, d.freshRaster v = { d with regs := r, ras := x } ∧
    x.stop = false ∧ x.active = false ∧ x.lines = 0 := ⟨_, _, rfl, rfl, rfl, rfl⟩

theorem intoHoldover_within (d : Device) : ∃ r, d.intoHoldover = { d with regs := r } := ⟨_, rfl⟩

/-- What a start leaves of the raster and of the registers (R142, R154). -/
theorem rasterStart_gives {d : Device} (hs : d.rasterStopped = true) (hm : d.mode ≠ 3) :
    d.rasterStart.get TMG_STAT_raster = (if d.ownRaster then 1 else 3) ∧
    d.rasterStart.ras.stop = false ∧ d.rasterStart.ras.active = false ∧ d.rasterStart.ras.lines = 0 ∧
    (∃ r x, d.rasterStart = { d with regs := r, ras := x }) ∧
    d.onlyRegs d.rasterStart (if d.ownRaster then [TMG_STAT, FAB_DEPTH] else [TMG_STAT, FAB_DEPTH, TMG_LOCK_EVT, TMG_IRQ]) := by
  obtain ⟨v, hv⟩ := rasterStart_stopped hs hm
  obtain ⟨r, x, hx, hstop, hact, hlines⟩ := freshRaster_within d v
  rw [hv]
  cases d.ownRaster with
  | true =>
    refine ⟨freshRaster_raster d v, ?_, ?_, ?_, ⟨r, x, hx⟩, ?_⟩
    · exact (congrArg (fun e : Device => e.ras.stop) hx).trans hstop
    · exact (congrArg (fun e : Device => e.ras.active) hx).trans hact
    · exact (congrArg (fun e : Device => e.ras.lines) hx).trans hlines
    · intro o ho
      simp at ho
      exact freshRaster_rd d v ho.1 ho.2
  | false =>
    obtain ⟨r', hr'⟩ := intoHoldover_within (d.freshRaster v)
    refine ⟨intoHoldover_raster _, ?_, ?_, ?_, ⟨r', x, ?_⟩, ?_⟩
    · exact (congrArg (fun e : Device => e.ras.stop) hx).trans hstop
    · exact (congrArg (fun e : Device => e.ras.active) hx).trans hact
    · exact (congrArg (fun e : Device => e.ras.lines) hx).trans hlines
    · refine hr'.trans ?_
      rw [hx]
    · intro o ho
      simp at ho
      obtain ⟨h1, h2, h3, h4⟩ := ho
      exact (intoHoldover_rd _ h1 h3 h4).trans (freshRaster_rd d v h1 h2)

end Sys2Proof.Machine

namespace Sys2Proof.Machine

/-! # The vertical swap point

What the parts of a swap point leave as it was. -/

/-- The fields that a swap point is seen by: the mode, the frame count, its interrupt, and the driven frame. -/
def swapFields : List Fld := [GLB_MODE_state, whole TMG_FRAME_CNT, TMG_IRQ_vsp, MEM_FS_STAT_wbuf]

/-- From `d` to `e` the values in force, the phase of the frame, and those fields stay. -/
structure Device.swapKept (d e : Device) : Prop where
  force : e.force = d.force
  active : e.ras.active = d.ras.active
  kind : e.ras.kind = d.ras.kind
  last : e.ras.last = d.ras.last
  past : e.ras.vsp = d.ras.vsp
  fields : ∀ g ∈ swapFields, e.get g = d.get g

theorem swapKept_refl (d : Device) : d.swapKept d := ⟨rfl, rfl, rfl, rfl, rfl, fun _ _ => rfl⟩

theorem Device.swapKept.trans {a b c : Device} (h : a.swapKept b) (h' : b.swapKept c) : a.swapKept c where
  force := h'.force.trans h.force
  active := h'.active.trans h.active
  kind := h'.kind.trans h.kind
  last := h'.last.trans h.last
  past := h'.past.trans h.past
  fields g hg := (h'.fields g hg).trans (h.fields g hg)

theorem Device.swapKept.put {d e : Device} (h : d.swapKept e) (f : Fld) (v : Nat) (hlo : f.lo ≤ f.hi) (hhi : f.hi < 32)
    (ha : ∀ g ∈ swapFields, g.apart f) : d.swapKept (e.put f v) :=
  h.trans ⟨rfl, rfl, rfl, rfl, rfl, fun g hg => get_put_apart e v hlo hhi (ha g hg)⟩

/-- The same, and the registers stay in their canonical form, and every frame-latched one reads as before. -/
structure Device.swapPlain (d e : Device) : Prop where
  kept : d.swapKept e
  wf : Sparse.wf resetOf d.regs = true → Sparse.wf resetOf e.regs = true
  frame : ∀ o, isFrame o = true → e.rd o = d.rd o

theorem swapPlain_refl (d : Device) : d.swapPlain d := ⟨swapKept_refl d, id, fun _ _ => rfl⟩

theorem Device.swapPlain.trans {a b c : Device} (h : a.swapPlain b) (h' : b.swapPlain c) : a.swapPlain c where
  kept := h.kept.trans h'.kept
  wf := h'.wf ∘ h.wf
  frame o ho := (h'.frame o ho).trans (h.frame o ho)

/-- A register that holds none of those fields and is not frame-latched. -/
def plainOff (off : Nat) : Bool := swapFields.all (fun g => g.off ≠ off) && !isFrame off

theorem Device.swapPlain.wr {d e : Device} (h : d.swapPlain e) {off : Nat} (v : Nat) (ho : plainOff off = true) :
    d.swapPlain (e.wr off v) := by
  rw [plainOff, Bool.and_eq_true, List.all_eq_true, Bool.not_eq_true'] at ho
  obtain ⟨hfields, hframe⟩ := ho
  refine h.trans ⟨⟨rfl, rfl, rfl, rfl, rfl, fun g hg => ?_⟩, e.wr_wf off v, fun o hof => ?_⟩
  · exact e.get_wr_ne v (of_decide_eq_true (hfields g hg))
  · refine e.rd_wr_ne v fun heq => ?_
    rw [heq, hframe] at hof
    cases hof

theorem Device.swapPlain.put {d e : Device} (h : d.swapPlain e) (f : Fld) (v : Nat) (ho : plainOff f.off = true) :
    d.swapPlain (e.put f v) := h.wr _ ho

theorem Device.swapPlain.bump {d e : Device} (h : d.swapPlain e) (f : Fld) (n : Nat) (ho : plainOff f.off = true) :
    d.swapPlain (e.bump f n) := h.wr _ ho

theorem Device.swapPlain.eachOf {α : Type} {d e : Device} (h : d.swapPlain e) (l : List α) (f : α → Device → Device)
    (hf : ∀ a ∈ l, ∀ (d : Device), d.swapPlain (f a d)) : d.swapPlain (Machine.eachOf l f e) := by
  induction l generalizing e with
  | nil => exact h
  | cons a l ih => exact ih (h.trans (hf a List.mem_cons_self e)) fun b hb => hf b (List.mem_cons_of_mem _ hb)

/-- An update beside the registers, the values in force and the phase of the frame. -/
theorem swapPlain_of_eq {d e : Device} (hr : e.regs = d.regs) (hf : e.force = d.force) (ha : e.ras.active = d.ras.active)
    (hk : e.ras.kind = d.ras.kind) (hl : e.ras.last = d.ras.last) (hp : e.ras.vsp = d.ras.vsp) : d.swapPlain e where
  kept := ⟨hf, ha, hk, hl, hp, fun g _ => by rw [Device.get, Device.get, Device.rd, Device.rd, hr]⟩
  wf h := hr ▸ h
  frame o _ := by rw [Device.rd, Device.rd, hr]

/-- The registers that a swap point counts and reports in. -/
theorem plainOff_swap : ∀ o ∈ [DPRX_NOIN_CNT, FLT_AV_FRAMES, FLT_AV_BAD, FLT_AV_EXCL, FLT_AV_CAUSE, TMG_GECKO_STAT, FLT_DEGR0, FLT_DEGR1,
    FLT_IRQ, FLT_OPEN, FLT_STAT, FLT_PEND, TRN_EVT0, TRN_EVT1, TRN_IRQ, TRN_STAT0, TRN_STAT1, ACL_CMD_STAT, ACL_IRQ, LAY_STAT,
    LAY_FETCH_BYTES, LAY_EN, LAY_FAULT, LAY_IRQ, DPRX_VALID, GLB_MODE_STAT, TMG_STAT, TMG_LOCK_EVT, CMP_STAT, ACL_CMD], plainOff o = true := by
  decide +kernel

/-! ## Before the frame-latched writes -/

theorem chkRecord_of_none {d : Device} (h : d.ras.due = none) : d.chkRecord = d := by
  rw [Device.chkRecord, h]

theorem chkFrame_plain (d : Device) (noIn : Bool) : d.swapPlain (d.chkFrame noIn) := by
  have hspoil (c : Bool) : d.swapPlain (if c then d.spoil 1 else d) := by
    cases c
    · exact swapPlain_refl d
    · exact swapPlain_of_eq rfl rfl rfl rfl rfl rfl
  exact (hspoil _).trans (swapPlain_of_eq rfl rfl rfl rfl rfl rfl)

theorem grow_plain (d : Device) (c n : Nat) : d.swapPlain (d.grow c n) := swapPlain_of_eq rfl rfl rfl rfl rfl rfl

theorem avCount_plain (d : Device) (bits : Nat) : d.swapPlain (d.avCount bits) := by
  have h1 := ((swapPlain_refl d).bump FLT_AV_FRAMES_val 1 (plainOff_swap _ (by decide))).trans (grow_plain _ 16 1)
  unfold Device.avCount
  dsimp only
  split
  · exact h1
  · refine ((h1.bump FLT_AV_BAD_val 1 (plainOff_swap _ (by decide))).trans (grow_plain _ 17 1)).eachOf _ _ fun i _ d => ?_
    split
    · exact ((swapPlain_refl d).bump _ 1 (plainOff_swap FLT_AV_CAUSE (by decide))).trans (grow_plain _ _ 1)
    · exact swapPlain_refl d

theorem avFrame_plain (d : Device) (noIn : Bool) : d.swapPlain (d.avFrame noIn) := by
  have h1 : d.swapPlain (if noIn then d.bump DPRX_NOIN_CNT_val else d) := by
    cases noIn
    · exact swapPlain_refl d
    · exact (swapPlain_refl d).bump _ 1 (plainOff_swap _ (by decide))
  unfold Device.avFrame
  extract_lets d1 d2
  have h2 : d1.swapPlain d2 := by
    simp only [d2]
    split
    · exact swapPlain_refl d1
    · split
      · exact ((swapPlain_refl d1).bump _ 1 (plainOff_swap _ (by decide))).trans (grow_plain _ _ 1)
      · exact avCount_plain d1 _
  exact (h1.trans h2).trans (swapPlain_of_eq rfl rfl rfl rfl rfl rfl)

theorem degrSync_plain (d : Device) : d.swapPlain d.degrSync := by
  unfold Device.degrSync
  extract_lets
  split
  · exact swapPlain_refl d
  · exact (((swapPlain_refl d).wr _ (plainOff_swap _ (by decide))).wr _ (plainOff_swap _ (by decide))).put _ _ (plainOff_swap _ (by decide))

theorem parkFrame_plain (d : Device) : d.swapPlain d.parkFrame := by
  unfold Device.parkFrame
  split
  · exact swapPlain_refl d
  · extract_lets ended park
    have h : d.swapPlain { d with flt := { d.flt with
        park := park
        parked := d.flt.parked.filter (fun s => park.any (fun e => e.1 == s && decide (e.2 ≤ 1))) } } :=
      swapPlain_of_eq rfl rfl rfl rfl rfl rfl
    exact h.trans (degrSync_plain _)

theorem fltSync_plain (d : Device) : d.swapPlain d.fltSync := by
  unfold Device.fltSync
  extract_lets d1 d2
  have h1 : d.swapPlain d1 := by
    simp only [d1]
    split
    · exact ((((swapPlain_refl d).wr _ (plainOff_swap _ (by decide))).put _ _ (plainOff_swap _ (by decide))).put _ _
        (plainOff_swap _ (by decide))).put _ _ (plainOff_swap _ (by decide))
    · exact ((((swapPlain_refl d).wr _ (plainOff_swap _ (by decide))).put _ _ (plainOff_swap _ (by decide))).put _ _
        (plainOff_swap _ (by decide))).put _ _ (plainOff_swap _ (by decide))
  have h2 : d1.swapPlain d2 := by
    simp only [d2]
    split
    · exact ((swapPlain_refl d1).wr _ (plainOff_swap _ (by decide))).put _ _ (plainOff_swap _ (by decide))
    · exact ((swapPlain_refl d1).wr _ (plainOff_swap _ (by decide))).put _ _ (plainOff_swap _ (by decide))
  split
  · exact h1.trans h2
  · exact (h1.trans h2).put _ _ (plainOff_swap _ (by decide))

theorem recoveryFrame_plain (d : Device) : d.swapPlain d.recoveryFrame := by
  unfold Device.recoveryFrame
  split
  · exact swapPlain_refl d
  next r _ =>
    have h : d.swapPlain { d with flt := { d.flt with
        opened := some { r with latency := r.latency + 1, elapsed := r.elapsed + 1, tickUs := d.us } } } :=
      swapPlain_of_eq rfl rfl rfl rfl rfl rfl
    exact h.trans (fltSync_plain _)

theorem stressFactors_plain (d : Device) : d.swapPlain d.stressFactors := by
  unfold Device.stressFactors
  split
  · split
    · exact swapPlain_of_eq rfl rfl rfl rfl rfl rfl
    · exact swapPlain_refl d
  · exact (swapPlain_refl d).eachOf _ _ fun t _ d => swapPlain_of_eq rfl rfl rfl rfl rfl rfl

theorem geckoStat_plain (d : Device) (c : Bool) (v : Nat) : d.swapPlain (if c then d else d.wr TMG_GECKO_STAT v) := by
  cases c
  · exact (swapPlain_refl d).wr _ (plainOff_swap _ (by decide))
  · exact swapPlain_refl d

/-! ## After them -/

theorem trnSuspended_plain (d : Device) : d.swapPlain d.trnSuspended := by
  unfold Device.trnSuspended
  extract_lets r
  have h : d.swapPlain { d with trn := { d.trn with tiles := r.1 } } := swapPlain_of_eq rfl rfl rfl rfl rfl rfl
  exact h.bump TRN_EVT1_coalesced _ (plainOff_swap _ (by decide))

theorem tileSettle_plain (d : Device) (t : Nat) : d.swapPlain (d.tileSettle t) :=
  (swapPlain_refl d).eachOf _ _ fun _ _ _ => swapPlain_of_eq rfl rfl rfl rfl rfl rfl

theorem trnStat_plain (d : Device) : d.swapPlain d.trnStat :=
  (((swapPlain_refl d).wr _ (plainOff_swap _ (by decide))).wr _ (plainOff_swap _ (by decide))).trans (degrSync_plain _)

theorem trnPass_plain (d : Device) (adv : Nat → Bool) : d.swapPlain (d.trnPass adv []) := by
  unfold Device.trnPass
  extract_lets frame r thawed newly trn d1 d2 c d3 d4 d5
  have h1 : d.swapPlain d1 := swapPlain_of_eq rfl rfl rfl rfl rfl rfl
  have h2 : d.swapPlain d2 := h1.eachOf _ _ fun t _ d => tileSettle_plain d t
  have h4 : d.swapPlain d4 := (((h2.bump _ _ (plainOff_swap _ (by decide))).bump _ _ (plainOff_swap _ (by decide))).bump _ _
    (plainOff_swap _ (by decide))).bump _ _ (plainOff_swap _ (by decide))
  have h5 : d.swapPlain d5 := by
    simp only [d5]
    split
    · exact h4
    · exact h4.put _ _ (plainOff_swap _ (by decide))
  have hn : newly = [] := rfl
  rw [hn, eachOf, List.foldl_nil]
  exact h5.trans (trnStat_plain d5)

theorem trnFrame_plain (d : Device) (processed : Bool) : d.swapPlain (d.trnFrame processed []) := by
  unfold Device.trnFrame
  split
  · exact trnSuspended_plain d
  · split
    · exact trnPass_plain d _
    · exact swapPlain_refl d

theorem aclEnd_plain (d : Device) : d.swapPlain (d.aclEnd 0) := by
  unfold Device.aclEnd
  split
  · exact swapPlain_refl d
  · exact ((((swapPlain_refl d).put _ _ (plainOff_swap _ (by decide))).put _ _ (plainOff_swap _ (by decide))).put _ _
      (plainOff_swap _ (by decide))).put _ _ (plainOff_swap _ (by decide))

/-- A field that lies behind the frame count and its interrupt, and not at bit 0, shares no bit with the fields of a swap point. -/
theorem swapFields_apart {f : Fld} (ho : TMG_IRQ < f.off) (hlo : 0 < f.lo) : ∀ g ∈ swapFields, g.apart f := by
  have h1 : GLB_MODE < TMG_IRQ := by decide
  have h2 : TMG_FRAME_CNT < TMG_IRQ := by decide
  intro g hg
  simp only [swapFields, List.mem_cons, List.not_mem_nil, or_false] at hg
  rcases hg with rfl | rfl | rfl | rfl
  · exact .inl (Nat.ne_of_lt (Nat.lt_trans h1 ho))
  · exact .inl (Nat.ne_of_lt (Nat.lt_trans h2 ho))
  · exact .inl (Nat.ne_of_lt ho)
  · exact .inr (.inl hlo)

theorem planApply_kept (d : Device) : d.swapKept d.planApply := by
  have hspare (k : Nat) : TMG_IRQ < ACL_SPARE k := by show 0x5006c < 0xec010 + 0x4 * k; omega
  have hlane (n : Nat) : TMG_IRQ < ACL_LANE_STAT n := by show 0x5006c < 0xe0004 + 0x200 * n; omega
  unfold Device.planApply
  split
  · exact swapKept_refl d
  next p _ =>
    extract_lets link d1 d2
    have h1 : d.swapPlain d1 := swapPlain_of_eq rfl rfl rfl rfl rfl rfl
    have h2 : d1.swapKept d2 := by
      simp only [d2]
      cases p.back with
      | true =>
        exact ((((swapKept_refl d1).put _ _ (by simp) (by simp) (swapFields_apart (hspare _) (by simp))).put _ _ (by simp) (by simp)
          (swapFields_apart (hspare _) (by simp))).put _ _ (by simp) (by simp) (swapFields_apart (hlane _) (by simp))).put _ _
          (by simp) (by simp) (swapFields_apart (hlane _) (by simp))
      | false =>
        have h := ((((swapKept_refl d1).put (ACL_SPARE_stripe p.spare) p.stripe (by simp) (by simp)
          (swapFields_apart (hspare _) (by simp))).put (ACL_SPARE_state p.spare) 3 (by simp) (by simp)
          (swapFields_apart (hspare _) (by simp))).put (ACL_LANE_STAT_role _) 3 (by simp) (by simp)
          (swapFields_apart (hlane (d1.act.spares.getD p.spare {}).lane) (by simp))).put (ACL_LANE_STAT_stripe _) p.stripe (by simp) (by simp)
          (swapFields_apart (hlane (d1.act.spares.getD p.spare {}).lane) (by simp))
        exact h.trans ((swapPlain_refl _).put ACL_IRQ_spared 1 (plainOff_swap _ (by decide))).kept
    exact (h1.kept.trans h2).trans (aclEnd_plain d2).kept

theorem layFrame_plain (d : Device) : d.swapPlain d.layFrame := by
  unfold Device.layFrame
  extract_lets drops d1 d2 runs
  have h1 : d.swapPlain d1 := ((swapPlain_refl d).wr _ (plainOff_swap _ (by decide))).wr _ (plainOff_swap _ (by decide))
  have h2 : d1.swapPlain d2 := (swapPlain_refl d1).eachOf _ _ fun i _ d =>
    (((swapPlain_refl d).wr _ (plainOff_swap _ (by decide))).wr _ (plainOff_swap _ (by decide))).put _ _ (plainOff_swap _ (by decide))
  exact (h1.trans h2).trans (swapPlain_of_eq rfl rfl rfl rfl rfl rfl)

theorem defectsFrame_plain (d : Device) : d.swapPlain d.defectsFrame := by
  unfold Device.defectsFrame
  split
  next p _ =>
    have h : d.swapPlain { d with cmp := { d.cmp with map := p, next := none } } := swapPlain_of_eq rfl rfl rfl rfl rfl rfl
    exact h.wr _ (plainOff_swap CMP_STAT (by decide))
  · exact swapPlain_refl d

theorem fsFrame_plain (d : Device) : d.swapPlain d.fsFrame := swapPlain_of_eq rfl rfl rfl rfl rfl rfl

theorem validSync_plain (d : Device) : d.swapPlain d.validSync := (swapPlain_refl d).wr _ (plainOff_swap DPRX_VALID (by decide))

theorem replayCheck_plain (d : Device) : d.swapPlain d.replayCheck := by
  unfold Device.replayCheck
  split
  · have h : d.swapPlain { d with trans := some { target := 3, cause := 8, master := 0 } } := swapPlain_of_eq rfl rfl rfl rfl rfl rfl
    exact (h.put GLB_MODE_STAT_busy 1 (plainOff_swap _ (by decide))).put GLB_MODE_STAT_target 3 (plainOff_swap _ (by decide))
  · exact swapPlain_refl d

theorem holdover_kept (d : Device) : d.swapKept d.holdover := by
  unfold Device.holdover
  split
  · exact swapKept_refl d
  · exact (((swapPlain_refl d).put TMG_STAT_raster 3 (plainOff_swap _ (by decide))).bump TMG_LOCK_EVT_holdovers 1
      (plainOff_swap _ (by decide))).kept.put TMG_IRQ_holdover 1 (by decide) (by decide) (by simp [swapFields, Fld.apart, whole])

theorem rasterSrc_kept (d : Device) : d.swapKept d.rasterSrc := by
  unfold Device.rasterSrc
  extract_lets r test
  split
  · exact swapKept_refl d
  · split
    · split
      · exact swapKept_refl d
      · have h : d.swapPlain { d with ras := { d.ras with wait := .no } } := swapPlain_of_eq rfl rfl rfl rfl rfl rfl
        exact (h.put TMG_STAT_raster 1 (plainOff_swap _ (by decide))).kept
    · split
      · exact holdover_kept d
      · exact swapKept_refl d

theorem rasterNext_kept (d : Device) : d.swapKept (d.rasterNext false) := by
  have h := rasterSrc_kept d
  show d.swapKept (if _ then { d.rasterSrc with ras := { d.rasterSrc.ras with stop := true } } else d.rasterSrc)
  split
  · have hstop : d.rasterSrc.swapPlain { d.rasterSrc with ras := { d.rasterSrc.ras with stop := true } } :=
      swapPlain_of_eq rfl rfl rfl rfl rfl rfl
    exact h.trans hstop.kept
  · exact h

/-! ## The frame-latched writes take effect (R59) -/

/-- What is in force after an overlay: inside `p` what the other map holds. -/
theorem get_foldl_set {α : Type} [DecidableEq α] (d : Nat → α) (l m : Sparse α) (k : Nat)
    (hl : l.Pairwise (fun x y => x.1 < y.1)) :
    Sparse.get d (l.foldl (fun acc c => Sparse.set d acc c.1 c.2) m) k =
      if k ∈ l.map Prod.fst then Sparse.get d l k else Sparse.get d m k := by
  induction l generalizing m with
  | nil => rfl
  | cons c l ih =>
    obtain ⟨a, v⟩ := c
    obtain ⟨hlt, hl⟩ := List.pairwise_cons.mp hl
    rw [List.foldl_cons, ih _ hl, Sparse.get_set]
    by_cases hk : k = a
    · subst hk
      have hnot : k ∉ l.map Prod.fst := by
        intro hmem
        obtain ⟨c, hc, heq⟩ := List.mem_map.mp hmem
        exact Nat.lt_irrefl k (heq ▸ hlt c hc)
      simp [hnot, Sparse.get]
    · simp only [List.map_cons, List.mem_cons, hk, false_or, Sparse.get, if_false]

theorem get_overlay {α : Type} [DecidableEq α] {d : Nat → α} (p : Nat → Bool) (m : Sparse α) {m' : Sparse α} (hm : Sparse.wf d m' = true)
    {k : Nat} (hk : p k = true) : Sparse.get d (Sparse.overlay d p m m') k = Sparse.get d m' k := by
  have hfilter : m'.filter (fun c => p c.1) = Sparse.dropWhere (fun o => !p o) m' := by simp [Sparse.dropWhere]
  have hin : Sparse.get d (m'.filter (fun c => p c.1)) k = Sparse.get d m' k := by
    rw [hfilter, Sparse.get_dropWhere]
    simp [hk]
  rw [Sparse.wf_iff] at hm
  obtain ⟨hsorted, -⟩ := hm
  rw [Sparse.overlay, get_foldl_set d _ _ k (hsorted.filter _)]
  split
  · exact hin
  next hnot =>
    rw [Sparse.get_dropWhere, if_pos hk, ← hin, Sparse.get_of_none]
    intro c hc heq
    exact hnot (List.mem_map.mpr ⟨c, hc, heq⟩)

/-- At a swap point every frame-latched register takes effect, those of the integrator's knots apart (R59, R281). -/
theorem frameLatch_rdF {d : Device} (hwf : Sparse.wf resetOf d.regs = true) {o : Nat} (ho : isFrame o = true) (hs : stressReg o = false) :
    d.frameLatch.rdF o = d.rd o :=
  congrArg BitVec.toNat (get_overlay (fun o => isFrame o && !stressReg o) d.force hwf (by simp [ho, hs]))

/-! ## The swap point itself -/

/-- The driven frames flip, where a frame was driven (R377). -/
def Device.flipped (d : Device) : Device :=
  if d.ras.active && d.ras.kind != .replay then d.put MEM_FS_STAT_wbuf (1 - d.get MEM_FS_STAT_wbuf) else d

theorem drivenFlip_regs (d : Device) : d.drivenFlip.regs = d.flipped.regs := by
  show (if d.flipped.processedFrame then { d.flipped with ras := { d.flipped.ras with first := false, blank := false } }
    else d.flipped).regs = d.flipped.regs
  split
  · rfl
  · rfl

/-- The frame is counted, and its interrupt is raised. -/
def Device.swapCount (d : Device) : Device := (d.wr TMG_FRAME_CNT (d.rd TMG_FRAME_CNT + 1)).put TMG_IRQ_vsp 1

theorem swapCount_regs {d e : Device} (h : e.regs = d.regs) : e.swapCount.regs = d.swapCount.regs := by
  simp only [Device.swapCount, Device.put, Device.wr, Device.rd, h]

/-- What a swap point has done from `d` to `e` when the frame-latched writes take effect. -/
structure Device.swapOpens (d e : Device) : Prop where
  wf : Sparse.wf resetOf d.regs = true → Sparse.wf resetOf e.regs = true
  frame : ∀ o, isFrame o = true → e.rd o = d.rd o
  mode : e.mode = d.mode
  count : e.rd TMG_FRAME_CNT = (d.rd TMG_FRAME_CNT + 1) % 2 ^ 32
  irq : e.get TMG_IRQ_vsp = 1
  driven : d.ras.active = true → d.ras.kind ≠ .replay → e.get MEM_FS_STAT_wbuf = 1 - d.get MEM_FS_STAT_wbuf

/-- None of the registers of the count and the flip is frame-latched. -/
theorem swapCount_notFrame : isFrame MEM_FS_STAT = false ∧ isFrame TMG_FRAME_CNT = false ∧ isFrame TMG_IRQ = false := by
  decide +kernel

theorem ne_of_isFrame {o off : Nat} (ho : isFrame o = true) (h : isFrame off = false) : o ≠ off := by
  rintro rfl
  rw [ho] at h
  cases h

theorem swapOpens_flip_count (d : Device) : d.swapOpens d.flipped.swapCount := by
  obtain ⟨hmem, hcnt, hirq⟩ := swapCount_notFrame
  have hrd {o : Nat} (h : o ≠ MEM_FS_STAT) : d.flipped.rd o = d.rd o := by
    unfold Device.flipped
    split
    · exact Device.rd_put_ne _ _ h
    · rfl
  have hwf (h : Sparse.wf resetOf d.regs = true) : Sparse.wf resetOf d.flipped.regs = true := by
    unfold Device.flipped
    split
    · exact Device.wr_wf _ _ _ h
    · exact h
  refine ⟨fun h => Device.wr_wf _ _ _ (Device.wr_wf _ _ _ (hwf h)), fun o ho => ?_, ?_, ?_, ?_, fun ha hk => ?_⟩
  · rw [Device.swapCount, Device.rd_put_ne _ _ (ne_of_isFrame ho hirq), Device.rd_wr_ne _ _ (ne_of_isFrame ho hcnt),
      hrd (ne_of_isFrame ho hmem)]
  · rw [Device.swapCount, Device.mode, Device.get_put_ne _ _ (by decide), Device.get_wr_ne _ _ (by decide), Device.get, hrd (by decide)]
    rfl
  · rw [Device.swapCount, Device.rd_put_ne _ _ (by decide), Device.rd_wr_same, hrd (by decide)]
  · rw [Device.swapCount, Device.get_put_same _ _ (by decide) (by decide)]
    rfl
  · have hlt : 1 - d.get MEM_FS_STAT_wbuf < 2 := by omega
    rw [Device.swapCount, Device.get_put_ne _ _ (by decide), Device.get_wr_ne _ _ (by decide), Device.flipped,
      if_pos (by simp [ha, hk]), Device.get_put_same _ _ (by decide) (by decide)]
    exact Nat.mod_eq_of_lt hlt

/-- The registers alone decide what has been done. -/
theorem Device.swapOpens.of_regs {d e e' : Device} (h : d.swapOpens e) (hr : e'.regs = e.regs) : d.swapOpens e' := by
  have hrd (o : Nat) : e'.rd o = e.rd o := by rw [Device.rd, hr, Device.rd]
  have hget (f : Fld) : e'.get f = e.get f := by rw [Device.get, hrd, Device.get]
  exact ⟨fun hd => hr ▸ h.wf hd, fun o ho => (hrd o).trans (h.frame o ho), (hget _).trans h.mode, (hrd _).trans h.count,
    (hget _).trans h.irq, fun ha hk => (hget _).trans (h.driven ha hk)⟩

theorem Device.swapPlain.opens {d b : Device} (h : d.swapPlain b) : d.swapOpens b.drivenFlip.swapCount := by
  have hb : b.swapOpens b.drivenFlip.swapCount :=
    (swapOpens_flip_count b).of_regs (swapCount_regs (drivenFlip_regs b))
  have hget := h.kept.fields
  have hcnt : b.rd TMG_FRAME_CNT = d.rd TMG_FRAME_CNT := by
    rw [← get_whole, ← get_whole]
    exact hget _ (by simp [swapFields])
  refine ⟨hb.wf ∘ h.wf, fun o ho => (hb.frame o ho).trans (h.frame o ho), hb.mode.trans (hget _ (by simp [swapFields])),
    hcnt ▸ hb.count, hb.irq, fun ha hk => ?_⟩
  rw [← hget MEM_FS_STAT_wbuf (by simp [swapFields])]
  exact hb.driven (h.kept.active.trans ha) (fun hk' => hk (h.kept.kind.symm.trans hk'))

/-- Counts of holds and tears start anew: the frame has passed its swap point. -/
theorem frameCounts_gives (d : Device) : d.frameCounts.force = d.force ∧ d.frameCounts.regs = d.regs ∧
    d.frameCounts.ras.active = false ∧ d.frameCounts.ras.vsp = true := ⟨rfl, rfl, rfl, rfl⟩

/-- A vertical swap point of a frame that is not the last of a stop (R59, R136, R377). -/
theorem swapPoint_gives {d : Device} (hc : d.power.coreOn = true) (hr : d.get TMG_STAT_raster ≠ 0) (hdue : d.ras.due = none)
    (hl : d.ras.last = false) :
    ∃ b, d.swapOpens b ∧ (∀ g ∈ swapFields, (d.swapPoint []).get g = b.get g) ∧ (d.swapPoint []).force = b.frameLatch.force ∧
      (d.swapPoint []).ras.active = false ∧ (d.swapPoint []).ras.vsp = true := by
  have hrun : ¬ (!d.power.coreOn || d.rasterStopped) = true := by simp [hc, Device.rasterStopped, hr]
  unfold Device.swapPoint
  rw [if_neg hrun]
  extract_lets noIn d1 processed stopping d2 d3 d4 d5 d6 swap d7
  have h1 : d.swapPlain d1 := by
    have hrec : d1 = (d.chkFrame noIn).avFrame noIn := by simp only [d1, chkRecord_of_none hdue]
    rw [hrec]
    exact (chkFrame_plain d noIn).trans (avFrame_plain _ noIn)
  have hstop : stopping = false := by
    simp only [stopping, h1.kept.last, hl, Bool.and_false]
  have h2 : d1.swapPlain d2 := geckoStat_plain d1 _ _
  have h3 : d.swapOpens d4 :=
    ((((h1.trans h2).trans (parkFrame_plain d2)).trans (recoveryFrame_plain _)).trans (stressFactors_plain _)).opens
  have h5 : d4.frameLatch.swapPlain d5 := trnFrame_plain d4.frameLatch processed
  have h6 := (h5.kept.trans (planApply_kept d5)).trans
    ((layFrame_plain d5.planApply).trans ((defectsFrame_plain _).trans (fsFrame_plain _))).kept
  obtain ⟨hforce, hregs, hactive, hpast⟩ : d6.force = d5.planApply.layFrame.defectsFrame.fsFrame.force ∧
    d6.regs = d5.planApply.layFrame.defectsFrame.fsFrame.regs ∧ d6.ras.active = false ∧ d6.ras.vsp = true := frameCounts_gives _
  have h7 : d6.swapPlain d7 := by
    simp only [d7]
    split
    · exact swapPlain_of_eq rfl rfl rfl rfl rfl rfl
    · exact swapPlain_refl d6
  clear_value d7 d6 d4
  have h8 := (h7.trans ((validSync_plain d7).trans (replayCheck_plain _))).kept.trans (rasterNext_kept d7.validSync.replayCheck)
  rw [hstop]
  refine ⟨d4, h3, fun g hg => ?_, ?_, h8.active.trans hactive, h8.past.trans hpast⟩
  · calc _ = d6.get g := h8.fields g hg
      _ = d5.planApply.layFrame.defectsFrame.fsFrame.get g := by rw [Device.get, Device.rd, hregs, Device.get, Device.rd]
      _ = d4.frameLatch.get g := h6.fields g hg
      _ = d4.get g := rfl
  · exact h8.force.trans (hforce.trans h6.force)

end Sys2Proof.Machine

namespace Sys2Proof.Machine

/-! # What each command answers -/

/-- A swap point counts the frame and puts every frame-latched write in force (R59, R136, R377). -/
theorem verticalSwapPoint_yields {s : State} (hc : s.power.coreOn = true) (hr : s.toDevice.get TMG_STAT_raster ≠ 0)
    (hdue : s.ras.due = none) (hl : s.ras.last = false) (hwf : s.toDevice.regsWf) :
    Yields (.verticalSwapPoint []) s (fun e => e.rd TMG_FRAME_CNT = (s.toDevice.rd TMG_FRAME_CNT + 1) % 2 ^ 32 ∧
      e.get TMG_IRQ_vsp = 1 ∧ e.ras.active = false ∧ e.ras.vsp = true ∧ e.mode = s.toDevice.mode ∧
      (∀ o, isFrame o = true → stressReg o = false → e.rdF o = s.toDevice.rd o) ∧
      (s.ras.active = true → s.ras.kind ≠ .replay → e.get MEM_FS_STAT_wbuf = 1 - s.toDevice.get MEM_FS_STAT_wbuf)) := by
  obtain ⟨hregs, -, -⟩ := hwf
  obtain ⟨b, hb, hget, hforce, hactive, hpast⟩ := swapPoint_gives hc hr hdue hl
  have hrdF (o : Nat) : (s.toDevice.swapPoint []).rdF o = b.frameLatch.rdF o := by rw [Device.rdF, hforce, Device.rdF]
  refine ⟨s.toDevice.swapPoint [], rfl, ?_, ?_, hactive, hpast, ?_, fun o ho hs => ?_, fun ha hk => ?_⟩
  · rw [← get_whole, hget _ (by simp [swapFields]), get_whole]
    exact hb.count
  · exact (hget _ (by simp [swapFields])).trans hb.irq
  · exact (hget _ (by simp [swapFields])).trans hb.mode
  · rw [hrdF, frameLatch_rdF (hb.wf hregs) ho hs, hb.frame o ho]
  · exact (hget _ (by simp [swapFields])).trans (hb.driven ha hk)

/-- The result of a window that matches is recorded, and no window of the frame failed (R166, R167). -/
theorem chkWindowResult_match_yields {frame : Nat} {w : DueWin} {s : State} (hdue : s.ras.due = some { frame := frame, wins := [w] })
    (hw : w.w < 64) (hl : w.learn = 0) (hc : w.crc < 2 ^ 32) (h : w.crc = s.toDevice.winWant frame w) :
    Yields .chkWindowResult s (fun e => e.rd (CHK_CRC w.w) = w.crc ∧
      e.get (CHK_MISS_comparisons w.w) = Nat.min (s.toDevice.get (CHK_MISS_comparisons w.w) + 1) 0xFFFF ∧
      e.get (CHK_MISS_mismatches w.w) = s.toDevice.get (CHK_MISS_mismatches w.w) ∧ e.rd CHK_FAIL_LO = 0 ∧ e.rd CHK_FAIL_HI = 0 ∧
      e.ras.due = none ∧
      s.toDevice.onlyRegs e [CHK_CRC w.w, CHK_MISS w.w, CHK_FAIL_LO, CHK_FAIL_HI, CHK_SKIP_LO, CHK_SKIP_HI] ∧
      e = { s.toDevice with regs := e.regs, ras := { s.ras with due := none }, flt := { s.flt with chkGood := true } }) := by
  obtain ⟨v3, v4, hs⟩ := chkRecord_match_sets hdue hw hl hc h
  refine ⟨s.toDevice.chkRecord, rfl, ?_⟩
  have hreg := onlyRegs_of_sets hs (offs := [CHK_CRC w.w, CHK_MISS w.w, CHK_FAIL_LO, CHK_FAIL_HI, CHK_SKIP_LO, CHK_SKIP_HI])
    (by simp [whole])
  obtain ⟨hset, hother, heq⟩ := hs
  refine ⟨?_, ?_, ?_, ?_, ?_, ?_, hreg, heq⟩
  · rw [← get_whole]
    exact hset (whole (CHK_CRC w.w), w.crc) (by simp)
  · exact hset (CHK_MISS_comparisons w.w, _) (by simp)
  · exact hother _ (by simp [Fld.apart, whole, CHK_CRC, CHK_MISS, CHK_FAIL_LO, CHK_FAIL_HI, CHK_SKIP_LO, CHK_SKIP_HI]; omega)
  · rw [← get_whole]
    exact hset (whole CHK_FAIL_LO, 0) (by simp)
  · rw [← get_whole]
    exact hset (whole CHK_FAIL_HI, 0) (by simp)
  · rw [heq]
    rfl

/-- The result of a window that does not match marks its frame as bad (R166, R167). -/
theorem chkWindowResult_miss_yields {frame : Nat} {w : DueWin} {s : State} (hdue : s.ras.due = some { frame := frame, wins := [w] })
    (hw : w.w < 64) (hl : w.learn = 0) (hc : w.crc < 2 ^ 32) (h : w.crc ≠ s.toDevice.winWant frame w)
    (hf : s.toDevice.getF (CHK_CTRL_fault w.w) = 0) :
    Yields .chkWindowResult s (fun e => e.rd (CHK_CRC w.w) = w.crc ∧
      e.get (CHK_MISS_comparisons w.w) = Nat.min (s.toDevice.get (CHK_MISS_comparisons w.w) + 1) 0xFFFF ∧
      e.get (CHK_MISS_mismatches w.w) = Nat.min (s.toDevice.get (CHK_MISS_mismatches w.w) + 1) 0xFFFF ∧
      e.rd CHK_FAIL_LO = (if w.w < 32 then 2 ^ w.w else 0) ∧ e.rd CHK_FAIL_HI = (if w.w < 32 then 0 else 2 ^ (w.w - 32)) ∧
      e.get CHK_BAD_FRAMES_val = Nat.min (s.toDevice.get CHK_BAD_FRAMES_val + 1) (2 ^ 32 - 1) ∧ e.get CHK_IRQ_mismatch = 1 ∧
      s.toDevice.onlyRegs e [CHK_CRC w.w, CHK_MISS w.w, CHK_FAIL_LO, CHK_FAIL_HI, CHK_SKIP_LO, CHK_SKIP_HI, CHK_BAD_FRAMES, CHK_IRQ] ∧
      e = { s.toDevice with regs := e.regs, ras := { s.ras with due := none }, flt := { s.flt with chkGood := true } }) := by
  obtain ⟨v3, v4, hs⟩ := chkRecord_miss_sets hdue hw hl hc h hf
  refine ⟨s.toDevice.chkRecord, rfl, ?_⟩
  have hreg := onlyRegs_of_sets hs (offs := [CHK_CRC w.w, CHK_MISS w.w, CHK_FAIL_LO, CHK_FAIL_HI, CHK_SKIP_LO, CHK_SKIP_HI,
    CHK_BAD_FRAMES, CHK_IRQ]) (by simp [whole])
  obtain ⟨hset, -, heq⟩ := hs
  refine ⟨?_, ?_, ?_, ?_, ?_, ?_, ?_, hreg, heq⟩
  · rw [← get_whole]
    exact hset (whole (CHK_CRC w.w), w.crc) (by simp)
  · exact hset (CHK_MISS_comparisons w.w, _) (by simp)
  · exact hset (CHK_MISS_mismatches w.w, _) (by simp)
  · rw [← get_whole]
    exact hset (whole CHK_FAIL_LO, if w.w < 32 then 2 ^ w.w else 0) (by simp)
  · rw [← get_whole, hset (whole CHK_FAIL_HI, if 32 ≤ w.w ∧ w.w < 64 then 2 ^ (w.w - 32) else 0) (by simp)]
    by_cases h32 : w.w < 32
    · rw [if_pos h32, if_neg (by omega)]
    · rw [if_neg h32, if_pos (by omega)]
  · exact hset (CHK_BAD_FRAMES_val, _) (by simp)
  · exact hset (CHK_IRQ_mismatch, 1) (by simp)

/-- Learning starts anew: the window's control is written and nothing is learned (R162, R163). -/
theorem chkLearn_yields {m : Master} {w : Fin 64} {val : Nat} {s : State} (hc : s.power.coreOn = true) (hm : among m mSide = true)
    (hv : val < 2 ^ 32) (hl : val.testBit 4 = true) (h1 : bitsOf val 9 8 ≠ 1) (h3 : bitsOf val 9 8 ≠ 3) (hp : bitsOf val 13 12 ≠ 3)
    (hr : reservedBad (CHK_CTRL w) val = false) (hro : s.toDevice.roBad (CHK_CTRL w) val = false) :
    Yields (.chkLearn m w val) s (fun e => e.rd (CHK_CTRL w) = val ∧
      e.rdF (CHK_CTRL w) = (if s.toDevice.get TMG_STAT_raster = 0 then val else s.toDevice.rdF (CHK_CTRL w)) ∧
      e.win w = { s.toDevice.win w with learned := 0 } ∧ (∀ k, k ≠ w.val → e.win k = s.toDevice.win k) ∧
      (∀ o, o ≠ CHK_CTRL w → e.rd o = s.toDevice.rd o ∧ e.rdF o = s.toDevice.rdF o) ∧
      e = { s.toDevice with regs := e.regs, force := e.force, ras := { s.ras with wins := e.ras.wins } }) := by
  have hstat : TMG_STAT ≠ CHK_CTRL w := by show 0x50050 ≠ 0x170000 + 0x40 * w.val; omega
  refine ⟨_, execChkLearn_pass hc hm hv hl h1 h3 hp hr hro, ?_⟩
  generalize hd : s.toDevice.setWin w { s.toDevice.win w with learned := 0 } = d
  have hrd := wrFrame_rd d hstat hv
  have hrdF := wrFrame_rdF d hstat hv
  obtain ⟨r, f, heq⟩ := wrFrame_within d val hstat
  generalize d.wrFrame (CHK_CTRL w) val = e at hrd hrdF heq ⊢
  have hwin (k : Nat) : e.win k = d.win k := by rw [heq]; rfl
  refine ⟨(hrd _).trans (if_pos rfl), ?_, ?_, fun k hk => ?_, fun o ho => ⟨?_, ?_⟩, ?_⟩
  · rw [hrdF, ← hd]
    simp only [true_and]
    exact if_congr (by simp [Device.rasterStopped]; rfl) rfl rfl
  · rw [hwin, ← hd, win_setWin_same]
  · rw [hwin, ← hd, win_setWin_ne _ _ hk]
  · rw [hrd, if_neg ho, ← hd]
    rfl
  · rw [hrdF, if_neg (fun h => ho h.1), ← hd]
    rfl
  · rw [heq, ← hd]
    rfl

/-- A run starts scan-out, in holdover where the raster is to follow an input (R142, R154). -/
theorem scanRun_yields {m : Master} {s : State} (hc : s.power.coreOn = true) (hm : among m mFabric = true) (hmode : s.toDevice.mode = 1)
    (ht : s.toDevice.claimedLanes.all (fun n => s.toDevice.laneTrained n) = true) (hro : s.toDevice.roBad TMG_SCAN 1 = false)
    (hr : s.toDevice.get TMG_STAT_raster = 0) :
    Yields (.scanRun m) s (fun e => e.rd TMG_SCAN = 1 ∧
      e.get TMG_STAT_raster = (if s.toDevice.getF TMG_TEST_en = 1 ∨ s.toDevice.getF TMG_CTRL_src = 0 then 1 else 3) ∧
      e.ras.stop = false ∧ e.ras.active = false ∧ e.ras.lines = 0 ∧
      s.toDevice.onlyRegs e [TMG_SCAN, TMG_STAT, TMG_LOCK_EVT, TMG_IRQ, FAB_DEPTH] ∧
      e = { s.toDevice with regs := e.regs, ras := e.ras }) := by
  have hs : (s.toDevice.wr TMG_SCAN 1).rasterStopped = true := by
    rw [rasterStopped_wr _ _ (by decide), Device.rasterStopped, hr]
    rfl
  have hm3 : (s.toDevice.wr TMG_SCAN 1).mode ≠ 3 := by
    rw [Device.mode, Device.get_wr_ne _ _ (by decide), ← Device.mode, hmode]
    decide
  have hown : (s.toDevice.wr TMG_SCAN 1).ownRaster = true ↔ s.toDevice.getF TMG_TEST_en = 1 ∨ s.toDevice.getF TMG_CTRL_src = 0 := by
    have hmode' : (s.toDevice.wr TMG_SCAN 1).mode = 1 := by
      rw [Device.mode, Device.get_wr_ne _ _ (by decide)]
      exact hmode
    simp [Device.ownRaster, hmode', Device.getF]
  obtain ⟨hraster, hstop, hactive, hlines, ⟨r, x, heq⟩, hregs⟩ := rasterStart_gives hs hm3
  have hrd (o : Nat) (ho : o ∉ [TMG_STAT, FAB_DEPTH, TMG_LOCK_EVT, TMG_IRQ]) :
      (s.toDevice.wr TMG_SCAN 1).rasterStart.rd o = (s.toDevice.wr TMG_SCAN 1).rd o := by
    refine hregs o fun hmem => ho ?_
    split at hmem
    · exact List.mem_append_left [TMG_LOCK_EVT, TMG_IRQ] hmem
    · exact hmem
  refine ⟨_, execScanRun_pass hc hm hmode ht hro, ?_, ?_, hstop, hactive, hlines, fun o ho => ?_, ?_⟩
  · rw [hrd _ (by decide), Device.rd_wr_same]
    rfl
  · rw [hraster]
    exact if_congr hown rfl rfl
  · simp only [List.mem_cons, List.not_mem_nil, or_false, not_or] at ho
    obtain ⟨h1, h2, h3, h4, h5⟩ := ho
    rw [hrd o (by simp [h2, h3, h4, h5]), Device.rd_wr_ne _ _ h1]
  · rw [heq]
    rfl

/-- A test raster starts at once (R156). -/
theorem testRasterWrite_yields {m : Master} {val : Nat} {s : State} (hc : s.power.coreOn = true) (hm : among m mFabric = true)
    (hmode : s.toDevice.mode = 1) (hv : val < 2 ^ 32) (hen : val.testBit 0 = true) (hp : bitsOf val 7 4 ≤ 7)
    (hr : reservedBad TMG_TEST val = false) (hro : s.toDevice.roBad TMG_TEST val = false) (hs : s.toDevice.get TMG_STAT_raster = 0) :
    Yields (.testRasterWrite m val) s (fun e => e.rd TMG_TEST = val ∧ e.rdF TMG_TEST = val ∧ e.get TMG_STAT_raster = 1 ∧
      (∀ o, o ≠ TMG_TEST → e.rdF o = s.toDevice.rdF o) ∧ s.toDevice.onlyRegs e [TMG_TEST, TMG_STAT, FAB_DEPTH] ∧
      e = { s.toDevice with regs := e.regs, force := e.force, ras := e.ras }) := by
  have hst : s.toDevice.rasterStopped = true := by rw [Device.rasterStopped, hs]; rfl
  refine ⟨_, execTestRasterWrite_pass hc hm hmode hv hen hp hr hro hst, ?_⟩
  have hrd := wrFrame_rd s.toDevice (off := TMG_TEST) (v := val) (by decide) hv
  have hrdF := wrFrame_rdF s.toDevice (off := TMG_TEST) (v := val) (by decide) hv
  obtain ⟨r, f, heq⟩ := wrFrame_within s.toDevice (off := TMG_TEST) val (by decide)
  generalize s.toDevice.wrFrame TMG_TEST val = d at hrd hrdF heq ⊢
  have hget (g : Fld) (hg : g.off ≠ TMG_TEST) : d.get g = s.toDevice.get g := by
    rw [Device.get, hrd, if_neg hg, Device.get]
  have hmode' : d.mode = 1 := (hget _ (by decide)).trans hmode
  have hstopped : d.rasterStopped = true := by
    rw [Device.rasterStopped, hget _ (by decide)]
    exact hst
  have hforce : d.rdF TMG_TEST = val := by rw [hrdF, if_pos ⟨rfl, hst⟩]
  have hown : d.ownRaster = true := by
    have hbit : d.getF TMG_TEST_en = 1 := by
      rw [Device.getF, hforce]
      simpa [bitsOf, Nat.testBit_zero] using hen
    simp [Device.ownRaster, hmode', hbit]
  obtain ⟨hraster, -, -, -, ⟨r', x, heq'⟩, hregs⟩ := rasterStart_gives hstopped (by rw [hmode']; decide)
  rw [if_pos hown] at hraster hregs
  have hrdF' (o : Nat) : d.rasterStart.rdF o = d.rdF o := by rw [heq']; rfl
  refine ⟨?_, (hrdF' _).trans hforce, hraster, fun o ho => ?_, fun o ho => ?_, ?_⟩
  · rw [hregs _ (by decide), hrd, if_pos rfl]
  · rw [hrdF', hrdF, if_neg (fun h => ho h.1)]
  · simp only [List.mem_cons, List.not_mem_nil, or_false, not_or] at ho
    obtain ⟨h1, h2, h3⟩ := ho
    rw [hregs o (by simp [h2, h3]), hrd, if_neg h1]
  · rw [heq', heq]

/-- Settles O47: each clause is what its command answers. -/
theorem swapPointsAndScanOut : Obligations.SwapPointsAndScanOut := by
  refine ⟨?_, ?_, ?_, ?_⟩
  · intro s hc hr hdue hl hwf _ _
    exact verticalSwapPoint_yields hc hr hdue hl hwf
  · intro frame w s hdue hw hl hc
    exact ⟨chkWindowResult_match_yields hdue hw hl hc, chkWindowResult_miss_yields hdue hw hl hc⟩
  · intro m w val s hc hm hv hl h1 h3 hp hr hro
    exact chkLearn_yields hc hm hv hl h1 h3 hp hr hro
  · intro m s hc hm hmode
    refine ⟨scanRun_yields hc hm hmode, fun hro hrun hr ht => ?_, fun val => testRasterWrite_yields hc hm hmode⟩
    refine ⟨_, execScanStop_pass hc hm hmode hro hrun hr ht, ?_⟩
    exact sets_cons_wr (sets_nil _) rfl (by simp)

end Sys2Proof.Machine

namespace Sys2Proof.Machine

/-! # Frame starts

What the parts of a frame start leave as it was, while no word of the frame store fails its ECC check. -/

/-- No word of the frame store has an ECC finding. -/
structure Device.fsClean (d : Device) : Prop where
  ue : d.mem.fsUe = []
  ce : d.mem.fsCe = []

/-- From `d` to `e`, which has no ECC finding, what a frame start is decided by and shown in stays: the registers of the blocks before LAY (offset 0x60000), the ports, the discharge, and the raster's state apart from its stripes, windows and lanes. -/
structure Device.startKept (d e : Device) : Prop where
  clean : e.fsClean
  ras : e.ras = { d.ras with stripes := e.ras.stripes, wins := e.ras.wins, sent := e.ras.sent }
  dprx : e.dprx = d.dprx
  dis : e.hv.dis = d.hv.dis
  rd : ∀ o < 0x60000, e.rd o = d.rd o
  rdF : ∀ o < 0x60000, e.rdF o = d.rdF o

theorem startKept_refl {d : Device} (h : d.fsClean) : d.startKept d := ⟨h, rfl, rfl, rfl, fun _ _ => rfl, fun _ _ => rfl⟩

theorem Device.startKept.trans {a b c : Device} (h : a.startKept b) (h' : b.startKept c) : a.startKept c where
  clean := h'.clean
  ras := h'.ras.trans (congrArg (fun r : Raster => { r with stripes := c.ras.stripes, wins := c.ras.wins, sent := c.ras.sent }) h.ras)
  dprx := h'.dprx.trans h.dprx
  dis := h'.dis.trans h.dis
  rd o ho := (h'.rd o ho).trans (h.rd o ho)
  rdF o ho := (h'.rdF o ho).trans (h.rdF o ho)

theorem Device.startKept.get {d e : Device} (h : d.startKept e) {f : Fld} (hf : f.off < 0x60000) : e.get f = d.get f := by
  rw [Device.get, h.rd _ hf, Device.get]

theorem Device.startKept.getF {d e : Device} (h : d.startKept e) {f : Fld} (hf : f.off < 0x60000) : e.getF f = d.getF f := by
  rw [Device.getF, h.rdF _ hf, Device.getF]

theorem Device.startKept.portX {d e : Device} (h : d.startKept e) (p : Nat) : e.portX p = d.portX p := by
  rw [Device.portX, h.dprx, Device.portX]

theorem Device.startKept.wr {d e : Device} (h : d.startKept e) {off : Nat} (v : Nat) (ho : 0x60000 ≤ off) : d.startKept (e.wr off v) :=
  h.trans ⟨⟨h.clean.ue, h.clean.ce⟩, rfl, rfl, rfl, fun _ hlt => e.rd_wr_ne v (Nat.ne_of_lt (Nat.lt_of_lt_of_le hlt ho)), fun _ _ => rfl⟩

theorem Device.startKept.put {d e : Device} (h : d.startKept e) (f : Fld) (v : Nat) (ho : 0x60000 ≤ f.off) : d.startKept (e.put f v) :=
  h.wr _ ho

theorem Device.startKept.wrF {d e : Device} (h : d.startKept e) {off : Nat} (v : Nat) (ho : 0x60000 ≤ off) : d.startKept (e.wrF off v) :=
  h.trans ⟨⟨h.clean.ue, h.clean.ce⟩, rfl, rfl, rfl, fun _ _ => rfl, fun o hlt => by
    rw [e.rdF_wrF, if_neg (Nat.ne_of_lt (Nat.lt_of_lt_of_le hlt ho))]⟩

/-- An update beside the registers, the ports and the raster. -/
theorem Device.startKept.beside {d e e' : Device} (h : d.startKept e) (hu : e'.mem.fsUe = e.mem.fsUe) (hc : e'.mem.fsCe = e.mem.fsCe)
    (hs : e'.ras = { e.ras with stripes := e'.ras.stripes, wins := e'.ras.wins, sent := e'.ras.sent })
    (hp : e'.dprx = e.dprx) (hd : e'.hv.dis = e.hv.dis) (hr : e'.regs = e.regs) (hf : e'.force = e.force) : d.startKept e' :=
  h.trans ⟨⟨hu.trans h.clean.ue, hc.trans h.clean.ce⟩, hs, hp, hd, fun o _ => by rw [Device.rd, hr, Device.rd],
    fun o _ => by rw [Device.rdF, hf, Device.rdF]⟩

theorem Device.startKept.eachOf {α : Type} {d e : Device} (h : d.startKept e) (l : List α) (f : α → Device → Device)
    (hf : ∀ a (e : Device), d.startKept e → d.startKept (f a e)) : d.startKept (Machine.eachOf l f e) := by
  induction l generalizing e with
  | nil => exact h
  | cons a l ih => exact ih (hf a e h)

/-! ## Accesses of the frame store without ECC findings (R383, R384) -/

theorem fsReadCheck_of_clean {d : Device} (h : d.fsClean) (a n : Nat) (own : Bool) : d.fsReadCheck a n own = d := by
  unfold Device.fsReadCheck
  induction wordsOf a n with
  | nil => rfl
  | cons w l ih =>
    rw [eachOf, List.foldl_cons]
    simpa [h.ue, h.ce, eachOf] using ih

theorem Device.startKept.fsReadCheck {d e : Device} (h : d.startKept e) (a n : Nat) (own : Bool) : d.startKept (e.fsReadCheck a n own) := by
  rwa [fsReadCheck_of_clean h.clean]

theorem fsBad_of_clean {d : Device} (h : d.fsClean) (a n : Nat) : d.fsBad a n = false := by
  simp [Device.fsBad, h.ue]

theorem Device.startKept.fsWord {d e : Device} (h : d.startKept e) (m w : Nat) (bs : List (Nat × Nat)) :
    d.startKept (e.fsWord m w bs) := by
  have hue := h.clean.ue
  have hce := h.clean.ce
  unfold Device.fsWord
  split
  · exact h.beside (by simp [Device.fsPut, hue]) (by simp [Device.fsPut, hce]) rfl rfl rfl rfl rfl
  · rw [if_neg (by simp [hue])]
    simp only [hce, List.contains_nil, Bool.false_eq_true, if_false]
    exact h.beside rfl (by simp [Device.fsPut, hce]) rfl rfl rfl rfl rfl

theorem Device.startKept.fsWrite {d e : Device} (h : d.startKept e) (m : Nat) (bs : List (Nat × Nat)) :
    d.startKept (e.fsWrite m bs) :=
  h.eachOf _ _ fun _ _ h => h.fsWord _ _ _

theorem Device.startKept.drivenWrite {d e : Device} (h : d.startKept e) (s y : Nat) (codes : List Nat) :
    d.startKept (e.drivenWrite s y codes) := by
  unfold Device.drivenWrite Device.fsPutBits
  extract_lets
  split
  · exact h
  · exact h.fsWrite _ _

/-! ## Rows that need no packed line -/

theorem Device.startKept.sendLine {d e : Device} (h : d.startKept e) (s y : Nat) (hold zero : Bool) (codes : List Nat) :
    d.startKept (e.sendLine s y hold zero codes) := by
  unfold Device.sendLine
  extract_lets
  split
  · exact h
  · exact h.beside rfl rfl rfl rfl rfl rfl rfl

theorem Device.startKept.setStripe {d e : Device} (h : d.startKept e) (s : Nat) (x : StripeX) : d.startKept (e.setStripe s x) :=
  h.beside rfl rfl rfl rfl rfl rfl rfl

theorem Device.startKept.setWin {d e : Device} (h : d.startKept e) (w : Nat) (x : WinX) : d.startKept (e.setWin w x) :=
  h.beside rfl rfl rfl rfl rfl rfl rfl

theorem Device.startKept.tapSent {d e : Device} (h : d.startKept e) (s y : Nat) (codes : List Nat) (replayed : Bool) :
    d.startKept (e.tapSent s y codes replayed) := by
  have h2 := h.eachOf (e.winsAt 2 s y) (fun w d => d.winTake w s y (d.winCodes w s codes) replayed) fun _ _ h => h.setWin _ _
  unfold Device.tapSent
  extract_lets e2
  split
  · exact h2
  · exact h2.eachOf _ _ fun _ _ h => h.setWin _ _

theorem Device.startKept.rowSent {d e : Device} (h : d.startKept e) (s y : Nat) (hold zero replayed : Bool) (codes : List Nat) :
    d.startKept (e.rowSent s y hold zero replayed codes) := by
  have h1 := h.sendLine s y hold zero codes
  unfold Device.rowSent
  extract_lets e1 e2 x
  have h2 : d.startKept e2 := by
    simp only [e2]
    split
    · exact h1
    · exact h1.drivenWrite _ _ _
  exact (h2.setStripe _ _).tapSent _ _ _ _

theorem Device.startKept.plainSend {d e : Device} (h : d.startKept e) (s g : Nat) : d.startKept (e.plainSend s g) := by
  unfold Device.plainSend
  extract_lets y n fixed b e1 replay
  have h1 : d.startKept e1 := by
    simp only [e1]
    rwa [if_neg (by simp [fsBad_of_clean h.clean])]
  have hreplay : d.startKept replay := by
    simp only [replay]
    split
    · exact h.rowSent _ _ _ _ _ _
    · exact (h1.fsReadCheck _ _ _).rowSent _ _ _ _ _ _
  split
  · exact h.rowSent _ _ _ _ _ _
  · exact h.rowSent _ _ _ _ _ _
  · split
    · exact h.rowSent _ _ _ _ _ _
    · exact hreplay
  · exact hreplay

theorem Device.startKept.plainUpTo {d e : Device} (h : d.startKept e) (s g n : Nat) : d.startKept (e.plainUpTo s g n) := by
  induction n generalizing e with
  | zero => exact h
  | succ n ih =>
    unfold Device.plainUpTo
    extract_lets
    split
    · exact h
    · exact ih (h.plainSend _ _)

theorem Device.startKept.plainLines {d e : Device} (h : d.startKept e) (g : Nat) : d.startKept (e.plainLines g) := by
  unfold Device.plainLines
  split
  · exact h
  · exact h.eachOf _ _ fun _ _ h => h.plainUpTo _ _ _

/-! ## Ramps and the integrator (R279, R294, R295, R297) -/

theorem Device.startKept.setSrv {d e : Device} (h : d.startKept e) (x : Survey) : d.startKept { e with srv := x } :=
  h.beside rfl rfl rfl rfl rfl rfl rfl

theorem Device.startKept.planesExchange {d e : Device} (h : d.startKept e) : d.startKept e.planesExchange := by
  unfold Device.planesExchange
  extract_lets cmp e1
  have h1 : d.startKept e1 := ((((h.put MEM_FS_STAT_cmp cmp (by decide)).wr _ (by decide)).put SRV_STAT_ramp 0 (by decide)).put
    SRV_STAT_ramp_j 0 (by decide)).put SRV_IRQ_ramp 1 (by decide)
  exact h1.setSrv _

theorem Device.startKept.rampLearn {d e : Device} (h : d.startKept e) : d.startKept e.rampLearn := by
  refine h.eachOf _ _ fun w e h => ?_
  have hw : 0x60000 ≤ CHK_CTRL w := by show 0x60000 ≤ 0x170000 + 0x40 * w; omega
  dsimp only
  split
  · exact ((h.put (CHK_CTRL_learn w) 1 hw).wrF _ hw).setWin _ _
  · exact h

theorem Device.startKept.rampFrame {d e : Device} (h : d.startKept e) : d.startKept e.rampFrame := by
  unfold Device.rampFrame
  split
  · exact h
  · extract_lets step
    have hstep {e : Device} (h : d.startKept e) (j n : Nat) : d.startKept (step e j n) := by
      simp only [step]
      split
      · exact h.planesExchange.rampLearn
      · exact ((h.put SRV_STAT_ramp 1 (by decide)).put SRV_STAT_ramp_j j (by decide)).rampLearn
    split
    · exact hstep (h.setSrv _) _ _
    · split
      · exact hstep h _ _
      · exact h

theorem Device.startKept.stressPixel {d e : Device} (h : d.startKept e) (s x y : Nat) : d.startKept (e.stressPixel s x y) := by
  unfold Device.stressPixel
  extract_lets a n _ e1 old new
  have h1 : d.startKept e1 := by
    simp only [e1]
    split
    · exact h
    · exact h.fsReadCheck _ _ _
  rw [if_neg (by simp [h.clean.ue])]
  split
  · exact h1
  · exact h1.fsWrite _ _

/-- Outside `p` an overlay leaves what was there. -/
theorem get_overlay_outside {α : Type} [DecidableEq α] {d : Nat → α} (p : Nat → Bool) (m m' : Sparse α) {k : Nat} (hk : p k = false) :
    Sparse.get d (Sparse.overlay d p m m') k = Sparse.get d m k := by
  have hset (l : Sparse α) (hl : ∀ c ∈ l, p c.1 = true) (m : Sparse α) :
      Sparse.get d (l.foldl (fun acc c => Sparse.set d acc c.1 c.2) m) k = Sparse.get d m k := by
    induction l generalizing m with
    | nil => rfl
    | cons c l ih =>
      have hne : k ≠ c.1 := fun heq => by rw [heq, hl c List.mem_cons_self] at hk; cases hk
      rw [List.foldl_cons, ih fun c hc => hl c (List.mem_cons_of_mem _ hc), Sparse.get_set_ne _ _ _ hne]
  rw [Sparse.overlay, hset _ (fun c hc => (List.mem_filter.mp hc).2), Sparse.get_dropWhere, hk]
  rfl

theorem stressFrame_kept {d : Device} (h : d.fsClean) : d.startKept d.stressFrame := by
  unfold Device.stressFrame
  extract_lets on e
  have he : d.startKept e := by
    simp only [e]
    split
    · exact startKept_refl h
    · refine (startKept_refl h).eachOf _ _ fun s e h => ?_
      refine h.eachOf _ _ fun y e h => ?_
      exact h.eachOf _ _ fun i e h => h.stressPixel _ _ _
  refine he.trans ⟨⟨he.clean.ue, he.clean.ce⟩, rfl, rfl, rfl, fun _ _ => rfl, fun o ho => ?_⟩
  have hs : stressReg o = false := by
    have hlt : o < SRV_STRESS 0 0 := Nat.lt_of_lt_of_le ho (by decide)
    simp [stressReg, Nat.not_le_of_lt hlt]
  exact congrArg BitVec.toNat (get_overlay_outside stressReg e.force e.regs hs)

/-! ## What a frame carries (R147, R151) -/

/-- What the ports carry in a frame that starts now; the last entry stands for layout 0. -/
def Device.startPorts (d : Device) (take : Nat → Bool) : List PortSrc := (List.range 5).map (d.portPlan take)

/-- What a frame that starts now carries. -/
def Device.startKind (d : Device) (take : Nat → Bool) : FrameKind := d.frameKind ((d.startPorts take).all (fun p => p == .replay))

theorem startPorts_getD (d : Device) (take : Nat → Bool) {p : Nat} (hp : p < 5) : (d.startPorts take).getD p .replay = d.portPlan take p := by
  simp [Device.startPorts, List.getD_eq_getElem?_getD, hp]

/-- A port carries its input just where it is in the layout, its stream is valid, and its frame is new and may be driven. -/
theorem portPlan_eq_input {d : Device} {take : Nat → Bool} {p : Nat} : d.portPlan take p = .input ↔
    p ≠ 4 ∧ d.layoutPorts.contains p = true ∧ d.get (DPRX_STAT_valid p) ≠ 0 ∧ (d.portX p).fresh = true ∧ take p = true := by
  have hout : (if Sparse.get (fun _ => 0) d.ras.noin p = 256 then PortSrc.fill else .replay) ≠ .input := by split <;> decide
  unfold Device.portPlan
  extract_lets out
  by_cases h4 : p = 4
  · subst h4
    simp only [if_true, ne_eq, not_true_eq_false, false_and, iff_false]
    split
    · exact hout
    · decide
  · cases hl : d.layoutPorts.contains p
    · simp [h4]
    · by_cases hv : d.get (DPRX_STAT_valid p) = 0
      · simpa [h4, hv] using hout
      · simp [h4, hv]

theorem layoutPorts_congr {d e : Device} (h : e.force = d.force) : e.layoutPorts = d.layoutPorts := by
  unfold Device.layoutPorts Device.layoutNow Device.getF Device.rdF
  rw [h]

theorem Device.startKept.layoutPorts {d e : Device} (h : d.startKept e) : e.layoutPorts = d.layoutPorts := by
  unfold Device.layoutPorts Device.layoutNow
  rw [h.getF (by decide), h.getF (by decide)]

theorem Device.startKept.startPorts {d e : Device} (h : d.startKept e) (take : Nat → Bool) : e.startPorts take = d.startPorts take := by
  have hnoin : e.ras.noin = d.ras.noin := by rw [h.ras]
  have hlay : e.layoutNow = d.layoutNow := h.getF (by decide)
  refine List.map_congr_left fun p hp => ?_
  have hstat : DPRX_STAT p < 0x60000 := by
    have := List.mem_range.mp hp
    show 0x20004 + 0x4000 * p < 0x60000
    omega
  rw [Device.portPlan, hnoin, hlay, h.layoutPorts, h.get (f := DPRX_STAT_valid p) hstat, h.portX]
  rfl

theorem Device.startKept.startKind {d e : Device} (h : d.startKept e) (take : Nat → Bool) : e.startKind take = d.startKind take := by
  have hstop : e.ras.stop = d.ras.stop := by rw [h.ras]
  have hmode : e.mode = d.mode := h.get (by decide)
  rw [Device.startKind, h.startPorts, Device.frameKind, hstop, h.dis, hmode, h.getF (f := TMG_TEST_en) (by decide)]
  rfl

/-! ## The frames taken (R143, R147) -/

/-- The counts of lagged frames, of the largest lag and of repeats. -/
def startCounts : List Fld := [TMG_LAG_EVT_lagged, TMG_LAG_EVT_largest, TMG_FRC_EVT_repeats]

theorem skipFrame_regsAlone (d : Device) (n : Nat) : d.regsAlone (d.skipFrame n) := by
  unfold Device.skipFrame
  split
  · exact regsAlone_refl d
  · exact ((regsAlone_refl d).put _ _).put _ _

theorem skipFrame_counts (d : Device) (n : Nat) : ∀ g ∈ startCounts, (d.skipFrame n).get g = d.get g := by
  intro g hg
  unfold Device.skipFrame
  split
  · rfl
  · have hirq : g.off ≠ TMG_IRQ := by revert g; decide
    have hskips : g.apart TMG_FRC_EVT_skips := by
      simp only [startCounts, List.mem_cons, List.not_mem_nil, or_false] at hg
      rcases hg with rfl | rfl | rfl <;> simp [Fld.apart]
    rw [Device.get_put_ne _ _ hirq]
    exact get_put_apart d _ (by decide) (by decide) hskips

/-- A frame may skip older frames of a port it takes. -/
theorem portTaken_eq (d : Device) (p : Nat) :
    ∃ n, d.portTaken p = (d.skipFrame n).setPort p { d.portX p with fresh := false, older := 0 } := by
  unfold Device.portTaken
  extract_lets x e
  by_cases h : d.get TMG_STAT_raster ≠ 2 ∨ p = d.refPort
  · exact ⟨x.older, by simp only [e]; rw [if_pos (by simpa using h)]⟩
  · exact ⟨0, by simp only [e]; rw [if_neg (by simpa using h)]; rfl⟩

/-- The ports of `l` that carry their input have it taken. -/
def Device.portsTaken (d : Device) (ports : List PortSrc) (l : List Nat) : Device :=
  eachOf l (fun p d => if ports.getD p .replay == .input then d.portTaken p else d) d

theorem portsTaken_kept (d : Device) (ports : List PortSrc) (l : List Nat) :
    (d.portsTaken ports l).mem = d.mem ∧ ∀ g ∈ startCounts, (d.portsTaken ports l).get g = d.get g := by
  induction l generalizing d with
  | nil => exact ⟨rfl, fun _ _ => rfl⟩
  | cons p l ih =>
    rw [Device.portsTaken, eachOf, List.foldl_cons, ← eachOf, ← Device.portsTaken]
    split
    · obtain ⟨n, hn⟩ := portTaken_eq d p
      obtain ⟨hm, hg⟩ := ih (d.portTaken p)
      rw [hn] at hm hg ⊢
      exact ⟨hm.trans (skipFrame_regsAlone d n).mem_eq, fun g h => (hg g h).trans (skipFrame_counts d n g h)⟩
    · exact ih d

/-- A port whose input is taken, or was not new, is not new. -/
theorem portsTaken_fresh (d : Device) (ports : List PortSrc) (l : List Nat) {p : Nat}
    (h : (p ∈ l ∧ ports.getD p .replay = .input) ∨ (d.portX p).fresh = false) : ((d.portsTaken ports l).portX p).fresh = false := by
  induction l generalizing d with
  | nil => exact h.resolve_left fun ⟨hmem, _⟩ => List.not_mem_nil hmem
  | cons q l ih =>
    rw [Device.portsTaken, eachOf, List.foldl_cons, ← eachOf, ← Device.portsTaken]
    refine ih _ ?_
    split
    next hq =>
      obtain ⟨n, hn⟩ := portTaken_eq d q
      have hdprx : (d.skipFrame n).dprx = d.dprx := by
        obtain ⟨r, hr⟩ := skipFrame_regsAlone d n
        rw [hr]
      have hport : (d.portTaken q).portX p = if p = q then { d.portX q with fresh := false, older := 0 } else d.portX p := by
        rw [hn, Device.portX, Device.setPort, Sparse.get_set, hdprx, ← Device.portX]
      by_cases hpq : p = q
      · rw [hport, if_pos hpq]
        exact .inr rfl
      · rw [hport, if_neg hpq]
        exact h.imp_left fun ⟨hmem, hin⟩ => ⟨(List.mem_cons.mp hmem).resolve_left hpq, hin⟩
    next hq =>
      refine h.imp_left fun ⟨hmem, hin⟩ => ⟨(List.mem_cons.mp hmem).resolve_left fun heq => hq ?_, hin⟩
      rw [← heq, hin]
      rfl

/-! ## A frame starts -/

/-- The raster and the transition engine as a frame of kind `kind` starts. -/
def Device.frameMarked (d : Device) (kind : FrameKind) (ports : List PortSrc) : Device :=
  let ramp := d.get SRV_STAT_ramp = 1 || d.srv.applyN.isSome
  let busy := (d.trn.tiles.filter (fun e => tileBusy e.2)).map (fun e => e.1)
  { d with ras := { d.ras with
    kind := kind, active := true, last := d.ras.stop, vsp := false, wait := .no, ports := ports, lines := 0, stripes := [], rowsDone := [],
    nowAll := d.ras.allDirty || ramp, now := (d.ras.dirty ++ busy).eraseDups, allDirty := false, dirty := [] }, trn := { d.trn with before := [] } }

/-- TMG_STAT as a frame starts. -/
def Device.frameShown (d : Device) (kind : FrameKind) (lag : Nat) (through : Bool) : Device :=
  ((((d.put TMG_STAT_lag (Nat.min lag 65535)).put TMG_STAT_lagged (b2n (lag ≠ 0))).put TMG_STAT_path (b2n !through)).put
    TMG_STAT_replay (b2n (kind == .replay))).put TMG_STAT_gecko (b2n (kind == .gecko))

/-- The input frames that a frame of kind `kind` takes. -/
def Device.frameTaken (d : Device) (kind : FrameKind) (ports : List PortSrc) : Device :=
  if kind == .picture then d.portsTaken ports (List.range 4) else d

/-- The ramp and the first rows of a frame of kind `kind`. -/
def Device.frameRows (d : Device) (kind : FrameKind) : Device :=
  (if kind == .picture || kind == .gecko then d.rampFrame else d).plainLines 0

/-- A frame starts in four parts, once the integrator has taken the frame before. -/
theorem frameBegin_eq (d : Device) (take : Nat → Bool) (lag : Nat) (through : Bool) : d.frameBegin take lag through =
    (((d.stressFrame.noinFrame.frameTaken (d.stressFrame.startKind take) (d.stressFrame.startPorts take)).frameMarked
      (d.stressFrame.startKind take) (d.stressFrame.startPorts take)).frameShown (d.stressFrame.startKind take) lag through).frameRows
      (d.stressFrame.startKind take) := rfl

theorem noinFrame_kept (d : Device) : d.noinFrame.mem = d.mem ∧ d.noinFrame.regs = d.regs := by
  unfold Device.noinFrame
  split <;> exact ⟨rfl, rfl⟩

theorem frameTaken_kept (d : Device) (kind : FrameKind) (ports : List PortSrc) :
    (d.frameTaken kind ports).mem = d.mem ∧ ∀ g ∈ startCounts, (d.frameTaken kind ports).get g = d.get g := by
  unfold Device.frameTaken
  split
  · exact portsTaken_kept d ports _
  · exact ⟨rfl, fun _ _ => rfl⟩

theorem frameTaken_fresh (d : Device) {kind : FrameKind} {ports : List PortSrc} (hk : kind = .picture) {p : Nat} (hp : p < 4)
    (hin : ports.getD p .replay = .input) : ((d.frameTaken kind ports).portX p).fresh = false := by
  rw [Device.frameTaken, if_pos (beq_iff_eq.mpr hk)]
  exact portsTaken_fresh d ports _ (.inl ⟨List.mem_range.mpr hp, hin⟩)

/-- TMG_STAT shows the lag, the path and the kind of the frame, and nothing else changes. -/
theorem frameShown_sets (d : Device) (kind : FrameKind) (lag : Nat) (through : Bool) : d.sets (d.frameShown kind lag through)
    [(TMG_STAT_gecko, b2n (kind == .gecko)), (TMG_STAT_replay, b2n (kind == .replay)), (TMG_STAT_path, b2n !through),
      (TMG_STAT_lagged, b2n (lag ≠ 0)), (TMG_STAT_lag, Nat.min lag 65535)] := by
  have hbit (b : Bool) : b2n b % 2 ^ 1 = b2n b := by cases b <;> rfl
  have hlag : Nat.min lag 65535 % 2 ^ 16 = Nat.min lag 65535 :=
    Nat.mod_eq_of_lt (Nat.lt_of_le_of_lt (Nat.min_le_right lag 65535) (by decide))
  exact sets_cons_put (sets_cons_put (sets_cons_put (sets_cons_put (sets_cons_put (sets_nil d)
    (by decide) (by decide) hlag (by simp)) (by decide) (by decide) (hbit _) (by simp [Fld.apart]))
    (by decide) (by decide) (hbit _) (by simp [Fld.apart])) (by decide) (by decide) (hbit _) (by simp [Fld.apart]))
    (by decide) (by decide) (hbit _) (by simp [Fld.apart])

theorem frameRows_kept {d : Device} (h : d.fsClean) (kind : FrameKind) : d.startKept (d.frameRows kind) := by
  unfold Device.frameRows
  split
  · exact (startKept_refl h).rampFrame.plainLines 0
  · exact (startKept_refl h).plainLines 0

/-- What a frame that starts at `d` with the lag `lag` leaves: its state, its ports, what TMG_STAT shows of it, and the counts; a picture has taken the frames of the ports it carries. -/
structure Device.started (d e : Device) (take : Nat → Bool) (lag : Nat) (through : Bool) : Prop where
  active : e.ras.active = true
  kind : e.ras.kind = d.startKind take
  vsp : e.ras.vsp = false
  wait : e.ras.wait = .no
  lines : e.ras.lines = 0
  ports : e.ras.ports = d.startPorts take
  shownLag : e.get TMG_STAT_lag = Nat.min lag 65535
  shownLagged : e.get TMG_STAT_lagged = b2n (lag ≠ 0)
  shownPath : e.get TMG_STAT_path = b2n !through
  shownReplay : e.get TMG_STAT_replay = b2n (d.startKind take == .replay)
  shownGecko : e.get TMG_STAT_gecko = b2n (d.startKind take == .gecko)
  counts : ∀ g ∈ startCounts, e.get g = d.get g
  taken : d.startKind take = .picture → ∀ p < 4, d.portPlan take p = .input → (e.portX p).fresh = false

/-- A frame starts (R143, R147, R157). -/
theorem frameBegin_started {d : Device} (h : d.fsClean) (take : Nat → Bool) (lag : Nat) (through : Bool) :
    d.started (d.frameBegin take lag through) take lag through := by
  have hs := stressFrame_kept h
  rw [frameBegin_eq, hs.startKind, hs.startPorts]
  generalize hk : d.startKind take = kind
  generalize hp : d.startPorts take = ports
  generalize d.stressFrame = d1 at hs
  obtain ⟨hnmem, hnregs⟩ := noinFrame_kept d1
  obtain ⟨htmem, htget⟩ := frameTaken_kept d1.noinFrame kind ports
  obtain ⟨hset, hother, hshown⟩ := frameShown_sets ((d1.noinFrame.frameTaken kind ports).frameMarked kind ports) kind lag through
  obtain ⟨hgecko, hreplay, hpath, hlagged, hlag, -⟩ := by simpa only [List.forall_mem_cons] using hset
  have htaken (p : Nat) (hp4 : p < 4) (hpic : kind = .picture) (hin : ports.getD p .replay = .input) :
      ((d1.noinFrame.frameTaken kind ports).portX p).fresh = false := frameTaken_fresh _ hpic hp4 hin
  generalize d1.noinFrame.frameTaken kind ports = d2 at *
  have hmem : d2.mem = d1.mem := htmem.trans hnmem
  generalize (d2.frameMarked kind ports).frameShown kind lag through = d3 at *
  have hdprx : d3.dprx = d2.dprx := by rw [hshown]; rfl
  have hclean : d3.fsClean := by
    rw [hshown]
    exact ⟨(congrArg Mem.fsUe hmem).trans hs.clean.ue, (congrArg Mem.fsCe hmem).trans hs.clean.ce⟩
  have hr := frameRows_kept hclean kind
  generalize d3.frameRows kind = e at hr
  have hstat {f : Fld} (hf : f.off = TMG_STAT) : e.get f = d3.get f := hr.get (hf ▸ by decide)
  have hras : e.ras = { (d2.frameMarked kind ports).ras with stripes := e.ras.stripes, wins := e.ras.wins, sent := e.ras.sent } := by
    rw [hr.ras, hshown]
  exact {
    active := congrArg Raster.active hras
    kind := (congrArg Raster.kind hras).trans hk.symm
    vsp := congrArg Raster.vsp hras
    wait := congrArg Raster.wait hras
    lines := congrArg Raster.lines hras
    ports := (congrArg Raster.ports hras).trans hp.symm
    shownLag := (hstat rfl).trans hlag
    shownLagged := (hstat rfl).trans hlagged
    shownPath := (hstat rfl).trans hpath
    shownReplay := (hstat rfl).trans (hk.symm ▸ hreplay)
    shownGecko := (hstat rfl).trans (hk.symm ▸ hgecko)
    counts := fun g hg => by
      obtain ⟨hlow, hne⟩ : g.off < 0x60000 ∧ g.off ≠ TMG_STAT := by revert g; decide
      rw [hr.get hlow, hother g (by simp [Fld.apart, hne]), ← hs.get hlow]
      exact (htget g hg).trans (congrArg (fun r => bitsOf (Sparse.get resetOf r g.off).toNat g.hi g.lo) hnregs)
    taken := fun hpic p hp4 hin => by
      rw [← startPorts_getD d take (Nat.lt_succ_of_lt hp4), hp] at hin
      rw [hr.portX, Device.portX, hdprx, ← Device.portX]
      exact htaken p hp4 (hk.symm.trans hpic) hin }

/-! ## The sequencer's decisions (R142-R147) -/

theorem exec_frameStartDecision_invalid {s : State} (hm : s.toDevice.mayStart = true) (hr : s.toDevice.get TMG_STAT_raster = 2)
    (hv : s.toDevice.get (DPRX_STAT_valid s.toDevice.refPort) = 0) (lag : Nat) (late : Bool) :
    exec (.frameStartDecision lag late) s = .next { s with toDevice := s.toDevice.holdover } := by
  show execFrameStartDecision lag late s = _
  simp [execFrameStartDecision, run_next, hm, hr, hv]

theorem exec_frameStartDecision_notNew {s : State} (hm : s.toDevice.mayStart = true) (hr : s.toDevice.get TMG_STAT_raster = 2)
    (hv : s.toDevice.get (DPRX_STAT_valid s.toDevice.refPort) = 1) (hl : s.toDevice.layoutPorts.contains s.toDevice.refPort = true)
    (hf : (s.toDevice.portX s.toDevice.refPort).fresh = false) (lag : Nat) :
    exec (.frameStartDecision lag false) s = .next { s with toDevice := { s.toDevice with ras := { s.ras with wait := .input } } } := by
  show execFrameStartDecision lag false s = _
  simp only [execFrameStartDecision, run_next, hm, hr, hv, hl, hf]
  rfl

theorem exec_frameStartDecision_through {s : State} (hm : s.toDevice.mayStart = true) (hr : s.toDevice.get TMG_STAT_raster = 2)
    (hv : s.toDevice.get (DPRX_STAT_valid s.toDevice.refPort) = 1) (hl : s.toDevice.layoutPorts.contains s.toDevice.refPort = true)
    (hf : (s.toDevice.portX s.toDevice.refPort).fresh = true) (late : Bool) :
    exec (.frameStartDecision 0 late) s = .next { s with toDevice := { s.toDevice with ras := { s.ras with wait := .through } } } := by
  show execFrameStartDecision 0 late s = _
  simp only [execFrameStartDecision, run_next, hm, hr, hv, hl, hf]
  rfl

/-- The counts of a lagged frame. -/
def Device.lagCounted (d : Device) (lag : Nat) : Device :=
  (d.bump TMG_LAG_EVT_lagged).put TMG_LAG_EVT_largest (Nat.max (d.get TMG_LAG_EVT_largest) (Nat.min lag 65535))

theorem exec_frameStartDecision_lagged {s : State} (hm : s.toDevice.mayStart = true) (hr : s.toDevice.get TMG_STAT_raster = 2)
    (hv : s.toDevice.get (DPRX_STAT_valid s.toDevice.refPort) = 1) (hl : s.toDevice.layoutPorts.contains s.toDevice.refPort = true)
    (hf : (s.toDevice.portX s.toDevice.refPort).fresh = true) {lag : Nat} (h0 : 0 < lag) (hmax : lag ≤ s.toDevice.lagMax) (late : Bool) :
    exec (.frameStartDecision lag late) s =
      .next { s with toDevice := (s.toDevice.lagCounted lag).frameBegin (fun _ => true) lag false } := by
  show execFrameStartDecision lag late s = _
  have h0' : lag ≠ 0 := Nat.ne_of_gt h0
  simp only [execFrameStartDecision, run_next, hm, hr, hv, hl, hf, h0', hmax]
  rfl

theorem exec_throughFrameStart_waiting {s : State} (hm : s.toDevice.mayStart = true) (hw : s.ras.wait = .through) :
    exec .throughFrameStart s = .next { s with toDevice := s.toDevice.frameBegin (fun _ => true) 0 true } := by
  show execThroughFrameStart s = _
  simp only [execThroughFrameStart, run_next, hm, hw]
  rfl

theorem exec_lateLimit_tie {s : State} (hm : s.toDevice.mayStart = true) (hw : s.ras.wait ≠ .no) :
    exec (.lateLimit true) s = .next { s with toDevice := (s.toDevice.put TMG_LATE_frame 1).put TMG_IRQ_late 1 } := by
  show execLateLimit true s = _
  simp [execLateLimit, run_next, hm, hw]

theorem exec_lateLimit_input {s : State} (hm : s.toDevice.mayStart = true) (hw : s.ras.wait = .input) :
    exec (.lateLimit false) s = .next { s with toDevice := s.toDevice.repeatFrame } := by
  show execLateLimit false s = _
  simp only [execLateLimit, run_next, hm, hw]
  rfl

theorem exec_localFrameStart {s : State} (hm : s.toDevice.mayStart = true)
    (hr : s.toDevice.get TMG_STAT_raster = 1 ∨ s.toDevice.get TMG_STAT_raster = 3) (hw : s.ras.wait = .no) (usable : Fin 16) :
    exec (.localFrameStart usable) s = .next { s with toDevice := s.toDevice.frameBegin (fun p => usable.val.testBit p) 0 false } := by
  show execLocalFrameStart usable s = _
  rcases hr with hr | hr <;> simp [execLocalFrameStart, run_next, hm, hr, hw]

theorem exec_noinHoldExpire {n : Fin 5} {s : State} (hc : s.power.coreOn = true) (hmode : s.toDevice.mode = 2)
    (hlacks : if n.val = 4 then s.toDevice.layoutNow = 0
      else s.toDevice.layoutPorts.contains n.val = true ∧ s.toDevice.get (DPRX_STAT_valid n) = 0)
    (hheld : s.toDevice.getF TMG_NOIN_frames ≤ Sparse.get (fun _ => 0) s.ras.noin n) :
    exec (.noinHoldExpire n) s = .next { s with toDevice :=
      { s.toDevice with ras := { s.ras with noin := Sparse.set (fun _ => 0) s.ras.noin n 256 } } } := by
  show execNoinHoldExpire n s = _
  have hl : (if n.val = 4 then decide (s.toDevice.layoutNow = 0)
      else s.toDevice.layoutPorts.contains n && s.toDevice.get (DPRX_STAT_valid n) = 0) = true := by
    split at hlacks
    next h4 => simp [h4, hlacks]
    next h4 =>
      obtain ⟨hl, hv⟩ := hlacks
      rw [if_neg h4, hl, hv]
      rfl
  have hh : ¬ Sparse.get (fun _ => 0) s.ras.noin n < s.toDevice.getF TMG_NOIN_frames := Nat.not_lt.mpr hheld
  simp only [execNoinHoldExpire, run_next, hl, hc, hmode, hh]
  rfl

/-! ## What a frame that has started shows -/

theorem Device.fsClean.of_regsAlone {d e : Device} (h : d.fsClean) (hr : d.regsAlone e) : e.fsClean :=
  ⟨hr.mem_eq ▸ h.ue, hr.mem_eq ▸ h.ce⟩

/-- In LIVE, port `p` of the layout has a new frame of a valid stream, and nothing keeps the raster from a picture (R143, R147, R154). -/
structure Device.pictureReady (d : Device) (p : Nat) : Prop where
  mode : d.mode = 2
  stop : d.ras.stop = false
  dis : d.hv.dis = .idle
  port : p < 4
  inLayout : d.layoutPorts.contains p = true
  valid : d.get (DPRX_STAT_valid p) = 1
  fresh : (d.portX p).fresh = true

theorem Device.pictureReady.portPlan {d : Device} {p : Nat} (h : d.pictureReady p) : d.portPlan (fun _ => true) p = .input :=
  portPlan_eq_input.mpr ⟨Nat.ne_of_lt h.port, h.inLayout, by rw [h.valid]; decide, h.fresh, rfl⟩

theorem Device.pictureReady.startKind {d : Device} {p : Nat} (h : d.pictureReady p) : d.startKind (fun _ => true) = .picture := by
  have hany : (d.startPorts (fun _ => true)).all (fun p => p == .replay) = false := by
    refine List.all_eq_false.mpr ⟨.input, ?_, by decide⟩
    exact List.mem_map.mpr ⟨p, List.mem_range.mpr (Nat.lt_succ_of_lt h.port), h.portPlan⟩
  simp [Device.startKind, Device.frameKind, hany, h.mode, h.stop, h.dis]

/-- A picture carries its input, and has taken it. -/
theorem Device.pictureReady.started {d e : Device} {p lag : Nat} {through : Bool} (h : d.pictureReady p)
    (hs : d.started e (fun _ => true) lag through) : e.ras.kind = .picture ∧ e.ras.ports.getD p .replay = .input ∧
      (e.portX p).fresh = false ∧ e.get TMG_STAT_replay = 0 ∧ e.get TMG_STAT_gecko = 0 := by
  have hk := h.startKind
  refine ⟨hs.kind.trans hk, ?_, hs.taken hk p h.port h.portPlan, ?_, ?_⟩
  · rw [hs.ports, startPorts_getD _ _ (Nat.lt_succ_of_lt h.port)]
    exact h.portPlan
  · exact hs.shownReplay.trans (by rw [hk]; rfl)
  · exact hs.shownGecko.trans (by rw [hk]; rfl)

/-- The counts of a lagged frame (R144). -/
theorem lagCounted_sets (d : Device) {lag : Nat} (h : lag < 65536) : d.sets (d.lagCounted lag)
    [(TMG_LAG_EVT_largest, Nat.max (d.get TMG_LAG_EVT_largest) lag),
      (TMG_LAG_EVT_lagged, Nat.min (d.get TMG_LAG_EVT_lagged + 1) 0xFFFF)] := by
  have hlag : Nat.min lag 65535 = lag := Nat.min_eq_left (Nat.le_of_lt_succ h)
  have hmax : Nat.max (d.get TMG_LAG_EVT_largest) lag < 2 ^ 16 := Nat.max_lt.mpr ⟨d.get_lt TMG_LAG_EVT_largest, h⟩
  rw [Device.lagCounted, hlag]
  exact sets_cons_put (sets_cons_bump (sets_nil d) (by decide) (by decide) rfl (by simp)) (by decide) (by decide)
    (Nat.mod_eq_of_lt hmax) (by simp [Fld.apart])

theorem Device.pictureReady.lagCounted {d : Device} {p lag : Nat} (h : d.pictureReady p) (hlag : lag < 65536) :
    (d.lagCounted lag).pictureReady p := by
  obtain ⟨-, hother, heq⟩ := lagCounted_sets d hlag
  have hget {g : Fld} (hg : g.off ≠ TMG_LAG_EVT) : (d.lagCounted lag).get g = d.get g :=
    hother g (by simp [Fld.apart, hg])
  have hstat : DPRX_STAT p ≠ TMG_LAG_EVT := by
    have := h.port
    show 0x20004 + 0x4000 * p ≠ 0x50060
    omega
  have hforce : (d.lagCounted lag).force = d.force := Device.regsAlone.force_eq ⟨_, heq⟩
  generalize d.lagCounted lag = e at hget heq hforce
  have hdprx : e.dprx = d.dprx := by rw [heq]
  refine ⟨(hget (by decide)).trans h.mode, ?_, ?_, h.port, ?_, (hget hstat).trans h.valid, ?_⟩
  · rw [heq]; exact h.stop
  · rw [heq]; exact h.dis
  · rw [layoutPorts_congr hforce]; exact h.inLayout
  · rw [Device.portX, hdprx]; exact h.fresh

/-! ## What each command answers -/

/-- Without a valid reference port the raster goes into holdover (R142). -/
theorem holdover_sets {d : Device} (hr : d.get TMG_STAT_raster = 2) : d.sets d.holdover
    [(TMG_STAT_raster, 3), (TMG_LOCK_EVT_holdovers, Nat.min (d.get TMG_LOCK_EVT_holdovers + 1) 0xFFFF), (TMG_IRQ_holdover, 1)] := by
  rw [Device.holdover, if_neg (by rw [hr]; decide)]
  refine sets_of_reverse ?_
  exact sets_cons_put (sets_cons_bump (sets_cons_put (sets_nil d) (by decide) (by decide) rfl (by simp)) (by decide) (by decide) rfl
    (by simp [Fld.apart])) (by decide) (by decide) rfl (by simp [Fld.apart])

/-- A lagged frame starts from the frame store (R143, R144). -/
theorem laggedFrame_yields {s : State} (hm : s.toDevice.mayStart = true) (hr : s.toDevice.get TMG_STAT_raster = 2)
    (h : s.toDevice.pictureReady s.toDevice.refPort) (hclean : s.toDevice.fsClean) {lag : Nat} (h0 : 0 < lag) (hmax : lag ≤ s.toDevice.lagMax)
    (hlag : lag < 65536) (late : Bool) :
    Yields (.frameStartDecision lag late) s (fun e => e.ras.active = true ∧ e.ras.kind = .picture ∧ e.ras.vsp = false ∧
      e.ras.wait = .no ∧ e.ras.lines = 0 ∧ e.get TMG_STAT_path = 1 ∧ e.get TMG_STAT_lagged = 1 ∧ e.get TMG_STAT_lag = lag ∧
      e.get TMG_STAT_replay = 0 ∧ e.get TMG_STAT_gecko = 0 ∧
      e.get TMG_LAG_EVT_lagged = Nat.min (s.toDevice.get TMG_LAG_EVT_lagged + 1) 0xFFFF ∧
      e.get TMG_LAG_EVT_largest = Nat.max (s.toDevice.get TMG_LAG_EVT_largest) lag ∧ (e.portX s.toDevice.refPort).fresh = false) := by
  obtain ⟨hset, -, heq⟩ := lagCounted_sets s.toDevice hlag
  have hs := frameBegin_started (hclean.of_regsAlone ⟨_, heq⟩) (fun _ => true) lag false
  obtain ⟨hkind, -, hfresh, hreplay, hgecko⟩ := (h.lagCounted hlag).started hs
  refine ⟨_, exec_frameStartDecision_lagged hm hr h.valid h.inLayout h.fresh h0 hmax late, hs.active, hkind, hs.vsp, hs.wait, hs.lines,
    hs.shownPath, ?_, ?_, hreplay, hgecko, ?_, ?_, hfresh⟩
  · exact hs.shownLagged.trans (by simp [b2n, Nat.ne_of_gt h0])
  · exact hs.shownLag.trans (Nat.min_eq_left (Nat.le_of_lt_succ hlag))
  · exact (hs.counts _ (by simp [startCounts])).trans (hset (TMG_LAG_EVT_lagged, _) (by simp))
  · exact (hs.counts _ (by simp [startCounts])).trans (hset (TMG_LAG_EVT_largest, _) (by simp))

/-- The input frame that is waited for starts on the through path (R143). -/
theorem throughFrameStart_yields {s : State} {p : Nat} (hm : s.toDevice.mayStart = true) (hw : s.ras.wait = .through)
    (h : s.toDevice.pictureReady p) (hclean : s.toDevice.fsClean) :
    Yields .throughFrameStart s (fun e => e.ras.active = true ∧ e.ras.kind = .picture ∧ e.ras.vsp = false ∧ e.ras.wait = .no ∧
      e.ras.lines = 0 ∧ e.ras.ports.getD p .replay = .input ∧ (e.portX p).fresh = false ∧
      e.get TMG_STAT_path = 0 ∧ e.get TMG_STAT_lagged = 0 ∧ e.get TMG_STAT_lag = 0 ∧ e.get TMG_STAT_replay = 0 ∧
      e.get TMG_STAT_gecko = 0) := by
  have hs := frameBegin_started hclean (fun _ => true) 0 true
  obtain ⟨hkind, hport, hfresh, hreplay, hgecko⟩ := h.started hs
  exact ⟨_, exec_throughFrameStart_waiting hm hw, hs.active, hkind, hs.vsp, hs.wait, hs.lines, hport, hfresh,
    hs.shownPath, hs.shownLagged, hs.shownLag,
    hreplay, hgecko⟩

/-- An input frame start in the cycle of the late limit wins, and is noted (R146). -/
theorem lateLimit_tie_yields {s : State} (hm : s.toDevice.mayStart = true) (hw : s.ras.wait ≠ .no) :
    Yields (.lateLimit true) s (fun e => s.toDevice.sets e [(TMG_LATE_frame, 1), (TMG_IRQ_late, 1)]) := by
  refine ⟨_, exec_lateLimit_tie hm hw, sets_of_reverse ?_⟩
  exact sets_cons_put (sets_cons_put (sets_nil _) (by decide) (by decide) rfl (by simp)) (by decide) (by decide) rfl
    (by simp [Fld.apart])

/-- The late limit repeats the last frame: no port's input is driven (R145). -/
theorem lateLimit_repeat_yields {s : State} (hm : s.toDevice.mayStart = true) (hw : s.ras.wait = .input) (hclean : s.toDevice.fsClean) :
    Yields (.lateLimit false) s (fun e => e.ras.active = true ∧ e.ras.wait = .no ∧ (∀ p, e.ras.ports.getD p .replay ≠ .input) ∧
      e.get TMG_FRC_EVT_repeats = Nat.min (s.toDevice.get TMG_FRC_EVT_repeats + 1) 0xFFFF) := by
  have hcounted : (s.toDevice.bump TMG_FRC_EVT_repeats).fsClean := hclean.of_regsAlone ((regsAlone_refl s.toDevice).put _ _)
  have hs := frameBegin_started hcounted (fun _ => false) 0 false
  refine ⟨_, exec_lateLimit_input hm hw, hs.active, hs.wait, fun p hin => ?_, ?_⟩
  · replace hin : ((s.toDevice.bump TMG_FRC_EVT_repeats).startPorts (fun _ => false)).getD p .replay = .input := hs.ports ▸ hin
    by_cases hp : p < 5
    · rw [startPorts_getD _ _ hp] at hin
      obtain ⟨-, -, -, -, htake⟩ := portPlan_eq_input.mp hin
      cases htake
    · rw [List.getD_eq_default _ _ (by simpa [Device.startPorts] using hp)] at hin
      cases hin
  · exact (hs.counts _ (by simp [startCounts])).trans (s.toDevice.get_bump_same 1 (by decide) (by decide))

/-- A local raster starts its own frame, of the kind of its mode (R142, R147, R157). -/
theorem localFrameStart_yields {s : State} (hm : s.toDevice.mayStart = true)
    (hr : s.toDevice.get TMG_STAT_raster = 1 ∨ s.toDevice.get TMG_STAT_raster = 3) (hw : s.ras.wait = .no) (hstop : s.ras.stop = false)
    (hdis : s.hv.dis = .idle) (hclean : s.toDevice.fsClean) (usable : Fin 16) :
    Yields (.localFrameStart usable) s (fun e => e.ras.active = true ∧ e.ras.lines = 0 ∧ e.get TMG_STAT_lag = 0 ∧ e.get TMG_STAT_path = 1 ∧
      (s.toDevice.mode = 1 → e.ras.kind = if s.toDevice.getF TMG_TEST_en = 1 then .test else .code0) ∧
      (s.toDevice.mode = 3 → e.ras.kind = .gecko ∧ e.get TMG_STAT_gecko = 1) ∧ (s.toDevice.mode = 4 → e.ras.kind = .loupe) ∧
      (s.toDevice.mode = 2 → ∀ p < 4, e.ras.ports.getD p .replay = .input ↔ s.toDevice.layoutPorts.contains p = true ∧
        s.toDevice.get (DPRX_STAT_valid p) = 1 ∧ (s.toDevice.portX p).fresh = true ∧ usable.val.testBit p = true)) := by
  have hs := frameBegin_started hclean (fun p => usable.val.testBit p) 0 false
  refine ⟨_, exec_localFrameStart hm hr hw usable, hs.active, hs.lines, hs.shownLag,
    hs.shownPath, fun hmode => ?_, fun hmode => ?_, fun hmode => ?_, fun _ p hp => ?_⟩
  · rw [hs.kind, Device.startKind]
    simp [Device.frameKind, hstop, hdis, hmode]
  · have hk : s.toDevice.startKind (fun p => usable.val.testBit p) = .gecko := by
      simp [Device.startKind, Device.frameKind, hstop, hdis, hmode]
    exact ⟨hs.kind.trans hk, hs.shownGecko.trans (by rw [hk]; rfl)⟩
  · rw [hs.kind, Device.startKind]
    simp [Device.frameKind, hstop, hdis, hmode]
  · have hbit : s.toDevice.get (DPRX_STAT_valid p) < 2 := s.toDevice.get_lt (DPRX_STAT_valid p)
    have hvalid : s.toDevice.get (DPRX_STAT_valid p) ≠ 0 ↔ s.toDevice.get (DPRX_STAT_valid p) = 1 := by omega
    rw [hs.ports, startPorts_getD _ _ (Nat.lt_succ_of_lt hp), portPlan_eq_input, hvalid]
    exact and_iff_right (Nat.ne_of_lt hp)

/-- Once the hold time of a port, or of layout 0, has passed, its fill begins (R151). -/
theorem noinHoldExpire_yields {n : Fin 5} {s : State} (hc : s.power.coreOn = true) (hmode : s.toDevice.mode = 2)
    (hlacks : if n.val = 4 then s.toDevice.layoutNow = 0
      else s.toDevice.layoutPorts.contains n.val = true ∧ s.toDevice.get (DPRX_STAT_valid n) = 0)
    (hheld : s.toDevice.getF TMG_NOIN_frames ≤ Sparse.get (fun _ => 0) s.ras.noin n) :
    Yields (.noinHoldExpire n) s (fun e =>
      (∀ k, Sparse.get (fun _ => 0) e.ras.noin k = if k = n.val then 256 else Sparse.get (fun _ => 0) s.ras.noin k) ∧
      e = { s.toDevice with ras := { s.ras with noin := e.ras.noin } }) :=
  ⟨_, exec_noinHoldExpire hc hmode hlacks hheld, fun k => Sparse.get_set _ _ _ k 256, rfl⟩

/-- Settles O46: each clause is what its command answers. -/
theorem framesStart : Obligations.FramesStart := by
  refine ⟨?_, ?_, ?_, ?_, ?_⟩
  · intro lag late s hm hr
    refine ⟨fun hv => ?_, fun hv hl => ⟨fun hf => ?_, fun hf => ?_, ?_⟩⟩
    · exact ⟨_, exec_frameStartDecision_invalid hm hr hv lag late, holdover_sets hr⟩
    · exact exec_frameStartDecision_notNew hm hr hv hl hf lag
    · exact exec_frameStartDecision_through hm hr hv hl hf late
    · intro hf h0 hmax hlag hp hmode hstop hdis hue hce
      exact laggedFrame_yields hm hr ⟨hmode, hstop, hdis, hp, hl, hv, hf⟩ ⟨hue, hce⟩ h0 hmax hlag late
  · intro p s hm hw hmode hstop hdis hl hv hf hue hce
    exact throughFrameStart_yields hm hw ⟨hmode, hstop, hdis, p.isLt, hl, hv, hf⟩ ⟨hue, hce⟩
  · intro s hm hw
    exact ⟨lateLimit_tie_yields hm hw, fun hin hue hce => lateLimit_repeat_yields hm hin ⟨hue, hce⟩⟩
  · intro usable s hm hr hw hstop hdis hue hce
    exact localFrameStart_yields hm hr hw hstop hdis ⟨hue, hce⟩ usable
  · intro n s hc hmode hlacks hheld
    exact noinHoldExpire_yields hc hmode hlacks hheld

end Sys2Proof.Machine

namespace Sys2Proof.Machine

/-! # What a raised fault leaves to the layers

A tail drop raises a fault (R184), and a fault may recover, escalate or enter NEWT. None of that touches the layers' own
state or a register of the LAY block, which lies at offsets 0x60000 to 0x60FFF. -/

/-- The layers' own state, and the registers of the LAY block by their place in it. -/
structure LayView where
  lay : Layers
  regs : Nat → Nat

/-- What the device shows of its layers. -/
def Device.layView (d : Device) : LayView := ⟨d.lay, fun k => d.rd (0x60000 + k % 0x1000)⟩

/-- A field of the LAY block, read from the view. -/
theorem get_of_layView {d e : Device} (h : e.layView.regs = d.layView.regs) {f : Fld} (hlo : 0x60000 ≤ f.off) (hhi : f.off < 0x61000) :
    e.get f = d.get f := by
  have hoff : 0x60000 + (f.off - 0x60000) % 0x1000 = f.off := by omega
  have hrd : d.rd f.off = e.rd f.off := hoff ▸ (congrFun h (f.off - 0x60000)).symm
  rw [Device.get, Device.get, hrd]

/-! ## Updates -/

@[simp] theorem layView_ite (c : Prop) [Decidable c] (a b : Device) :
    (if c then a else b).layView = if c then a.layView else b.layView := apply_ite _ _ _ _

/-- A record update of the device that takes its registers and its layers' state from devices at hand. -/
@[simp] theorem layView_mk (d e : Device) (force bank rdata : Sparse Word) (us free : Nat) (bridge : Bridge)
    (power : Power) (boot : Boot) (trans : Option Trans) (loupeFrom : Nat) (hv : Hv) (seg : Glass) (flt : Faults)
    (mem : Mem) (keep : Keep) (link : Link) (act mir : PrismSet) (swap : Swap) (srv : Survey) (ras : Raster)
    (img : Img) (dprx : Sparse PortX) (tap : Tap) (trn : Trn) (cmp : Cmp) (claims : List RunClaim)
    (mbx : Mbx) (ik : Ikiush) (hif : Hif) (clk : Clk) :
    (Device.mk d.regs force bank rdata us free bridge power boot trans loupeFrom hv seg flt mem keep link act mir
      swap srv ras img dprx tap e.lay trn cmp claims mbx ik hif clk).layView = ⟨e.layView.lay, d.layView.regs⟩ := (rfl)

@[simp] theorem layView_eta (v : LayView) : (⟨v.lay, v.regs⟩ : LayView) = v := (rfl)

/-- A register write outside the LAY block. -/
@[simp] theorem wr_layView (d : Device) {off : Nat} (v : Nat) (h : off < 0x60000 ∨ 0x61000 ≤ off) :
    (d.wr off v).layView = d.layView := by
  simp only [Device.layView, Device.wr_lay, LayView.mk.injEq, true_and]
  funext k
  exact d.rd_wr_ne v (by omega)

@[simp] theorem put_layView (d : Device) {f : Fld} (v : Nat) (h : f.off < 0x60000 ∨ 0x61000 ≤ f.off) :
    (d.put f v).layView = d.layView :=
  wr_layView d _ h

@[simp] theorem bump_layView (d : Device) {f : Fld} (n : Nat) (h : f.off < 0x60000 ∨ 0x61000 ≤ f.off) :
    (d.bump f n).layView = d.layView :=
  wr_layView d _ h

@[simp] theorem wrF_layView (d : Device) (off v : Nat) : (d.wrF off v).layView = d.layView := (rfl)

@[simp] theorem wrB_layView (d : Device) (m off v : Nat) : (d.wrB m off v).layView = d.layView := (rfl)

/-- An operation that keeps the view keeps it over a list. -/
@[simp] theorem eachOf_layView {α : Type} (l : List α) (f : α → Device → Device) (d : Device)
    (h : ∀ a d, (f a d).layView = d.layView) : (eachOf l f d).layView = d.layView := by
  induction l generalizing d with
  | nil => rfl
  | cons a l ih => exact (ih (f a d)).trans (h a d)

/-- The same for a fold. -/
@[simp] theorem foldl_layView {α : Type} (l : List α) (f : Device → α → Device) (d : Device)
    (h : ∀ d a, (f d a).layView = d.layView) : (l.foldl f d).layView = d.layView :=
  eachOf_layView l (fun a d => f d a) d fun a d => h d a

/-- The instances of a register whose first lies above the LAY block lie above it. -/
@[simp] theorem layEnd_le_add (b n : Nat) (h : 0x61000 ≤ b) : 0x61000 ≤ b + n := Nat.le_add_right_of_le h

/-! ## Operations

In the order of the model's files. Where an operation writes registers, `decide` compares their offsets with the block. -/

@[simp] theorem kSync_layView (d : Device) : d.kSync.layView = d.layView := by
  simp +decide [Device.kSync]

@[simp] theorem kDirty_layView (d : Device) (page : Nat) : (d.kDirty page).layView = d.layView := by
  simp [Device.kDirty]

@[simp] theorem kWr_layView (d : Device) (a : Nat) (bs : List Nat) : (d.kWr a bs).layView = d.layView := by
  simp [Device.kWr]

@[simp] theorem ctrEnqueue_layView (d : Device) (u : CtrUpdate) : (d.ctrEnqueue u).layView = d.layView := by
  unfold Device.ctrEnqueue
  split <;> simp

@[simp] theorem ctrAdd_layView (d : Device) (index amount : Nat) : (d.ctrAdd index amount).layView = d.layView := by
  simp [Device.ctrAdd]

@[simp] theorem logAppend_layView (d : Device) (body : List Nat) : (d.logAppend body).layView = d.layView := by
  simp +decide [Device.logAppend]

@[simp] theorem logEntry_layView (d : Device) (code inst kind sev : Nat) (data : List Nat) :
    (d.logEntry code inst kind sev data).layView = d.layView := by
  simp [Device.logEntry]

@[simp] theorem setLane_layView (d : Device) (n : Nat) (x : LaneX) : (d.setLane n x).layView = d.layView := (rfl)

@[simp] theorem setRet_layView (d : Device) (m : Nat) (x : RetX) : (d.setRet m x).layView = d.layView := (rfl)

@[simp] theorem sendCtl_layView (d : Device) (n target op : Nat) (data : List Nat) (integrator : Bool) :
    (d.sendCtl n target op data integrator).layView = d.layView := (rfl)

@[simp] theorem broadcastCtl_layView (d : Device) (op : Nat) (data : List Nat) :
    (d.broadcastCtl op data).layView = d.layView := by
  simp [Device.broadcastCtl]

@[simp] theorem moveToSpare_layView (d : Device) (s k : Nat) : (d.moveToSpare s k).layView = d.layView := by
  simp +decide [Device.moveToSpare]

@[simp] theorem laneFail_layView (d : Device) (n err : Nat) : (d.laneFail n err).layView = d.layView := by
  unfold Device.laneFail
  dsimp only
  split <;> simp +decide

@[simp] theorem silence_layView (d : Device) (m : Nat) (byCmd : Bool) : (d.silence m byCmd).layView = d.layView := by
  unfold Device.silence
  extract_lets granted e x
  have he : e.layView = d.layView := eachOf_layView _ _ _ fun j d => by split <;> simp
  simp [he]

@[simp] theorem senseCut_layView (d : Device) : d.senseCut.layView = d.layView := by
  simp +decide [Device.senseCut]

@[simp] theorem disOpen_layView (d : Device) : d.disOpen.layView = d.layView := by
  simp [Device.disOpen]

@[simp] theorem disStart_layView (d : Device) (bridge : Bool) : (d.disStart bridge).layView = d.layView := by
  unfold Device.disStart
  repeat' split
  all_goals simp +decide

@[simp] theorem segCode_layView (d : Device) (kind code : Nat) : (d.segCode kind code).layView = d.layView := by
  simp +decide [Device.segCode]

@[simp] theorem grow_layView (d : Device) (c n : Nat) : (d.grow c n).layView = d.layView := (rfl)

@[simp] theorem spoil_layView (d : Device) (c : Nat) : (d.spoil c).layView = d.layView := (rfl)

@[simp] theorem fltLog_layView (d : Device) (f : Flt) (entry lat otherCode otherInst detail : Nat) :
    (d.fltLog f entry lat otherCode otherInst detail).layView = d.layView := by
  simp [Device.fltLog]

@[simp] theorem degrSync_layView (d : Device) : d.degrSync.layView = d.layView := by
  simp +decide [Device.degrSync]

@[simp] theorem fltSync_layView (d : Device) : d.fltSync.layView = d.layView := by
  unfold Device.fltSync
  dsimp only
  repeat' split
  all_goals simp +decide

@[simp] theorem fltOpen_layView (d : Device) (r : Option Recovery) : (d.fltOpen r).layView = d.layView := by
  simp [Device.fltOpen]

@[simp] theorem contain_layView (d : Device) (f : Flt) : (d.contain f).layView = d.layView := by
  unfold Device.contain
  repeat' split
  all_goals simp

@[simp] theorem containS2_layView (d : Device) (f : Flt) : (d.containS2 f).layView = d.layView := by
  unfold Device.containS2
  repeat' split
  all_goals simp

@[simp] theorem planesExchange_layView (d : Device) : d.planesExchange.layView = d.layView := by
  simp +decide [Device.planesExchange]

@[simp] theorem rampEnd_layView (d : Device) : d.rampEnd.layView = d.layView := by
  simp [Device.rampEnd]

@[simp] theorem surveyAbandon_layView (d : Device) : d.surveyAbandon.layView = d.layView := by
  simp +decide [Device.surveyAbandon]

@[simp] theorem swapDiscard_layView (d : Device) : d.swapDiscard.layView = d.layView := by
  simp +decide [Device.swapDiscard]

@[simp] theorem leaveTadpole_layView (d : Device) : d.leaveTadpole.layView = d.layView := by
  simp +decide [Device.leaveTadpole]

@[simp] theorem setMode_layView (d : Device) (mode cause : Nat) : (d.setMode mode cause).layView = d.layView := by
  simp +decide [Device.setMode]

@[simp] theorem newtHold_layView (d : Device) : d.newtHold.layView = d.layView := by
  simp +decide [Device.newtHold]

@[simp] theorem newtAfterDis_layView (d : Device) : d.newtAfterDis.layView = d.layView := by
  simp +decide [Device.newtAfterDis]

@[simp] theorem recoveryDone_layView (d : Device) (late : Bool) : (d.recoveryDone late).layView = d.layView := by
  unfold Device.recoveryDone
  dsimp only
  repeat' split
  all_goals simp +decide

@[simp] theorem newtEntry_layView (d : Device) (f : Flt) (code : Nat) : (d.newtEntry f code).layView = d.layView := by
  simp +decide [Device.newtEntry]

@[simp] theorem attemptFail_layView (d : Device) (err : Nat) : (d.attemptFail err).layView = d.layView := by
  simp +decide [Device.attemptFail]

@[simp] theorem fltRecord_layView (d : Device) (f : Flt) (detail : Nat) :
    (d.fltRecord f detail).layView = d.layView := by
  simp +decide [Device.fltRecord]

@[simp] theorem escalated_layView (d : Device) (f : Flt) (other : Flt) (ctr : Nat) :
    (d.escalated f other ctr).layView = d.layView := by
  simp +decide [Device.escalated]

@[simp] theorem fltRecover_layView (d : Device) (f : Flt) : (d.fltRecover f).layView = d.layView := by
  unfold Device.fltRecover
  split <;> simp

@[simp] theorem raise_layView (d : Device) (f : Flt) (detail : Nat) : (d.raise f detail).layView = d.layView := by
  unfold Device.raise
  dsimp only
  repeat' split
  all_goals simp +decide

@[simp] theorem raiseCode_layView (d : Device) (code inst obj detail : Nat) :
    (d.raiseCode code inst obj detail).layView = d.layView := by
  simp [Device.raiseCode]

@[simp] theorem winSkip_layView (d : Device) (taps : Nat) (rs : List Rect) : (d.winSkip taps rs).layView = d.layView := by
  obtain ⟨w, hw⟩ := winSkip_eq d taps rs
  rw [hw]
  rfl

end Sys2Proof.Machine

namespace Sys2Proof.Machine

/-! # Bits written one at a time -/

theorem setBits_one (n i : Nat) : setBits n i i 1 = onBit n i := by
  refine Nat.eq_of_testBit_eq fun j => ?_
  rw [testBit_setBits (Nat.le_refl i), onBit, Nat.testBit_or, Nat.testBit_two_pow]
  rcases Nat.lt_trichotomy j i with h | rfl | h
  · simp [h, Nat.ne_of_gt h]
  · simp
  · simp [Nat.not_lt_of_gt h, Nat.not_le_of_gt h, Nat.ne_of_lt h]

theorem setBits_zero (n i : Nat) : setBits n i i 0 = offBit n i := by
  have hn : 2 ^ i * (n / 2 ^ i) + n % 2 ^ i = n := Nat.div_add_mod n (2 ^ i)
  have hs : setBits n i i 0 = 2 ^ i * (2 * (n / 2 ^ i / 2)) + n % 2 ^ i := by
    rw [setBits, Nat.div_div_eq_div_mul, ← Nat.pow_succ, Nat.zero_mod, Nat.zero_mul, Nat.add_zero, ← Nat.mul_assoc, ← Nat.pow_succ,
      Nat.mul_comm]
  rw [hs, offBit, Nat.testBit_eq_decide_div_mod_eq]
  by_cases hbit : n / 2 ^ i % 2 = 1
  · have hq : n / 2 ^ i = 2 * (n / 2 ^ i / 2) + 1 := by omega
    rw [if_pos (decide_eq_true hbit)]
    rw [hq, Nat.mul_succ] at hn
    omega
  · have hq : 2 * (n / 2 ^ i / 2) = n / 2 ^ i := by omega
    rw [if_neg (by simpa using hbit), hq, hn]

theorem testBit_offBit_same (n i : Nat) : (offBit n i).testBit i = false := by
  rw [← setBits_zero, testBit_setBits (Nat.le_refl i)]
  simp

theorem offBit_lt {n i b : Nat} (h : n < b) : offBit n i < b := by
  rw [offBit]
  split
  · exact Nat.lt_of_le_of_lt (Nat.sub_le n _) h
  · exact h

/-- Setting one bit of a register. -/
theorem wr_onBit {e : Device} {off n : Nat} (h : e.rd off = n) (i : Nat) : e.wr off (onBit n i) = e.put ⟨off, i, i⟩ 1 := by
  rw [Device.put, h, setBits_one]

/-- Clearing one bit of a register. -/
theorem wr_offBit {e : Device} {off n : Nat} (h : e.rd off = n) (i : Nat) : e.wr off (offBit n i) = e.put ⟨off, i, i⟩ 0 := by
  rw [Device.put, h, setBits_zero]

/-- A doorbell of masters 0 to 9 rings as one bit of the master's register (R461). -/
theorem ring_eq_put (d : Device) {m : Nat} (b : Nat) (h : m < 10) : d.ring m b = d.put ⟨MBX_DB_STAT m, b, b⟩ 1 := by
  rw [Device.ring, if_pos h, wr_onBit rfl]

/-- A bit set in a register of its own, last update first. -/
theorem sets_cons_bit {b e : Device} {off i v : Nat} {l : List (Fld × Nat)} (hs : b.sets e l) (hi : i < 32) (hv : v < 2)
    (ha : ∀ p ∈ l, p.1.off ≠ off) : b.sets (e.put ⟨off, i, i⟩ v) ((⟨off, i, i⟩, v) :: l) := by
  refine sets_cons_put hs (Nat.le_refl i) hi (Nat.mod_eq_of_lt ?_) fun p hp => .inl (ha p hp)
  rwa [Nat.add_sub_cancel_left]

/-! # Banked registers -/

/-- A write of a banked register sets its master's copy alone. -/
theorem wrB_setsBank (d : Device) (m : Master) {off v : Nat} (hv : v < 2 ^ 32) : d.setsBank (d.wrB m off v) m off v := by
  refine ⟨(d.rdB_wrB_same m off v).trans (Nat.mod_eq_of_lt hv), fun k o hne => d.rdB_wrB_ne v ?_, rfl⟩
  rw [← Fin.val_ne_iff] at hne
  omega

end Sys2Proof.Machine

namespace Sys2Proof.Machine

/-! # Writes of registers and of banked registers -/

/-- From `d` to `e`, nothing changes beside registers and banked registers. -/
def Device.regsAndBank (d e : Device) : Prop := ∃ r b, e = { d with regs := r, bank := b }

theorem regsAndBank_refl (d : Device) : d.regsAndBank d := ⟨d.regs, d.bank, rfl⟩

theorem Device.regsAndBank.wr {d e : Device} (h : d.regsAndBank e) (off v : Nat) : d.regsAndBank (e.wr off v) := by
  obtain ⟨r, b, rfl⟩ := h
  exact ⟨_, _, rfl⟩

theorem Device.regsAndBank.wrB {d e : Device} (h : d.regsAndBank e) (m off v : Nat) : d.regsAndBank (e.wrB m off v) := by
  obtain ⟨r, b, rfl⟩ := h
  exact ⟨_, _, rfl⟩

theorem Device.regsAndBank.eq {d e : Device} (h : d.regsAndBank e) : e = { d with regs := e.regs, bank := e.bank } := by
  obtain ⟨r, b, rfl⟩ := h
  rfl

/-! # The layer pool (R176 to R178) -/

/-- A LAY_BUF_CMD of a master that may give it, with every check passed, is carried out. -/
theorem bufCmd_pass {d : Device} {m : Nat} {checks : List (Bool × Nat)} {f : Device → Device} (hc : d.power.coreOn = true)
    (hm : among m mSide = true) (h : ∀ c ∈ checks, c.1 = false) : d.bufCmd m checks f = f d := by
  have hnone : checks.find? (fun c => c.1) = none := List.find?_eq_none.mpr fun c hmem => by simp [h c hmem]
  simp [Device.bufCmd, hc, hm, hnone]

theorem poolSync_rd (d : Device) {o : Nat} (h : o ≠ LAY_POOL_STAT) : d.poolSync.rd o = d.rd o := d.rd_wr_ne _ h

theorem poolSync_rdB (d : Device) (m o : Nat) : d.poolSync.rdB m o = d.rdB m o := rfl

theorem Device.regsAndBank.poolSync {d e : Device} (h : d.regsAndBank e) : d.regsAndBank e.poolSync := h.wr _ _

theorem bufInfo_ne_poolStat (h : Nat) : LAY_BUF_INFO h ≠ LAY_POOL_STAT := by
  unfold LAY_BUF_INFO LAY_POOL_STAT
  omega

/-- The word of LAY_BUF_INFO for `n` granules from granule `g` on, allocated to master `m`. -/
def bufWord (m n g : Nat) : Nat := 0x80000000 + m * 0x1000000 + g * 0x400 + n

theorem bufWord_lt {m : Master} {n g : Nat} (hn : n ≤ 544) (hg : g < 16384) : bufWord m n g < 2 ^ 32 := by
  unfold bufWord
  omega

/-- The device after buffer `h` is allocated (R177). -/
def Device.bufTaken (d : Device) (m n h g : Nat) : Device :=
  (((d.wr (LAY_BUF_INFO h) (bufWord m n g)).wrB m LAY_BUF_RES (0x80 + h)).wrB m LAY_BUF_ADDR (d.rgnBase 9 + g * 65536)).poolSync

/-- The device after buffer `h` is freed (R178). -/
def Device.bufFreed (d : Device) (m h : Nat) : Device := ((d.wr (LAY_BUF_INFO h) 0).bufResult m 0).poolSync

/-- An allocation changes nothing beside registers and banked registers. -/
theorem bufTaken_eq (d : Device) (m n h g : Nat) :
    d.bufTaken m n h g = { d with regs := (d.bufTaken m n h g).regs, bank := (d.bufTaken m n h g).bank } :=
  ((((regsAndBank_refl d).wr _ _).wrB _ _ _).wrB _ _ _).poolSync.eq

theorem exec_layerAllocate {m : Master} {n h g : Nat} {s : State} (hc : s.power.coreOn = true) (hm : among m mSide = true)
    (hi : s.toDevice.get MEM_FS_STAT_init = 1) (h0 : 0 < n) (hn : n ≤ 544)
    (hfree : (List.range 64).find? (fun h => s.toDevice.get (LAY_BUF_INFO_alloc h) = 0) = some h)
    (hrun : s.toDevice.poolRun n = some g) :
    exec (.layerAllocate m n) s = .next { s with toDevice := s.toDevice.bufTaken m n h g } := by
  show execLayerAllocate m n s = _
  have h64 : h < 64 := List.mem_range.mp (List.mem_of_find?_eq_some hfree)
  have hbase : (s.toDevice.wr (LAY_BUF_INFO h) (bufWord m n g)).rgnBase 9 = s.toDevice.rgnBase 9 :=
    s.toDevice.rd_wr_ne _ (by unfold MEM_RGN_BASE LAY_BUF_INFO; omega)
  rw [execLayerAllocate, run_next, Nat.mod_eq_of_lt (by omega), Device.bufAlloc, bufCmd_pass hc hm, hfree, hrun, Device.bufTaken, ← hbase]
  · rfl
  · simp [hi, hfree, hrun, Nat.ne_of_gt h0, hn]

theorem exec_layerFree {m : Master} {h : Fin 64} {s : State} (hc : s.power.coreOn = true) (hm : among m mSide = true)
    (ha : s.toDevice.get (LAY_BUF_INFO_alloc h) = 1) (ho : m.val = 0 ∨ s.toDevice.get (LAY_BUF_INFO_master h) = m)
    (href : (s.toDevice.rd (LAY_BUF_REF (h / 32))).testBit (h % 32) = false) :
    exec (.layerFree m h) s = .next { s with toDevice := s.toDevice.bufFreed m h } := by
  show execLayerFree m h s = _
  rw [execLayerFree, run_next, Device.bufFree, bufCmd_pass hc hm]
  · rfl
  · rcases ho with ho | ho <;> simp [ha, href, ho]

/-- An allocation shows in LAY_BUF_INFO and LAY_POOL_STAT and answers its master (R177). -/
theorem layerAllocate_yields {m : Master} {n h g : Nat} {s : State} (hc : s.power.coreOn = true) (hm : among m mSide = true)
    (hi : s.toDevice.get MEM_FS_STAT_init = 1) (h0 : 0 < n) (hn : n ≤ 544)
    (hfree : (List.range 64).find? (fun h => s.toDevice.get (LAY_BUF_INFO_alloc h) = 0) = some h)
    (hrun : s.toDevice.poolRun n = some g) (hg : g < 16384) :
    Yields (.layerAllocate m n) s (fun e => e.rd (LAY_BUF_INFO h) = bufWord m n g ∧
      e.rdB m LAY_BUF_RES = 0x80 + h ∧ e.rdB m LAY_BUF_ADDR = (s.toDevice.rgnBase 9 + g * 65536) % 2 ^ 32 ∧
      (∀ o, o ≠ LAY_BUF_INFO h → o ≠ LAY_POOL_STAT → e.rd o = s.toDevice.rd o) ∧
      e = { s.toDevice with regs := e.regs, bank := e.bank }) := by
  have h64 : h < 64 := List.mem_range.mp (List.mem_of_find?_eq_some hfree)
  refine ⟨_, exec_layerAllocate hc hm hi h0 hn hfree hrun, ?_, ?_, ?_, fun o hinfo hpool => ?_, bufTaken_eq _ _ _ _ _⟩
  · rw [Device.bufTaken, poolSync_rd _ (bufInfo_ne_poolStat h), Device.rd_wrB, Device.rd_wrB, Device.rd_wr_same,
      Nat.mod_eq_of_lt (bufWord_lt hn hg)]
  · rw [Device.bufTaken, poolSync_rdB, Device.rdB_wrB_ne _ _ (by unfold LAY_BUF_RES LAY_BUF_ADDR; omega), Device.rdB_wrB_same,
      Nat.mod_eq_of_lt (by omega)]
  · rw [Device.bufTaken, poolSync_rdB, Device.rdB_wrB_same]
  · rw [Device.bufTaken, poolSync_rd _ hpool, Device.rd_wrB, Device.rd_wrB, Device.rd_wr_ne _ _ hinfo]

/-- A freed buffer leaves LAY_BUF_INFO, and its master is answered (R178). -/
theorem layerFree_yields {m : Master} {h : Fin 64} {s : State} (hc : s.power.coreOn = true) (hm : among m mSide = true)
    (ha : s.toDevice.get (LAY_BUF_INFO_alloc h) = 1) (ho : m.val = 0 ∨ s.toDevice.get (LAY_BUF_INFO_master h) = m)
    (href : (s.toDevice.rd (LAY_BUF_REF (h / 32))).testBit (h % 32) = false) :
    Yields (.layerFree m h) s (fun e => e.rd (LAY_BUF_INFO h) = 0 ∧ e.rdB m LAY_BUF_RES = 0 ∧
      (∀ o, o ≠ LAY_BUF_INFO h → o ≠ LAY_POOL_STAT → e.rd o = s.toDevice.rd o) ∧
      e = { s.toDevice with regs := e.regs, bank := e.bank }) := by
  refine ⟨_, exec_layerFree hc hm ha ho href, ?_, ?_, fun o hinfo hpool => ?_, (((regsAndBank_refl _).wr _ _).wrB _ _ _).poolSync.eq⟩
  · rw [Device.bufFreed, poolSync_rd _ (bufInfo_ne_poolStat h), Device.bufResult, Device.rd_wrB, Device.rd_wr_same, Nat.zero_mod]
  · rw [Device.bufFreed, poolSync_rdB, Device.bufResult, Device.rdB_wrB_same]
    rfl
  · rw [Device.bufFreed, poolSync_rd _ hpool, Device.bufResult, Device.rd_wrB, Device.rd_wr_ne _ _ hinfo]

/-! # Release (R179) -/

theorem releaseRegs_ne {k : Nat} (hk : k < 2) (n : Nat) : LAY_BUF_REF k ≠ LAY_IRQ ∧
    LAY_REL_PEND k ≠ LAY_IRQ ∧ LAY_BUF_REF k ≠ MBX_DB_STAT n ∧ LAY_REL_PEND k ≠ MBX_DB_STAT n ∧ LAY_IRQ ≠ MBX_DB_STAT n := by
  unfold LAY_BUF_REF LAY_REL_PEND LAY_IRQ MBX_DB_STAT
  omega

/-- The device after scan-out reports that it has left buffer `h`. -/
def Device.bufReleased (d : Device) (h : Nat) : Device :=
  (((d.put ⟨LAY_BUF_REF (h / 32), h % 32, h % 32⟩ 0).put ⟨LAY_REL_PEND (h / 32), h % 32, h % 32⟩ 1).put LAY_IRQ_rel 1).put
    ⟨MBX_DB_STAT (d.get (LAY_BUF_INFO_master h)), d.get LAY_CFG_rel_db, d.get LAY_CFG_rel_db⟩ 1

theorem exec_layerBufferRelease {h : Fin 64} {s : State} (hu : s.toDevice.bufUsed h = false)
    (href : (s.toDevice.rd (LAY_BUF_REF (h / 32))).testBit (h % 32) = true) (hm : s.toDevice.get (LAY_BUF_INFO_master h) < 10) :
    exec (.layerBufferRelease h) s = .next { s with toDevice := s.toDevice.bufReleased h } := by
  show execLayerBufferRelease h s = _
  have hpend : LAY_REL_PEND (h / 32) ≠ LAY_BUF_REF (h / 32) := by unfold LAY_REL_PEND LAY_BUF_REF; omega
  obtain ⟨hinfo, hinfo', hcfg, hcfg'⟩ : LAY_BUF_INFO h ≠ LAY_REL_PEND (h / 32) ∧ LAY_BUF_INFO h ≠ LAY_BUF_REF (h / 32) ∧
      LAY_CFG ≠ LAY_REL_PEND (h / 32) ∧ LAY_CFG ≠ LAY_BUF_REF (h / 32) := by
    unfold LAY_BUF_INFO LAY_CFG LAY_REL_PEND LAY_BUF_REF
    omega
  have hkept : ∀ (f : Fld) (v w : Nat), f.off ≠ LAY_REL_PEND (h / 32) → f.off ≠ LAY_BUF_REF (h / 32) →
      ((s.toDevice.put ⟨LAY_BUF_REF (h / 32), h % 32, h % 32⟩ v).put ⟨LAY_REL_PEND (h / 32), h % 32, h % 32⟩ w).get f =
        s.toDevice.get f := fun f v w hpend href => (Device.get_put_ne _ _ hpend).trans (Device.get_put_ne _ _ href)
  rw [execLayerBufferRelease, run_next]
  simp only [hu, href, Bool.not_true, Bool.or_false, Bool.false_eq_true, if_false]
  rw [wr_offBit rfl, wr_onBit (Device.rd_put_ne _ _ hpend), hkept _ _ _ hinfo hinfo', hkept _ _ _ hcfg hcfg',
    ring_eq_put _ _ hm, Device.bufReleased]

/-- A buffer that scan-out has left is reported to its master (R179). -/
theorem layerBufferRelease_yields {h : Fin 64} {s : State} (hu : s.toDevice.bufUsed h = false)
    (href : (s.toDevice.rd (LAY_BUF_REF (h / 32))).testBit (h % 32) = true) (hm : s.toDevice.get (LAY_BUF_INFO_master h) < 10) :
    Yields (.layerBufferRelease h) s (fun e => s.toDevice.sets e
      [(⟨LAY_BUF_REF (h / 32), h % 32, h % 32⟩, 0), (⟨LAY_REL_PEND (h / 32), h % 32, h % 32⟩, 1), (LAY_IRQ_rel, 1),
       (⟨MBX_DB_STAT (s.toDevice.get (LAY_BUF_INFO_master h)), s.toDevice.get LAY_CFG_rel_db, s.toDevice.get LAY_CFG_rel_db⟩, 1)]) := by
  obtain ⟨hirq, hirq', hbell, hbell', hbell''⟩ := releaseRegs_ne (k := h / 32) (by omega) (s.toDevice.get (LAY_BUF_INFO_master h))
  have hj : h.val % 32 < 32 := Nat.mod_lt _ (by decide)
  have hb : s.toDevice.get LAY_CFG_rel_db < 32 := s.toDevice.get_lt LAY_CFG_rel_db
  refine ⟨_, exec_layerBufferRelease hu href hm, sets_of_reverse ?_⟩
  have hcleared := sets_cons_bit (sets_nil s.toDevice) (off := LAY_BUF_REF (h / 32)) hj (v := 0) (by decide) (by simp)
  have hpended := sets_cons_bit hcleared (off := LAY_REL_PEND (h / 32)) hj (v := 1) (by decide) (by simp)
  have hflagged := sets_cons_bit hpended (off := LAY_IRQ) (i := 2) (v := 1) (by decide) (by decide) (by simpa using ⟨hirq', hirq⟩)
  exact sets_cons_bit hflagged hb (by decide) (by simpa using ⟨hbell'', hbell', hbell⟩)

end Sys2Proof.Machine

namespace Sys2Proof.Machine

/-! # Tail drops (R183) -/

/-- The device once layer `i` is dropped in stripe `t` from column `x` on, before the fault is raised. -/
def Device.tailDropped (d : Device) (i t x : Nat) : Device :=
  let e : Device := { d with lay := { d.lay with dropped := onBit d.lay.dropped i, dropAt := some (t, i, x) } }
  (e.bump (LAY_DROP_CNT_cnt i)).put LAY_IRQ_drop 1

/-- What follows a tail drop of layer `i`: the check windows that meet its rectangle `r` skip the frame, the fault is
raised, and at the limit of R184 the layer is disabled and a second fault raised. -/
def Device.dropRaised (d : Device) (i : Nat) (r : Rect) : Device :=
  let e := (d.winSkip 3 [r]).raiseCode 0x38 0 i
  if Sparse.get (fun _ => 0) e.lay.dropRuns i + 1 = e.get LAY_CFG_drop_lim then
    ({ e with lay := { e.lay with disable := onBit e.lay.disable i } }).raiseCode 0x39 0 i
  else e

/-- The view with the layers to disable at the next swap point as given. -/
def LayView.withDisable (v : LayView) (l : Nat) : LayView := ⟨{ v.lay with disable := l }, v.regs⟩

/-- Raising the faults of a drop leaves the layers as they were, but for those to disable, and the LAY block. -/
theorem dropRaised_layView (d : Device) (i : Nat) (r : Rect) :
    ∃ l, (d.dropRaised i r).layView = d.layView.withDisable l := by
  unfold Device.dropRaised
  extract_lets e
  have he : e.layView = d.layView := (raiseCode_layView ..).trans (winSkip_layView ..)
  split
  · exact ⟨onBit e.lay.disable i, (raiseCode_layView ..).trans (congrArg (LayView.withDisable · (onBit e.lay.disable i)) he)⟩
  · exact ⟨d.lay.disable, he⟩

theorem exec_layerUnderrun {i : Fin 16} {t : Lane} {x : Nat} {s : State} (hc : s.power.coreOn = true) (ha : s.ras.active = true)
    (hd : s.lay.dropped.testBit i = false) (he : (s.toDevice.rd LAY_EN).testBit i = true)
    (hb : (s.toDevice.rdF (LAY_SRC i)).testBit 31 = true) :
    exec (.layerUnderrun i t x) s =
      .next { s with toDevice := (s.toDevice.tailDropped i t x).dropRaised i (s.toDevice.clip (s.toDevice.layRect i)) } := by
  show execLayerUnderrun i t x s = _
  simp only [execLayerUnderrun, run_next, hc, ha, hd, he, hb, Bool.not_true, Bool.or_false, Bool.false_eq_true, if_false]
  rfl

/-- A layer that runs dry is dropped for the rest of the frame, and counted (R183). -/
theorem layerUnderrun_yields {i : Fin 16} {t : Lane} {x : Nat} {s : State} (hc : s.power.coreOn = true) (ha : s.ras.active = true)
    (hd : s.lay.dropped.testBit i = false) (he : (s.toDevice.rd LAY_EN).testBit i = true)
    (hb : (s.toDevice.rdF (LAY_SRC i)).testBit 31 = true) :
    Yields (.layerUnderrun i t x) s (fun e => e.lay.dropped = onBit s.lay.dropped i ∧ e.lay.dropAt = some (t.val, i.val, x) ∧
      e.get LAY_IRQ_drop = 1 ∧ e.get (LAY_DROP_CNT_cnt i) = Nat.min (s.toDevice.get (LAY_DROP_CNT_cnt i) + 1) 0xFFFF) := by
  obtain ⟨l, hview⟩ := dropRaised_layView (s.toDevice.tailDropped i t x) i (s.toDevice.clip (s.toDevice.layRect i))
  have hlay := congrArg LayView.lay hview
  have hregs := congrArg LayView.regs hview
  obtain ⟨hlo, hhi, hirq⟩ : 0x60000 ≤ LAY_DROP_CNT i ∧ LAY_DROP_CNT i < 0x61000 ∧ LAY_DROP_CNT i ≠ LAY_IRQ := by
    unfold LAY_DROP_CNT LAY_IRQ
    omega
  refine ⟨_, exec_layerUnderrun hc ha hd he hb, congrArg Layers.dropped hlay, congrArg Layers.dropAt hlay, ?_, ?_⟩
  · rw [get_of_layView hregs (by decide) (by decide), Device.tailDropped, Device.get_put_same _ _ (by decide) (by decide)]
    rfl
  · rw [get_of_layView hregs hlo hhi, Device.tailDropped, Device.get_put_ne _ _ hirq,
      Device.get_bump_same _ _ (by simp) (by simp)]
    rfl

/-! # Pool units (R215) -/

/-- Claiming units one after the other lists them after the claims there are. -/
theorem claimEach_eq (feature cls master : Nat) (l : List Nat) (d : Device) :
    eachOf l (fun i d => d.claim feature cls i master) d =
      { d with claims := d.claims ++ l.map (fun i => { feature := feature, cls := cls, idx := i, master := master }) } := by
  induction l generalizing d with
  | nil => simp [eachOf]
  | cons i l ih =>
    refine (ih (d.claim feature cls i master)).trans ?_
    simp [Device.claim]

theorem exec_poolClaim {m : Master} {val : Nat} {s : State} (hc : s.power.coreOn = true) (hm : among m mIntegrator = true)
    (hheld : (s.toDevice.rdB m FAB_POOL_CLAIM).testBit 31 = false) (hv : val < 2 ^ 32) (hon : val.testBit 31 = true)
    (hr : reservedBad FAB_POOL_CLAIM val = false) (h0 : bitsOf val 25 16 ≠ 0) (hn : bitsOf val 8 0 + bitsOf val 25 16 ≤ 512)
    (hfree : ∀ i < bitsOf val 25 16, s.toDevice.owner 4 (bitsOf val 8 0 + i) = none) :
    exec (.poolClaim m val) s = .next { s with toDevice := { s.toDevice.wrB m FAB_POOL_CLAIM val with
      claims := s.claims ++ (List.range (bitsOf val 25 16)).map (fun i =>
        { feature := 10, cls := 4, idx := bitsOf val 8 0 + i, master := m }) } } := by
  show execPoolClaim m val s = _
  rw [execPoolClaim, run_next, Nat.mod_eq_of_lt hv, onBit_of_testBit hon, Device.poolWrite, Device.guarded_pass hc, if_pos hon,
    claimEach_eq, List.map_map]
  · rfl
  · have hunits : ((List.range (bitsOf val 25 16)).map (fun i => bitsOf val 8 0 + i)).any (fun i => (s.toDevice.owner 4 i).isSome) = false := by
      simpa using hfree
    simp [hm, hheld, hon, hr, h0, hunits, hn]

theorem exec_poolRelease {m : Master} {s : State} (hc : s.power.coreOn = true) (hm : among m mIntegrator = true)
    (hr : reservedBad FAB_POOL_CLAIM (offBit (s.toDevice.rdB m FAB_POOL_CLAIM) 31) = false) :
    exec (.poolRelease m) s = .next { s with toDevice :=
      (s.toDevice.wrB m FAB_POOL_CLAIM (offBit (s.toDevice.rdB m FAB_POOL_CLAIM) 31)).unclaim 10 (fun c => c.master == m.val) } := by
  show execPoolRelease m s = _
  have hoff : (offBit (s.toDevice.rdB m FAB_POOL_CLAIM) 31).testBit 31 = false := testBit_offBit_same _ _
  rw [execPoolRelease, run_next, Device.poolWrite, Device.guarded_pass hc, if_neg (by simp [hoff])]
  simp [hm, hr, hoff]

/-- A claim of free units is granted and listed (R215). -/
theorem poolClaim_yields {m : Master} {val : Nat} {s : State} (hc : s.power.coreOn = true) (hm : among m mIntegrator = true)
    (hheld : (s.toDevice.rdB m FAB_POOL_CLAIM).testBit 31 = false) (hv : val < 2 ^ 32) (hon : val.testBit 31 = true)
    (hr : reservedBad FAB_POOL_CLAIM val = false) (h0 : bitsOf val 25 16 ≠ 0) (hn : bitsOf val 8 0 + bitsOf val 25 16 ≤ 512)
    (hfree : ∀ i < bitsOf val 25 16, s.toDevice.owner 4 (bitsOf val 8 0 + i) = none) :
    Yields (.poolClaim m val) s (fun e => ({ s.toDevice with claims := e.claims }).setsBank e m FAB_POOL_CLAIM val ∧
      e.claims = s.claims ++ (List.range (bitsOf val 25 16)).map (fun i =>
        { feature := 10, cls := 4, idx := bitsOf val 8 0 + i, master := m })) :=
  ⟨_, exec_poolClaim hc hm hheld hv hon hr h0 hn hfree, wrB_setsBank _ m hv, rfl⟩

/-- A release gives back the units of its master alone (R215). -/
theorem poolRelease_yields {m : Master} {s : State} (hc : s.power.coreOn = true) (hm : among m mIntegrator = true)
    (hr : reservedBad FAB_POOL_CLAIM (offBit (s.toDevice.rdB m FAB_POOL_CLAIM) 31) = false) :
    Yields (.poolRelease m) s (fun e =>
      ({ s.toDevice with claims := e.claims }).setsBank e m FAB_POOL_CLAIM (offBit (s.toDevice.rdB m FAB_POOL_CLAIM) 31) ∧
      ∀ c, c ∈ e.claims ↔ c ∈ s.claims ∧ ¬ (c.feature = 10 ∧ c.master = m.val)) := by
  refine ⟨_, exec_poolRelease hc hm hr, wrB_setsBank _ m (offBit_lt (BitVec.isLt _)), fun c => ?_⟩
  simp [Device.unclaim, imp_iff_not_or]

/-- Settles O15: each clause is what its command answers. -/
theorem layerPoolServes : Obligations.LayerPoolServes :=
  ⟨fun _ _ _ _ _ hc hm hi h0 hn hfree hrun hg => layerAllocate_yields hc hm hi h0 hn hfree hrun hg,
   fun _ _ _ hc hm ha ho href => layerFree_yields hc hm ha ho href,
   fun _ _ hu href hm => layerBufferRelease_yields hu href hm,
   fun _ _ _ _ hc ha hd he hb => layerUnderrun_yields hc ha hd he hb,
   fun _ _ _ hc hm hheld hv hon hr h0 hn hfree => poolClaim_yields hc hm hheld hv hon hr h0 hn hfree,
   fun _ _ hc hm hr => poolRelease_yields hc hm hr⟩

end Sys2Proof.Machine

namespace Sys2Proof.Machine

/-! # Faults contained at once

A fault that opens no recovery is recorded, and nothing else happens (R501, R513). -/

theorem grow_get (d : Device) (c n : Nat) (g : Fld) : (d.grow c n).get g = d.get g := (rfl)

theorem spoil_get (d : Device) (c : Nat) (g : Fld) : (d.spoil c).get g = d.get g := (rfl)

/-- A log entry touches no register outside Keep's block. -/
theorem logAppend_get (d : Device) (body : List Nat) {g : Fld} (h : g.off < KEEP_STAT ∨ KEEP_LOG_SEQ < g.off) :
    (d.logAppend body).get g = d.get g := by
  have hstat : g.off ≠ KEEP_STAT := by unfold KEEP_STAT KEEP_LOG_SEQ at *; omega
  have hhead : g.off ≠ KEEP_LOG_HEAD := by unfold KEEP_STAT KEEP_LOG_SEQ KEEP_LOG_HEAD at *; omega
  have hseq : g.off ≠ KEEP_LOG_SEQ := by unfold KEEP_STAT KEEP_LOG_SEQ at *; omega
  unfold Device.logAppend
  split
  · rfl
  · dsimp only
    rw [Device.get_wr_ne _ _ hseq, Device.get_put_ne _ _ hhead]
    obtain ⟨-, -, hget, -⟩ := kWr_keepBytes d (logAddr (d.get KEEP_LOG_HEAD_head)) _
    exact hget g (.inl hstat)

/-- Beside FLT_LAST, a recorded fault touches its counts, its interrupts and the log alone. -/
theorem fltRecord_get (d : Device) (f : Flt) (detail : Nat) {g : Fld} (hk : g.off < KEEP_STAT ∨ KEEP_LOG_SEQ < g.off)
    (hevt : g.off ≠ FLT_EVT) (hirq : g.off ≠ FLT_IRQ) (hhv : g.off ≠ FLT_HV_LAST) :
    (d.fltRecord f detail).get g = (d.wr FLT_LAST (fltWord f)).get g := by
  have hcount (x : Device) (e i : Fld) (he : e.off = FLT_EVT) (hi : i.off = FLT_IRQ) : ((x.bump e).put i 1).get g = x.get g := by
    rw [Device.get_put_ne _ _ (hi ▸ hirq), Device.get_bump_ne _ _ (he ▸ hevt)]
  unfold Device.fltRecord
  extract_lets d1 d2 d3 d4 d5
  have h2 : d2.get g = d1.get g := by
    unfold d2
    split
    · exact hcount d1 FLT_EVT_s1 FLT_IRQ_s1 rfl rfl
    · split
      · exact hcount d1 FLT_EVT_s2 FLT_IRQ_s2 rfl rfl
      · exact hcount d1 FLT_EVT_s3 FLT_IRQ_s3 rfl rfl
  have h3 : d3.get g = d2.get g := (grow_get _ _ _ g).trans (grow_get _ _ _ g)
  have h4 : d4.get g = d3.get g := by
    unfold d4
    split
    · exact spoil_get d3 4 g
    · rfl
  have h5 : d5.get g = d4.get g := by
    unfold d5
    split
    · exact Device.get_wr_ne _ _ hhv
    · rfl
  refine Eq.trans ?_ (h5.trans (h4.trans (h3.trans h2)))
  split
  · exact logAppend_get d5 _ hk
  · rfl

theorem fltRecord_last (d : Device) (f : Flt) (detail : Nat) : (d.fltRecord f detail).rd FLT_LAST = fltWord f % 2 ^ 32 := by
  rw [← get_whole, fltRecord_get d f detail (.inr (by decide)) (by decide) (by decide) (by decide), get_whole, Device.rd_wr_same]

theorem raise_atOnce {d : Device} {f : Flt} (detail : Nat) (hc : d.power.coreOn = true) (hk : f.kind ≠ 2 ∧ f.kind ≠ 3)
    (hs : f.sev ≠ 3) (ha : fltAtOnce f.code f.sev = true) : d.raise f detail = d.fltRecord f detail := by
  simp [Device.raise, hc, hk, hs, ha]

end Sys2Proof.Machine

namespace Sys2Proof.Machine

/-! # Knots (R229) -/

/-- A write of a banked register keeps the low 32 bits of its value. -/
theorem wrB_setsBank_mod (d : Device) (m : Master) (off v : Nat) : d.setsBank (d.wrB m off v) m off (v % 2 ^ 32) := by
  have hw : Word.of v = Word.of (v % 2 ^ 32) := BitVec.eq_of_toNat_eq (by simp [Word.of])
  rw [Device.wrB, hw, ← Device.wrB]
  exact wrB_setsBank d m (Nat.mod_lt _ (Nat.two_pow_pos 32))

/-- The device with knot `k` written. -/
def Device.knotSet (d : Device) (k v : Nat) : Device := { d with trn := { d.trn with knots := Sparse.set (fun _ => 0) d.trn.knots k v } }

theorem knotWrite_pass {d : Device} {m v : Nat} (hc : d.power.coreOn = true) (hm : among m mFabric = true)
    (hr : reservedBad TRN_KNOT_DATA v = false) (hk : d.knotShut (bitsOf (d.rdB m TRN_KNOT_SEL) 24 24) = false) :
    d.knotWrite m v =
      if (d.rdB m TRN_KNOT_SEL).testBit 28 then
        (d.knotSet (knotOfSel (d.rdB m TRN_KNOT_SEL)) v).wrB m TRN_KNOT_SEL (knotAdvance (d.rdB m TRN_KNOT_SEL))
      else d.knotSet (knotOfSel (d.rdB m TRN_KNOT_SEL)) v := by
  rw [Device.knotWrite, Device.guarded_pass hc (by simp [hm, hr, hk])]
  rfl

/-- A knot write lists the value under the key selected, and advances the selection where inc is set. -/
theorem knotWrite_gives {d : Device} {m : Master} {v : Nat} (hc : d.power.coreOn = true) (hm : among m mFabric = true)
    (hr : reservedBad TRN_KNOT_DATA v = false) (hk : d.knotShut (bitsOf (d.rdB m TRN_KNOT_SEL) 24 24) = false) :
    ∃ l, Sparse.get (fun _ => 0) l (knotOfSel (d.rdB m TRN_KNOT_SEL)) = v ∧
      (∀ k, k ≠ knotOfSel (d.rdB m TRN_KNOT_SEL) → Sparse.get (fun _ => 0) l k = Sparse.get (fun _ => 0) d.trn.knots k) ∧
      ((d.rdB m TRN_KNOT_SEL).testBit 28 = false → d.knotWrite m v = { d with trn := { d.trn with knots := l } }) ∧
      ((d.rdB m TRN_KNOT_SEL).testBit 28 = true →
        ({ d with trn := { d.trn with knots := l } }).setsBank (d.knotWrite m v) m TRN_KNOT_SEL
          (knotAdvance (d.rdB m TRN_KNOT_SEL) % 2 ^ 32)) := by
  refine ⟨_, Sparse.get_set_same _ d.trn.knots _ _, fun k hne => Sparse.get_set_ne _ _ _ hne, ?_, ?_⟩
  · intro hinc
    rw [knotWrite_pass hc hm hr hk, if_neg (by simp [hinc])]
    rfl
  · intro hinc
    rw [knotWrite_pass hc hm hr hk, if_pos hinc]
    exact wrB_setsBank_mod _ m TRN_KNOT_SEL _

/-! # The temperature grid (R238, R243) -/

/-- A frame-latched write sets its register, beside what it does to the value in force (R59). -/
theorem wrFrame_sets (d : Device) {off v : Nat} (h : TMG_STAT ≠ off) (hv : v < 2 ^ 32) :
    ({ d with force := (d.wrFrame off v).force } : Device).sets (d.wrFrame off v) [(whole off, v)] := by
  rw [wrFrame_eq d v h]
  cases d.rasterStopped with
  | true => exact sets_cons_wr (sets_nil { d with force := (d.wrF off v).force }) (Nat.mod_eq_of_lt hv) (by simp)
  | false => exact sets_cons_wr (sets_nil d) (Nat.mod_eq_of_lt hv) (by simp)

theorem tgrid_apart (k : Nat) : TMG_STAT ≠ TRN_TGRID k ∧ TRN_TGRID k ≠ TRN_TSTAT := by
  unfold TMG_STAT TRN_TGRID TRN_TSTAT
  omega

/-- The device after a grid write, once its register holds the value: the grid is fresh. -/
def Device.gridFresh (d : Device) (us : Nat) : Device :=
  ({ d with trn := { d.trn with gridUs := us } }).put TRN_TSTAT_stale 0

@[simp] theorem gridFresh_rdF (d : Device) (us o : Nat) : (d.gridFresh us).rdF o = d.rdF o := by
  rw [Device.gridFresh, Device.rdF, Device.put_force, Device.rdF]

@[simp] theorem gridFresh_force (d : Device) (us : Nat) : (d.gridFresh us).force = d.force := by
  rw [Device.gridFresh, Device.put_force]

theorem gridFresh_sets {b e : Device} {l : List (Fld × Nat)} (us : Nat) (h : b.sets e l) (ha : ∀ p ∈ l, p.1.off ≠ TRN_TSTAT) :
    ({ b with trn := { b.trn with gridUs := us } } : Device).sets (e.gridFresh us) ((TRN_TSTAT_stale, 0) :: l) := by
  obtain ⟨hval, hrest, hregs⟩ := h
  have htrn : ({ b with trn := { b.trn with gridUs := us } } : Device).sets { e with trn := { e.trn with gridUs := us } } l :=
    ⟨hval, hrest, congrArg (fun x : Device => { x with trn := { x.trn with gridUs := us } }) hregs⟩
  exact sets_cons_put htrn (by decide) (by decide) rfl fun p hp => .inl (ha p hp)

theorem gridWrite_pass {d : Device} {m k v : Nat} (hc : d.power.coreOn = true) (hm : among m d.gridMasters = true) (hv : v < 2 ^ 16)
    (hlo : -640 ≤ signedOf 16 v) (hhi : signedOf 16 v ≤ 2000) :
    d.gridWrite m k v = (d.wrFrame (TRN_TGRID k) v).gridFresh d.us := by
  obtain ⟨r, f, hw⟩ := wrFrame_within d (off := TRN_TGRID k) v (tgrid_apart k).1
  rw [Device.gridWrite, Device.guarded_pass hc, Device.gridFresh, hw]
  simpa [hm] using ⟨⟨hv, hlo⟩, hhi⟩

theorem gridWrite_gives {d : Device} {m k v : Nat} (hc : d.power.coreOn = true) (hm : among m d.gridMasters = true) (hv : v < 2 ^ 16)
    (hlo : -640 ≤ signedOf 16 v) (hhi : signedOf 16 v ≤ 2000) :
    ({ d with trn := { d.trn with gridUs := d.us }, force := (d.gridWrite m k v).force } : Device).sets (d.gridWrite m k v)
      [(whole (TRN_TGRID k), v), (TRN_TSTAT_stale, 0)] ∧
    (d.gridWrite m k v).rdF (TRN_TGRID k) = (if d.rasterStopped then v else d.rdF (TRN_TGRID k)) ∧
    (∀ o, o ≠ TRN_TGRID k → (d.gridWrite m k v).rdF o = d.rdF o) := by
  obtain ⟨hraster, hstat⟩ := tgrid_apart k
  have hv32 : v < 2 ^ 32 := by omega
  rw [gridWrite_pass hc hm hv hlo hhi, gridFresh_force]
  simp only [gridFresh_rdF, wrFrame_rdF d hraster hv32]
  refine ⟨?_, by simp, fun o ho => by simp [ho]⟩
  exact sets_of_reverse (gridFresh_sets d.us (wrFrame_sets d hraster hv32) (by simpa [whole] using hstat))

/-- A grid write that comes with the staleness limit is reported as a late one. -/
theorem gridLate_sets (d : Device) : d.sets ((d.put TRN_LATE_grid 1).put TRN_IRQ_late 1) [(TRN_LATE_grid, 1), (TRN_IRQ_late, 1)] :=
  sets_of_reverse (sets_cons_put (sets_cons_put (sets_nil d) (by decide) (by decide) rfl (by simp)) (by decide) (by decide) rfl
    (by simp [Fld.apart]))

/-- A stale grid raises the temperature-source fault, which is contained at once in every mode (R505). -/
theorem raiseCode_gridStale {d : Device} (hc : d.power.coreOn = true) : d.raiseCode 0x44 0 = d.fltRecord (catalogue 0x44 0) 0 :=
  raise_atOnce 0 hc (by decide) (by decide) (by decide)

/-- The fault leaves the registers below Keep's as they are, the transition engine's among them, and stands in FLT_LAST. -/
theorem gridStale_raised {d : Device} (hc : d.power.coreOn = true) :
    (∀ g : Fld, g.off < KEEP_STAT → (d.raiseCode 0x44 0).get g = d.get g) ∧ (d.raiseCode 0x44 0).get FLT_LAST_code = 0x44 := by
  rw [raiseCode_gridStale hc]
  refine ⟨fun g hg => ?_, ?_⟩
  · have hbelow {o : Nat} (ho : KEEP_STAT < o) : g.off ≠ o := Nat.ne_of_lt (Nat.lt_trans hg ho)
    rw [fltRecord_get _ _ _ (.inl hg) (hbelow (by decide)) (hbelow (by decide)) (hbelow (by decide)),
      Device.get_wr_ne _ _ (hbelow (by decide))]
  · rw [Device.get, fltRecord_last]
    decide

theorem gridStale_gives {d : Device} (hc : d.power.coreOn = true) :
    (((d.put TRN_TSTAT_stale 1).put TRN_IRQ_stale 1).raiseCode 0x44 0).get TRN_TSTAT_stale = 1 ∧
    (((d.put TRN_TSTAT_stale 1).put TRN_IRQ_stale 1).raiseCode 0x44 0).get TRN_IRQ_stale = 1 ∧
    (((d.put TRN_TSTAT_stale 1).put TRN_IRQ_stale 1).raiseCode 0x44 0).get FLT_LAST_code = 0x44 := by
  have hc' : ((d.put TRN_TSTAT_stale 1).put TRN_IRQ_stale 1).power.coreOn = true := by simpa using hc
  obtain ⟨hkept, hlast⟩ := gridStale_raised hc'
  refine ⟨?_, ?_, hlast⟩
  · rw [hkept _ (by decide), Device.get_put_ne _ _ (by decide), Device.get_put_same _ _ (by decide) (by decide)]
    rfl
  · rw [hkept _ (by decide), Device.get_put_same _ _ (by decide) (by decide)]
    rfl

/-! # Commands for the update pass (R246) -/

theorem kickCmd_pass {d : Device} {m op : Nat} (hc : d.power.coreOn = true) (hm : among m mKick = true) (h0 : op ≠ 0) (h4 : op ≤ 4)
    (hr : d.get TRN_KICK_RANGE_first ≤ d.get TRN_KICK_RANGE_last) (ht : d.get TRN_KICK_RANGE_last < d.tileCount)
    (hk : d.trn.kick = none) :
    d.kickCmd m op = { d with trn := { d.trn with kick := some (op, d.get TRN_KICK_RANGE_first, d.get TRN_KICK_RANGE_last) } } := by
  rw [Device.kickCmd, Device.guarded_pass hc, if_neg h0]
  simp [hm, hk, Nat.not_lt.mpr hr, Nat.not_lt.mpr h4, Nat.not_le.mpr ht]

end Sys2Proof.Machine

namespace Sys2Proof.Machine

/-! # Map operations: the start (R273) -/

/-- What CMP_MAP_CMD holds for operation `op` on a map of type `t`. -/
def mapWord (op t : Nat) : Nat := op + 256 * t

theorem fields_CMP_MAP_CMD : (regAt CMP_MAP_CMD).map (fun r => r.1.fields) = some 0x303 := by decide +kernel

theorem mapWord_fields : ∀ op ∈ [1, 2], ∀ t : Fin 4,
    mapWord op t % 4 = op ∧ bitsOf (mapWord op t) 9 8 = t ∧ maskOut 32 (mapWord op t) 0x303 = 0 := by
  decide

theorem reservedBad_mapWord {op : Nat} {t : Fin 4} (hop : op ∈ [1, 2]) : reservedBad CMP_MAP_CMD (mapWord op t) = false := by
  obtain ⟨⟨r, i, j⟩, hrow, hfields⟩ := Option.map_eq_some_iff.mp fields_CMP_MAP_CMD
  obtain ⟨-, -, hmask⟩ := mapWord_fields op hop t
  simp [reservedBad, hrow, hfields, hmask]

/-- The device once an operation on a map runs. -/
def Device.mapStarted (d : Device) (m op t : Nat) : Device :=
  let d : Device := { d with cmp := { d.cmp with op := some { master := m, op := op, type := t } } }
  (if t = 0 then d.put SRV_STAT_stage_valid 0 else d).wr CMP_MAP_STAT (t * 2 ^ 24 + 1)

theorem mapCmd_pass {d : Device} {m op : Nat} {t : Fin 4} (hop : op ∈ [1, 2]) (hc : d.power.coreOn = true)
    (hm : among m mFabric = true) (hidle : d.cmp.op = none) (hmode : t.val < 2 → d.modeIn 0x1C = false)
    (hknot : t.val = 3 → (d.trnOn = false ∨ d.getF TRN_CTRL_knot_sel ≠ 0) ∧ d.get TRN_CTRL_knot_sel = d.getF TRN_CTRL_knot_sel)
    (hscan : op = 2 → 2 ≤ t.val → d.meetsScan (d.rd CMP_MAP_ADDR) (d.mapLen t) = false) :
    d.mapCmd m (mapWord op t) = d.mapStarted m op t := by
  obtain ⟨hcode, htype, -⟩ := mapWord_fields op hop t
  have hop' : op = 1 ∨ op = 2 := by simpa using hop
  have h0 : op ≠ 0 := by omega
  have h3 : op ≠ 3 := by omega
  have hshut : (t.val = 3 && ((d.trnOn && d.getF TRN_CTRL_knot_sel = 0) || d.get TRN_CTRL_knot_sel ≠ d.getF TRN_CTRL_knot_sel)) = false := by
    by_cases ht : t.val = 3
    · obtain ⟨hon, hsel⟩ := hknot ht
      rcases hon with hon | hon <;> simp [hon, hsel]
    · simp [ht]
  have hmet : (op = 2 && 2 ≤ t.val && d.meetsScan (d.rd CMP_MAP_ADDR) (d.mapLen t)) = false := by
    by_cases hs : op = 2 ∧ 2 ≤ t.val
    · simp [hscan hs.1 hs.2]
    · simp [hs]
  have hlive : (op ≠ 0 && t.val < 2 && d.modeIn 0x1C) = false := by
    by_cases ht : t.val < 2
    · simp [hmode ht]
    · simp [ht]
  simp only [Device.mapCmd, hcode, htype, hshut, hmet, hlive, reservedBad_mapWord hop]
  rw [Device.guarded_pass hc, if_neg h0]
  · rfl
  · simp [hm, h3, hidle]

theorem mapStarted_sets (d : Device) (m op : Nat) (t : Fin 4) :
    ({ d with cmp := { d.cmp with op := some { master := m, op := op, type := t } } } : Device).sets (d.mapStarted m op t)
      ((if t = 0 then [(SRV_STAT_stage_valid, 0)] else []) ++ [(whole CMP_MAP_STAT, t.val * 2 ^ 24 + 1)]) := by
  have hstat : (t.val * 2 ^ 24 + 1) % 2 ^ 32 = t.val * 2 ^ 24 + 1 := Nat.mod_eq_of_lt (by omega)
  rw [Device.mapStarted]
  by_cases ht : t = 0
  · subst ht
    exact sets_of_reverse (sets_cons_wr (sets_cons_put (sets_nil _) (by decide) (by decide) rfl (by simp)) hstat (by simp))
  · rw [if_neg (by simpa using Fin.val_ne_of_ne ht), if_neg ht]
    exact sets_cons_wr (sets_nil _) hstat (by simp)

/-! # Map operations: the end (R274, R275) -/

/-- CMP_MAP_STAT and CMP_MAP_FAIL at the end of an operation. -/
theorem mapResult_sets (d : Device) {stat off : Nat} (hs : stat < 2 ^ 32) (ho : off < 2 ^ 32) :
    d.sets ((d.wr CMP_MAP_STAT stat).wr CMP_MAP_FAIL off) [(whole CMP_MAP_STAT, stat), (whole CMP_MAP_FAIL, off)] :=
  sets_of_reverse (sets_cons_wr (sets_cons_wr (sets_nil d) (Nat.mod_eq_of_lt hs) (by simp)) (Nat.mod_eq_of_lt ho) (by simp [whole]))

/-- The device whose operation on a map has ended. -/
def Device.mapIdle (d : Device) : Device := { d with cmp := { d.cmp with op := none } }

@[simp] theorem mapIdle_mem (d : Device) : d.mapIdle.mem = d.mem := (rfl)

@[simp] theorem mapIdle_cmp (d : Device) : d.mapIdle.cmp = { d.cmp with op := none } := (rfl)

/-! The checks do not ask whether an operation runs. -/

@[simp] theorem mapHead_mapIdle (d : Device) (t : Nat) : d.mapIdle.mapHead t = d.mapHead t := (rfl)

@[simp] theorem mapInPlace_mapIdle (d : Device) (t : Nat) : d.mapIdle.mapInPlace t = d.mapInPlace t := (rfl)

@[simp] theorem mapBody_mapIdle (d : Device) (t : Nat) (h : MapEntry) (bs : List Nat) : d.mapIdle.mapBody t h bs = d.mapBody t h bs := (rfl)

/-- A plane whose bytes pass the checks in place is not written; its version is adopted. -/
theorem mapRun_adopts {d : Device} {t : Nat} {h : MapEntry} (ht : t < 2) (hh : d.mapHead t = .ok h)
    (hb : d.mapBody t h (d.mapInPlace t) = .ok ()) : d.mapRun 2 t false = (d.wr (CMP_MAP_VER t) h.version, none) := by
  simp [Device.mapRun, hh, hb, Nat.not_le.mpr ht]

theorem mapVer_apart {t : Nat} : CMP_MAP_VER t ≠ CMP_MAP_STAT ∧ CMP_MAP_VER t ≠ CMP_MAP_FAIL := by
  unfold CMP_MAP_VER CMP_MAP_STAT CMP_MAP_FAIL
  omega

theorem exec_mapOpComplete_fails {o : MapOp} {f : MapFail} {d : Device} {err : Bool} {s : State} (ho : s.cmp.op = some o)
    (hrun : s.toDevice.mapIdle.mapRun o.op o.type err = (d, some f)) :
    exec (.mapOpComplete err) s = .next { s with toDevice :=
      ((d.wr CMP_MAP_STAT (o.type * 2 ^ 24 + f.check * 65536 + f.code * 256 + 2)).wr CMP_MAP_FAIL f.off).reject o.master CMP_MAP_CMD f.code } := by
  have hend : ({ s.toDevice with cmp := { s.cmp with op := none } } : Device).mapRun o.op o.type err = (d, some f) := hrun
  simp only [exec, execMapOpComplete, run_next, ho, hend]

theorem exec_mapOpComplete_passes {o : MapOp} {d : Device} {err : Bool} {s : State} (ho : s.cmp.op = some o)
    (hrun : s.toDevice.mapIdle.mapRun o.op o.type err = (d, none)) :
    exec (.mapOpComplete err) s = .next { s with toDevice := (d.wr CMP_MAP_STAT (o.type * 2 ^ 24 + 2)).wr CMP_MAP_FAIL 0 } := by
  have hend : ({ s.toDevice with cmp := { s.cmp with op := none } } : Device).mapRun o.op o.type err = (d, none) := hrun
  simp only [exec, execMapOpComplete, run_next, ho, hend]

/-- A failing check is recorded, and the master of the command told. -/
theorem mapOpComplete_fails {o : MapOp} {m : Master} {f : MapFail} {d : Device} {err : Bool} {s : State} (ho : s.cmp.op = some o)
    (hm : o.master = m) (ht : o.type < 4)
    (hrun : s.toDevice.mapIdle.mapRun o.op o.type err = (d, some f))
    (hcheck : f.check < 256) (hcode : f.code < 256) (hoff : f.off < 2 ^ 32) :
    Yields (.mapOpComplete err) s (fun e => ∃ x,
      d.sets x [(whole CMP_MAP_STAT, o.type * 2 ^ 24 + f.check * 65536 + f.code * 256 + 2), (whole CMP_MAP_FAIL, f.off)] ∧
      x.rejects e m 0 CMP_MAP_CMD f.code) := by
  refine ⟨_, exec_mapOpComplete_fails ho hrun, _, mapResult_sets d (by omega) hoff, ?_⟩
  rw [hm]
  exact reject_rejects _ m CMP_MAP_CMD f.code (by omega) (by decide)

/-- A plane checked in place is adopted under the version of the index. -/
theorem mapOpComplete_adopts {o : MapOp} {h : MapEntry} {s : State} (ho : s.cmp.op = some o) (hop : o.op = 2) (ht : o.type < 2)
    (hh : s.toDevice.mapHead o.type = .ok h) (hv : h.version < 2 ^ 32)
    (hb : s.toDevice.mapBody o.type h (s.toDevice.mapInPlace o.type) = .ok ()) :
    Yields (.mapOpComplete false) s (fun e => e.rd (CMP_MAP_VER o.type) = h.version ∧ e.rd CMP_MAP_STAT = o.type * 2 ^ 24 + 2 ∧
      e.rd CMP_MAP_FAIL = 0 ∧ e.cmp = { s.cmp with op := none } ∧ e.mem = s.mem) := by
  have hrun : s.toDevice.mapIdle.mapRun o.op o.type false = (s.toDevice.mapIdle.wr (CMP_MAP_VER o.type) h.version, none) := by
    rw [hop]
    exact mapRun_adopts ht (by simpa using hh) (by simpa using hb)
  obtain ⟨hstat, hfail⟩ := mapVer_apart (t := o.type)
  refine ⟨_, exec_mapOpComplete_passes ho hrun, ?_, ?_, ?_, by simp, by simp⟩
  · rw [Device.rd_wr_ne _ _ hfail, Device.rd_wr_ne _ _ hstat, Device.rd_wr_same, Nat.mod_eq_of_lt hv]
  · rw [Device.rd_wr_ne _ _ (by decide), Device.rd_wr_same, Nat.mod_eq_of_lt (by omega)]
  · exact Device.rd_wr_same _ _ _

/-- Settles O25: each command's equation once its checks pass, and for a stale grid `gridStale_gives`. -/
theorem shapingAndMapsAreLoaded : Obligations.ShapingAndMapsAreLoaded := by
  refine ⟨?_, ?_, ?_, ?_, ?_, ?_, ?_⟩
  · intro m val s hc hm hv hr hk
    refine ⟨s.toDevice.knotWrite m (val % 2 ^ 32), rfl, ?_⟩
    rw [Nat.mod_eq_of_lt hv]
    exact knotWrite_gives hc hm hr hk
  · intro m k val s hc hm hv hlo hhi
    refine ⟨s.toDevice.gridWrite m k (val % 2 ^ 32), rfl, ?_⟩
    rw [Nat.mod_eq_of_lt (by omega)]
    exact gridWrite_gives hc hm hv hlo hhi
  · intro s hc
    refine ⟨⟨_, rfl, ?_⟩, fun hfresh => ⟨_, rfl, ?_⟩⟩
    · simpa [hc] using gridLate_sets s.toDevice
    · simpa [hc, hfresh] using gridStale_gives hc
  · intro i op m s hi hc hm hr ht hk
    simp only [List.mem_cons, List.not_mem_nil, or_false, Prod.mk.injEq] at hi
    have hexec : exec i s = .next { s with toDevice := s.toDevice.kickCmd m op } := by
      obtain ⟨rfl, rfl⟩ | ⟨rfl, rfl⟩ | ⟨rfl, rfl⟩ | ⟨rfl, rfl⟩ := hi <;> rfl
    have hop : op ≠ 0 ∧ op ≤ 4 := by
      obtain ⟨-, rfl⟩ | ⟨-, rfl⟩ | ⟨-, rfl⟩ | ⟨-, rfl⟩ := hi <;> decide
    rwa [kickCmd_pass hc hm hop.1 hop.2 hr ht hk] at hexec
  · intro i op m t s hi hc hm hidle hmode hknot hscan
    simp only [List.mem_cons, List.not_mem_nil, or_false, Prod.mk.injEq] at hi
    have hexec : exec i s = .next { s with toDevice := s.toDevice.mapCmd m (mapWord op t) } := by
      obtain ⟨rfl, rfl⟩ | ⟨rfl, rfl⟩ := hi <;> rfl
    have hop : op ∈ [1, 2] := by
      obtain ⟨-, rfl⟩ | ⟨-, rfl⟩ := hi <;> simp
    rw [mapCmd_pass hop hc hm hidle hmode hknot hscan] at hexec
    exact ⟨_, hexec, mapStarted_sets _ m op t⟩
  · exact fun _ _ _ _ _ _ ho hm ht hrun hcheck hcode hoff => mapOpComplete_fails ho hm ht hrun hcheck hcode hoff
  · exact fun _ _ _ ho hop ht hh hv hb => mapOpComplete_adopts ho hop ht hh hv hb

end Sys2Proof.Machine

namespace Sys2Proof.Machine

/-! # The state of sensing in SRV_STAT -/

/-- While an operation is in progress, SRV_STAT.sense is 2. -/
theorem senseSync_running {d : Device} (h : d.srv.ops ≠ []) : d.senseSync = d.put SRV_STAT_sense 2 := by
  simp [Device.senseSync, h]

/-- While none is in progress or to be repeated, and one is due, it is 1. -/
theorem senseSync_due {d : Device} (hops : d.srv.ops = []) (hagain : d.srv.again = []) (hdue : d.get SRV_STAT_due ≠ 0) :
    d.senseSync = d.put SRV_STAT_sense 1 := by
  simp [Device.senseSync, hops, hagain, hdue]

/-- An operation that becomes due (R288). -/
theorem due_bump_sets {d : Device} (hlt : d.get SRV_STAT_due < 4) (hops : d.srv.ops = []) (hagain : d.srv.again = []) :
    d.sets (d.bump SRV_STAT_due).senseSync [(SRV_STAT_due, d.get SRV_STAT_due + 1), (SRV_STAT_sense, 1)] := by
  have hcount : (d.bump SRV_STAT_due).get SRV_STAT_due = d.get SRV_STAT_due + 1 := by
    rw [Device.get_bump_same _ _ (by decide) (by decide)]
    exact Nat.min_eq_left (show d.get SRV_STAT_due + 1 ≤ 2 ^ 3 - 1 by omega)
  have hdue := sets_cons_bump (f := SRV_STAT_due) (n := 1) (sets_nil d) (by decide) (by decide)
    (Nat.min_eq_left (show d.get SRV_STAT_due + 1 ≤ 2 ^ 3 - 1 by omega)) (by simp)
  rw [senseSync_due (by simpa using hops) (by simpa using hagain) (by omega)]
  exact sets_of_reverse (sets_cons_put hdue (by decide) (by decide) rfl (by simp [Fld.apart]))

/-! # Sensing is enabled (R288) -/

/-- The device once sensing is enabled with the timer `t`. -/
def Device.sensingOn (d : Device) (m t : Nat) : Device :=
  ({ d with srv := { d.srv with timer := some (t, m) } } : Device).claim 4 6 t m

theorem exec_sensingEnable {m : Master} {val : Nat} {s : State} (hc : s.power.coreOn = true) (hm : among m mSurvey = true)
    (hv : val < 2 ^ 32) (hen : val.testBit 0 = true) (hplan : val.testBit 8 = false) (hroles : s.toDevice.senseRoles = true)
    (hr : reservedBad SRV_CTRL val = false) (happly : bitsOf val 5 4 ≤ 1)
    (hroom : 4 + s.toDevice.get SRV_SCHED_per_blank * s.toDevice.lop ≤ s.toDevice.minBlank) (htimer : s.srv.timer = none)
    (himage : s.toDevice.imageServes 4 6 (s.toDevice.get SRV_SCHED_timer) = false)
    (hfree : s.toDevice.owner 6 (s.toDevice.get SRV_SCHED_timer) = none) :
    exec (.sensingEnable m val) s = .next { s with toDevice :=
      (s.toDevice.sensingOn m (s.toDevice.get SRV_SCHED_timer)).wrFrame SRV_CTRL val } := by
  have happly' : ¬ 1 < bitsOf val 5 4 := by omega
  have hroom' : ¬ s.toDevice.minBlank < 4 + s.toDevice.get SRV_SCHED_per_blank * s.toDevice.lop := by omega
  show execSensingEnable m val s = _
  rw [execSensingEnable, run_next, Nat.mod_eq_of_lt hv, onBit_of_testBit hen, Device.srvCtrl, Device.guarded_pass hc]
  · simp [hen, hplan, htimer, himage, Device.sensingOn]
  · simp [hm, hplan, hen, hroles, hr, happly', hroom', htimer, himage, hfree]

/-- Enabling sensing claims its timer and writes SRV_CTRL alone (R59, R288). -/
theorem sensingEnable_yields {m : Master} {val : Nat} {s : State} (hc : s.power.coreOn = true) (hm : among m mSurvey = true)
    (hv : val < 2 ^ 32) (hen : val.testBit 0 = true) (hplan : val.testBit 8 = false) (hroles : s.toDevice.senseRoles = true)
    (hr : reservedBad SRV_CTRL val = false) (happly : bitsOf val 5 4 ≤ 1)
    (hroom : 4 + s.toDevice.get SRV_SCHED_per_blank * s.toDevice.lop ≤ s.toDevice.minBlank) (htimer : s.srv.timer = none)
    (himage : s.toDevice.imageServes 4 6 (s.toDevice.get SRV_SCHED_timer) = false)
    (hfree : s.toDevice.owner 6 (s.toDevice.get SRV_SCHED_timer) = none) :
    Yields (.sensingEnable m val) s (fun e => e.rd SRV_CTRL = val ∧
      e.rdF SRV_CTRL = (if s.toDevice.get TMG_STAT_raster = 0 then val else s.toDevice.rdF SRV_CTRL) ∧
      e.srv = { s.srv with timer := some (s.toDevice.get SRV_SCHED_timer, m.val) } ∧
      e.claims = s.claims ++ [{ feature := 4, cls := 6, idx := s.toDevice.get SRV_SCHED_timer, master := m }] ∧
      (∀ o, o ≠ SRV_CTRL → e.rd o = s.toDevice.rd o ∧ e.rdF o = s.toDevice.rdF o) ∧
      e = { s.toDevice with regs := e.regs, force := e.force, srv := e.srv, claims := e.claims }) := by
  have hstat : TMG_STAT ≠ SRV_CTRL := by decide
  refine ⟨_, exec_sensingEnable hc hm hv hen hplan hroles hr happly hroom htimer himage hfree, ?_⟩
  have hrd := wrFrame_rd (s.toDevice.sensingOn m (s.toDevice.get SRV_SCHED_timer)) hstat hv
  have hrdF := wrFrame_rdF (s.toDevice.sensingOn m (s.toDevice.get SRV_SCHED_timer)) hstat hv
  obtain ⟨r, f, heq⟩ := wrFrame_within (s.toDevice.sensingOn m (s.toDevice.get SRV_SCHED_timer)) val hstat
  refine ⟨(hrd _).trans (if_pos rfl), ?_, by rw [heq]; rfl, by rw [heq]; rfl, fun o ho => ⟨?_, ?_⟩, by rw [heq]; rfl⟩
  · rw [hrdF]
    simp only [true_and]
    exact if_congr (by simp [Device.rasterStopped]; rfl) rfl rfl
  · rw [hrd, if_neg ho]
    rfl
  · rw [hrdF, if_neg (fun h => ho h.1)]
    rfl

/-! # Operations become due (R288) -/

theorem exec_senseTimerExpire_due {s : State} (hs : s.toDevice.sensing = true) (hlt : s.toDevice.get SRV_STAT_due < 4) :
    exec .senseTimerExpire s = .next { s with toDevice := (s.toDevice.bump SRV_STAT_due).senseSync } := by
  show execSenseTimerExpire s = _
  simp [execSenseTimerExpire, run_next, hs, hlt]

theorem exec_senseTimerExpire_lost {s : State} (hs : s.toDevice.sensing = true) (hge : 4 ≤ s.toDevice.get SRV_STAT_due) :
    exec .senseTimerExpire s = .next { s with toDevice := s.toDevice.bump SRV_EVT1_noroom } := by
  show execSenseTimerExpire s = _
  simp [execSenseTimerExpire, run_next, hs, Nat.not_lt_of_ge hge]

/-! # Control packets on the running lanes (R318) -/

/-- The hidden state of lane `n`, which the link alone holds. -/
def Link.lane (x : Link) (n : Nat) : LaneX := Sparse.get (fun _ => {}) x.lanes n

theorem lane_eq (d : Device) (n : Nat) : d.lane n = d.link.lane n := rfl

/-- A control packet waits for its acknowledgement on lane `n`. -/
def Link.awaits (x : Link) (n target op : Nat) (data : List Nat) : Prop :=
  ∃ p ∈ (x.lane n).unacked, p.target = target ∧ p.op = op ∧ p.data = data

/-- A control packet sent joins the unacknowledged ones of its lane. -/
theorem lane_sendCtl (d : Device) (n target op : Nat) (data : List Nat) (integrator : Bool) (k : Nat) :
    ((d.sendCtl n target op data integrator).link.lane k).unacked =
      if k = n then (d.lane n).unacked ++
        [{ target := target, op := op, data := data, seq := (d.lane n).seq, integrator := integrator }]
      else (d.lane k).unacked := by
  simp only [Device.sendCtl, Device.setLane, Link.lane, Sparse.get_set]
  split <;> rfl

/-- A packet sent to every lane of a list waits on each of them, and nothing but the link changes. -/
theorem sendEach_gives (op : Nat) (data : List Nat) (l : List Nat) (d : Device) :
    ∃ x, eachOf l (fun n d => d.sendCtl n 0xFF op data) d = { d with link := x } ∧
      (∀ n, (d.lane n).unacked ⊆ (x.lane n).unacked) ∧ ∀ n ∈ l, x.awaits n 0xFF op data := by
  induction l generalizing d with
  | nil => exact ⟨d.link, rfl, fun _ _ h => h, by simp⟩
  | cons k l ih =>
    obtain ⟨x, heq, hkeep, hsent⟩ := ih (d.sendCtl k 0xFF op data)
    have hmem (n : Nat) : (d.lane n).unacked ⊆ ((d.sendCtl k 0xFF op data).link.lane n).unacked := by
      rw [lane_sendCtl]
      split
      next h => rw [h]; exact List.subset_append_left _ _
      next => exact fun _ h => h
    refine ⟨x, heq, fun n => List.Subset.trans (hmem n) (hkeep n), List.forall_mem_cons.mpr ⟨?_, hsent⟩⟩
    refine ⟨{ target := 0xFF, op := op, data := data, seq := (d.lane k).seq }, hkeep k ?_, rfl, rfl, rfl⟩
    rw [lane_eq, lane_sendCtl, if_pos rfl]
    exact List.mem_append_right _ (List.mem_singleton_self _)

/-- A broadcast waits for its acknowledgement on every claimed lane that runs, and nothing but the link changes. -/
theorem broadcastCtl_gives (d : Device) (op : Nat) (data : List Nat) :
    ∃ x, d.broadcastCtl op data = { d with link := x } ∧
      ∀ n ∈ d.claimedLanes, d.laneRuns n = true → x.awaits n 0xFF op data := by
  obtain ⟨x, heq, -, hsent⟩ := sendEach_gives op data (d.claimedLanes.filter (fun n => d.laneRuns n)) d
  exact ⟨x, heq, fun n hn hruns => hsent n (List.mem_filter.mpr ⟨hn, hruns⟩)⟩

/-- Lines sent change what the raster has sent, and nothing else. -/
theorem sendLines_within (l : List Nat) (y : Nat) (hold zero : Bool) (codes : Nat → Device → List Nat) (d : Device) :
    ∃ x, eachOf l (fun k d => d.sendLine k y hold zero (codes k d)) d = { d with ras := x } := by
  induction l generalizing d with
  | nil => exact ⟨d.ras, rfl⟩
  | cons k l ih =>
    obtain ⟨x, hx⟩ : ∃ x, d.sendLine k y hold zero (codes k d) = { d with ras := x } := by
      unfold Device.sendLine
      extract_lets
      split
      · exact ⟨d.ras, rfl⟩
      · exact ⟨_, rfl⟩
    obtain ⟨x', hx'⟩ := ih (d.sendLine k y hold zero (codes k d))
    exact ⟨x', hx'.trans (by rw [hx])⟩

end Sys2Proof.Machine

namespace Sys2Proof.Machine

/-! # An operation starts (R283, R284) -/

/-- The survey once an operation on row `r` at level `l` is in progress. -/
def Survey.started (v : Survey) (r l : Nat) (again loupe : Bool) : Survey :=
  { v with ops := v.ops ++ [{ id := v.opId, row := r, level := l, again := again, loupe := loupe }],
           opId := (v.opId + 1) % 256, blank := v.blank + 1 }

/-- A start lists its operation and sends its control packet on every claimed lane that runs; beside them only the raster's lines change. -/
theorem senseStart_gives (d : Device) (r l : Nat) (again loupe : Bool) :
    ∃ x y, d.senseStart r l again loupe = { d with srv := d.srv.started r l again loupe, ras := x, link := y } ∧
      ∀ n ∈ d.claimedLanes, d.laneRuns n = true →
        y.awaits n 0xFF 3 [d.srv.opId, d.get SRV_SENSE_kind, d.get SRV_SENSE_T_settle, d.get SRV_SENSE_T_conv] := by
  unfold Device.senseStart
  extract_lets id line started lin d1 d2 code
  obtain ⟨y, heq, hsent⟩ := broadcastCtl_gives d1 0x03
    [id, d1.get SRV_SENSE_kind, d1.get SRV_SENSE_T_settle, d1.get SRV_SENSE_T_conv]
  have hd2 : d2 = { d1 with link := y } := heq
  split
  · exact ⟨_, y, hd2, hsent⟩
  · obtain ⟨x, hx⟩ := sendLines_within (List.range d2.stripeCount) r false false
      (fun k d => List.replicate (d.qOf k * (d.stripe k).width) code) d2
    refine ⟨x, y, hx.trans ?_, hsent⟩
    rw [hd2]
    rfl

/-- The next operation of the sweep, taken from those that are due. -/
def Device.sweepTaken (d : Device) : Device :=
  (d.put SRV_STAT_due (d.get SRV_STAT_due - 1)).put SRV_SWEEP_next (d.get SRV_SWEEP_next + 1)

theorem sweepTaken_sets (d : Device) (hlt : d.get SRV_SWEEP_next < 65535) :
    d.sets d.sweepTaken [(SRV_SWEEP_next, d.get SRV_SWEEP_next + 1), (SRV_STAT_due, d.get SRV_STAT_due - 1)] := by
  have hdue := sets_cons_put (sets_nil d) (f := SRV_STAT_due) (by decide) (by decide)
    (Nat.mod_eq_of_lt (Nat.lt_of_le_of_lt (Nat.sub_le _ 1) (d.get_lt SRV_STAT_due))) (by simp)
  exact sets_cons_put hdue (by decide) (by decide) (Nat.mod_eq_of_lt (show d.get SRV_SWEEP_next + 1 < 2 ^ 16 by omega))
    (by simp [Fld.apart])

theorem sensing_coreOn {d : Device} (h : d.sensing = true) : d.power.coreOn = true := by
  simp only [Device.sensing, Bool.and_eq_true] at h
  exact h.1.1

theorem levels_ne_zero (d : Device) : d.levels ≠ 0 := by
  unfold Device.levels
  split <;> omega

section
variable {s : State} (hs : s.toDevice.sensing = true) (hr : s.toDevice.get TMG_STAT_raster ≠ 0) (ha : s.ras.active = false)
  (hl : s.toDevice.get SRV_STAT_loupe = 0) (hagain : s.srv.again = []) (hnext : s.toDevice.get SRV_SWEEP_next < s.toDevice.sweepOps)
  (hdue : 0 < s.toDevice.get SRV_STAT_due) (hblank : s.srv.blank < s.toDevice.get SRV_SCHED_per_blank)
include hs hr ha hl hagain hnext hdue hblank

/-- Where the next operation of the sweep is due, it starts if the blanking has room for it (R284). -/
theorem exec_senseOpStart_sweep :
    exec .senseOpStart s = .next { s with toDevice :=
      if 2 + (s.srv.blank + 1) * s.toDevice.lop + 2 ≤ s.toDevice.minBlank then
        (s.toDevice.sweepTaken.senseStart (s.toDevice.get SRV_SWEEP_next / s.toDevice.levels)
          (s.toDevice.get SRV_SWEEP_next % s.toDevice.levels) false false).senseSync
      else s.toDevice.senseNoRoom } := by
  have hdue' : s.toDevice.get SRV_STAT_due ≠ 0 := by omega
  show execSenseOpStart s = _
  rw [execSenseOpStart, run_next]
  by_cases hfits : 2 + (s.srv.blank + 1) * s.toDevice.lop + 2 ≤ s.toDevice.minBlank
  · simp [Device.rasterStopped, hr, ha, sensing_coreOn hs, levels_ne_zero, hl, hagain, hnext, hs, hdue', hblank, hfits, Device.sweepTaken]
  · simp [Device.rasterStopped, hr, ha, sensing_coreOn hs, levels_ne_zero, hl, hagain, hnext, hs, hdue', hblank, hfits]

/-- The next operation of the sweep starts: it is listed, announced on every running lane, and counted (R283, R284, R289, R316). -/
theorem senseOpStart_yields (hfits : 2 + (s.srv.blank + 1) * s.toDevice.lop + 2 ≤ s.toDevice.minBlank)
    (hlt : s.toDevice.get SRV_SWEEP_next < 65535) :
    Yields .senseOpStart s (fun e =>
      e.srv = { s.srv with
        ops := s.srv.ops ++ [{ id := s.srv.opId, row := s.toDevice.get SRV_SWEEP_next / s.toDevice.levels,
                               level := s.toDevice.get SRV_SWEEP_next % s.toDevice.levels }],
        opId := (s.srv.opId + 1) % 256, blank := s.srv.blank + 1 } ∧
      (∀ n ∈ s.toDevice.claimedLanes, s.toDevice.laneRuns n = true → ∃ x ∈ (e.lane n).unacked, x.target = 0xFF ∧ x.op = 3 ∧
        x.data = [s.srv.opId, s.toDevice.get SRV_SENSE_kind, s.toDevice.get SRV_SENSE_T_settle, s.toDevice.get SRV_SENSE_T_conv]) ∧
      ({ s.toDevice with srv := e.srv, ras := e.ras, link := e.link } : Device).sets e
        [(SRV_STAT_due, s.toDevice.get SRV_STAT_due - 1), (SRV_SWEEP_next, s.toDevice.get SRV_SWEEP_next + 1), (SRV_STAT_sense, 2)]) := by
  have hexec := exec_senseOpStart_sweep hs hr ha hl hagain hnext hdue hblank
  rw [if_pos hfits] at hexec
  obtain ⟨x, y, heq, hsent⟩ := senseStart_gives s.toDevice.sweepTaken (s.toDevice.get SRV_SWEEP_next / s.toDevice.levels)
    (s.toDevice.get SRV_SWEEP_next % s.toDevice.levels) false false
  have hget (f : Fld) (h1 : f.off ≠ SRV_STAT) (h2 : f.off ≠ SRV_SWEEP) : s.toDevice.sweepTaken.get f = s.toDevice.get f := by
    rw [Device.sweepTaken, Device.get_put_ne _ _ h2, Device.get_put_ne _ _ h1]
  have hrun (n : Nat) : s.toDevice.sweepTaken.laneRuns n = s.toDevice.laneRuns n := by
    have hstate : s.toDevice.sweepTaken.laneState n = s.toDevice.laneState n :=
      hget _ (by show 0xe0004 + 0x200 * n ≠ 0xc0004; omega) (by show 0xe0004 + 0x200 * n ≠ 0xc0008; omega)
    rw [Device.laneRuns, hstate, Device.laneRuns]
  rw [senseSync_running (by rw [heq]; simp [Survey.started]), heq] at hexec
  refine ⟨_, hexec, rfl, fun n hn hruns => ?_, ?_⟩
  · have hn' := hsent n hn ((hrun n).trans hruns)
    rw [hget _ (by decide) (by decide), hget _ (by decide) (by decide), hget _ (by decide) (by decide)] at hn'
    exact hn'
  · have hsets := sets_cons_put (f := SRV_STAT_sense) (v := 2) (w := 2) (sweepTaken_sets s.toDevice hlt) (by decide) (by decide) rfl
      (by simp [Fld.apart])
    exact mk_sets s.toDevice (s.toDevice.sweepTaken.put SRV_STAT_sense 2) (sets_of_reverse hsets)

/-- In a blanking without room the lost start is counted once (R284). -/
theorem senseOpStart_noRoom_yields (hfits : s.toDevice.minBlank < 2 + (s.srv.blank + 1) * s.toDevice.lop + 2)
    (hfirst : s.srv.noroom = false) :
    Yields .senseOpStart s (fun e => ({ s.toDevice with srv := { s.srv with noroom := true } } : Device).sets e
      [(SRV_EVT1_noroom, Nat.min (s.toDevice.get SRV_EVT1_noroom + 1) 0xFFFF), (SRV_IRQ_noroom, 1)]) := by
  have hexec := exec_senseOpStart_sweep hs hr ha hl hagain hnext hdue hblank
  rw [if_neg (Nat.not_le_of_lt hfits), Device.senseNoRoom, if_neg (by simp [hfirst])] at hexec
  refine ⟨_, hexec, sets_of_reverse ?_⟩
  have hcount := sets_cons_bump (f := SRV_EVT1_noroom) (n := 1) (sets_nil { s.toDevice with srv := { s.srv with noroom := true } })
    (by decide) (by decide) rfl (by simp)
  exact sets_cons_put hcount (by decide) (by decide) rfl (by simp [Fld.apart])

end

/-! # Values return (R285, R286, R327) -/

/-- An operation after a burst of stripe `st` with the payload `p`: the operation it belongs to takes the chunk's values. -/
def SenseOp.taken (o : SenseOp) (st : Nat) (p : List Nat) : SenseOp :=
  if o.id = p.getD 0 0 then
    { o with got := Sparse.put o.got (st * 64 + p.getD 1 0) ((List.range 22).map (fun i => leNat ((p.drop (2 + 2 * i)).take 2))) }
  else o

/-- The payload of a burst is its body after two bytes (R326). -/
theorem taken_payload (o : SenseOp) (st : Nat) (body : List Nat) :
    o.taken st (body.drop 2) = if o.id = body.getD 2 0 then
      { o with got := Sparse.put o.got (st * 64 + body.getD 3 0)
                        ((List.range 22).map (fun j => leNat ((body.drop (4 + 2 * j)).take 2))) }
      else o := by
  have hskip (i : Nat) : 2 + (2 + 2 * i) = 4 + 2 * i := by omega
  simp [SenseOp.taken, List.getD_eq_getElem?_getD, hskip]

/-- A valid burst of a driver that is not silenced is heard (R326). -/
theorem burstIn_valid {d : Device} {b : Burst} {st : Nat} (hsil : (d.ret b.ret).silenced.testBit b.slot = false)
    (hphase : (d.ret b.ret).phase.find? (fun e => e.1 == b.slot.val) = none) (hcode : b.codeErr = false) (hguard : b.guard = false)
    (hcrc : b.crc = linkCrc16 b.body) (hst : d.slotStripe b.ret b.slot = some st) :
    ∃ x, d.burstIn b = ({ d with link := x }, some (st, b.body.drop 2)) := by
  unfold Device.burstIn
  simp only [hsil, hphase, hcode, hguard, hcrc, bne_self_eq_false, Bool.or_self, Bool.false_eq_true, if_false, hst]
  exact ⟨_, rfl⟩

theorem burstHeard_inTime (d : Device) (n : Nat) : ∃ x, d.burstHeard n false = { d with link := x } := ⟨_, rfl⟩

theorem exec_senseBurst {b : Burst} {st : Nat} {s : State} (hsil : (s.toDevice.ret b.ret).silenced.testBit b.slot = false)
    (hphase : (s.toDevice.ret b.ret).phase.find? (fun e => e.1 == b.slot.val) = none) (hcode : b.codeErr = false) (hguard : b.guard = false)
    (hcrc : b.crc = linkCrc16 b.body) (hst : s.toDevice.slotStripe b.ret b.slot = some st) :
    ∃ x, exec (.senseBurst b false) s = .next { s with toDevice :=
      { s.toDevice with link := x, srv := { s.srv with ops := s.srv.ops.map (fun o => o.taken st (b.body.drop 2)) } } } := by
  obtain ⟨x, hx⟩ := burstIn_valid hsil hphase hcode hguard hcrc hst
  show ∃ x, execSenseBurst b false s = _
  rw [execSenseBurst, run_next, hx]
  obtain ⟨y, hy⟩ := burstHeard_inTime { s.toDevice with link := x } (s.act.lanes.getD st {}).lane
  refine ⟨y, ?_⟩
  simp only [hy]
  rfl

/-- A valid burst adds its values to the operation it names, and to no other (R285, R327). -/
theorem senseBurst_yields {b : Burst} {st : Nat} {s : State} (hsil : (s.toDevice.ret b.ret).silenced.testBit b.slot = false)
    (hphase : (s.toDevice.ret b.ret).phase.find? (fun e => e.1 == b.slot.val) = none) (hcode : b.codeErr = false) (hguard : b.guard = false)
    (hcrc : b.crc = linkCrc16 b.body) (hst : s.toDevice.slotStripe b.ret b.slot = some st) :
    Yields (.senseBurst b false) s (fun e => e.srv.ops.length = s.srv.ops.length ∧
      (∀ i (h : i < s.srv.ops.length), (s.srv.ops[i]).id = b.body.getD 2 0 → e.srv.ops[i]? = some { s.srv.ops[i] with
        got := Sparse.put (s.srv.ops[i]).got (st * 64 + b.body.getD 3 0) ((List.range 22).map (fun j => leNat ((b.body.drop (4 + 2 * j)).take 2))) }) ∧
      (∀ i (h : i < s.srv.ops.length), (s.srv.ops[i]).id ≠ b.body.getD 2 0 → e.srv.ops[i]? = some s.srv.ops[i]) ∧
      e = { s.toDevice with link := e.link, srv := { s.srv with ops := e.srv.ops } }) := by
  obtain ⟨x, hexec⟩ := exec_senseBurst hsil hphase hcode hguard hcrc hst
  refine ⟨_, hexec, List.length_map _, fun i h hid => ?_, fun i h hid => ?_, rfl⟩
  · rw [List.getElem?_map, List.getElem?_eq_getElem h, Option.map_some, taken_payload, if_pos hid]
  · rw [List.getElem?_map, List.getElem?_eq_getElem h, Option.map_some, taken_payload, if_neg hid]

end Sys2Proof.Machine

namespace Sys2Proof.Machine

/-! # Writes of the frame store without ECC findings (R386, R387) -/

/-- The memories once the bytes `bs` of word `w` are stored. -/
def Mem.wordStored (x : Mem) (w : Nat) (bs : List (Nat × Nat)) : Mem :=
  { x with fs := bs.foldl (fun m b => Sparse.set (fsDef x.lay) m b.1 (Byte.of b.2)) x.fs,
           writeback := x.writeback.filter (fun k => k != w) }

/-- The memories once bytes are stored, word by word. -/
def Mem.stored (x : Mem) (bs : List (Nat × Nat)) : Mem :=
  (bs.map (fun b => b.1 / 8)).eraseDups.foldl (fun x w => x.wordStored w (bs.filter (fun b => b.1 / 8 == w))) x

theorem fsWord_of_clean {d : Device} (h : d.fsClean) (m w : Nat) (bs : List (Nat × Nat)) :
    d.fsWord m w bs = { d with mem := d.mem.wordStored w bs } := by
  simp [Device.fsWord, Device.fsPut, Mem.wordStored, h.ue, h.ce]

theorem wordStored_clean {d : Device} (h : d.fsClean) (w : Nat) (bs : List (Nat × Nat)) :
    ({ d with mem := d.mem.wordStored w bs } : Device).fsClean := ⟨h.ue, h.ce⟩

/-- Without ECC findings a write changes the memories alone, whatever else the device holds. -/
theorem fsWrite_of_clean {d : Device} (h : d.fsClean) (m : Nat) (bs : List (Nat × Nat)) :
    d.fsWrite m bs = { d with mem := d.mem.stored bs } ∧ (d.fsWrite m bs).fsClean := by
  unfold Device.fsWrite Mem.stored
  induction (bs.map (fun b => b.1 / 8)).eraseDups generalizing d with
  | nil => exact ⟨rfl, h⟩
  | cons w l ih =>
    have hw := fsWord_of_clean h m w (bs.filter (fun b => b.1 / 8 == w))
    obtain ⟨heq, hclean⟩ := ih (wordStored_clean h w (bs.filter (fun b => b.1 / 8 == w)))
    rw [eachOf, List.foldl_cons, hw]
    exact ⟨heq, hclean⟩

/-- A run of writes whose bytes the memories take no part in: they are stored one after the other. -/
theorem eachOf_fsWrite_of_clean {α : Type} (m : Nat) (f : α → Device → List (Nat × Nat)) (l : List α) {d : Device} (h : d.fsClean)
    (hf : ∀ a x, f a { d with mem := x } = f a d) :
    eachOf l (fun a d => d.fsWrite m (f a d)) d = { d with mem := (l.map (fun a => f a d)).foldl Mem.stored d.mem } := by
  induction l generalizing d with
  | nil => rfl
  | cons a l ih =>
    obtain ⟨heq, hclean⟩ := fsWrite_of_clean h m (f a d)
    rw [heq] at hclean
    have hrest := ih hclean fun b x => (hf b x).trans (hf b _).symm
    simp only [hf] at hrest
    rw [eachOf, List.foldl_cons, heq]
    exact hrest

/-! # A row of the scratch (R287) -/

/-- What a row of a scratch bank writes: its entry in the row table, and the values of each stripe. -/
def Device.scratchBytes (d : Device) (o : SenseOp) (row : List (Nat × List Nat)) : List (List (Nat × Nat)) :=
  let base := d.rd (SRV_SCRATCH_ADDR (d.get SRV_STAT_bank))
  let miss := ((row.flatMap (fun p => p.2)).filter (fun v => v == 0xFFFF)).length
  atAddr (base + 16 * (4352 * o.level + o.row))
    (leBytes 4 (d.get SRV_SWEEP_number) ++ leBytes 4 (d.rd KEEP_CLK) ++ leBytes 2 miss ++ [b2n o.again, 0, 0, 0, 0, 0]) ::
  row.map (fun p =>
    atAddr (base + 278528 + 2 * ((o.level * d.vact + o.row) * d.qOf p.1 * d.hact + d.qOf p.1 * (d.stripe p.1).firstCol))
      (p.2.flatMap (fun v => leBytes 2 v)))

/-- Without ECC findings a row is written into the memories alone. -/
theorem scratchWrite_of_clean {d : Device} (h : d.fsClean) (o : SenseOp) (row : List (Nat × List Nat)) :
    d.scratchWrite o row = { d with mem := (d.scratchBytes o row).foldl Mem.stored d.mem } := by
  unfold Device.scratchWrite Device.scratchBytes
  extract_lets base miss d1
  obtain ⟨heq, hclean⟩ : d1 = _ ∧ d1.fsClean := fsWrite_of_clean h 12 (atAddr (base + 16 * (4352 * o.level + o.row))
    (leBytes 4 (d.get SRV_SWEEP_number) ++ leBytes 4 (d.rd KEEP_CLK) ++ leBytes 2 miss ++ [b2n o.again, 0, 0, 0, 0, 0]))
  have hrows := eachOf_fsWrite_of_clean 12 (fun (p : Nat × List Nat) d =>
    atAddr (base + 278528 + 2 * ((o.level * d.vact + o.row) * d.qOf p.1 * d.hact + d.qOf p.1 * (d.stripe p.1).firstCol))
      (p.2.flatMap (fun v => leBytes 2 v))) row hclean fun _ _ => rfl
  refine hrows.trans ?_
  rw [heq]
  rfl

end Sys2Proof.Machine

namespace Sys2Proof.Machine

/-! # The return deadline (R285, R286) -/

/-- The device once the oldest operation has been counted as done. -/
def Device.opDone (d : Device) : Device :=
  ({ d with srv := { d.srv with ops := d.srv.ops.drop 1 } } : Device).bump SRV_EVT0_done

/-- The active set and the values in force alone say how a driver's values stand. -/
theorem channels_congr {d e : Device} (hact : e.act = d.act) (hforce : e.force = d.force) (k : Nat) : e.channels k = d.channels k := by
  simp only [Device.channels, Device.getF, Device.rdF, hact, hforce]

theorem senseVals_congr {d e : Device} (hact : e.act = d.act) (hforce : e.force = d.force) (o : SenseOp) (k : Nat) :
    e.senseVals o k = d.senseVals o k := by
  rw [Device.senseVals, channels_congr hact hforce, Device.senseVals]

theorem glassOrder_congr {d e : Device} (hact : e.act = d.act) (hforce : e.force = d.force) (k : Nat) (vals : List Nat) :
    e.glassOrder k vals = d.glassOrder k vals := by
  have hgetF (f : Fld) : e.getF f = d.getF f := by rw [Device.getF, Device.rdF, hforce, Device.getF, Device.rdF]
  rw [Device.glassOrder, Device.qOf, Device.stripe, hact, hgetF, hgetF, hgetF, Device.glassOrder, Device.qOf, Device.stripe]

theorem senseRow_congr {d e : Device} (hact : e.act = d.act) (hforce : e.force = d.force) (o : SenseOp) :
    e.senseRow o = d.senseRow o := by
  simp only [Device.senseRow, Device.stripeCount, hact, senseVals_congr hact hforce, glassOrder_congr hact hforce,
    channels_congr hact hforce]

@[simp] theorem opDone_act (d : Device) : d.opDone.act = d.act := Device.bump_act _ _ _

@[simp] theorem opDone_force (d : Device) : d.opDone.force = d.force := Device.bump_force _ _ _

theorem opDone_eq (d : Device) : d.opDone = { d with
    regs := (d.bump SRV_EVT0_done).regs, srv := { d.srv with ops := d.srv.ops.drop 1 } } := by
  rw [Device.opDone, mk_bump]

theorem scratchBytes_opDone (d : Device) (o : SenseOp) (row : List (Nat × List Nat)) :
    d.opDone.scratchBytes o row = d.scratchBytes o row := by
  have hrd (x : Nat) (hx : x ≠ SRV_EVT0) : d.opDone.rd x = d.rd x := Device.rd_bump_ne _ _ hx
  have hget (f : Fld) (hf : f.off ≠ SRV_EVT0) : d.opDone.get f = d.get f := Device.get_bump_ne _ _ hf
  unfold Device.scratchBytes
  rw [hget SRV_STAT_bank (by decide), hget SRV_SWEEP_number (by decide), hrd KEEP_CLK (by decide),
    hrd _ (by show 0xc0068 + 0x4 * _ ≠ 0xc0038; omega)]
  simp only [Device.vact, Device.hact, Device.qOf, Device.stripe, Device.getF, Device.rdF, opDone_act, opDone_force]

/-- Every driver has returned its values. -/
def Device.opWhole (d : Device) (o : SenseOp) : Bool := (List.range d.stripeCount).all (fun k => (d.senseVals o k).isSome)

theorem opWhole_congr {d e : Device} (hact : e.act = d.act) (hforce : e.force = d.force) (o : SenseOp) : e.opWhole o = d.opWhole o := by
  simp only [Device.opWhole, Device.stripeCount, senseVals_congr hact hforce, hact]

/-- The device once an operation waits to be repeated. -/
def Device.opAgain (d : Device) (o : SenseOp) : Device :=
  ({ d with srv := { d.srv with again := d.srv.again ++ [(o.row, o.level, true)] } } : Device).bump SRV_EVT0_repeats

theorem opAgain_opDone (d : Device) (o : SenseOp) :
    d.opDone.opAgain o = { d with
      regs := ((d.bump SRV_EVT0_done).bump SRV_EVT0_repeats).regs,
      srv := { d.srv with ops := d.srv.ops.drop 1, again := d.srv.again ++ [(o.row, o.level, true)] } } := by
  simp only [Device.opAgain, Device.opDone, mk_bump]

/-- With the threshold kind, an in-service operation is repeated or its values are stored (R285, R287). -/
theorem senseEnd_inService {d : Device} {o : SenseOp} (hk : d.get SRV_SENSE_kind = 1) (hl : o.loupe = false) :
    d.senseEnd o = (if !d.opWhole o && !o.again then d.opDone.opAgain o
      else ((if d.opWhole o then d.opDone else d.opDone.bump SRV_EVT0_missing).scratchWrite o (d.senseRow o)).sweepEnd).senseSync := by
  unfold Device.senseEnd
  extract_lets srv d1 d2 whole d3 srv3 d5 d6
  have hd2 : d2 = d1 := if_pos hk
  have hd3 : d3 = d.opDone := congrArg (fun x : Device => x.bump SRV_EVT0_done) hd2
  have hwhole : whole = d.opWhole o := by
    unfold whole
    rw [hd2]
    exact opWhole_congr rfl rfl o
  have hrow : d5.senseRow o = d.senseRow o := by
    unfold d5
    rw [hd3]
    split
    · exact senseRow_congr (opDone_act d) (opDone_force d) o
    · exact senseRow_congr (by simp) (by simp) o
  have hd6 : d6 = if !whole && !o.again then d3.opAgain o else (d5.scratchWrite o (d.senseRow o)).sweepEnd := by
    rw [← hrow]
    exact if_neg (by simp [hl])
  rw [hd6]
  unfold d5
  rw [hwhole, hd3]

/-- SRV_STAT.sense alone follows the operations. -/
theorem senseSync_put (d : Device) : ∃ v, d.senseSync = d.put SRV_STAT_sense v := ⟨_, rfl⟩

/-- A sweep with an operation in progress or to be repeated goes on (R289). -/
theorem sweepEnd_waiting {d : Device} (h : d.srv.ops ≠ [] ∨ d.srv.again ≠ []) : d.sweepEnd = d := by
  unfold Device.sweepEnd
  rcases h with h | h <;> simp [h]

theorem exec_senseReturnDeadline {o : SenseOp} {rest : List SenseOp} {s : State} (hops : s.srv.ops = o :: rest) :
    exec (.senseReturnDeadline false) s = .next { s with toDevice := s.toDevice.senseEnd o } := by
  show execSenseReturnDeadline false s = _
  simp [execSenseReturnDeadline, run_next, hops]

section
variable {o : SenseOp} {rest : List SenseOp} {s : State} (hops : s.srv.ops = o :: rest) (hl : o.loupe = false)
  (hk : s.toDevice.get SRV_SENSE_kind = 1)
include hops hl hk

/-- An operation whose values are not all there is done, and is listed to be repeated (R285). -/
theorem senseReturnDeadline_repeat_yields (ha : o.again = false) (hmiss : ∃ k < s.toDevice.stripeCount, s.toDevice.senseVals o k = none) :
    Yields (.senseReturnDeadline false) s (fun e =>
      e.srv = { s.srv with ops := rest, again := s.srv.again ++ [(o.row, o.level, true)] } ∧
      e.get SRV_EVT0_done = Nat.min (s.toDevice.get SRV_EVT0_done + 1) 0xFFFF ∧
      e.get SRV_EVT0_repeats = Nat.min (s.toDevice.get SRV_EVT0_repeats + 1) 0xFF ∧
      s.toDevice.onlyRegs e [SRV_EVT0, SRV_STAT] ∧ e = { s.toDevice with regs := e.regs, srv := e.srv }) := by
  obtain ⟨k, hlt, hnone⟩ := hmiss
  have hpart : s.toDevice.opWhole o = false := List.all_eq_false.mpr ⟨k, List.mem_range.mpr hlt, by simp [hnone]⟩
  have hexec := exec_senseReturnDeadline hops
  obtain ⟨v, hv⟩ := senseSync_put (s.toDevice.opDone.opAgain o)
  rw [senseEnd_inService hk hl, if_pos (by simp [hpart, ha]), hv, opAgain_opDone, mk_put] at hexec
  have hdone := sets_cons_bump (f := SRV_EVT0_done) (n := 1) (sets_nil s.toDevice) (by decide) (by decide) rfl (by simp)
  have hrep := sets_cons_bump (f := SRV_EVT0_repeats) (n := 1) hdone (by decide) (by decide) rfl (by simp [Fld.apart])
  have hsets := sets_cons_put (f := SRV_STAT_sense) (v := v) hrep (by decide) (by decide) rfl (by simp [Fld.apart])
  have honly := onlyRegs_of_sets hsets (offs := [SRV_EVT0, SRV_STAT]) (by simp)
  obtain ⟨hval, -, -⟩ := hsets
  refine ⟨_, hexec, ?_, ?_, ?_, fun x hx => ?_, rfl⟩
  · rw [hops]
    rfl
  · rw [mk_get]
    exact hval (SRV_EVT0_done, _) (by simp)
  · rw [mk_get]
    exact hval (SRV_EVT0_repeats, _) (by simp)
  · rw [mk_rd]
    exact honly x hx

/-- An operation whose values are all there is done, and its row is stored in the scratch (R286, R287). -/
theorem senseReturnDeadline_store_yields (hall : ∀ k < s.toDevice.stripeCount, (s.toDevice.senseVals o k).isSome = true)
    (hclean : s.toDevice.fsClean) (hwait : rest ≠ [] ∨ s.srv.again ≠ []) :
    Yields (.senseReturnDeadline false) s (fun e => e.srv = { s.srv with ops := rest } ∧
      e.get SRV_EVT0_done = Nat.min (s.toDevice.get SRV_EVT0_done + 1) 0xFFFF ∧
      e.get SRV_EVT0_missing = s.toDevice.get SRV_EVT0_missing ∧ e.get SRV_SWEEP_next = s.toDevice.get SRV_SWEEP_next ∧
      (∀ a, e.fsRd a = (s.toDevice.scratchWrite o (s.toDevice.senseRow o)).fsRd a)) := by
  have hwhole : s.toDevice.opWhole o = true := List.all_eq_true.mpr fun k hk => hall k (List.mem_range.mp hk)
  have hexec := exec_senseReturnDeadline hops
  have hclean' : s.toDevice.opDone.fsClean := by
    rw [opDone_eq]
    exact ⟨hclean.ue, hclean.ce⟩
  rw [senseEnd_inService hk hl, if_neg (by simp [hwhole]), if_pos hwhole, scratchWrite_of_clean hclean', scratchBytes_opDone,
    sweepEnd_waiting (by simpa [Device.opDone, hops] using hwait)] at hexec
  obtain ⟨v, hv⟩ := senseSync_put { s.toDevice.opDone with
    mem := (s.toDevice.scratchBytes o (s.toDevice.senseRow o)).foldl Mem.stored s.toDevice.opDone.mem }
  rw [hv] at hexec
  simp only [opDone_eq, mk_put] at hexec
  have hdone := sets_cons_bump (f := SRV_EVT0_done) (n := 1) (sets_nil s.toDevice) (by decide) (by decide) rfl (by simp)
  obtain ⟨hval, hother, -⟩ := sets_cons_put (f := SRV_STAT_sense) (v := v) hdone (by decide) (by decide) rfl (by simp [Fld.apart])
  refine ⟨_, hexec, ?_, ?_, ?_, ?_, fun a => ?_⟩
  · rw [hops]
    rfl
  · rw [mk_get]
    exact hval (SRV_EVT0_done, _) (by simp)
  · rw [mk_get]
    exact hother _ (by simp [Fld.apart])
  · rw [mk_get]
    exact hother _ (by simp [Fld.apart])
  · rw [scratchWrite_of_clean hclean]
    simp only [Device.fsRd]

end

/-- Settles O49: each clause is what its command answers. -/
theorem sensingRuns : Obligations.SensingRuns := by
  refine ⟨?_, ?_, ?_, ?_, ?_⟩
  · intro m val s hc hm hv hen hplan hroles hr happly hroom htimer himage hfree
    exact sensingEnable_yields hc hm hv hen hplan hroles hr happly hroom htimer himage hfree
  · intro s hs
    refine ⟨fun hlt hops hagain => ⟨_, exec_senseTimerExpire_due hs hlt, due_bump_sets hlt hops hagain⟩,
      fun hge => ⟨_, exec_senseTimerExpire_lost hs hge, ?_⟩⟩
    exact sets_cons_bump (sets_nil _) (by decide) (by decide) rfl (by simp)
  · intro s hs hr ha hl hagain hnext hdue hblank
    exact ⟨fun hfits hlt => senseOpStart_yields hs hr ha hl hagain hnext hdue hblank hfits hlt,
      fun hfits hfirst => senseOpStart_noRoom_yields hs hr ha hl hagain hnext hdue hblank hfits hfirst⟩
  · exact fun _ _ _ hsil hphase hcode hguard hcrc hst => senseBurst_yields hsil hphase hcode hguard hcrc hst
  · intro o rest s hops hl hk
    exact ⟨fun ha hmiss => senseReturnDeadline_repeat_yields hops hl hk ha hmiss,
      fun hall hue hce hwait => senseReturnDeadline_store_yields hops hl hk hall ⟨hue, hce⟩ hwait⟩

end Sys2Proof.Machine

namespace Sys2Proof.Machine

/-! # The survey's command register (R303) -/

/-- A command whose checks all pass finds no failing one. -/
theorem srvChecks_pass {d : Device} {m v : Nat} (h : ∀ c ∈ d.srvChecks m v, c.1 = false) :
    (d.srvChecks m v).find? (fun c => c.1) = none :=
  List.find?_eq_none.mpr fun c hc => by simp [h c hc]

theorem srvChecks_codes (d : Device) (m v : Nat) :
    (d.srvChecks m v).map Prod.snd = [ePerm, eRange, eState, eAuth, eBusy, eSeq, eRange, eFull] := rfl

/-- A command with a failing check is rejected with the code of the first. -/
theorem srvCmd_reject {d : Device} {m : Master} {v : Nat} {c : Bool × Nat} (hc : d.power.coreOn = true)
    (h : (d.srvChecks m v).find? (fun x => x.1) = some c) : d.rejects (d.srvCmd m v) m 0 SRV_CMD c.2 := by
  have hcode : c.2 ∈ (d.srvChecks m v).map Prod.snd := List.mem_map_of_mem (List.mem_of_find?_eq_some h)
  have hlt : ∀ n ∈ [ePerm, eRange, eState, eAuth, eBusy, eSeq, eRange, eFull], n < 2 ^ 32 := by decide
  have hcmd : d.srvCmd m v = d.reject m SRV_CMD c.2 := by simp [Device.srvCmd, hc, h]
  rw [hcmd]
  exact reject_rejects d m SRV_CMD c.2 (hlt _ (srvChecks_codes d m v ▸ hcode)) (by decide)

/-- Setting the survey before or after makes no difference to the registers. -/
theorem sets_with_srv {b e : Device} {l : List (Fld × Nat)} (x : Survey) (hs : b.sets e l) :
    ({ b with srv := x } : Device).sets { e with srv := x } l := by
  obtain ⟨hl, ho, heq⟩ := hs
  exact ⟨hl, ho, congrArg (fun y : Device => { y with srv := x }) heq⟩

theorem sets_srv {b e : Device} {l : List (Fld × Nat)} (hs : b.sets e l) : e.srv = b.srv := by
  obtain ⟨-, -, heq⟩ := hs
  rw [heq]

/-- A command that runs: SRV_CMD_STAT shows it busy. -/
theorem srvBusy_sets (d : Device) (m : Nat) {op : Nat} (types : Nat) (hop : op < 8) :
    ({ d with srv := { d.srv with cmd := some { op := op, master := m, types := types } } } : Device).sets (d.srvBusy m op types)
      [(whole SRV_CMD_STAT, 1 + op * 4)] :=
  sets_cons_wr (sets_nil _) (Nat.mod_eq_of_lt (by omega)) (by simp)

/-- A command that has ended: SRV_CMD_STAT shows it done, beside what it set. -/
theorem srvDone_sets {b d : Device} {l : List (Fld × Nat)} (hs : b.sets d l) {op err : Nat} (hop : op < 8) (herr : err < 256)
    (ha : ∀ p ∈ l, p.1.off ≠ SRV_CMD_STAT) :
    ({ b with srv := { b.srv with cmd := none } } : Device).sets (d.srvDone op err)
      (l ++ [(whole SRV_CMD_STAT, 2 + op * 4 + err * 256)]) := by
  rw [Device.srvDone, sets_srv hs]
  exact sets_wr (sets_with_srv _ hs) (by omega) ha

/-! ## Commands that run in the background (R292, R298) -/

theorem srvCmd_stage {d : Device} {m : Nat} (hc : d.power.coreOn = true) (h : ∀ c ∈ d.srvChecks m 1, c.1 = false) :
    d.srvCmd m 1 = d.srvBusy m 1 0 := by
  simp [Device.srvCmd, hc, srvChecks_pass h, bitsOf]

theorem saveWord_fields : ∀ types : Fin 4, bitsOf (3 + 256 * types) 2 0 = 3 ∧ bitsOf (3 + 256 * types) 9 8 = types := by decide

theorem srvCmd_save {d : Device} {m : Nat} {types : Fin 4} (hc : d.power.coreOn = true)
    (h : ∀ c ∈ d.srvChecks m (3 + 256 * types), c.1 = false) :
    d.srvCmd m (3 + 256 * types) = (d.srvBusy m 3 types).put SRV_STAT_save 1 := by
  obtain ⟨hop, htypes⟩ := saveWord_fields types
  simp [Device.srvCmd, hc, srvChecks_pass h, hop, htypes]

/-- An accepted save runs, and SRV_STAT shows it. -/
theorem srvCmd_save_sets {d : Device} {m : Nat} {types : Fin 4} (hc : d.power.coreOn = true)
    (h : ∀ c ∈ d.srvChecks m (3 + 256 * types), c.1 = false) :
    ({ d with srv := { d.srv with cmd := some { op := 3, master := m, types := types } } } : Device).sets (d.srvCmd m (3 + 256 * types))
      [(whole SRV_CMD_STAT, 13), (SRV_STAT_save, 1)] := by
  rw [srvCmd_save hc h]
  exact sets_put (srvBusy_sets d m types (by decide)) (by decide) (by decide) (by decide) (by simp [Fld.apart, whole])

theorem exec_integratorSaveTimer {s : State} (hc : s.power.coreOn = true) (hm : s.toDevice.modeIn 0xC = true)
    (hint : s.toDevice.get SRV_SAVE_INT_minutes ≠ 0) :
    exec .integratorSaveTimer s = .next { s with toDevice := s.toDevice.srvCmd 3 (3 + 256 * 2) } := by
  show execIntegratorSaveTimer s = _
  simp [execIntegratorSaveTimer, run_next, hc, hm, hint]

/-! ## Commands that act at once (R289, R290, R291) -/

/-- Outside a LOUPE survey there is none to end. -/
theorem loupeEnd_none {d : Device} (h : d.get SRV_STAT_loupe = 0) : d.loupeEnd = d := by
  simp [Device.loupeEnd, h]

/-- Without a transition, the end of a LOUPE survey asks for the mode it returns to. -/
theorem loupeEnd_sets {d : Device} (h : d.get SRV_STAT_loupe ≠ 0) (ht : d.trans = none) :
    ({ d with trans := some { target := d.loupeFrom, cause := 9, master := 12 } } : Device).sets d.loupeEnd
      [(GLB_MODE_STAT_busy, 1), (GLB_MODE_STAT_target, d.loupeFrom % 8)] := by
  have hend : d.loupeEnd = (({ d with trans := some { target := d.loupeFrom, cause := 9, master := 12 } } : Device).put
      GLB_MODE_STAT_busy 1).put GLB_MODE_STAT_target d.loupeFrom := by
    simp [Device.loupeEnd, h, ht]
  rw [hend]
  have hbusy := sets_cons_put (f := GLB_MODE_STAT_busy) (v := 1) (w := 1)
    (sets_nil { d with trans := some { target := d.loupeFrom, cause := 9, master := 12 } }) (by decide) (by decide) rfl (by simp)
  exact sets_of_reverse (sets_cons_put hbusy (by decide) (by decide) rfl (by simp [Fld.apart]))

/-- A restarted sweep with an operation in progress. -/
theorem sweepRestart_sets {d : Device} (hops : d.srv.ops ≠ []) :
    ({ d with srv := { d.srv with again := [] } } : Device).sets d.sweepRestart.senseSync [(SRV_SWEEP_next, 0), (SRV_STAT_sense, 2)] := by
  rw [senseSync_running (by simpa [Device.sweepRestart] using hops), Device.sweepRestart]
  have hnext := sets_cons_put (f := SRV_SWEEP_next) (v := 0) (w := 0) (sets_nil { d with srv := { d.srv with again := [] } })
    (by decide) (by decide) rfl (by simp)
  exact sets_of_reverse (sets_cons_put hnext (by decide) (by decide) rfl (by simp [Fld.apart]))

theorem srvCmd_senseNow {d : Device} {m : Nat} (hc : d.power.coreOn = true) (h : ∀ c ∈ d.srvChecks m 4, c.1 = false) :
    d.srvCmd m 4 = ((d.bump SRV_STAT_due).senseSync).srvDone 4 0 := by
  simp [Device.srvCmd, hc, srvChecks_pass h, bitsOf]

/-- A check of op 4 is that fewer than four operations are due. -/
theorem due_lt_of_checks {d : Device} {m : Nat} (h : ∀ c ∈ d.srvChecks m 4, c.1 = false) : d.get SRV_STAT_due < 4 := by
  have hfull := h (bitsOf 4 2 0 = 4 && decide (4 ≤ d.get SRV_STAT_due), eFull) (by simp [Device.srvChecks])
  simpa [bitsOf] using hfull

theorem srvCmd_restart {d : Device} {m : Nat} (hc : d.power.coreOn = true) (h : ∀ c ∈ d.srvChecks m 5, c.1 = false) :
    d.srvCmd m 5 = (d.sweepRestart.senseSync).srvDone 5 0 := by
  simp [Device.srvCmd, hc, srvChecks_pass h, bitsOf]

theorem srvCmd_endLoupe {d : Device} {m : Nat} (hc : d.power.coreOn = true) (h : ∀ c ∈ d.srvChecks m 6, c.1 = false) :
    d.srvCmd m 6 = d.loupeEnd.srvDone 6 0 := by
  simp [Device.srvCmd, hc, srvChecks_pass h, bitsOf]

/-- A check of op 6 is that a LOUPE survey runs. -/
theorem loupe_of_checks {d : Device} {m : Nat} (h : ∀ c ∈ d.srvChecks m 6, c.1 = false) : d.get SRV_STAT_loupe ≠ 0 := by
  intro hl
  have hstate := h (_, eState) (List.mem_cons_of_mem _ (List.mem_cons_of_mem _ List.mem_cons_self))
  simp [bitsOf, hl] at hstate

/-! ## Applies (R292, R294, R295) -/

theorem srvCmd_apply {d : Device} {m : Nat} (hc : d.power.coreOn = true) (h : ∀ c ∈ d.srvChecks m 2, c.1 = false) :
    d.srvCmd m 2 = d.srvApply := by
  simp [Device.srvCmd, hc, srvChecks_pass h, bitsOf]

/-- While the raster runs, an apply waits for the first frame of its ramp. -/
theorem srvApply_waits {d : Device} (hl : d.get SRV_STAT_loupe = 0) (hr : d.get TMG_STAT_raster ≠ 0) :
    ({ d with srv := { d.srv with applyN := some (d.applyLen.getD 1), cmd := none } } : Device).sets d.srvApply
      [(SRV_STAT_stage_valid, 0), (whole SRV_CMD_STAT, 10)] := by
  have hstage := sets_cons_put (f := SRV_STAT_stage_valid) (v := 0) (w := 0) (sets_nil d) (by decide) (by decide) rfl (by simp)
  have hraster : (d.put SRV_STAT_stage_valid 0).rasterStopped = false := by
    rw [Device.rasterStopped, Device.get_put_ne _ _ (by decide)]
    simp [hr]
  have hloupe : (d.put SRV_STAT_stage_valid 0).get SRV_STAT_loupe = 0 :=
    (get_put_apart d (f := SRV_STAT_stage_valid) (g := SRV_STAT_loupe) 0 (by decide) (by decide) (by simp [Fld.apart])).trans hl
  have hw := sets_with_srv { d.srv with applyN := some (d.applyLen.getD 1) } hstage
  have hdone := srvDone_sets hw (op := 2) (err := 0) (by decide) (by decide) (by simp)
  simp only [Device.srvApply, hraster, Bool.false_eq_true, if_false]
  rw [loupeEnd_none (by simpa using hloupe)]
  exact hdone

/-- An exchange of the planes sets five fields, and notes the apply (R294). -/
theorem planesExchange_sets {b d : Device} (hs : b.sets d [(SRV_STAT_stage_valid, 0)]) :
    ({ b with srv := { b.srv with rampN := 0, applyN := none, applied := true } } : Device).sets d.planesExchange
      [(SRV_IRQ_ramp, 1), (SRV_STAT_ramp_j, 0), (SRV_STAT_ramp, 0),
       (whole SRV_STAGE_ADDR, b.rd (MEM_RGN_BASE (3 + b.get MEM_FS_STAT_cmp))), (MEM_FS_STAT_cmp, 1 - b.get MEM_FS_STAT_cmp),
       (SRV_STAT_stage_valid, 0)] := by
  have hcmp : d.get MEM_FS_STAT_cmp = b.get MEM_FS_STAT_cmp := sets_get hs (by simp [Fld.apart])
  have hbit : b.get MEM_FS_STAT_cmp < 2 := b.get_lt MEM_FS_STAT_cmp
  have hbase : d.rd (MEM_RGN_BASE (4 - (1 - b.get MEM_FS_STAT_cmp))) = b.rd (MEM_RGN_BASE (3 + b.get MEM_FS_STAT_cmp)) := by
    rw [← get_whole, ← get_whole, show 4 - (1 - b.get MEM_FS_STAT_cmp) = 3 + b.get MEM_FS_STAT_cmp by omega]
    refine sets_get hs (List.forall_mem_singleton.mpr (.inl ?_))
    show 0x120080 + 0x4 * (3 + b.get MEM_FS_STAT_cmp) ≠ 0xc0004
    omega
  have h1 := sets_cons_put (f := MEM_FS_STAT_cmp) (v := 1 - b.get MEM_FS_STAT_cmp) hs (by decide) (by decide)
    (Nat.mod_eq_of_lt (show 1 - b.get MEM_FS_STAT_cmp < 2 by omega)) (by simp [Fld.apart])
  have h2 := sets_cons_wr (off := SRV_STAGE_ADDR) h1 (Nat.mod_eq_of_lt (b.rd_lt (MEM_RGN_BASE (3 + b.get MEM_FS_STAT_cmp))))
    (by simp)
  have h3 := sets_cons_put (f := SRV_STAT_ramp) (v := 0) (w := 0) h2 (by decide) (by decide) rfl (by simp [Fld.apart, whole])
  have h4 := sets_cons_put (f := SRV_STAT_ramp_j) (v := 0) (w := 0) h3 (by decide) (by decide) rfl (by simp [Fld.apart, whole])
  have h5 := sets_cons_put (f := SRV_IRQ_ramp) (v := 1) (w := 1) h4 (by decide) (by decide) rfl (by simp [Fld.apart, whole])
  have hx := sets_with_srv { b.srv with rampN := 0, applyN := none, applied := true } h5
  rw [Device.planesExchange, hcmp, hbase]
  simpa [sets_srv hs] using hx

/-- While the raster is stopped, an apply exchanges the planes at once. -/
theorem srvApply_steps {d : Device} (hl : d.get SRV_STAT_loupe = 0) (hr : d.get TMG_STAT_raster = 0) :
    ({ d with srv := { d.srv with rampN := 0, applyN := none, applied := true, cmd := none } } : Device).sets d.srvApply
      [(SRV_IRQ_ramp, 1), (SRV_STAT_ramp_j, 0), (SRV_STAT_ramp, 0),
       (whole SRV_STAGE_ADDR, d.rd (MEM_RGN_BASE (3 + d.get MEM_FS_STAT_cmp))), (MEM_FS_STAT_cmp, 1 - d.get MEM_FS_STAT_cmp),
       (SRV_STAT_stage_valid, 0), (whole SRV_CMD_STAT, 10)] := by
  have hstage := sets_cons_put (f := SRV_STAT_stage_valid) (v := 0) (w := 0) (sets_nil d) (by decide) (by decide) rfl (by simp)
  have hraster : (d.put SRV_STAT_stage_valid 0).rasterStopped = true := by
    rw [Device.rasterStopped, Device.get_put_ne _ _ (by decide)]
    simp [hr]
  have hplanes := planesExchange_sets hstage
  have hloupe : (d.put SRV_STAT_stage_valid 0).planesExchange.get SRV_STAT_loupe = 0 :=
    (sets_get hplanes (by simp [Fld.apart, whole])).trans hl
  have hdone := srvDone_sets hplanes (op := 2) (err := 0) (by decide) (by decide) (by simp [whole])
  simp only [Device.srvApply, hraster, if_true]
  rw [loupeEnd_none hloupe]
  exact hdone

/-- The planes have exchanged, the ramp is over, and the staging plane is the one that was in force. -/
theorem srvApply_steps_gives {d : Device} (hl : d.get SRV_STAT_loupe = 0) (hr : d.get TMG_STAT_raster = 0) :
    let e := d.srvApply
    e.get MEM_FS_STAT_cmp = 1 - d.get MEM_FS_STAT_cmp ∧ e.get SRV_STAT_ramp = 0 ∧ e.get SRV_STAT_stage_valid = 0 ∧
      e.get SRV_IRQ_ramp = 1 ∧ e.srv.applyN = none ∧ e.srv.applied = true ∧ e.rd SRV_CMD_STAT = 10 ∧
      e.rd SRV_STAGE_ADDR = d.rd (MEM_RGN_BASE (3 + d.get MEM_FS_STAT_cmp)) ∧ e.mem = d.mem := by
  obtain ⟨hval, -, heq⟩ := srvApply_steps hl hr
  refine ⟨hval (MEM_FS_STAT_cmp, _) (by simp), hval (SRV_STAT_ramp, 0) (by simp), hval (SRV_STAT_stage_valid, 0) (by simp),
    hval (SRV_IRQ_ramp, 1) (by simp), by rw [heq], by rw [heq], ?_, ?_, by rw [heq]⟩
  · rw [← get_whole]
    exact hval (whole SRV_CMD_STAT, 10) (by simp)
  · rw [← get_whole]
    exact hval (whole SRV_STAGE_ADDR, d.rd (MEM_RGN_BASE (3 + d.get MEM_FS_STAT_cmp))) (by simp)

end Sys2Proof.Machine

namespace Sys2Proof.Machine

/-! # A stage ends (R292) -/

section
variable {α : Type} (d : Nat → α) (m : Sparse α) (b t n : Nat)

/-- The entries between `b` and `b + n`, moved to `t`. -/
def Sparse.moved (m : Sparse α) (b t n : Nat) : Sparse α :=
  (m.filter (fun e => decide (b ≤ e.1 ∧ e.1 < b + n))).map (fun e => (e.1 - b + t, e.2))

/-- Where the default is the same in both places, the moved entries read as the ones they come from. -/
theorem get_moved {a : Nat} (ha : t ≤ a ∧ a < t + n) (hd : d a = d (a - t + b)) :
    Sparse.get d (Sparse.moved m b t n) a = Sparse.get d m (a - t + b) := by
  unfold Sparse.moved
  induction m with
  | nil => exact hd
  | cons e m ih =>
    obtain ⟨k, v⟩ := e
    by_cases hk : b ≤ k ∧ k < b + n
    · have hiff : a = k - b + t ↔ a - t + b = k := by omega
      rw [List.filter_cons_of_pos (by simpa using hk), List.map_cons, Sparse.get, Sparse.get, ih]
      exact if_congr hiff rfl rfl
    · rw [List.filter_cons_of_neg (by simpa using hk), ih, Sparse.get, if_neg (by omega)]

theorem moved_keys {k : Nat} (hk : k ∈ (Sparse.moved m b t n).map Prod.fst) : t ≤ k ∧ k < t + n := by
  simp only [Sparse.moved, List.map_map, List.mem_map, List.mem_filter, decide_eq_true_eq, Function.comp] at hk
  obtain ⟨e, ⟨-, hlo, hhi⟩, rfl⟩ := hk
  omega

theorem moved_sorted (hm : m.Pairwise (fun x y => x.1 < y.1)) : (Sparse.moved m b t n).Pairwise (fun x y => x.1 < y.1) := by
  refine List.pairwise_map.mpr ((hm.filter _).imp_of_mem fun {x y} hx _ hlt => ?_)
  have hlo : b ≤ x.1 ∧ x.1 < b + n := by simpa using (List.mem_filter.mp hx).2
  show x.1 - b + t < y.1 - b + t
  omega

/-- A copy of the range from `b` over the range from `t`, whether or not the two meet. -/
theorem get_copied [DecidableEq α] (hm : Sparse.wf d m = true) (hd : ∀ i < n, d (t + i) = d (b + i)) (a : Nat) :
    Sparse.get d ((m.filter (fun e => decide (b ≤ e.1 ∧ e.1 < b + n))).foldl (fun x e => Sparse.set d x (e.1 - b + t) e.2)
        (m.dropWhere (fun k => decide (t ≤ k ∧ k < t + n)))) a =
      if t ≤ a ∧ a < t + n then Sparse.get d m (a - t + b) else Sparse.get d m a := by
  obtain ⟨hsorted, -⟩ := (Sparse.wf_iff d m).mp hm
  have hfold := get_foldl_set d (Sparse.moved m b t n) (m.dropWhere (fun k => decide (t ≤ k ∧ k < t + n))) a
    (moved_sorted m b t n hsorted)
  rw [Sparse.moved, List.foldl_map, ← Sparse.moved, Sparse.get_dropWhere] at hfold
  rw [hfold]
  by_cases ha : t ≤ a ∧ a < t + n
  · have hdef : d a = d (a - t + b) := by
      have hi := hd (a - t) (by omega)
      rwa [Nat.add_sub_cancel' ha.1, Nat.add_comm] at hi
    rw [if_pos ha, ← get_moved d m b t n ha hdef]
    split
    · rfl
    next hnone =>
      rw [if_pos (by simpa using ha)]
      exact (Sparse.get_of_none d _ a fun c hc heq => hnone (List.mem_map.mpr ⟨c, hc, heq⟩)).symm
  · rw [if_neg ha, if_neg (fun hmem => ha (moved_keys m b t n hmem)), if_neg (by simpa using ha)]

end

/-- The frame store with the range from `b` copied over the range from `t`. -/
def Mem.copied (x : Mem) (b t n : Nat) : Sparse Byte :=
  (x.fs.filter (fun e => decide (b ≤ e.1 ∧ e.1 < b + n))).foldl (fun m e => Sparse.set (fsDef x.lay) m (e.1 - b + t) e.2)
    (x.fs.dropWhere (fun a => decide (t ≤ a ∧ a < t + n)))

theorem rgnReadCheck_of_clean {d : Device} (h : d.fsClean) (i : Nat) : d.rgnReadCheck i = d := by
  simp [Device.rgnReadCheck, h.ue, h.ce, eachOf]

/-- The frame store with the plane in force copied over the staging plane. -/
def Device.staged (d : Device) : Sparse Byte :=
  d.mem.copied (d.rgnBase (3 + d.get MEM_FS_STAT_cmp)) (d.rgnBase (4 - d.get MEM_FS_STAT_cmp))
    (d.rd (MEM_RGN_SIZE (3 + d.get MEM_FS_STAT_cmp)))

/-- Without ECC findings, staging copies the plane in force over the staging plane, and marks it as valid. -/
theorem stageCopy_of_clean {d : Device} (h : d.fsClean) :
    d.stageCopy = ({ d with mem := { d.mem with fs := d.staged } } : Device).put SRV_STAT_stage_valid 1 := by
  have hto : 7 - (3 + d.get MEM_FS_STAT_cmp) = 4 - d.get MEM_FS_STAT_cmp := by omega
  have hue (p : Nat → Bool) : d.mem.fsUe.filter p = d.mem.fsUe := by rw [h.ue, List.filter_nil]
  have hce (p : Nat → Bool) : d.mem.fsCe.filter p = d.mem.fsCe := by rw [h.ce, List.filter_nil]
  simp only [Device.stageCopy, rgnReadCheck_of_clean h, hto, hue, hce]
  rfl

theorem exec_surveyCmdComplete_stage {c : SurveyCmd} {err : Bool} {s : State} (hc : s.power.coreOn = true) (hcmd : s.srv.cmd = some c)
    (hop : c.op = 1) : exec (.surveyCmdComplete err) s = .next { s with toDevice := s.toDevice.stageCopy.srvDone 1 0 } := by
  show execSurveyCmdComplete err s = _
  simp [execSurveyCmdComplete, run_next, hc, hcmd, hop]

/-- A stage that ends leaves the staging plane as a copy of the plane in force, valid, and touches nothing else (R292). -/
theorem surveyCmdComplete_stage_yields {c : SurveyCmd} {b t n : Nat} {s : State} (hc : s.power.coreOn = true)
    (hcmd : s.srv.cmd = some c) (hop : c.op = 1) (hwf : s.toDevice.memWf) (hclean : s.toDevice.fsClean)
    (hb : s.toDevice.rgnBase (3 + s.toDevice.get MEM_FS_STAT_cmp) = b) (ht : s.toDevice.rgnBase (4 - s.toDevice.get MEM_FS_STAT_cmp) = t)
    (hn : s.toDevice.rd (MEM_RGN_SIZE (3 + s.toDevice.get MEM_FS_STAT_cmp)) = n)
    (hdef : ∀ i < n, fsDef s.mem.lay (t + i) = fsDef s.mem.lay (b + i)) :
    Yields (.surveyCmdComplete false) s (fun e =>
      (∀ a, e.fsRd a = if t ≤ a ∧ a < t + n then s.toDevice.fsRd (a - t + b) else s.toDevice.fsRd a) ∧
      e.get SRV_STAT_stage_valid = 1 ∧ e.rd SRV_CMD_STAT = 6 ∧ e.srv = { s.srv with cmd := none } ∧
      s.toDevice.onlyRegs e [SRV_STAT, SRV_CMD_STAT] ∧
      e = { s.toDevice with regs := e.regs, mem := { s.mem with fs := e.mem.fs }, srv := e.srv }) := by
  obtain ⟨hfs, -⟩ := hwf
  have hvalid := sets_cons_put (f := SRV_STAT_stage_valid) (v := 1) (w := 1)
    (sets_nil { s.toDevice with mem := { s.mem with fs := s.toDevice.staged } }) (by decide) (by decide) rfl (by simp)
  have hdone := srvDone_sets hvalid (op := 1) (err := 0) (by decide) (by decide) (by simp)
  rw [← stageCopy_of_clean hclean] at hdone
  have honly := onlyRegs_of_sets hdone (offs := [SRV_STAT, SRV_CMD_STAT]) (by simp [whole])
  obtain ⟨hval, -, heq⟩ := hdone
  refine ⟨_, exec_surveyCmdComplete_stage hc hcmd hop, fun a => ?_, hval (SRV_STAT_stage_valid, 1) (by simp), ?_, ?_, honly, ?_⟩
  · have hcopied := get_copied (fsDef s.mem.lay) s.mem.fs _ _ _ hfs hdef a
    rw [heq]
    simp only [Device.fsRd, Device.staged, Mem.copied, hb, ht, hn, hcopied]
    split <;> rfl
  · rw [← get_whole]
    exact hval (whole SRV_CMD_STAT, 6) (by simp)
  · rw [heq]
  · rw [heq]

/-! # A save fails (R298) -/

/-- Without ECC findings, saving a type writes the flash alone. -/
theorem saveType_of_clean {d : Device} (h : d.fsClean) (t : Nat) : ∃ x, (d.saveType t).1 = { d with hif := x } := by
  simp only [Device.saveType, rgnReadCheck_of_clean h]
  exact ⟨_, rfl⟩

/-- A save of type 0 that fails has written the flash alone: index, versions and calibration stay. -/
theorem saveEnd_fails {d : Device} (h : d.fsClean) : ∃ x, d.saveEnd 1 true = { d with hif := x } := by
  have hbit : Nat.testBit 1 1 = false := by decide
  simpa [Device.saveEnd, hbit] using saveType_of_clean h 0

theorem exec_surveyCmdComplete_save {c : SurveyCmd} {err : Bool} {s : State} (hc : s.power.coreOn = true) (hcmd : s.srv.cmd = some c)
    (hop : c.op = 3) : exec (.surveyCmdComplete err) s = .next { s with toDevice :=
      (((s.toDevice.saveEnd c.types err).put SRV_STAT_save 0).put SRV_IRQ_save 1).srvDone 3 (if err then eState else 0) } := by
  show execSurveyCmdComplete err s = _
  simp [execSurveyCmdComplete, run_next, hc, hcmd, hop]

theorem surveyCmdComplete_saveFails_yields {c : SurveyCmd} {s : State} (hc : s.power.coreOn = true) (hcmd : s.srv.cmd = some c)
    (hop : c.op = 3) (htypes : c.types = 1) (hclean : s.toDevice.fsClean) :
    Yields (.surveyCmdComplete true) s (fun e => e.get SRV_STAT_save = 0 ∧ e.get SRV_IRQ_save = 1 ∧
      e.rd SRV_CMD_STAT = 14 + eState * 256 ∧ e.rd (CMP_MAP_VER 0) = s.toDevice.rd (CMP_MAP_VER 0) ∧ e.keep = s.keep ∧ e.mem = s.mem) := by
  obtain ⟨x, hx⟩ := saveEnd_fails hclean
  have hexec := exec_surveyCmdComplete_save (err := true) hc hcmd hop
  rw [htypes, hx, if_pos rfl] at hexec
  have hsave := sets_cons_put (f := SRV_STAT_save) (v := 0) (w := 0) (sets_nil { s.toDevice with hif := x }) (by decide) (by decide) rfl
    (by simp)
  have hirq := sets_cons_put (f := SRV_IRQ_save) (v := 1) (w := 1) hsave (by decide) (by decide) rfl (by simp [Fld.apart])
  have hdone := srvDone_sets hirq (op := 3) (err := eState) (by decide) (by decide) (by simp)
  have honly := onlyRegs_of_sets hdone (offs := [SRV_STAT, SRV_IRQ, SRV_CMD_STAT]) (by simp [whole])
  obtain ⟨hval, -, heq⟩ := hdone
  refine ⟨_, hexec, hval (SRV_STAT_save, 0) (by simp), hval (SRV_IRQ_save, 1) (by simp), ?_,
    honly (CMP_MAP_VER 0) (by decide), ?_, ?_⟩
  · rw [← get_whole]
    exact hval (whole SRV_CMD_STAT, 14 + eState * 256) (by simp)
  · rw [heq]
  · rw [heq]

/-- Settles O50: each accepted command sets what its equation says, a refused one is rejected with the code of its first failing check, and the two ends are `surveyCmdComplete_stage_yields` and `surveyCmdComplete_saveFails_yields`. -/
theorem surveyIsCommanded : Obligations.SurveyIsCommanded := by
  refine ⟨fun m s hc => ⟨?_, ?_, ?_, ?_, ?_, ?_⟩, ?_, ?_, ?_, ?_⟩
  · intro h
    refine ⟨s.toDevice.srvCmd m 1, rfl, ?_⟩
    rw [srvCmd_stage hc h]
    exact srvBusy_sets s.toDevice m 0 (by decide)
  · intro h hl
    have hexec : exec (.surveyApply m) s = .next { s with toDevice := s.toDevice.srvApply } := by rw [← srvCmd_apply hc h]; rfl
    refine ⟨fun hr => ⟨_, hexec, srvApply_waits hl hr⟩, fun hr => ⟨_, hexec, ?_⟩⟩
    exact srvApply_steps_gives hl hr
  · intro types h
    exact ⟨_, rfl, srvCmd_save_sets hc h⟩
  · intro h hops hagain
    refine ⟨s.toDevice.srvCmd m 4, rfl, ?_⟩
    rw [srvCmd_senseNow hc h]
    exact srvDone_sets (due_bump_sets (due_lt_of_checks h) hops hagain) (by decide) (by decide) (by simp)
  · intro h hops
    refine ⟨s.toDevice.srvCmd m 5, rfl, ?_⟩
    rw [srvCmd_restart hc h]
    exact srvDone_sets (sweepRestart_sets hops) (by decide) (by decide) (by simp)
  · intro h ht
    refine ⟨s.toDevice.srvCmd m 6, rfl, ?_⟩
    rw [srvCmd_endLoupe hc h]
    exact srvDone_sets (loupeEnd_sets (loupe_of_checks h) ht) (by decide) (by decide) (by simp)
  · exact fun m c s hc h => ⟨_, rfl, srvCmd_reject hc h⟩
  · intro s hc hm hint h
    exact ⟨_, exec_integratorSaveTimer hc hm hint, srvCmd_save_sets (types := 2) hc h⟩
  · exact fun c s hc hcmd hop hwf hue hce hdef => surveyCmdComplete_stage_yields hc hcmd hop hwf ⟨hue, hce⟩ rfl rfl rfl hdef
  · exact fun c s hc hcmd hop ht hue hce => surveyCmdComplete_saveFails_yields hc hcmd hop ht ⟨hue, hce⟩

end Sys2Proof.Machine

namespace Sys2Proof.Machine

/-! # Lanes and return lanes after an update of the link -/

theorem lane_setLane (d : Device) (n : Nat) (x : LaneX) (k : Nat) : (d.setLane n x).lane k = if k = n then x else d.lane k :=
  Sparse.get_set _ _ _ _ _

@[simp] theorem lane_setLane_same (d : Device) (n : Nat) (x : LaneX) : (d.setLane n x).lane n = x := Sparse.get_set_same _ _ _ _

theorem lane_setLane_ne (d : Device) {n k : Nat} (x : LaneX) (h : k ≠ n) : (d.setLane n x).lane k = d.lane k :=
  Sparse.get_set_ne _ _ _ h

@[simp] theorem ret_setRet_same (d : Device) (r : Nat) (x : RetX) : (d.setRet r x).ret r = x := Sparse.get_set_same _ _ _ _

theorem ret_setRet_ne (d : Device) {r k : Nat} (x : RetX) (h : k ≠ r) : (d.setRet r x).ret k = d.ret k :=
  Sparse.get_set_ne _ _ _ h

@[simp] theorem lane_setRet (d : Device) (r : Nat) (x : RetX) (k : Nat) : (d.setRet r x).lane k = d.lane k := (rfl)
@[simp] theorem ret_setLane (d : Device) (n : Nat) (x : LaneX) (k : Nat) : (d.setLane n x).ret k = d.ret k := (rfl)
@[simp] theorem lane_put (d : Device) (f : Fld) (v k : Nat) : (d.put f v).lane k = d.lane k := (rfl)
@[simp] theorem lane_wr (d : Device) (off v k : Nat) : (d.wr off v).lane k = d.lane k := (rfl)
@[simp] theorem lane_bump (d : Device) (f : Fld) (n k : Nat) : (d.bump f n).lane k = d.lane k := (rfl)
@[simp] theorem ret_put (d : Device) (f : Fld) (v k : Nat) : (d.put f v).ret k = d.ret k := (rfl)
@[simp] theorem ret_wr (d : Device) (off v k : Nat) : (d.wr off v).ret k = d.ret k := (rfl)
@[simp] theorem get_setLane (d : Device) (n : Nat) (x : LaneX) (f : Fld) : (d.setLane n x).get f = d.get f := (rfl)

theorem put_setLane (d : Device) (n : Nat) (x : LaneX) (f : Fld) (v : Nat) : (d.setLane n x).put f v = (d.put f v).setLane n x := (rfl)
theorem bump_setLane (d : Device) (n : Nat) (x : LaneX) (f : Fld) (v : Nat) : (d.setLane n x).bump f v = (d.bump f v).setLane n x := (rfl)

@[simp] theorem sendCtl_regs (d : Device) (n target op : Nat) (data : List Nat) (integrator : Bool) :
    (d.sendCtl n target op data integrator).regs = d.regs := (rfl)

theorem lane_sendCtl_ne (d : Device) {n k : Nat} (target op : Nat) (data : List Nat) (integrator : Bool) (h : k ≠ n) :
    (d.sendCtl n target op data integrator).lane k = d.lane k :=
  lane_setLane_ne d _ h

/-- A control packet sent waits for its acknowledgement. -/
theorem sendCtl_awaits (d : Device) (n target op : Nat) (data : List Nat) (integrator : Bool) :
    (d.sendCtl n target op data integrator).link.awaits n target op data := by
  refine ⟨{ target := target, op := op, data := data, seq := (d.lane n).seq, integrator := integrator }, ?_, rfl, rfl, rfl⟩
  rw [lane_sendCtl, if_pos rfl]
  exact List.mem_append_right _ (List.mem_singleton_self _)

/-- A packet that waits goes on waiting when another is sent. -/
theorem sendCtl_awaits_mono {d : Device} {k t o : Nat} {x : List Nat} (h : d.link.awaits k t o x)
    (n target op : Nat) (data : List Nat) (integrator : Bool) : (d.sendCtl n target op data integrator).link.awaits k t o x := by
  obtain ⟨p, hp, hpkt⟩ := h
  refine ⟨p, ?_, hpkt⟩
  rw [lane_sendCtl]
  split
  next hk => exact List.mem_append_left _ (hk ▸ hp)
  next => exact hp

/-! # What a command of the link leaves alone -/

/-- Everything beside the registers and the link. -/
def Device.besideLink (d : Device) : Device := { d with regs := [], link := {} }

@[simp] theorem besideLink_put (d : Device) (f : Fld) (v : Nat) : (d.put f v).besideLink = d.besideLink := (rfl)
@[simp] theorem besideLink_bump (d : Device) (f : Fld) (n : Nat) : (d.bump f n).besideLink = d.besideLink := (rfl)
@[simp] theorem besideLink_setLane (d : Device) (n : Nat) (x : LaneX) : (d.setLane n x).besideLink = d.besideLink := (rfl)
@[simp] theorem besideLink_setRet (d : Device) (r : Nat) (x : RetX) : (d.setRet r x).besideLink = d.besideLink := (rfl)

@[simp] theorem besideLink_link (d : Device) (x : Link) : ({ d with link := x } : Device).besideLink = d.besideLink := (rfl)
@[simp] theorem besideLink_sendCtl (d : Device) (n target op : Nat) (data : List Nat) (integrator : Bool) :
    (d.sendCtl n target op data integrator).besideLink = d.besideLink := (rfl)

theorem eq_of_besideLink {d e : Device} (h : e.besideLink = d.besideLink) : e = { d with regs := e.regs, link := e.link } :=
  congrArg (fun x : Device => { x with regs := e.regs, link := e.link }) h


theorem act_of_besideLink {d e : Device} (h : e.besideLink = d.besideLink) : e.act = d.act :=
  (congrArg Device.act h :)

/-! # Which registers change -/

/-- Setting the link before or after makes no difference to the registers. -/
theorem sets_with_link {b e : Device} {l : List (Fld × Nat)} (x : Link) (hs : b.sets e l) :
    ({ b with link := x } : Device).sets { e with link := x } l := by
  obtain ⟨hval, hother, heq⟩ := hs
  exact ⟨hval, hother, congrArg (fun y : Device => { y with link := x }) heq⟩

/-- From `d` to `e`, the listed fields take the listed values, and beside them nothing but the link changes. -/
def Device.marks (d e : Device) (l : List (Fld × Nat)) : Prop := ({ d with link := e.link } : Device).sets e l

theorem marks_iff {d e : Device} {l : List (Fld × Nat)} : d.marks e l ↔
    (∀ p ∈ l, e.get p.1 = p.2) ∧ (∀ g : Fld, (∀ p ∈ l, g.apart p.1) → e.get g = d.get g) ∧ e.besideLink = d.besideLink := by
  refine and_congr_right fun _ => and_congr_right fun _ => ⟨fun h => ?_, eq_of_besideLink⟩
  rw [h]
  rfl

theorem marks_refl (d : Device) : d.marks d [] := sets_nil d

/-- Where only the link changes, no field does. -/
theorem marks_of_link {d e : Device} (hr : e.regs = d.regs) (h : e.besideLink = d.besideLink) : d.marks e [] := by
  have heq := eq_of_besideLink h
  rw [hr] at heq
  rw [heq]
  exact sets_nil _

section
variable {d e : Device} {l : List (Fld × Nat)} (h : d.marks e l)
include h

theorem Device.marks.val {p : Fld × Nat} (hp : p ∈ l) : e.get p.1 = p.2 := h.1 p hp

theorem Device.marks.other {g : Fld} (hg : ∀ p ∈ l, g.apart p.1) : e.get g = d.get g := (marks_iff.mp h).2.1 g hg

theorem Device.marks.beside : e.besideLink = d.besideLink := (marks_iff.mp h).2.2

theorem Device.marks.act_eq : e.act = d.act := act_of_besideLink h.beside

theorem Device.marks.put {f : Fld} {v w : Nat} (hlo : f.lo ≤ f.hi) (hhi : f.hi < 32) (hv : v % 2 ^ (f.hi + 1 - f.lo) = w)
    (ha : ∀ p ∈ l, p.1.apart f) : d.marks (e.put f v) ((f, w) :: l) := sets_cons_put h hlo hhi hv ha

theorem Device.marks.bump {f : Fld} {n w : Nat} (hlo : f.lo ≤ f.hi) (hhi : f.hi < 32)
    (hv : Nat.min (d.get f + n) (2 ^ (f.hi + 1 - f.lo) - 1) = w) (ha : ∀ p ∈ l, p.1.apart f) : d.marks (e.bump f n) ((f, w) :: l) :=
  sets_cons_bump h hlo hhi hv ha

theorem Device.marks.wr {off v w : Nat} (hv : v % 2 ^ 32 = w) (ha : ∀ p ∈ l, p.1.off ≠ off) :
    d.marks (e.wr off v) ((whole off, w) :: l) := sets_cons_wr h hv ha

theorem Device.marks.withLink (x : Link) : d.marks { e with link := x } l := sets_with_link (b := { d with link := e.link }) x h

theorem Device.marks.setLane (n : Nat) (x : LaneX) : d.marks (e.setLane n x) l := h.withLink (e.setLane n x).link

theorem Device.marks.setRet (r : Nat) (x : RetX) : d.marks (e.setRet r x) l := h.withLink (e.setRet r x).link

/-- The order of the fields does not matter. -/
theorem Device.marks.of_mem {l' : List (Fld × Nat)} (hl : ∀ p, p ∈ l ↔ p ∈ l') : d.marks e l' := sets_of_mem hl h

theorem Device.marks.onlyRegs {offs : List Nat} (ho : ∀ p ∈ l, p.1.off ∈ offs) : d.onlyRegs e offs := onlyRegs_of_sets h ho

/-- Of the link, the lanes alone change. -/
theorem Device.marks.lanes (hlink : e.link = { d.link with lanes := e.link.lanes }) :
    ({ d with link := { d.link with lanes := e.link.lanes } } : Device).sets e l := by
  rw [← hlink]
  exact h

/-- Two steps in a row: the later one's fields take its values, and of the earlier one's those stay that it does not touch. -/
theorem Device.marks.then {c : Device} {l' l'' : List (Fld × Nat)} (h' : e.marks c l')
    (hval : ∀ p ∈ l'', p ∈ l' ∨ (p ∈ l ∧ ∀ q ∈ l', p.1.apart q.1)) (hall : ∀ p ∈ l ++ l', ∃ q ∈ l'', q.1 = p.1) :
    d.marks c l'' := by
  refine marks_iff.mpr ⟨fun p hp => ?_, fun g hg => ?_, h'.beside.trans h.beside⟩
  · rcases hval p hp with hp | ⟨hp, ha⟩
    · exact h'.val hp
    · rw [h'.other ha, h.val hp]
  · have hg' : ∀ p ∈ l ++ l', g.apart p.1 := fun p hp => by
      obtain ⟨q, hq, hqp⟩ := hall p hp
      exact hqp ▸ hg q hq
    rw [h'.other fun p hp => hg' p (List.mem_append_right _ hp), h.other fun p hp => hg' p (List.mem_append_left _ hp)]

/-- Two steps in a row that touch no common field. -/
theorem Device.marks.append {c : Device} {l' : List (Fld × Nat)} (h' : e.marks c l') (ha : ∀ p ∈ l, ∀ q ∈ l', p.1.apart q.1) :
    d.marks c (l' ++ l) := by
  refine h.then h' (fun p hp => ?_) fun p hp => ⟨p, ?_, rfl⟩
  · exact (List.mem_append.mp hp).imp_right fun hl => ⟨hl, ha p hl⟩
  · exact List.mem_append.mpr (List.mem_append.mp hp).symm

end

theorem Device.onlyRegs.trans {a b c : Device} {l l' l'' : List Nat} (h : a.onlyRegs b l) (h' : b.onlyRegs c l') (hl : l ⊆ l'')
    (hl' : l' ⊆ l'') : a.onlyRegs c l'' := fun o ho => by
  rw [h' o fun hmem => ho (hl' hmem), h o fun hmem => ho (hl hmem)]

/-! # Loops over the lanes -/

/-- What holds before and is kept by every step holds after. -/
theorem eachOf_keeps {α : Type} {l : List α} {f : α → Device → Device} {P : Device → Prop} {d : Device} (hd : P d)
    (h : ∀ a ∈ l, ∀ d, P d → P (f a d)) : P (eachOf l f d) :=
  List.foldlRecOn l _ hd fun d hd a ha => h a ha d hd

/-- What one element's step turns into `w` and the other steps leave alone is `w` after the loop. -/
theorem eachOf_at {α β : Type} {l : List α} {f : α → Device → Device} {a : α} (view : Device → β) {v w : β} {d : Device}
    (hd : view d = v) (hkeep : ∀ k ∈ l, k ≠ a → ∀ d, view (f k d) = view d) (hstep : ∀ d, view d = v → view (f a d) = w) (hnd : l.Nodup) (ha : a ∈ l) :
    view (eachOf l f d) = w := by
  obtain ⟨l₁, l₂, rfl⟩ := List.append_of_mem ha
  have hne₁ : ∀ k ∈ l₁, k ≠ a := fun k hk heq =>
    (List.nodup_append.mp hnd).2.2 k hk a List.mem_cons_self heq
  have hne₂ : ∀ k ∈ l₂, k ≠ a := fun k hk heq =>
    (List.nodup_cons.mp (List.nodup_append.mp hnd).2.1).1 (heq ▸ hk)
  rw [eachOf, List.foldl_append, List.foldl_cons]
  refine eachOf_keeps (P := fun e => view e = w) (hstep _ ?_) fun k hk d hd => ?_
  · refine eachOf_keeps (P := fun e => view e = v) hd fun k hk d hd => ?_
    rw [hkeep k (by simp [hk]) (hne₁ k hk), hd]
  · rw [hkeep k (by simp [hk]) (hne₂ k hk), hd]

end Sys2Proof.Machine

namespace Sys2Proof.Machine

/-! # The entry of a spare (ACL_SPARE) -/

/-- The entry of the spare on lane `n`, if there is one, put in state `v`; a spare that serves a stripe goes on serving it. -/
def Device.spareTo (d : Device) (n v : Nat) : Device :=
  match d.laneSpare n with
  | some k => if d.get (ACL_SPARE_state k) = 3 then d else d.put (ACL_SPARE_state k) v
  | none => d

/-- The field that `Device.spareTo` sets, if it sets one. -/
def Device.spareMarks (d : Device) (n v : Nat) : List (Fld × Nat) :=
  match d.laneSpare n with
  | some k => if d.get (ACL_SPARE_state k) = 3 then [] else [(ACL_SPARE_state k, v)]
  | none => []

@[simp] theorem spareTo_besideLink (d : Device) (n v : Nat) : (d.spareTo n v).besideLink = d.besideLink := by
  unfold Device.spareTo
  split
  · split
    · rfl
    · exact besideLink_put _ _ _
  · rfl

@[simp] theorem spareTo_link (d : Device) (n v : Nat) : (d.spareTo n v).link = d.link := by
  unfold Device.spareTo
  split
  · split
    · rfl
    · exact Device.put_link _ _ _
  · rfl

@[simp] theorem lane_spareTo (d : Device) (n v k : Nat) : (d.spareTo n v).lane k = d.lane k := by
  rw [lane_eq, spareTo_link, lane_eq]

theorem laneSpare_congr {d e : Device} (h : e.act = d.act) (n : Nat) : e.laneSpare n = d.laneSpare n := by
  rw [Device.laneSpare, h, Device.laneSpare]

@[simp] theorem laneSpare_put (d : Device) (f : Fld) (v n : Nat) : (d.put f v).laneSpare n = d.laneSpare n := laneSpare_congr (d.put_act f v) n
@[simp] theorem laneSpare_setLane (d : Device) (k : Nat) (x : LaneX) (n : Nat) : (d.setLane k x).laneSpare n = d.laneSpare n :=
  laneSpare_congr rfl n

theorem spareTo_of_spare {d : Device} {n k : Nat} (h : d.laneSpare n = some k) (v : Nat) :
    d.spareTo n v = if d.get (ACL_SPARE_state k) = 3 then d else d.put (ACL_SPARE_state k) v := by
  rw [Device.spareTo, h]

theorem spareTo_of_none {d : Device} {n : Nat} (h : d.laneSpare n = none) (v : Nat) : d.spareTo n v = d := by
  rw [Device.spareTo, h]

theorem spareTo_setLane (d : Device) (n v k : Nat) (x : LaneX) : (d.setLane k x).spareTo n v = (d.spareTo n v).setLane k x := by
  unfold Device.spareTo
  rw [laneSpare_setLane]
  split
  · rw [get_setLane]
    split
    · rfl
    · exact put_setLane _ _ _ _ _
  · rfl

/-- A spare's entry is one of those of the active set. -/
theorem laneSpare_lt {d : Device} {n k : Nat} (h : d.laneSpare n = some k) : k < d.act.spares.length :=
  List.mem_range.mp (List.mem_of_find?_eq_some h)

theorem mem_spareMarks {d : Device} {n v : Nat} {p : Fld × Nat} (h : p ∈ d.spareMarks n v) :
    ∃ k < d.act.spares.length, p.1 = ACL_SPARE_state k := by
  unfold Device.spareMarks at h
  split at h
  next k hk =>
    split at h
    · cases h
    · exact ⟨k, laneSpare_lt hk, by rw [List.mem_singleton.mp h]⟩
  next => cases h

/-- The registers of the spares lie above those of the lanes. -/
theorem spareMarks_above {d : Device} {n v : Nat} {p : Fld × Nat} (h : p ∈ d.spareMarks n v) : 0xec010 ≤ p.1.off := by
  obtain ⟨k, -, hk⟩ := mem_spareMarks h
  rw [hk]
  exact Nat.le_add_right _ _

/-- With a sound link map, a spare's entry is one of the first four registers of the spares. -/
theorem spareMarks_off {d : Device} {n v : Nat} {p : Fld × Nat} (hl : d.act.linkOk) (h : p ∈ d.spareMarks n v) :
    p.1.off ∈ (List.range 8).map ACL_SPARE := by
  obtain ⟨-, hspares, -⟩ := hl
  obtain ⟨k, hk, hp⟩ := mem_spareMarks h
  exact List.mem_map.mpr ⟨k, List.mem_range.mpr (by omega), by rw [hp]⟩

theorem spareTo_marks (d : Device) (n : Nat) {v : Nat} (hv : v < 4) : d.marks (d.spareTo n v) (d.spareMarks n v) := by
  unfold Device.spareTo Device.spareMarks
  split
  · split
    · exact marks_refl d
    · exact (marks_refl d).put (by simp) (by simp) (Nat.mod_eq_of_lt hv) (by simp)
  · exact marks_refl d

/-- Registers below those of the spares have no part in what a spare's entry becomes. -/
theorem spareMarks_congr {b d : Device} {l : List (Fld × Nat)} (hs : b.marks d l) (hlow : ∀ p ∈ l, p.1.off < 0xec010) (n v : Nat) :
    d.spareMarks n v = b.spareMarks n v := by
  unfold Device.spareMarks
  rw [laneSpare_congr hs.act_eq]
  split
  next k _ =>
    have hstate : d.get (ACL_SPARE_state k) = b.get (ACL_SPARE_state k) :=
      hs.other fun p hp => .inl (Nat.ne_of_gt (Nat.lt_of_lt_of_le (hlow p hp) (Nat.le_add_right _ _)))
    rw [hstate]
  next => rfl

/-! # Trainings (R331, R335) -/

/-- The hidden state of a lane whose training starts. -/
def LaneX.started (x : LaneX) (full again retry : Bool) : LaneX :=
  { x with full := full, again := again, retry := retry, sweep := [], scores := [], holding := false,
           resending := false, missing := 0, unacked := [], presetAt := none }

/-- The count of a lane's trainings that a training adds to. -/
def trainCount (n : Nat) (full : Bool) : Fld := if full then ACL_LANE_EVT_fulls n else ACL_LANE_EVT_fasts n

theorem trainCount_off (n : Nat) (full : Bool) : (trainCount n full).off = ACL_LANE_EVT n := by cases full <;> rfl

/-- The registers of a training's start, and its lane. -/
theorem trainStart_eq (d : Device) (n : Nat) (full again retry : Bool) :
    d.trainStart n full again retry =
      (((d.put (ACL_LANE_STAT_state n) 1).spareTo n 1).bump (trainCount n full)).setLane n ((d.lane n).started full again retry) := by
  have hdown := spareTo_setLane (d.put (ACL_LANE_STAT_state n) 1) n 1 n ((d.lane n).started full again retry)
  have hstart : d.trainStart n full again retry = (if full then
      (((d.setLane n ((d.lane n).started full again retry)).put (ACL_LANE_STAT_state n) 1).spareTo n 1).bump (ACL_LANE_EVT_fulls n)
    else (((d.setLane n ((d.lane n).started full again retry)).put (ACL_LANE_STAT_state n) 1).spareTo n 1).bump
      (ACL_LANE_EVT_fasts n)) := rfl
  rw [hstart, put_setLane, hdown, bump_setLane, bump_setLane]
  cases full <;> rfl

@[simp] theorem trainStart_besideLink (d : Device) (n : Nat) (full again retry : Bool) :
    (d.trainStart n full again retry).besideLink = d.besideLink := by
  simp [trainStart_eq]

@[simp] theorem trainStart_link (d : Device) (n : Nat) (full again retry : Bool) :
    (d.trainStart n full again retry).link = (d.setLane n ((d.lane n).started full again retry)).link := by
  simp [trainStart_eq, Device.setLane]

theorem trainStart_lane (d : Device) (n : Nat) (full again retry : Bool) (k : Nat) :
    (d.trainStart n full again retry).lane k = if k = n then (d.lane n).started full again retry else d.lane k := by
  rw [lane_eq, trainStart_link]
  exact lane_setLane d n _ k

/-- A spare's entry after other fields have been set: its registers lie above those of the lanes. -/
theorem Device.marks.spareTo {d e : Device} {l : List (Fld × Nat)} (h : d.marks e l) (hlow : ∀ p ∈ l, p.1.off < 0xec010) (n : Nat) {v : Nat}
    (hv : v < 4) : d.marks (e.spareTo n v) (d.spareMarks n v ++ l) := by
  have hspare := spareTo_marks e n hv
  rw [spareMarks_congr h hlow] at hspare
  exact h.append hspare fun p hp q hq => .inl (Nat.ne_of_lt (Nat.lt_of_lt_of_le (hlow p hp) (spareMarks_above hq)))

theorem laneStat_below {n : Nat} (hn : n < 96) : ACL_LANE_STAT n < 0xec010 := by
  simp only [ACL_LANE_STAT]
  omega

/-- A lane's state as set, and the entry of a spare on it. -/
theorem spareTo_put_marks (d : Device) {n : Nat} (hn : n < 96) {v : Nat} (hv : v < 8) :
    d.marks ((d.put (ACL_LANE_STAT_state n) v).spareTo n 1) (d.spareMarks n 1 ++ [(ACL_LANE_STAT_state n, v)]) :=
  ((marks_refl d).put (by simp) (by simp) (Nat.mod_eq_of_lt hv) (by simp)).spareTo (by simpa using laneStat_below hn) n (by decide)

/-- A training's start: the lane is in WAKE, a spare no longer stands by, and the training is counted. -/
theorem trainStart_marks (d : Device) {n : Nat} (hn : n < 96) (full again retry : Bool) :
    d.marks (d.trainStart n full again retry)
      ((trainCount n full, Nat.min (d.get (trainCount n full) + 1) 0xFF) :: (d.spareMarks n 1 ++ [(ACL_LANE_STAT_state n, 1)])) := by
  rw [trainStart_eq]
  refine ((spareTo_put_marks d hn (by decide)).bump (by cases full <;> simp [trainCount]) (by cases full <;> simp [trainCount])
    (by cases full <;> rfl) fun p hp => .inl ?_).setLane _ _
  rw [trainCount_off]
  rcases List.mem_append.mp hp with hp | hp
  · have := spareMarks_above hp
    simp only [ACL_LANE_EVT]
    omega
  · rw [List.mem_singleton.mp hp]
    simp only [ACL_LANE_STAT, ACL_LANE_EVT]
    omega

theorem trainStart_laneState (d : Device) {n : Nat} (hn : n < 96) (full again retry : Bool) :
    (d.trainStart n full again retry).laneState n = 1 :=
  (trainStart_marks d hn full again retry).val (p := (ACL_LANE_STAT_state n, 1)) (by simp)

theorem trainStart_count (d : Device) {n : Nat} (hn : n < 96) (full again retry : Bool) :
    (d.trainStart n full again retry).get (trainCount n full) = Nat.min (d.get (trainCount n full) + 1) 0xFF :=
  (trainStart_marks d hn full again retry).val List.mem_cons_self

/-- A training's start touches the registers of its lane, and with a sound link map those of the spares. -/
theorem trainStart_onlyRegs {d : Device} {n : Nat} (hn : n < 96) (hl : d.act.linkOk) (full again retry : Bool) :
    d.onlyRegs (d.trainStart n full again retry) ([ACL_LANE_STAT n, ACL_LANE_EVT n] ++ (List.range 8).map ACL_SPARE) := by
  refine (trainStart_marks d hn full again retry).onlyRegs fun p hp => ?_
  simp only [List.mem_cons, List.mem_append, List.not_mem_nil, or_false] at hp
  rcases hp with rfl | hp | rfl
  · simp [trainCount_off]
  · exact List.mem_append_right _ (spareMarks_off hl hp)
  · simp

end Sys2Proof.Machine

namespace Sys2Proof.Machine

/-! # CONFIG (R317, R322) -/

theorem setLane_awaits {d : Device} {n k t o : Nat} {x : LaneX} {data : List Nat} (hx : x.unacked = (d.lane n).unacked)
    (h : d.link.awaits k t o data) : (d.setLane n x).link.awaits k t o data := by
  obtain ⟨p, hp, hpkt⟩ := h
  refine ⟨p, ?_, hpkt⟩
  show p ∈ ((d.setLane n x).lane k).unacked
  rw [lane_setLane]
  split
  next hk => exact hx ▸ hk ▸ hp
  next => exact hp

/-- CONFIG has gone out to the driver of stripe `t`, whose CAPS is awaited (R328). -/
def Device.configSent (d : Device) (t : Nat) : Device :=
  let n := (d.act.lanes.getD t {}).lane
  let e := d.sendCtl (d.stripeLane t) t 0x01 (d.configData t false)
  e.setLane n { e.lane n with prompted := true }

/-- Its return lane, which listens to the driver's slot again. -/
def Device.configRet (d : Device) (t : Nat) : RetX :=
  let e := d.act.lanes.getD t {}
  { (d.configSent t).ret e.ret with silenced := offBit ((d.configSent t).ret e.ret).silenced e.slot }

theorem sendConfig_eq (d : Device) (t : Nat) :
    d.sendConfig t = ((d.configSent t).setRet (d.act.lanes.getD t {}).ret (d.configRet t)).put
      (ACL_RET_STAT_granted (d.act.lanes.getD t {}).ret)
      (onBit ((d.configSent t).get (ACL_RET_STAT_granted (d.act.lanes.getD t {}).ret)) (d.act.lanes.getD t {}).slot) := rfl

@[simp] theorem configSent_besideLink (d : Device) (t : Nat) : (d.configSent t).besideLink = d.besideLink := by
  simp [Device.configSent, Device.sendCtl]

theorem configSent_regs (d : Device) (t : Nat) : (d.configSent t).regs = d.regs := (rfl)

@[simp] theorem configSent_get (d : Device) (t : Nat) (f : Fld) : (d.configSent t).get f = d.get f := (rfl)

@[simp] theorem sendConfig_besideLink (d : Device) (t : Nat) : (d.sendConfig t).besideLink = d.besideLink := by
  simp [sendConfig_eq]

theorem sendConfig_lane (d : Device) (t k : Nat) : (d.sendConfig t).lane k = (d.configSent t).lane k := by
  simp [sendConfig_eq]

theorem configSent_awaits (d : Device) (t : Nat) : (d.configSent t).link.awaits (d.stripeLane t) t 1 (d.configData t false) :=
  setLane_awaits rfl (sendCtl_awaits d (d.stripeLane t) t 1 (d.configData t false) false)

theorem sendConfig_awaits (d : Device) (t : Nat) : (d.sendConfig t).link.awaits (d.stripeLane t) t 1 (d.configData t false) := by
  obtain ⟨p, hp, hpkt⟩ := configSent_awaits d t
  refine ⟨p, ?_, hpkt⟩
  rw [← lane_eq] at hp ⊢
  rwa [sendConfig_lane]

/-- A CONFIG prompts the driver, whose CAPS is awaited (R328). -/
theorem sendConfig_prompted (d : Device) (t : Nat) : ((d.sendConfig t).lane (d.act.lanes.getD t {}).lane).prompted = true := by
  rw [sendConfig_lane, Device.configSent, lane_setLane_same]

/-- A CONFIG leaves the scramblers alone. -/
theorem sendConfig_scram (d : Device) (t k : Nat) : ((d.sendConfig t).lane k).scram = (d.lane k).scram := by
  have hsent (n op : Nat) (data : List Nat) (j : Nat) : ((d.sendCtl n t op data).lane j).scram = (d.lane j).scram := by
    rw [Device.sendCtl, lane_setLane]
    split
    next hj => rw [hj]
    next => rfl
  rw [sendConfig_lane, Device.configSent, lane_setLane]
  split
  next hk => rw [hk, ← hsent]
  next => exact hsent _ _ _ k

/-- A CONFIG grants the driver's slot, and sets no other register. -/
theorem sendConfig_marks (d : Device) (t : Nat) :
    d.marks (d.sendConfig t) [(ACL_RET_STAT_granted (d.act.lanes.getD t {}).ret,
      onBit (d.get (ACL_RET_STAT_granted (d.act.lanes.getD t {}).ret)) (d.act.lanes.getD t {}).slot % 16)] := by
  have hsent := marks_of_link (configSent_regs d t) (configSent_besideLink d t)
  rw [sendConfig_eq, configSent_get]
  exact (hsent.setRet _ _).put (by simp) (by simp) rfl (by simp)

/-! # Silence (R329) -/

/-- SILENCE sent to the driver of a slot, if there is one. -/
def Device.silenceSlot (d : Device) (r j : Nat) : Device :=
  match d.slotStripe r j with
  | some s => d.sendCtl (d.stripeLane s) s 0x02 []
  | none => d

/-- A return lane that begins to be silent. -/
def RetX.silent (x : RetX) (byCmd : Bool) : RetX :=
  { x with proc := .silent, silenced := 15, violNow := 0, violLast := 0, signal := 0, signalNow := false,
           byCmd := byCmd, wait := 2, await := false }

theorem silenceSlot_gives (d : Device) (r j : Nat) : ∃ x, d.silenceSlot r j = { d with link := { d.link with lanes := x } } := by
  unfold Device.silenceSlot
  split
  · exact ⟨_, rfl⟩
  · exact ⟨d.link.lanes, rfl⟩

/-- A silence changes the lanes by the packets it sends, its return lane, and the slots granted. -/
theorem silence_gives (d : Device) (r : Nat) (byCmd : Bool) :
    ∃ x, d.silence r byCmd = (({ d with link := { d.link with lanes := x } } : Device).setRet r ((d.ret r).silent byCmd)).put
      (ACL_RET_STAT_granted r) 0 := by
  obtain ⟨x, hx⟩ : ∃ x, eachOf (bitList 4 (d.get (ACL_RET_STAT_granted r))) (fun j d => d.silenceSlot r j) d =
      { d with link := { d.link with lanes := x } } := by
    refine eachOf_keeps (P := fun e => ∃ x, e = { d with link := { d.link with lanes := x } }) ⟨_, rfl⟩ fun j _ e he => ?_
    obtain ⟨y, rfl⟩ := he
    exact silenceSlot_gives _ r j
  have hret : ({ d with link := { d.link with lanes := x } } : Device).ret r = d.ret r := rfl
  refine ⟨x, ?_⟩
  rw [← hret, ← hx]
  rfl

theorem silence_ret (d : Device) (r : Nat) (byCmd : Bool) : (d.silence r byCmd).ret r = (d.ret r).silent byCmd := by
  obtain ⟨x, hx⟩ := silence_gives d r byCmd
  rw [hx, ret_put, ret_setRet_same]

theorem silence_ret_ne (d : Device) {r k : Nat} (byCmd : Bool) (h : k ≠ r) : (d.silence r byCmd).ret k = d.ret k := by
  obtain ⟨x, hx⟩ := silence_gives d r byCmd
  rw [hx, ret_put, ret_setRet_ne _ _ h]
  rfl

theorem silence_marks (d : Device) (r : Nat) (byCmd : Bool) : d.marks (d.silence r byCmd) [(ACL_RET_STAT_granted r, 0)] := by
  obtain ⟨x, hx⟩ := silence_gives d r byCmd
  have hsent : d.marks { d with link := { d.link with lanes := x } } [] := marks_of_link rfl rfl
  rw [hx]
  exact (hsent.setRet _ _).put (by simp) (by simp) rfl (by simp)

/-! # Timers of the link (R318, R328, R330) -/

theorem exec_jamRetryTimer {r : RetLane} {s : State} (hj : s.flt.jammed.contains r.val = true) (hp : (s.toDevice.ret r).proc = .idle) :
    exec (.jamRetryTimer r) s = .next { s with toDevice := s.toDevice.silence r false } := by
  show execJamRetryTimer r s = _
  rw [execJamRetryTimer, run_next, hj, hp]
  rfl

/-- A jammed return lane is silenced once more. -/
theorem jamRetryTimer_yields {r : RetLane} {s : State} (hj : s.flt.jammed.contains r.val = true) (hp : (s.toDevice.ret r).proc = .idle) :
    Yields (.jamRetryTimer r) s (fun e => (e.ret r).proc = .silent ∧ (e.ret r).silenced = 15 ∧ (e.ret r).wait = 2 ∧
      (e.ret r).byCmd = false ∧ (∀ j, j ≠ r.val → e.ret j = s.toDevice.ret j) ∧
      ({ s.toDevice with link := e.link }).sets e [(ACL_RET_STAT_granted r, 0)]) := by
  have hret := silence_ret s.toDevice r false
  refine ⟨_, exec_jamRetryTimer hj hp, ?_, ?_, ?_, ?_, fun j hne => silence_ret_ne _ _ hne, silence_marks _ _ _⟩
  all_goals rw [hret]; rfl

theorem exec_configResendTimer {n : Lane} {t : Nat} {s : State} (ht : s.toDevice.laneStripe n = some t)
    (hs : s.toDevice.laneState n = 2 ∨ (s.toDevice.laneState n = 4 ∧ (s.toDevice.lane n).resending = true)) :
    exec (.configResendTimer n) s = .next { s with toDevice := s.toDevice.sendConfig t } := by
  show execConfigResendTimer n s = _
  rw [execConfigResendTimer, run_next]
  simp only [ht]
  rw [if_pos (by simpa using hs)]

/-- Lane `n` with its oldest unacknowledged packet sent again. -/
def LaneX.resent (x : LaneX) (k : CtlPkt) (rest : List CtlPkt) : LaneX :=
  { x with unacked := { k with resends := k.resends + 1 } :: rest }

theorem exec_controlPacketResend_again {n : Lane} {k : CtlPkt} {rest : List CtlPkt} {s : State}
    (hu : (s.toDevice.lane n).unacked = k :: rest) (hr : s.toDevice.laneRuns n = true) (hk : k.resends < 3) :
    exec (.controlPacketResend n) s = .next { s with toDevice :=
      (s.toDevice.bump (ACL_LANE_EVT_resends n)).setLane n ((s.toDevice.lane n).resent k rest) } := by
  show execControlPacketResend n s = _
  simp [execControlPacketResend, run_next, hu, hr, hk, bump_setLane, LaneX.resent]

/-- After the last resending of a packet of the controller's own, the lane retrains. -/
theorem exec_controlPacketResend_last {n : Lane} {k : CtlPkt} {rest : List CtlPkt} {s : State}
    (hu : (s.toDevice.lane n).unacked = k :: rest) (hr : s.toDevice.laneRuns n = true) (hk : 3 ≤ k.resends) (hi : k.integrator = false) :
    exec (.controlPacketResend n) s = .next { s with toDevice := s.toDevice.trainStart n false false false } := by
  show execControlPacketResend n s = _
  simp [execControlPacketResend, run_next, hu, hr, hi, Nat.not_lt_of_ge hk]

theorem controlPacketResend_again_yields {n : Lane} {k : CtlPkt} {rest : List CtlPkt} {s : State}
    (hu : (s.toDevice.lane n).unacked = k :: rest) (hr : s.toDevice.laneRuns n = true) (hk : k.resends < 3) :
    Yields (.controlPacketResend n) s (fun e =>
      e.lane n = { s.toDevice.lane n with unacked := { k with resends := k.resends + 1 } :: rest } ∧
      (∀ j, j ≠ n.val → e.lane j = s.toDevice.lane j) ∧
      ({ s.toDevice with link := { s.link with lanes := e.link.lanes } }).sets e
        [(ACL_LANE_EVT_resends n, Nat.min (s.toDevice.get (ACL_LANE_EVT_resends n) + 1) 0xFF)]) := by
  have hcount := (marks_refl s.toDevice).bump (f := ACL_LANE_EVT_resends n) (n := 1)
    (w := Nat.min (s.toDevice.get (ACL_LANE_EVT_resends n) + 1) 0xFF) (by simp) (by simp) rfl (by simp)
  refine ⟨_, exec_controlPacketResend_again hu hr hk, lane_setLane_same _ _ _, fun j hne => ?_, (hcount.setLane _ _).lanes ?_⟩
  · rw [lane_setLane_ne _ _ hne, lane_bump]
  · rw [Device.setLane, Device.bump_link]

theorem controlPacketResend_last_yields {n : Lane} {k : CtlPkt} {rest : List CtlPkt} {s : State}
    (hu : (s.toDevice.lane n).unacked = k :: rest) (hr : s.toDevice.laneRuns n = true) (hk : 3 ≤ k.resends) (hi : k.integrator = false)
    (hl : s.toDevice.linkFits) :
    Yields (.controlPacketResend n) s (fun e => e.laneState n = 1 ∧ (e.lane n).full = false ∧ (e.lane n).unacked = [] ∧
      e.get (ACL_LANE_EVT_fasts n) = Nat.min (s.toDevice.get (ACL_LANE_EVT_fasts n) + 1) 0xFF ∧
      s.toDevice.onlyRegs e ([ACL_LANE_STAT n, ACL_LANE_EVT n] ++ (List.range 8).map ACL_SPARE) ∧
      (∀ j, j ≠ n.val → e.lane j = s.toDevice.lane j) ∧ e = { s.toDevice with regs := e.regs, link := e.link }) := by
  have hlane := trainStart_lane s.toDevice n false false false
  refine ⟨_, exec_controlPacketResend_last hu hr hk hi, trainStart_laneState _ n.isLt _ _ _, ?_, ?_,
    trainStart_count _ n.isLt false _ _, trainStart_onlyRegs n.isLt hl.1 _ _ _, fun j hne => ?_,
    eq_of_besideLink (trainStart_besideLink _ _ _ _ _)⟩
  · rw [hlane, if_pos rfl, LaneX.started]
  · rw [hlane, if_pos rfl, LaneX.started]
  · rw [hlane, if_neg hne]

/-! # The integrator's packet (R342) -/

/-- The packet that ACL_CP_HDR and ACL_CP_DATA describe goes out on the lane they name. -/
def Device.sendIntegrator (d : Device) : Device :=
  ({ d with link := { d.link with intPkt := some (d.get ACL_CP_HDR_lane) } } : Device).sendCtl (d.get ACL_CP_HDR_lane)
    (d.get ACL_CP_HDR_target) (d.get ACL_CP_HDR_opcode)
    ((List.range (2 * d.get ACL_CP_HDR_blocks)).flatMap (fun i => leBytes 4 (d.rd (ACL_CP_DATA i)))) true

theorem exec_integratorPacketSend {m : Master} {s : State} (hc : s.power.coreOn = true) (hm : among m mLink = true)
    (hlo : 0x10 ≤ s.toDevice.get ACL_CP_HDR_opcode) (hhi : s.toDevice.get ACL_CP_HDR_opcode ≤ 0x1F)
    (hn : s.toDevice.laneClaimed (s.toDevice.get ACL_CP_HDR_lane) = true) (hi : s.link.intPkt = none) :
    exec (.integratorPacketSend m) s = .next { s with toDevice := s.toDevice.sendIntegrator } := by
  have hlo' : ¬ s.toDevice.get ACL_CP_HDR_opcode < 0x10 := Nat.not_lt_of_ge hlo
  have hhi' : ¬ 0x1F < s.toDevice.get ACL_CP_HDR_opcode := Nat.not_lt_of_ge hhi
  show execIntegratorPacketSend m s = _
  rw [execIntegratorPacketSend, run_next, Device.guarded_pass hc]
  · rfl
  · have hserves := hn
    rw [Device.laneClaimed] at hserves
    simp [hm, hlo', hhi', hserves, hi]

/-- Settles O41: each timer's equation, and `Device.sendIntegrator` for the integrator's packet. -/
theorem linkTimersAct : Obligations.LinkTimersAct := by
  refine ⟨fun r s hj hp => jamRetryTimer_yields hj hp, fun n t s ht hs => ?_, fun n k rest s hu hr => ⟨fun hk => ?_, fun hk hi hl => ?_⟩, ?_⟩
  · exact ⟨_, exec_configResendTimer ht hs, sendConfig_awaits _ _, sendConfig_prompted _ _, sendConfig_marks _ _⟩
  · exact controlPacketResend_again_yields hu hr hk
  · exact controlPacketResend_last_yields hu hr hk hi hl
  · intro m s hc hm hlo hhi hn hi
    exact ⟨_, exec_integratorPacketSend hc hm hlo hhi hn hi, lane_setLane_same _ _ _, fun j hne => lane_setLane_ne _ _ hne, rfl⟩

end Sys2Proof.Machine

namespace Sys2Proof.Machine

/-! # The register of a command of ACL_CMD (R341) -/

/-- ACL_CMD_STAT while a command runs. -/
def aclRunning (op : Nat) : List (Fld × Nat) :=
  [(ACL_CMD_STAT_busy, 1), (ACL_CMD_STAT_done, 0), (ACL_CMD_STAT_op, op), (ACL_CMD_STAT_err, 0)]

theorem aclRunning_off {op : Nat} {p : Fld × Nat} (h : p ∈ aclRunning op) : p.1.off = ACL_CMD_STAT := by
  simp only [aclRunning, List.mem_cons, List.not_mem_nil, or_false] at h
  rcases h with rfl | rfl | rfl | rfl <;> rfl

theorem aclBegin_link (d : Device) (m op n : Nat) : (d.aclBegin m op n).link = { d.link with cmdLane := n, cmdMaster := m } := by
  simp [Device.aclBegin]

@[simp] theorem aclBegin_lane (d : Device) (m op n k : Nat) : (d.aclBegin m op n).lane k = d.lane k := by
  rw [lane_eq, aclBegin_link]
  rfl

@[simp] theorem aclBegin_ret (d : Device) (m op n k : Nat) : (d.aclBegin m op n).ret k = d.ret k := by
  rw [Device.ret, aclBegin_link, Device.ret]

/-- A command that begins is busy. -/
theorem aclBegin_marks (d : Device) (m n : Nat) {op : Nat} (hop : op < 8) : d.marks (d.aclBegin m op n) (aclRunning op) := by
  have hlink : d.marks { d with link := { d.link with cmdLane := n, cmdMaster := m } } [] := marks_of_link rfl rfl
  have hbusy := hlink.put (f := ACL_CMD_STAT_busy) (v := 1) (w := 1) (by decide) (by decide) rfl (by simp)
  have hdone := hbusy.put (f := ACL_CMD_STAT_done) (v := 0) (w := 0) (by decide) (by decide) rfl (by simp [Fld.apart])
  have hcmd := hdone.put (f := ACL_CMD_STAT_op) (v := op) (w := op) (by decide) (by decide) (Nat.mod_eq_of_lt hop) (by simp [Fld.apart])
  have herr := hcmd.put (f := ACL_CMD_STAT_err) (v := 0) (w := 0) (by decide) (by decide) rfl (by simp [Fld.apart])
  exact herr.of_mem fun _ => List.mem_reverse.symm

/-- The checks common to every operation, and an operation's own, passed. -/
theorem acl_pass {d : Device} {m : Nat} {checks : List (Bool × Nat)} {f : Device → Device} (hc : d.power.coreOn = true)
    (hm : among m mLink = true) (hb : d.get ACL_CMD_STAT_busy = 0) (h : ∀ c ∈ checks, c.1 = false) :
    d.guarded m ACL_CMD (d.aclChecks m ++ checks) f = f d := by
  refine Device.guarded_pass hc fun c hmem => ?_
  rcases List.mem_append.mp hmem with hmem | hmem
  · simp only [Device.aclChecks, hm, hb, List.mem_cons, List.not_mem_nil, or_false] at hmem
    rcases hmem with rfl | rfl <;> rfl
  · exact h c hmem

/-- A command that ends well is done. -/
theorem aclEnd_marks {d : Device} (h : d.get ACL_CMD_STAT_busy ≠ 0) :
    d.marks (d.aclEnd 0) [(ACL_IRQ_cmd_done, 1), (ACL_CMD_STAT_err, 0), (ACL_CMD_STAT_done, 1), (ACL_CMD_STAT_busy, 0)] := by
  have hend : d.aclEnd 0 = (((d.put ACL_CMD_STAT_busy 0).put ACL_CMD_STAT_done 1).put ACL_CMD_STAT_err 0).put ACL_IRQ_cmd_done 1 := by
    simp [Device.aclEnd, h]
  rw [hend]
  have hbusy := (marks_refl d).put (f := ACL_CMD_STAT_busy) (v := 0) (w := 0) (by decide) (by decide) rfl (by simp)
  have hdone := hbusy.put (f := ACL_CMD_STAT_done) (v := 1) (w := 1) (by decide) (by decide) rfl (by simp [Fld.apart])
  have herr := hdone.put (f := ACL_CMD_STAT_err) (v := 0) (w := 0) (by decide) (by decide) rfl (by simp [Fld.apart])
  exact herr.put (by decide) (by decide) rfl (by simp [Fld.apart])

theorem aclEnd_link {d : Device} (h : d.get ACL_CMD_STAT_busy ≠ 0) : (d.aclEnd 0).link = d.link := by
  simp [Device.aclEnd, h]

/-! # One lane is trained (R331, R335) -/

theorem exec_laneTrain {i : Instr} {op : Nat} {full : Bool} {m : Master} {n : Lane} {s : State}
    (hi : (i, op, full) ∈ [(Instr.laneFullTrain m n, 1, true), (.laneFastRetrain m n, 2, false)]) (hc : s.power.coreOn = true)
    (hm : among m mLink = true) (hb : s.toDevice.get ACL_CMD_STAT_busy = 0) (hn : s.toDevice.laneClaimed n = true) :
    op < 8 ∧ exec i s = .next { s with toDevice := (s.toDevice.aclBegin m op n).trainStart n full false false } := by
  have hpass (f : Device → Device) := acl_pass (f := f) (checks := [(!s.toDevice.laneClaimed n, eState)]) hc hm hb (by simp [hn])
  simp only [List.mem_cons, Prod.mk.injEq, List.not_mem_nil, or_false] at hi
  rcases hi with ⟨rfl, rfl, rfl⟩ | ⟨rfl, rfl, rfl⟩
  · refine ⟨by decide, ?_⟩
    show execLaneFullTrain m n s = _
    rw [execLaneFullTrain, run_next, hpass]
  · refine ⟨by decide, ?_⟩
    show execLaneFastRetrain m n s = _
    rw [execLaneFastRetrain, run_next, hpass]

/-- A command that trains a lane: the command runs, and the training starts. -/
theorem laneTrain_marks (d : Device) (m : Nat) {op n : Nat} (hop : op < 8) (hn : n < 96) (full : Bool) :
    d.marks ((d.aclBegin m op n).trainStart n full false false)
      (aclRunning op ++ [(ACL_LANE_STAT_state n, 1), (trainCount n full, Nat.min (d.get (trainCount n full) + 1) 0xFF)] ++ d.spareMarks n 1) := by
  have hbegin := aclBegin_marks d m n hop
  have hcmd : ∀ p ∈ aclRunning op, p.1.off < 0xec010 := fun p hp => by rw [aclRunning_off hp]; decide
  have hstat : ACL_LANE_STAT n ≠ ACL_CMD_STAT ∧ ACL_LANE_EVT n ≠ ACL_CMD_STAT := by
    simp only [ACL_LANE_STAT, ACL_LANE_EVT, ACL_CMD_STAT]
    omega
  have htrain := trainStart_marks (d.aclBegin m op n) hn full false false
  rw [spareMarks_congr hbegin hcmd,
    hbegin.other fun p hp => .inl (by rw [trainCount_off, aclRunning_off hp]; exact hstat.2)] at htrain
  refine (hbegin.append htrain fun p hp q hq => .inl ?_).of_mem fun p => ?_
  · rw [aclRunning_off hp]
    simp only [List.mem_cons, List.mem_append, List.not_mem_nil, or_false] at hq
    rcases hq with rfl | hq | rfl
    · exact (trainCount_off n full).symm ▸ hstat.2.symm
    · exact Nat.ne_of_lt (Nat.lt_of_lt_of_le (by decide) (spareMarks_above hq))
    · exact hstat.1.symm
  · simp only [List.mem_append, List.mem_cons, List.not_mem_nil, or_false]
    tauto

/-! # A planned move or return (R338) -/

/-- SELECT has gone out on lanes `a` and `b`, and a planned move waits for its swap point. -/
def Device.planned (d : Device) (a b t : Nat) (data : List Nat) (p : PlannedMove) : Device :=
  let e := (d.sendCtl a t 0x04 data).sendCtl b t 0x04 data
  { e with link := { e.link with plan := some p } }

theorem planned_regs (d : Device) (a b t : Nat) (data : List Nat) (p : PlannedMove) : (d.planned a b t data p).regs = d.regs := by
  simp [Device.planned]

theorem planned_besideLink (d : Device) (a b t : Nat) (data : List Nat) (p : PlannedMove) :
    (d.planned a b t data p).besideLink = d.besideLink := by
  rw [Device.planned, besideLink_link, besideLink_sendCtl, besideLink_sendCtl]

theorem planned_rets (d : Device) (a b t : Nat) (data : List Nat) (p : PlannedMove) : (d.planned a b t data p).link.rets = d.link.rets :=
  (rfl)

theorem planned_awaits (d : Device) {a b : Nat} (t : Nat) (data : List Nat) (p : PlannedMove) {j : Nat} (hj : j = a ∨ j = b) :
    (d.planned a b t data p).link.awaits j t 4 data := by
  have hsent : ((d.sendCtl a t 0x04 data).sendCtl b t 0x04 data).link.awaits j t 4 data := by
    rcases hj with rfl | rfl
    · exact sendCtl_awaits_mono (sendCtl_awaits _ _ _ _ _ _) _ _ _ _ _
    · exact sendCtl_awaits _ _ _ _ _ _
  exact hsent

theorem planned_lane (d : Device) {a b : Nat} (t : Nat) (data : List Nat) (p : PlannedMove) {j : Nat} (ha : j ≠ a) (hb : j ≠ b) :
    (d.planned a b t data p).lane j = d.lane j := by
  have hkeep : ((d.sendCtl a t 0x04 data).sendCtl b t 0x04 data).lane j = d.lane j := by
    rw [lane_sendCtl_ne _ _ _ _ _ hb, lane_sendCtl_ne _ _ _ _ _ ha]
  exact hkeep

/-- A command that plans a move: both lanes have SELECT out, the command runs, and the move waits. -/
theorem plan_gives (d : Device) (m a b t : Nat) {op : Nat} (hop : op < 8) (data : List Nat) (p : PlannedMove) :
    let e := (d.aclBegin m op a).planned a b t data p
    e.link.plan = some p ∧ (∀ j, j = a ∨ j = b → e.link.awaits j t 4 data) ∧ (∀ j, j ≠ a → j ≠ b → e.lane j = d.lane j) ∧
      e.link.rets = d.link.rets ∧ d.marks e (aclRunning op) := by
  have hplan : (d.aclBegin m op a).marks _ [] := marks_of_link (planned_regs _ a b t data p) (planned_besideLink _ a b t data p)
  refine ⟨rfl, fun j => planned_awaits _ t data p, fun j ha hb => ?_, ?_, (aclBegin_marks d m a hop).append hplan (by simp)⟩
  · rw [planned_lane _ t data p ha hb, aclBegin_lane]
  · rw [planned_rets, aclBegin_link]

theorem exec_sparePlannedMove {m : Master} {n : Lane} {k : Fin 4} {t : Nat} {s : State} (hc : s.power.coreOn = true)
    (hm : among m mLink = true) (hb : s.toDevice.get ACL_CMD_STAT_busy = 0) (ht : s.toDevice.laneStripe n = some t)
    (hk : s.toDevice.spareNames k t = true) (hs : s.toDevice.laneState (s.act.spares.getD k {}).lane = 5)
    (hfree : s.toDevice.get (ACL_SPARE_state k) = 3 → s.toDevice.get (ACL_SPARE_stripe k) = t) :
    exec (.sparePlannedMove m n k) s = .next { s with toDevice := ((s.toDevice.aclBegin m 3 n).planned n (s.act.spares.getD k {}).lane t
      [1, (s.toDevice.rd TMG_FRAME_CNT + 1) % 256] { stripe := t, spare := k, back := false }) } := by
  have hother : (decide (s.toDevice.get (ACL_SPARE_state k) = 3) && decide (some (s.toDevice.get (ACL_SPARE_stripe k)) ≠ some t)) = false := by
    simpa using hfree
  show execSparePlannedMove m n k s = _
  rw [execSparePlannedMove, run_next]
  dsimp only
  rw [acl_pass hc hm hb]
  · rw [ht]
    rfl
  · rw [ht, hother, hs]
    simp [hk]

theorem exec_sparePlannedReturn {m : Master} {n : Lane} {k t : Nat} {s : State} (hc : s.power.coreOn = true)
    (hm : among m mLink = true) (hb : s.toDevice.get ACL_CMD_STAT_busy = 0) (ht : s.toDevice.laneStripe n = some t)
    (hk : s.toDevice.spareOf t = some k) (h4 : 4 ≤ s.toDevice.laneState n) (h6 : s.toDevice.laneState n ≠ 6)
    (hin : s.toDevice.get (ACL_LANE_STAT_in0 n) = 1) :
    exec (.sparePlannedReturn m n) s = .next { s with toDevice := ((s.toDevice.aclBegin m 4 n).planned n (s.act.spares.getD k {}).lane t
      [0, (s.toDevice.rd TMG_FRAME_CNT + 1) % 256] { stripe := t, spare := k, back := true }) } := by
  show execSparePlannedReturn m n s = _
  rw [execSparePlannedReturn, run_next]
  dsimp only
  rw [acl_pass hc hm hb]
  · rw [ht, Option.bind_some, hk]
    rfl
  · simp [ht, hk, Device.laneTrained, h4, h6, hin]

/-! # A return lane is re-granted (R329) -/

theorem exec_returnLaneRegrant {m : Master} {r : RetLane} {s : State} (hc : s.power.coreOn = true) (hm : among m mLink = true)
    (hb : s.toDevice.get ACL_CMD_STAT_busy = 0) :
    exec (.returnLaneRegrant m r) s = .next { s with toDevice := (s.toDevice.aclBegin m 5 r).silence r true } := by
  have hpass := acl_pass (checks := []) (f := fun d => (d.aclBegin m 5 r).silence r true) hc hm hb (by simp)
  rw [List.append_nil] at hpass
  show execReturnLaneRegrant m r s = _
  rw [execReturnLaneRegrant, run_next, hpass]

theorem regrant_marks (d : Device) (m : Nat) {r : Nat} (hr : r < 24) :
    d.marks ((d.aclBegin m 5 r).silence r true) (aclRunning 5 ++ [(ACL_RET_STAT_granted r, 0)]) := by
  refine ((aclBegin_marks d m r (by decide)).append (silence_marks (d.aclBegin m 5 r) r true) fun p hp q hq => .inl ?_).of_mem fun p => ?_
  · rw [aclRunning_off hp, List.mem_singleton.mp hq]
    simp only [ACL_RET_STAT, ACL_CMD_STAT]
    omega
  · simp only [List.mem_append]
    exact or_comm

/-- A command that silences a return lane. -/
theorem returnLaneRegrant_yields {m : Master} {r : RetLane} {s : State} (hc : s.power.coreOn = true) (hm : among m mLink = true)
    (hb : s.toDevice.get ACL_CMD_STAT_busy = 0) :
    Yields (.returnLaneRegrant m r) s (fun e => (e.ret r).proc = .silent ∧ (e.ret r).silenced = 15 ∧ (e.ret r).wait = 2 ∧
      (e.ret r).byCmd = true ∧ (∀ j, j ≠ r.val → e.ret j = s.toDevice.ret j) ∧
      s.toDevice.marks e (aclRunning 5 ++ [(ACL_RET_STAT_granted r, 0)])) := by
  have hret := silence_ret (s.toDevice.aclBegin m 5 r) r true
  refine ⟨_, exec_returnLaneRegrant hc hm hb, ?_, ?_, ?_, ?_, fun j hne => ?_, regrant_marks _ m r.isLt⟩
  · rw [hret, RetX.silent]
  · rw [hret, RetX.silent]
  · rw [hret, RetX.silent]
  · rw [hret, RetX.silent]
  · rw [silence_ret_ne _ _ hne, aclBegin_ret]

/-! # A lane is turned off (R331) -/

/-- The registers of a lane turned off, and its hidden state, of which the sequence number stays. -/
theorem laneOff_eq (d : Device) (n : Nat) :
    d.laneOff n = ((d.put (ACL_LANE_STAT_state n) 0).spareTo n 1).setLane n { seq := (d.lane n).seq } := by
  have hoff : d.laneOff n = ((d.setLane n { seq := (d.lane n).seq }).put (ACL_LANE_STAT_state n) 0).spareTo n 1 := rfl
  rw [hoff, put_setLane, spareTo_setLane]

theorem laneOff_lane (d : Device) (n k : Nat) : (d.laneOff n).lane k = if k = n then { seq := (d.lane n).seq } else d.lane k := by
  rw [laneOff_eq, lane_setLane, lane_spareTo, lane_put]

theorem laneOff_marks (d : Device) {n : Nat} (hn : n < 96) :
    d.marks (d.laneOff n) (d.spareMarks n 1 ++ [(ACL_LANE_STAT_state n, 0)]) := by
  rw [laneOff_eq]
  exact (spareTo_put_marks d hn (by decide)).setLane _ _

theorem exec_laneOff {m : Master} {n : Lane} {s : State} (hc : s.power.coreOn = true) (hm : among m mLink = true)
    (hb : s.toDevice.get ACL_CMD_STAT_busy = 0) (hn : s.toDevice.laneClaimed n = true) (h1 : s.toDevice.mode = 1) :
    exec (.laneOff m n) s = .next { s with toDevice := ((s.toDevice.aclBegin m 6 n).laneOff n).aclEnd 0 } := by
  show execLaneOff m n s = _
  rw [execLaneOff, run_next]
  dsimp only
  rw [acl_pass hc hm hb]
  simp [hn, h1]

/-- A command that turns a lane off, before it ends. -/
theorem laneOff_running (d : Device) (m : Nat) {n : Nat} (hn : n < 96) :
    d.marks ((d.aclBegin m 6 n).laneOff n) (d.spareMarks n 1 ++ [(ACL_LANE_STAT_state n, 0)] ++ aclRunning 6) := by
  have hbegin := aclBegin_marks d m n (op := 6) (by decide)
  have hcmd : ∀ p ∈ aclRunning 6, p.1.off < 0xec010 := fun p hp => by rw [aclRunning_off hp]; decide
  have hoff := laneOff_marks (d.aclBegin m 6 n) hn
  rw [spareMarks_congr hbegin hcmd] at hoff
  refine hbegin.append hoff fun p hp q hq => .inl ?_
  rw [aclRunning_off hp]
  rcases List.mem_append.mp hq with hq | hq
  · exact Nat.ne_of_lt (Nat.lt_of_lt_of_le (by decide) (spareMarks_above hq))
  · rw [List.mem_singleton.mp hq]
    simp only [ACL_LANE_STAT, ACL_CMD_STAT]
    omega

theorem laneOff_busy (d : Device) (m : Nat) {n : Nat} (hn : n < 96) : ((d.aclBegin m 6 n).laneOff n).get ACL_CMD_STAT_busy ≠ 0 := by
  rw [(laneOff_running d m hn).val (p := (ACL_CMD_STAT_busy, 1)) (by simp [aclRunning])]
  decide

/-- A command that turns a lane off ends at once. -/
theorem laneOff_done (d : Device) (m : Nat) {n : Nat} (hn : n < 96) (hl : d.act.linkOk) :
    d.marks (((d.aclBegin m 6 n).laneOff n).aclEnd 0)
      ([(ACL_CMD_STAT_busy, 0), (ACL_CMD_STAT_done, 1), (ACL_CMD_STAT_op, 6), (ACL_CMD_STAT_err, 0), (ACL_IRQ_cmd_done, 1),
        (ACL_LANE_STAT_state n, 0)] ++ d.spareMarks n 1) := by
  obtain ⟨-, hspares, -⟩ := hl
  refine (laneOff_running d m hn).then (aclEnd_marks (laneOff_busy d m hn)) (fun p hp => ?_) fun p hp => ?_
  · simp only [List.mem_append, List.mem_cons, List.not_mem_nil, or_false] at hp
    rcases hp with (rfl | rfl | rfl | rfl | rfl | rfl) | hp
    · simp
    · simp
    · exact .inr ⟨by simp [aclRunning], by simp [Fld.apart]⟩
    · simp
    · simp
    · refine .inr ⟨by simp, ?_⟩
      simp [Fld.apart, ACL_LANE_STAT, ACL_CMD_STAT, ACL_IRQ]
      omega
    · obtain ⟨k, hk, hpk⟩ := mem_spareMarks hp
      refine .inr ⟨by simp [hp], ?_⟩
      rw [hpk]
      simp [Fld.apart, ACL_SPARE, ACL_CMD_STAT, ACL_IRQ]
  · simp only [aclRunning, List.mem_append, List.mem_cons, List.not_mem_nil, or_false] at hp
    rcases hp with ((hp | rfl) | rfl | rfl | rfl | rfl) | rfl | rfl | rfl | rfl
    · exact ⟨p, List.mem_append_right _ hp, rfl⟩
    all_goals simp

end Sys2Proof.Machine

namespace Sys2Proof.Machine

/-! # Every claimed lane is trained (R335) -/

/-- What a training's start shows of lane `n`: its state, its hidden state, and its count of full trainings. -/
def Device.laneView (d : Device) (n : Nat) : Nat × LaneX × Nat := (d.laneState n, d.lane n, d.get (ACL_LANE_EVT_fulls n))

theorem trainStart_laneView_ne (d : Device) {n k : Nat} (hn : n < 96) (hk : k < 96) (h : k ≠ n) (again retry : Bool) :
    (d.trainStart k true again retry).laneView n = d.laneView n := by
  have hother (g : Fld) (hg : g.off = ACL_LANE_STAT n ∨ g.off = ACL_LANE_EVT n) : (d.trainStart k true again retry).get g = d.get g := by
    refine (trainStart_marks d hk true again retry).other fun p hp => .inl ?_
    simp only [List.mem_cons, List.mem_append, List.not_mem_nil, or_false] at hp
    rcases hp with rfl | hp | rfl
    · rw [trainCount_off]
      simp only [ACL_LANE_STAT, ACL_LANE_EVT] at hg ⊢
      omega
    · have := spareMarks_above hp
      simp only [ACL_LANE_STAT, ACL_LANE_EVT] at hg
      omega
    · simp only [ACL_LANE_STAT, ACL_LANE_EVT] at hg ⊢
      omega
  rw [Device.laneView, Device.laneState, hother _ (.inl rfl), hother _ (.inr rfl), trainStart_lane, if_neg h.symm]
  rfl

theorem trainStart_laneView (d : Device) {n : Nat} (hn : n < 96) (again retry : Bool) :
    (d.trainStart n true again retry).laneView n =
      (1, (d.lane n).started true again retry, Nat.min (d.get (ACL_LANE_EVT_fulls n) + 1) 0xFF) := by
  have hcount := trainStart_count d hn true again retry
  rw [Device.laneView, trainStart_laneState d hn, trainStart_lane, if_pos rfl]
  exact congrArg (fun c => (1, (d.lane n).started true again retry, c)) hcount

theorem mem_claimedLanes {d : Device} {n : Nat} : n ∈ d.claimedLanes ↔ n < 96 ∧ d.laneClaimed n = true := by
  simp [Device.claimedLanes]

theorem claimedLanes_nodup (d : Device) : d.claimedLanes.Nodup := List.nodup_range.filter _

theorem claimedLanes_congr {d e : Device} (h : e.act = d.act) : e.claimedLanes = d.claimedLanes := by
  simp only [Device.claimedLanes, Device.laneClaimed, Device.laneStripe, Device.laneSpare, h]

/-- A claimed lane is in WAKE, its full training counted. -/
theorem trainAll_claimed (d : Device) {n : Nat} (hn : n ∈ d.claimedLanes) :
    d.trainAll.laneView n = (1, (d.lane n).started true false true, Nat.min (d.get (ACL_LANE_EVT_fulls n) + 1) 0xFF) := by
  have hlt (k : Nat) (hk : k ∈ d.claimedLanes) : k < 96 := (mem_claimedLanes.mp hk).1
  refine eachOf_at (fun e => e.laneView n) rfl (fun k hk hne e => trainStart_laneView_ne e (hlt n hn) (hlt k hk) hne _ _)
    (fun e he => ?_) (claimedLanes_nodup d) hn
  rw [Device.laneView, Device.laneView, Prod.mk.injEq, Prod.mk.injEq] at he
  obtain ⟨-, hlane, hcount⟩ := he
  rw [trainStart_laneView e (hlt n hn), hlane, hcount]

/-- A lane that is not claimed stays as it was. -/
theorem trainAll_unclaimed (d : Device) {n : Nat} (hlt : n < 96) (hn : n ∉ d.claimedLanes) : d.trainAll.laneView n = d.laneView n := by
  refine eachOf_keeps (P := fun e => e.laneView n = d.laneView n) rfl fun k hk e he => ?_
  rw [trainStart_laneView_ne e hlt (mem_claimedLanes.mp hk).1 fun h => hn (h ▸ hk), he]

@[simp] theorem trainAll_besideLink (d : Device) : d.trainAll.besideLink = d.besideLink :=
  eachOf_keeps (P := fun e => e.besideLink = d.besideLink) rfl fun k _ e he => by rw [trainStart_besideLink, he]

/-- The registers of the lanes' states and counts, and of the spares. -/
def trainRegs : List Nat := (List.range 96).map ACL_LANE_STAT ++ (List.range 96).map ACL_LANE_EVT ++ (List.range 8).map ACL_SPARE

theorem trainRegs_above {o : Nat} (h : o ∈ trainRegs) : o ≠ ACL_CMD_STAT := by
  simp only [trainRegs, List.mem_append, List.mem_map, List.mem_range] at h
  rcases h with (⟨k, hk, rfl⟩ | ⟨k, hk, rfl⟩) | ⟨k, hk, rfl⟩
  · simp only [ACL_LANE_STAT, ACL_CMD_STAT]
    omega
  · simp only [ACL_LANE_EVT, ACL_CMD_STAT]
    omega
  · simp only [ACL_SPARE, ACL_CMD_STAT]
    omega

theorem trainAll_onlyRegs {d : Device} (hl : d.act.linkOk) : d.onlyRegs d.trainAll trainRegs := by
  obtain ⟨-, hregs⟩ : d.trainAll.act = d.act ∧ d.onlyRegs d.trainAll trainRegs := by
    refine eachOf_keeps (P := fun e => e.act = d.act ∧ d.onlyRegs e trainRegs) ⟨rfl, fun _ _ => rfl⟩ fun k hk e he => ?_
    obtain ⟨hact, hregs⟩ := he
    have hk' : k < 96 := (mem_claimedLanes.mp hk).1
    refine ⟨(act_of_besideLink (trainStart_besideLink e k _ _ _)).trans hact,
      hregs.trans (trainStart_onlyRegs hk' (hact ▸ hl) _ _ _) (List.Subset.refl _) fun o ho => ?_⟩
    simp only [trainRegs, List.mem_append, List.mem_cons, List.not_mem_nil, or_false, List.mem_map, List.mem_range] at ho ⊢
    rcases ho with (rfl | rfl) | ho
    · exact .inl (.inl ⟨k, hk', rfl⟩)
    · exact .inl (.inr ⟨k, hk', rfl⟩)
    · exact .inr ho
  exact hregs

theorem exec_trainAllLanes {m : Master} {s : State} (hc : s.power.coreOn = true) (hm : among m mLink = true)
    (hb : s.toDevice.get ACL_CMD_STAT_busy = 0) (h1 : s.toDevice.mode = 1) (hn : s.toDevice.claimedLanes ≠ []) :
    exec (.trainAllLanes m) s = .next { s with toDevice := (s.toDevice.aclBegin m 7 0).trainAll } := by
  have hclaimed : ((s.toDevice.aclBegin m 7 0).trainAll).claimedLanes = s.toDevice.claimedLanes :=
    claimedLanes_congr (act_of_besideLink (by simp [(aclBegin_marks s.toDevice m 0 (op := 7) (by decide)).beside]))
  show execTrainAllLanes m s = _
  rw [execTrainAllLanes, run_next]
  dsimp only
  rw [acl_pass hc hm hb]
  · rw [hclaimed, if_neg (by simpa using hn)]
  · simp [h1]

/-- A command that trains every claimed lane runs on. -/
theorem trainAllLanes_yields {m : Master} {s : State} (hc : s.power.coreOn = true) (hm : among m mLink = true)
    (hb : s.toDevice.get ACL_CMD_STAT_busy = 0) (h1 : s.toDevice.mode = 1) (hn : s.toDevice.claimedLanes ≠ []) (hl : s.toDevice.linkFits) :
    Yields (.trainAllLanes m) s (fun e => e.get ACL_CMD_STAT_busy = 1 ∧ e.get ACL_CMD_STAT_done = 0 ∧ e.get ACL_CMD_STAT_op = 7 ∧
      (∀ n < 96, s.toDevice.laneClaimed n = true → e.laneState n = 1 ∧ (e.lane n).full = true ∧ (e.lane n).retry = true ∧
        e.get (ACL_LANE_EVT_fulls n) = Nat.min (s.toDevice.get (ACL_LANE_EVT_fulls n) + 1) 0xFF) ∧
      (∀ n < 96, s.toDevice.laneClaimed n = false → e.laneState n = s.toDevice.laneState n ∧ e.lane n = s.toDevice.lane n) ∧
      s.toDevice.onlyRegs e ([ACL_CMD_STAT] ++ trainRegs) ∧ e = { s.toDevice with regs := e.regs, link := e.link }) := by
  have hbegin := aclBegin_marks s.toDevice m 0 (op := 7) (by decide)
  have hview (n : Nat) (hlt : n < 96) : (s.toDevice.aclBegin m 7 0).laneView n = s.toDevice.laneView n := by
    have hoff : ACL_LANE_STAT n ≠ ACL_CMD_STAT ∧ ACL_LANE_EVT n ≠ ACL_CMD_STAT := by
      simp only [ACL_LANE_STAT, ACL_LANE_EVT, ACL_CMD_STAT]
      omega
    have hget {g : Fld} (hg : g.off ≠ ACL_CMD_STAT) : (s.toDevice.aclBegin m 7 0).get g = s.toDevice.get g :=
      hbegin.other fun p hp => .inl (aclRunning_off hp ▸ hg)
    rw [Device.laneView, Device.laneState, hget hoff.1, hget hoff.2, aclBegin_lane]
    rfl
  have hclaimed : (s.toDevice.aclBegin m 7 0).claimedLanes = s.toDevice.claimedLanes := claimedLanes_congr hbegin.act_eq
  have hregs := trainAll_onlyRegs (hbegin.act_eq.symm ▸ hl.1 : (s.toDevice.aclBegin m 7 0).act.linkOk)
  have hstat {f : Fld} (hf : f.off = ACL_CMD_STAT) : (s.toDevice.aclBegin m 7 0).trainAll.get f = (s.toDevice.aclBegin m 7 0).get f := by
    rw [Device.get, hf, hregs ACL_CMD_STAT fun h => trainRegs_above h rfl, Device.get, hf]
  refine ⟨_, exec_trainAllLanes hc hm hb h1 hn, ?_, ?_, ?_, fun n hlt hcl => ?_, fun n hlt hcl => ?_, ?_, ?_⟩
  · rw [hstat rfl]
    exact hbegin.val (p := (ACL_CMD_STAT_busy, 1)) (by simp [aclRunning])
  · rw [hstat rfl]
    exact hbegin.val (p := (ACL_CMD_STAT_done, 0)) (by simp [aclRunning])
  · rw [hstat rfl]
    exact hbegin.val (p := (ACL_CMD_STAT_op, 7)) (by simp [aclRunning])
  · have hend := trainAll_claimed (s.toDevice.aclBegin m 7 0) (n := n) (by
      rw [hclaimed, mem_claimedLanes]
      exact ⟨hlt, hcl⟩)
    have hcount : (s.toDevice.aclBegin m 7 0).get (ACL_LANE_EVT_fulls n) = s.toDevice.get (ACL_LANE_EVT_fulls n) :=
      congrArg (fun v => v.2.2) (hview n hlt)
    rw [hcount, Device.laneView, Prod.mk.injEq, Prod.mk.injEq] at hend
    obtain ⟨hstate, hlane, hfulls⟩ := hend
    rw [hstate, hlane, hfulls]
    exact ⟨rfl, rfl, rfl, rfl⟩
  · have hend := trainAll_unclaimed (s.toDevice.aclBegin m 7 0) hlt (by rw [hclaimed, mem_claimedLanes]; simp [hcl])
    rw [hview n hlt, Device.laneView, Device.laneView, Prod.mk.injEq, Prod.mk.injEq] at hend
    exact ⟨hend.1, hend.2.1⟩
  · exact (hbegin.onlyRegs (offs := [ACL_CMD_STAT]) fun p hp => by simp [aclRunning_off hp]).trans hregs (List.subset_append_left _ _)
      (List.subset_append_right _ _)
  · exact eq_of_besideLink ((trainAll_besideLink _).trans hbegin.beside)

/-- Settles O38: each operation's equation, and what its parts set. -/
theorem lanesAreCommanded : Obligations.LanesAreCommanded := by
  refine ⟨?_, ?_, ?_, ?_, ?_, ?_⟩
  · intro i op full m n s hi hc hm hb hn hl
    obtain ⟨hop, hexec⟩ := exec_laneTrain hi hc hm hb hn
    have hlane := trainStart_lane (s.toDevice.aclBegin m op n) n full false false
    have hset := laneTrain_marks s.toDevice m hop n.isLt full
    refine ⟨_, hexec, ?_, fun j hne => ?_, ?_, ?_⟩
    · rw [hlane, if_pos rfl, aclBegin_lane, LaneX.started]
    · rw [hlane, if_neg hne, aclBegin_lane]
    · rw [trainStart_link, Device.setLane, aclBegin_link]
    · cases full <;> exact hset
  · intro m n k t s hc hm hb ht hk hs hfree
    exact ⟨_, exec_sparePlannedMove hc hm hb ht hk hs hfree, plan_gives s.toDevice m n _ t (by decide) _ _⟩
  · intro m n k t s hc hm hb ht hk h4 h6 hin
    exact ⟨_, exec_sparePlannedReturn hc hm hb ht hk h4 h6 hin, plan_gives s.toDevice m n _ t (by decide) _ _⟩
  · exact fun m r s hc hm hb => returnLaneRegrant_yields hc hm hb
  · intro m n s hc hm hb hn h1 hl
    have hlane (j : Nat) : ((s.toDevice.aclBegin m 6 n).laneOff n |>.aclEnd 0).lane j = ((s.toDevice.aclBegin m 6 n).laneOff n).lane j := by
      rw [lane_eq, aclEnd_link (laneOff_busy s.toDevice m n.isLt), lane_eq]
    refine ⟨_, exec_laneOff hc hm hb hn h1, ?_, fun j hne => ?_, laneOff_done s.toDevice m n.isLt hl.1⟩
    · rw [hlane, laneOff_lane, if_pos rfl, aclBegin_lane]
    · rw [hlane, laneOff_lane, if_neg hne, aclBegin_lane]
  · intro m s hc hm hb h1 hn hl
    have hyields := trainAllLanes_yields hc hm hb h1 hn hl
    rwa [trainRegs, ← List.append_assoc, ← List.append_assoc] at hyields

end Sys2Proof.Machine

namespace Sys2Proof.Machine

/-! # What the rest of the block leaves to the link

A training's end may start scan-out (R155) or light a stripe again, and a lost driver raises a fault (R328). None of that
touches the link or a register of the ACL block, which lies at offsets 0xE0000 to 0xEFFFF. -/

/-- The link, the time, the open recovery, and the registers of the ACL block by their place in it. -/
structure AclView where
  link : Link
  us : Nat
  opened : Option Recovery
  regs : Nat → Nat

/-- What the device shows of its link. -/
def Device.aclView (d : Device) : AclView := ⟨d.link, d.us, d.flt.opened, fun k => d.rd (0xe0000 + k % 0x10000)⟩

/-- A field of the ACL block, read from the view. -/
theorem get_of_aclRegs {d e : Device} (h : e.aclView.regs = d.aclView.regs) {f : Fld} (hlo : 0xe0000 ≤ f.off) (hhi : f.off < 0xf0000) :
    e.get f = d.get f := by
  have hoff : 0xe0000 + (f.off - 0xe0000) % 0x10000 = f.off := by omega
  have hrd : d.rd f.off = e.rd f.off := hoff ▸ (congrFun h (f.off - 0xe0000)).symm
  rw [Device.get, Device.get, hrd]

theorem get_of_aclView {d e : Device} (h : e.aclView = d.aclView) {f : Fld} (hlo : 0xe0000 ≤ f.off) (hhi : f.off < 0xf0000) :
    e.get f = d.get f :=
  get_of_aclRegs (congrArg AclView.regs h) hlo hhi

theorem link_of_aclView {d e : Device} (h : e.aclView = d.aclView) : e.link = d.link := (congrArg AclView.link h :)

theorem lane_of_aclView {d e : Device} (h : e.aclView = d.aclView) (n : Nat) : e.lane n = d.lane n := by
  rw [lane_eq, link_of_aclView h, lane_eq]

@[simp] theorem aclView_ite (c : Prop) [Decidable c] (a b : Device) :
    (if c then a else b).aclView = if c then a.aclView else b.aclView := apply_ite _ _ _ _

/-- A record update of the device that takes its registers, its time and its link from devices at hand. -/
@[simp] theorem aclView_mk (d a b : Device) (force bank rdata : Sparse Word) (free : Nat) (bridge : Bridge)
    (power : Power) (boot : Boot) (trans : Option Trans) (loupeFrom : Nat) (hv : Hv) (seg : Glass) (flt : Faults)
    (mem : Mem) (keep : Keep) (act mir : PrismSet) (swap : Swap) (srv : Survey) (ras : Raster) (img : Img) (dprx : Sparse PortX)
    (tap : Tap) (lay : Layers) (trn : Trn) (cmp : Cmp) (claims : List RunClaim) (mbx : Mbx) (ik : Ikiush) (hif : Hif) (clk : Clk) :
    (Device.mk d.regs force bank rdata a.us free bridge power boot trans loupeFrom hv seg flt mem keep b.link act mir
      swap srv ras img dprx tap lay trn cmp claims mbx ik hif clk).aclView = ⟨b.aclView.link, a.aclView.us, flt.opened, d.aclView.regs⟩ := (rfl)

@[simp] theorem aclView_eta (v : AclView) : (⟨v.link, v.us, v.opened, v.regs⟩ : AclView) = v := (rfl)

theorem opened_eq (d : Device) : d.flt.opened = d.aclView.opened := (rfl)

/-- A register write outside the ACL block. -/
@[simp] theorem wr_aclView (d : Device) {off : Nat} (v : Nat) (h : off < 0xe0000 ∨ 0xf0000 ≤ off) :
    (d.wr off v).aclView = d.aclView := by
  simp only [Device.aclView, Device.wr_link, Device.wr_us, Device.wr_flt, AclView.mk.injEq, true_and]
  funext k
  exact d.rd_wr_ne v (by omega)

@[simp] theorem put_aclView (d : Device) {f : Fld} (v : Nat) (h : f.off < 0xe0000 ∨ 0xf0000 ≤ f.off) :
    (d.put f v).aclView = d.aclView :=
  wr_aclView d _ h

@[simp] theorem bump_aclView (d : Device) {f : Fld} (n : Nat) (h : f.off < 0xe0000 ∨ 0xf0000 ≤ f.off) :
    (d.bump f n).aclView = d.aclView :=
  wr_aclView d _ h

/-! ## Scan-out (R142, R155, R219) -/

@[simp] theorem degrSync_aclView (d : Device) : d.degrSync.aclView = d.aclView := by
  simp +decide [Device.degrSync]

@[simp] theorem holdover_aclView (d : Device) : d.holdover.aclView = d.aclView := by
  simp +decide [Device.holdover]

@[simp] theorem depthSync_aclView (d : Device) : d.depthSync.aclView = d.aclView := by
  simp +decide [Device.depthSync]

@[simp] theorem rasterSrc_aclView (d : Device) : d.rasterSrc.aclView = d.aclView := by
  unfold Device.rasterSrc
  dsimp only
  repeat' split
  all_goals simp +decide [opened_eq]

@[simp] theorem rasterStart_aclView (d : Device) : d.rasterStart.aclView = d.aclView := by
  simp +decide [opened_eq, Device.rasterStart]

@[simp] theorem scanJoin_aclView (d : Device) : d.scanJoin.aclView = d.aclView := by
  simp +decide [Device.scanJoin]

/-! ## A fault recorded and opened (R509, R513) -/

@[simp] theorem kDirty_aclView (d : Device) (page : Nat) : (d.kDirty page).aclView = d.aclView := by
  simp +decide [opened_eq, Device.kDirty, Device.kSync]

@[simp] theorem kWr_aclView (d : Device) (a : Nat) (bs : List Nat) : (d.kWr a bs).aclView = d.aclView := by
  unfold Device.kWr
  exact eachOf_keeps (P := fun e => e.aclView = d.aclView) rfl fun p _ e he => by rw [kDirty_aclView, he]

@[simp] theorem logAppend_aclView (d : Device) (body : List Nat) : (d.logAppend body).aclView = d.aclView := by
  simp +decide [Device.logAppend]

@[simp] theorem fltLog_aclView (d : Device) (f : Flt) (entry lat otherCode otherInst detail : Nat) :
    (d.fltLog f entry lat otherCode otherInst detail).aclView = d.aclView := by
  simp [Device.fltLog, Device.logEntry]

@[simp] theorem grow_aclView (d : Device) (c n : Nat) : (d.grow c n).aclView = d.aclView := (rfl)

@[simp] theorem spoil_aclView (d : Device) (c : Nat) : (d.spoil c).aclView = d.aclView := (rfl)

@[simp] theorem fltRecord_aclView (d : Device) (f : Flt) (detail : Nat) : (d.fltRecord f detail).aclView = d.aclView := by
  simp +decide [Device.fltRecord]

@[simp] theorem fltSync_aclView (d : Device) : d.fltSync.aclView = d.aclView := by
  unfold Device.fltSync
  dsimp only
  repeat' split
  all_goals simp +decide

@[simp] theorem fltOpen_aclView (d : Device) (r : Option Recovery) : (d.fltOpen r).aclView = { d.aclView with opened := r } := by
  simp [Device.fltOpen]

end Sys2Proof.Machine

namespace Sys2Proof.Machine

/-! # The link map of the active set -/

theorem laneStripe_lt {d : Device} {n t : Nat} (h : d.laneStripe n = some t) : t < d.act.lanes.length :=
  List.mem_range.mp (List.mem_of_find?_eq_some h)

theorem slotStripe_lt {d : Device} {r j t : Nat} (h : d.slotStripe r j = some t) : t < d.act.lanes.length :=
  List.mem_range.mp (List.mem_of_find?_eq_some h)


theorem laneStripe_congr {d e : Device} (h : e.act = d.act) (n : Nat) : e.laneStripe n = d.laneStripe n := by
  rw [Device.laneStripe, h, Device.laneStripe]

theorem slotStripe_congr {d e : Device} (h : e.act = d.act) (r j : Nat) : e.slotStripe r j = d.slotStripe r j := by
  rw [Device.slotStripe, h, Device.slotStripe]

/-- The entry of a stripe of a sound link map names a lane, a return lane and a slot that exist. -/
theorem laneEntry_fits {p : PrismSet} (hl : p.linkOk) {t : Nat} (ht : t < p.lanes.length) :
    (p.lanes.getD t {}).lane < 96 ∧ (p.lanes.getD t {}).ret < 24 ∧ (p.lanes.getD t {}).slot < 4 := by
  obtain ⟨-, -, hlanes, -⟩ := hl
  rw [List.getD_eq_getElem _ _ ht]
  exact hlanes _ (List.getElem_mem ht)

/-- The lane that carries a stripe depends on the active set and the entries of the spares alone. -/
theorem stripeLane_of_marks {d e : Device} {l : List (Fld × Nat)} (h : d.marks e l) (hlow : ∀ p ∈ l, p.1.off < 0xec010) (t : Nat) :
    e.stripeLane t = d.stripeLane t := by
  have hget (g : Fld) (hg : 0xec010 ≤ g.off) : e.get g = d.get g :=
    h.other fun p hp => .inl (Nat.ne_of_gt (Nat.lt_of_lt_of_le (hlow p hp) hg))
  have hstate (k : Nat) : e.get (ACL_SPARE_state k) = d.get (ACL_SPARE_state k) := hget _ (Nat.le_add_right _ _)
  have hstripe (k : Nat) : e.get (ACL_SPARE_stripe k) = d.get (ACL_SPARE_stripe k) := hget _ (Nat.le_add_right _ _)
  simp only [Device.stripeLane, Device.spareOf, h.act_eq, hstate, hstripe]

theorem configData_of_besideLink {d e : Device} (h : e.besideLink = d.besideLink) (t : Nat) (atFrame : Bool) :
    e.configData t atFrame = d.configData t atFrame := by
  have hforce : e.force = d.force := (congrArg Device.force h :)
  simp only [Device.configData, channels_congr (act_of_besideLink h) hforce, act_of_besideLink h, Device.getF, Device.rdF, hforce]

/-! # The end of WAKE (R309, R317, R331) -/

/-- Lane `n` in LOCK, with its scrambler seeded. -/
def Device.seeded (d : Device) (n : Nat) : Device :=
  (d.setLane n { d.lane n with scram := 2 ^ 58 - 1 }).put (ACL_LANE_STAT_state n) 2

/-- The arrival phase of the driver of stripe `t` is to be learned anew. -/
def Device.relearn (d : Device) (t : Nat) : Device :=
  let e := d.act.lanes.getD t {}
  d.setRet e.ret { d.ret e.ret with phase := Sparse.erase (d.ret e.ret).phase e.slot }

theorem seeded_marks (d : Device) (n : Nat) : d.marks (d.seeded n) [(ACL_LANE_STAT_state n, 2)] :=
  ((marks_refl d).setLane _ _).put (by simp) (by simp) rfl (by simp)

theorem seeded_lane (d : Device) (n k : Nat) :
    (d.seeded n).lane k = if k = n then { d.lane n with scram := 2 ^ 58 - 1 } else d.lane k := by
  rw [Device.seeded, lane_put, lane_setLane]

theorem exec_laneWakeDone_bare {n : Lane} {s : State} (h1 : s.toDevice.laneState n = 1) (ht : s.toDevice.laneStripe n = none) :
    exec (.laneWakeDone n) s = .next { s with toDevice := s.toDevice.seeded n } := by
  show execLaneWakeDone n s = _
  rw [execLaneWakeDone, run_next, if_pos h1]
  dsimp only
  rw [← Device.seeded, laneStripe_congr (seeded_marks _ _).act_eq, ht]

theorem exec_laneWakeDone_stripe {n : Lane} {t : Nat} {s : State} (h1 : s.toDevice.laneState n = 1) (ht : s.toDevice.laneStripe n = some t) :
    exec (.laneWakeDone n) s = .next { s with toDevice := ((s.toDevice.seeded n).relearn t).sendConfig t } := by
  show execLaneWakeDone n s = _
  rw [execLaneWakeDone, run_next, if_pos h1]
  dsimp only
  rw [← Device.seeded, laneStripe_congr (seeded_marks _ _).act_eq, ht]
  rfl

theorem relearn_marks {d e : Device} {l : List (Fld × Nat)} (h : d.marks e l) (t : Nat) : d.marks (e.relearn t) l := h.setRet _ _

/-- A stripe's lane whose WAKE ends is in LOCK, and CONFIG goes out to its driver. -/
theorem laneWakeDone_stripe_yields {n : Lane} {t : Nat} {s : State} (h1 : s.toDevice.laneState n = 1)
    (ht : s.toDevice.laneStripe n = some t) (hl : s.toDevice.linkFits) :
    Yields (.laneWakeDone n) s (fun e => (e.lane n).scram = 2 ^ 58 - 1 ∧ e.laneState n = 2 ∧
      (e.get (ACL_RET_STAT_granted (s.act.lanes.getD t {}).ret)).testBit (s.act.lanes.getD t {}).slot = true ∧
      (∃ x ∈ (e.lane (s.toDevice.stripeLane t)).unacked, x.target = t ∧ x.op = 1 ∧ x.data = s.toDevice.configData t false) ∧
      s.toDevice.onlyRegs e [ACL_LANE_STAT n, ACL_RET_STAT (s.act.lanes.getD t {}).ret] ∧
      e = { s.toDevice with regs := e.regs, link := e.link }) := by
  obtain ⟨-, -, hslot⟩ := laneEntry_fits hl.1 (laneStripe_lt ht)
  have hready := relearn_marks (seeded_marks s.toDevice n) t
  have hlane : (((s.toDevice.seeded n).relearn t).lane n).scram = 2 ^ 58 - 1 := by
    rw [Device.relearn, lane_setRet, seeded_lane, if_pos rfl]
  have hsent := sendConfig_awaits ((s.toDevice.seeded n).relearn t) t
  have hgrant := sendConfig_marks ((s.toDevice.seeded n).relearn t) t
  rw [stripeLane_of_marks hready (by simpa using laneStat_below n.isLt), configData_of_besideLink hready.beside] at hsent
  rw [hready.act_eq] at hgrant
  have hset := hready.append hgrant fun p hp q hq => .inl (by
    rw [List.mem_singleton.mp hp, List.mem_singleton.mp hq]
    simp only [ACL_LANE_STAT, ACL_RET_STAT]
    omega)
  refine ⟨_, exec_laneWakeDone_stripe h1 ht, ?_, hset.val (p := (ACL_LANE_STAT_state n, 2)) (by simp), ?_, hsent,
    hset.onlyRegs (by simp), eq_of_besideLink hset.beside⟩
  · rw [sendConfig_scram, hlane]
  · rw [hset.val List.mem_cons_self, show 16 = 2 ^ 4 from rfl, Nat.testBit_mod_two_pow, onBit, Nat.testBit_or, Nat.testBit_two_pow_self,
      decide_eq_true hslot, Bool.or_true, Bool.true_and]

/-! # The end of LOCK (R335) -/

theorem exec_laneLockTimeout_fast {n : Lane} {s : State} (h2 : s.toDevice.laneState n = 2) (hf : (s.toDevice.lane n).full = false) :
    exec (.laneLockTimeout n) s = .next { s with toDevice := s.toDevice.trainStart n true true (s.toDevice.lane n).retry } := by
  show execLaneLockTimeout n s = _
  rw [execLaneLockTimeout, run_next, if_pos h2]
  simp [Device.lockLost, hf]

/-- A fast retrain that does not lock is followed by a full training. -/
theorem laneLockTimeout_yields {n : Lane} {s : State} (h2 : s.toDevice.laneState n = 2) (hf : (s.toDevice.lane n).full = false)
    (hl : s.toDevice.linkFits) :
    Yields (.laneLockTimeout n) s (fun e => e.laneState n = 1 ∧ (e.lane n).full = true ∧ (e.lane n).again = true ∧
      (∀ j, j ≠ n.val → e.lane j = s.toDevice.lane j) ∧
      e.get (ACL_LANE_EVT_fulls n) = Nat.min (s.toDevice.get (ACL_LANE_EVT_fulls n) + 1) 0xFF ∧
      s.toDevice.onlyRegs e ([ACL_LANE_STAT n, ACL_LANE_EVT n] ++ (List.range 8).map ACL_SPARE) ∧
      e = { s.toDevice with regs := e.regs, link := { s.link with lanes := e.link.lanes } }) := by
  have hlane := trainStart_lane s.toDevice n true true (s.toDevice.lane n).retry
  have hlink := trainStart_link s.toDevice n true true (s.toDevice.lane n).retry
  have heq := eq_of_besideLink (trainStart_besideLink s.toDevice n true true (s.toDevice.lane n).retry)
  refine ⟨_, exec_laneLockTimeout_fast h2 hf, trainStart_laneState _ n.isLt _ _ _, ?_, ?_, fun j hne => ?_,
    trainStart_count _ n.isLt true _ _, trainStart_onlyRegs n.isLt hl.1 _ _ _, ?_⟩
  · rw [hlane, if_pos rfl, LaneX.started]
  · rw [hlane, if_pos rfl, LaneX.started]
  · rw [hlane, if_neg hne]
  · rw [hlink] at heq ⊢
    exact heq

end Sys2Proof.Machine

namespace Sys2Proof.Machine

/-! # The presets of a full training (R334) -/

/-- A lane's hidden state once the packet that announces a preset is out. -/
def LaneX.announced (x : LaneX) (target p f : Nat) : LaneX :=
  { x with seq := (x.seq + 1) % 256, unacked := x.unacked ++ [{ target := target, op := 5, data := [p, f], seq := x.seq }],
           presetAt := some (p, f) }

theorem announce_eq (d : Device) (n p : Nat) : d.announce n p =
    (let e := d.sendCtl n ((d.laneStripe n).getD 0xFF) 5 [p, (d.link.mrk + 2) % 256]
     e.setLane n { e.lane n with presetAt := some (p, (d.link.mrk + 2) % 256) }) := by
  unfold Device.announce
  cases d.laneStripe n <;> rfl

theorem announce_lane (d : Device) (n p k : Nat) : (d.announce n p).lane k =
    if k = n then (d.lane n).announced ((d.laneStripe n).getD 0xFF) p ((d.link.mrk + 2) % 256) else d.lane k := by
  rw [announce_eq, lane_setLane]
  split
  · rw [Device.sendCtl, lane_setLane_same, LaneX.announced]
  next hne => exact lane_sendCtl_ne d _ _ _ _ hne

theorem Device.marks.announce {d e : Device} {l : List (Fld × Nat)} (h : d.marks e l) (n p : Nat) : d.marks (e.announce n p) l :=
  (h.setLane _ _).setLane _ _

/-- The hidden state of a lane that has measured the first preset of its sweep. -/
def LaneX.scored (x : LaneX) (rest : List Nat) (scores : List (Nat × Nat × Nat)) : LaneX :=
  { x with sweep := rest, scores := scores, holding := rest.isEmpty || x.holding }

/-- A preset measured: its errors are counted, and the next preset, or the best of all, is announced. -/
theorem exec_eqPresetDone {n : Lane} {p growth fom : Nat} {rest : List Nat} {ceased : Bool} {s : State} (h3 : s.toDevice.laneState n = 3)
    (hw : (s.toDevice.lane n).sweep = p :: rest) :
    let g := if ceased then 2 ^ 32 else growth
    let scores := (s.toDevice.lane n).scores ++ [(p, g, fom)]
    exec (.eqPresetDone n growth fom ceased) s = .next { s with toDevice :=
      (((s.toDevice.put ⟨ACL_LANE_EQ n, 4 * p + 3, 4 * p⟩ (Nat.min g 15)).setLane n
        ((s.toDevice.lane n).scored rest scores)).announce n (rest.headD (presetBest scores))) } := by
  have h3' : ¬ s.toDevice.laneState n ≠ 3 := not_not_intro h3
  dsimp only
  show execEqPresetDone n growth fom ceased s = _
  rw [execEqPresetDone, run_next]
  dsimp only
  rw [hw]
  dsimp only
  rw [if_neg h3', LaneX.scored]
  cases rest <;> rfl

/-! # The end of the hold: the lane is up (R331, R335) -/

/-- The hidden state of a lane that is up. -/
def LaneX.up (x : LaneX) : LaneX :=
  { x with holding := false, sweep := [], full := false, again := false, retry := false, missing := 0 }

/-- Lane `n` up in state `v`, before what follows from it. -/
def Device.laneUpTo (d : Device) (n v : Nat) : Device :=
  ((((d.setLane n (d.lane n).up).put (ACL_LANE_STAT_err n) 0).put (ACL_LANE_STAT_state n) v).spareTo n 2)

/-- The state of a lane that is up: a spare stands by, any other lane runs. -/
def Device.upState (d : Device) (n : Nat) : Nat := if (d.laneSpare n).isSome then 5 else 4

theorem laneUpTo_lane (d : Device) (n v k : Nat) : (d.laneUpTo n v).lane k = if k = n then (d.lane n).up else d.lane k := by
  rw [Device.laneUpTo, lane_spareTo, lane_put, lane_put, lane_setLane]

theorem Device.marks.laneUpTo {d e : Device} {n v : Nat} (h : d.marks e [(ACL_LANE_STAT_preset n, v)]) (hn : n < 96) {w : Nat} (hw : w < 8) :
    d.marks (e.laneUpTo n w)
      (d.spareMarks n 2 ++ [(ACL_LANE_STAT_state n, w), (ACL_LANE_STAT_err n, 0), (ACL_LANE_STAT_preset n, v)]) := by
  have herr := (h.setLane n (e.lane n).up).put (f := ACL_LANE_STAT_err n) (v := 0) (w := 0) (by simp) (by simp) (Nat.zero_mod _)
    (by simp [Fld.apart])
  have hstate := herr.put (f := ACL_LANE_STAT_state n) (v := w) (w := w) (by simp) (by simp) (Nat.mod_eq_of_lt hw) (by simp [Fld.apart])
  exact hstate.spareTo (by simpa using laneStat_below hn) n (by decide)

theorem aclLaneEnd_idle {d : Device} (h : d.get ACL_CMD_STAT_busy = 0) (n err : Nat) : d.aclLaneEnd n err = d := by
  rw [Device.aclLaneEnd, if_pos h]

/-- The stripe of lane `n`, if it has one, is lit again. -/
def Device.relit (d : Device) (n : Nat) : Device :=
  match d.laneStripe n with
  | some t => ({ d with flt := { d.flt with dark := d.flt.dark.filter (fun k => k != t) } }).degrSync
  | none => d

@[simp] theorem relit_aclView (d : Device) (n : Nat) : (d.relit n).aclView = d.aclView := by
  unfold Device.relit
  split
  · rw [degrSync_aclView]
    rfl
  · rfl

theorem laneUp_spare {d : Device} {n k : Nat} (h : d.laneSpare n = some k) :
    d.laneUp n = ((d.laneUpTo n 5).aclLaneEnd n 0).scanJoin := by
  rw [Device.laneUpTo, spareTo_of_spare (k := k) (by simpa using h), Device.laneUp, ← LaneX.up]
  dsimp only
  rw [laneSpare_put, laneSpare_setLane, h]

theorem laneUp_stripe {d : Device} {n : Nat} (h : d.laneSpare n = none) :
    d.laneUp n = (((d.laneUpTo n 4).relit n).aclLaneEnd n 0).scanJoin := by
  rw [Device.laneUpTo, spareTo_of_none (by simpa using h), Device.laneUp, ← LaneX.up]
  dsimp only
  rw [laneSpare_put, laneSpare_setLane, h]
  rfl

/-- With no command running, a lane that comes up shows in the ACL block by its own registers and hidden state and its spare's entry. -/
theorem laneUp_aclView {d : Device} {n : Nat} (hb : (d.laneUpTo n (d.upState n)).get ACL_CMD_STAT_busy = 0) :
    (d.laneUp n).aclView = (d.laneUpTo n (d.upState n)).aclView := by
  cases hk : d.laneSpare n with
  | some k =>
    have hv : d.upState n = 5 := by rw [Device.upState, hk]; rfl
    rw [hv] at hb ⊢
    rw [laneUp_spare hk, scanJoin_aclView, aclLaneEnd_idle hb]
  | none =>
    have hv : d.upState n = 4 := by rw [Device.upState, hk]; rfl
    rw [hv] at hb ⊢
    have hidle : ((d.laneUpTo n 4).relit n).get ACL_CMD_STAT_busy = 0 :=
      (get_of_aclView (relit_aclView _ n) (by decide) (by decide)).trans hb
    rw [laneUp_stripe hk, scanJoin_aclView, aclLaneEnd_idle hidle, relit_aclView]

/-- Lane `n` with its best preset in force. -/
def Device.chosen (d : Device) (n : Nat) : Device :=
  (d.put (ACL_LANE_STAT_preset n) (presetBest (d.lane n).scores)).setLane n { d.lane n with presetAt := none }

theorem exec_eqHoldDone {n : Lane} {s : State} (h3 : s.toDevice.laneState n = 3) (hh : (s.toDevice.lane n).holding = true) :
    exec (.eqHoldDone n) s = .next { s with toDevice := (s.toDevice.chosen n).laneUp n } := by
  show execEqHoldDone n s = _
  rw [execEqHoldDone, run_next, h3, hh]
  rfl

theorem chosen_marks {d : Device} {n : Nat} (hp : presetBest (d.lane n).scores < 8) :
    d.marks (d.chosen n) [(ACL_LANE_STAT_preset n, presetBest (d.lane n).scores)] :=
  ((marks_refl d).put (by simp) (by simp) (Nat.mod_eq_of_lt hp) (by simp)).setLane _ _

/-- At the end of the hold the lane is up. -/
theorem eqHoldDone_yields {n : Lane} {s : State} (h3 : s.toDevice.laneState n = 3) (hh : (s.toDevice.lane n).holding = true)
    (hp : presetBest (s.toDevice.lane n).scores < 8) (hb : s.toDevice.get ACL_CMD_STAT_busy = 0) :
    Yields (.eqHoldDone n) s (fun e => e.laneState n = (if (s.toDevice.laneSpare n).isSome then 5 else 4) ∧
      e.get (ACL_LANE_STAT_preset n) = presetBest (s.toDevice.lane n).scores ∧ e.get (ACL_LANE_STAT_err n) = 0 ∧
      e.lane n = { s.toDevice.lane n with
        presetAt := none, holding := false, sweep := [], full := false, again := false, retry := false, missing := 0 } ∧
      (∀ j, j ≠ n.val → e.lane j = s.toDevice.lane j)) := by
  have hstate : (s.toDevice.chosen n).upState n < 8 := by
    rw [Device.upState]
    split <;> decide
  have hset := (chosen_marks hp).laneUpTo n.isLt hstate
  have hidle := hset.other (g := ACL_CMD_STAT_busy) fun p hmem => .inl (by
    rcases List.mem_append.mp hmem with hmem | hmem
    · exact Nat.ne_of_lt (Nat.lt_of_lt_of_le (by decide) (spareMarks_above hmem))
    · simp only [List.mem_cons, List.not_mem_nil, or_false] at hmem
      rcases hmem with rfl | rfl | rfl <;> simp only [ACL_LANE_STAT, ACL_CMD_STAT] <;> omega)
  have hview := laneUp_aclView (hidle.trans hb)
  have hget (g : Fld) (hg : g.off = ACL_LANE_STAT n) :
      ((s.toDevice.chosen n).laneUp n).get g = ((s.toDevice.chosen n).laneUpTo n ((s.toDevice.chosen n).upState n)).get g := by
    have hn := n.isLt
    refine get_of_aclView hview ?_ ?_ <;> simp only [hg, ACL_LANE_STAT] <;> omega
  have hlane (k : Nat) : ((s.toDevice.chosen n).laneUp n).lane k =
      if k = n then ((s.toDevice.chosen n).lane n).up else (s.toDevice.chosen n).lane k := by
    rw [lane_of_aclView hview, laneUpTo_lane]
  refine ⟨_, exec_eqHoldDone h3 hh, ?_, ?_, ?_, ?_, fun j hne => ?_⟩
  · rw [Device.laneState, hget _ rfl]
    exact hset.val (p := (ACL_LANE_STAT_state n, (s.toDevice.chosen n).upState n)) (by simp)
  · rw [hget _ rfl]
    exact hset.val (p := (ACL_LANE_STAT_preset n, presetBest (s.toDevice.lane n).scores)) (by simp)
  · rw [hget _ rfl]
    exact hset.val (p := (ACL_LANE_STAT_err n, 0)) (by simp)
  · rw [hlane, if_pos rfl, Device.chosen, lane_setLane_same, LaneX.up]
  · rw [hlane, if_neg hne, Device.chosen, lane_setLane_ne _ _ hne, lane_put]

/-- Settles O39: each phase's equation, and what its parts set. -/
theorem lanesTrain : Obligations.LanesTrain := by
  refine ⟨fun n s h1 => ⟨fun ht => ?_, fun t ht hl => laneWakeDone_stripe_yields h1 ht hl⟩,
    fun n s h2 hf hl => laneLockTimeout_yields h2 hf hl, ?_, fun n s h3 hh hp hb _ => eqHoldDone_yields h3 hh hp hb⟩
  · have hlane (j : Nat) := seeded_lane s.toDevice n j
    refine ⟨_, exec_laneWakeDone_bare h1 ht, ?_, fun j hne => ?_, (seeded_marks _ _).lanes rfl⟩
    · rw [hlane, if_pos rfl]
    · rw [hlane, if_neg hne]
  · intro n p rest growth fom ceased s h3 hw hp
    have hcount : Nat.min (if ceased then 2 ^ 32 else growth) 15 = if ceased then 15 else Nat.min growth 15 := by
      cases ceased <;> rfl
    have hlt : Nat.min (if ceased then 2 ^ 32 else growth) 15 < 16 := Nat.lt_of_le_of_lt (Nat.min_le_right _ _) (by decide)
    refine ⟨_, exec_eqPresetDone h3 hw, ?_, fun j hne => ?_, ?_⟩
    · rw [announce_lane, if_pos rfl, lane_setLane_same]
      rfl
    · rw [announce_lane, if_neg hne, lane_setLane_ne _ _ hne, lane_put]
    · rw [← hcount]
      refine ((((marks_refl s.toDevice).put (by simp) ?_ ?_ (by simp)).setLane _ _).announce _ _).lanes rfl
      · show 4 * p + 3 < 32
        omega
      · rw [show 4 * p + 3 + 1 - 4 * p = 4 by omega]
        exact Nat.mod_eq_of_lt hlt

end Sys2Proof.Machine

namespace Sys2Proof.Machine

/-! # Loops whose steps each touch one register -/

/-- Where an invariant that the loop keeps makes two steps agree, the loops agree. -/
theorem eachOf_congr {α : Type} {f g : α → Device → Device} {P : Device → Prop} {l : List α} {d : Device} (hd : P d)
    (h : ∀ a ∈ l, ∀ d, P d → f a d = g a d ∧ P (g a d)) : eachOf l f d = eachOf l g d := by
  induction l generalizing d with
  | nil => rfl
  | cons a l ih =>
    obtain ⟨hstep, hnext⟩ := h a List.mem_cons_self d hd
    rw [eachOf, List.foldl_cons, hstep]
    exact ih hnext fun b hb => h b (List.mem_cons_of_mem a hb)

theorem eachOf_onlyRegs {α : Type} {f : α → Device → Device} {off : α → Nat} {l : List α}
    (h : ∀ a ∈ l, ∀ d : Device, d.onlyRegs (f a d) [off a]) (d : Device) : d.onlyRegs (eachOf l f d) (l.map off) :=
  eachOf_keeps (P := fun e => d.onlyRegs e (l.map off)) (fun _ _ => rfl) fun a ha e he =>
    he.trans (h a ha e) (List.Subset.refl _) (by simpa using List.mem_map_of_mem ha)

theorem get_of_onlyRegs {d e : Device} {offs : List Nat} (h : d.onlyRegs e offs) {f : Fld} (hf : f.off ∉ offs) : e.get f = d.get f := by
  rw [Device.get, Device.get, h f.off hf]

/-! # A return frame begins (R312, R334) -/

/-- The count of return frames goes up. -/
def Device.marked (d : Device) : Device := { d with link := { d.link with mrk := (d.link.mrk + 1) % 256 } }

/-- A lane whose announced preset is in force. -/
def LaneX.settled (x : LaneX) : LaneX := { x with presetAt := none }

/-- The preset announced for this return frame is in force on lane `n`. -/
def Device.presetFrame (d : Device) (n : Nat) : Device :=
  match (d.lane n).presetAt with
  | some (p, f) => if f = d.link.mrk then (d.setLane n (d.lane n).settled).put (ACL_LANE_STAT_preset n) p else d
  | none => d

theorem presetFrame_due {d : Device} {n p : Nat} (h : (d.lane n).presetAt = some (p, d.link.mrk)) :
    d.presetFrame n = (d.setLane n (d.lane n).settled).put (ACL_LANE_STAT_preset n) p := by
  simp [Device.presetFrame, h]

theorem presetFrame_other {d : Device} {n : Nat} (h : ∀ p, (d.lane n).presetAt ≠ some (p, d.link.mrk)) : d.presetFrame n = d := by
  unfold Device.presetFrame
  split
  next p f hp =>
    refine if_neg fun hf => h p ?_
    rw [hp, hf]
  next => rfl

/-- Either the lane's preset is announced for this return frame, or nothing happens. -/
theorem presetFrame_cases (d : Device) (n : Nat) : d.presetFrame n = d ∨
    ∃ p, d.presetFrame n = (d.setLane n (d.lane n).settled).put (ACL_LANE_STAT_preset n) p := by
  by_cases h : ∃ p, (d.lane n).presetAt = some (p, d.link.mrk)
  · obtain ⟨p, hp⟩ := h
    exact .inr ⟨p, presetFrame_due hp⟩
  · exact .inl (presetFrame_other fun p hp => h ⟨p, hp⟩)

/-- A preset's start touches its lane's register and hidden state alone. -/
theorem presetFrame_keeps (d : Device) (n : Nat) : d.onlyRegs (d.presetFrame n) [ACL_LANE_STAT n] ∧
    (d.presetFrame n).besideLink = d.besideLink ∧ (d.presetFrame n).link.mrk = d.link.mrk ∧ (d.presetFrame n).link.rets = d.link.rets ∧
    ∀ k ≠ n, (d.presetFrame n).lane k = d.lane k := by
  rcases presetFrame_cases d n with h | ⟨p, h⟩
  · rw [h]
    exact ⟨fun _ _ => rfl, rfl, rfl, rfl, fun _ _ => rfl⟩
  · have hset := ((marks_refl d).setLane n (d.lane n).settled).put (f := ACL_LANE_STAT_preset n) (v := p) (by simp) (by simp)
      rfl (by simp)
    rw [h]
    exact ⟨hset.onlyRegs (by simp), hset.beside, by rw [Device.put_link, Device.setLane], by rw [Device.put_link, Device.setLane],
      fun k hk => by rw [lane_put, lane_setLane_ne _ _ hk]⟩

/-- What a return frame's begin shows of lane `n`. -/
def Device.presetView (d : Device) (n : Nat) : Nat × LaneX × Nat := (d.get (ACL_LANE_STAT_preset n), d.lane n, d.link.mrk)

theorem presetFrame_view_ne (d : Device) {n k : Nat} (h : k ≠ n) : (d.presetFrame k).presetView n = d.presetView n := by
  obtain ⟨hregs, -, hmrk, -, hlane⟩ := presetFrame_keeps d k
  have hoff : ACL_LANE_STAT n ∉ [ACL_LANE_STAT k] := by
    simp only [ACL_LANE_STAT, List.mem_singleton]
    omega
  rw [Device.presetView, get_of_onlyRegs hregs hoff, hlane n h.symm, hmrk, Device.presetView]

/-- The presets announced for this return frame are in force. -/
def Device.presets (d : Device) : Device := eachOf (List.range 96) (fun n d => d.presetFrame n) d

theorem presets_due {d : Device} {n p : Nat} (hn : n < 96) (h : (d.lane n).presetAt = some (p, d.link.mrk)) :
    d.presets.presetView n = (p % 8, (d.lane n).settled, d.link.mrk) := by
  refine eachOf_at (fun e => e.presetView n) rfl (fun k _ hne e => presetFrame_view_ne e hne) (fun e he => ?_) List.nodup_range
    (List.mem_range.mpr hn)
  rw [Device.presetView, Device.presetView, Prod.mk.injEq, Prod.mk.injEq] at he
  obtain ⟨-, hlane, hmrk⟩ := he
  have hset := ((marks_refl e).setLane n (e.lane n).settled).put (f := ACL_LANE_STAT_preset n) (v := p) (w := p % 8) (by simp)
    (by simp) rfl (by simp)
  rw [presetFrame_due (by rw [hlane, hmrk, h]), Device.presetView, hset.val List.mem_cons_self, lane_put, lane_setLane_same, hlane,
    Device.put_link, Device.setLane, hmrk]

theorem presets_other {d : Device} {n : Nat} (h : ∀ p, (d.lane n).presetAt ≠ some (p, d.link.mrk)) : d.presets.presetView n = d.presetView n := by
  refine eachOf_keeps (P := fun e => e.presetView n = d.presetView n) rfl fun k _ e he => ?_
  by_cases hk : k = n
  · rw [Device.presetView, Device.presetView, Prod.mk.injEq, Prod.mk.injEq] at he
    obtain ⟨hpreset, hlane, hmrk⟩ := he
    rw [hk, presetFrame_other (by rw [hlane, hmrk]; exact h), Device.presetView, hpreset, hlane, hmrk, Device.presetView]
  · rw [presetFrame_view_ne e hk, he]

/-- Presets in force touch the lanes alone. -/
theorem presets_keeps (d : Device) : d.onlyRegs d.presets ((List.range 96).map ACL_LANE_STAT) ∧ d.presets.besideLink = d.besideLink ∧
    d.presets.link.mrk = d.link.mrk ∧ d.presets.link.rets = d.link.rets := by
  refine ⟨eachOf_onlyRegs (fun n _ e => (presetFrame_keeps e n).1) d, ?_⟩
  rw [Device.presets]
  refine eachOf_keeps (P := fun e => e.besideLink = d.besideLink ∧ e.link.mrk = d.link.mrk ∧ e.link.rets = d.link.rets) ⟨rfl, rfl, rfl⟩
    fun n _ e he => ?_
  obtain ⟨hbeside, hmrk, hrets⟩ := he
  obtain ⟨-, hbeside', hmrk', hrets', -⟩ := presetFrame_keeps e n
  exact ⟨hbeside'.trans hbeside, hmrk'.trans hmrk, hrets'.trans hrets⟩

/-! # A return frame of an idle return lane ends (R328) -/

/-- A return lane whose return frame ends. -/
def RetX.framed (x : RetX) : RetX :=
  { x with violLast := x.violNow, violNow := 0, heardNow := 0, signal := if x.signalNow then x.signal + 1 else 0, signalNow := false,
           wait := x.wait - 1 }

/-- The slots heard in the return frame are in the register, and the next frame's are none yet. -/
def Device.frameEnd (d : Device) (r : Nat) : Device := (d.put (ACL_RET_STAT_heard r) (d.ret r).heardNow).setRet r (d.ret r).framed

theorem retFrame_idle {d : Device} {r : Nat} (h : (d.ret r).proc = .idle) : d.retFrame r = d.frameEnd r := by
  rw [Device.retFrame, Device.frameEnd, RetX.framed]
  dsimp only
  rw [h]

theorem frameEnd_marks (d : Device) (r : Nat) : d.marks (d.frameEnd r) [(ACL_RET_STAT_heard r, (d.ret r).heardNow % 16)] :=
  ((marks_refl d).put (by simp) (by simp) rfl (by simp)).setRet _ _

theorem frameEnd_ret_ne (d : Device) {r k : Nat} (h : k ≠ r) : (d.frameEnd r).ret k = d.ret k := by
  rw [Device.frameEnd, ret_setRet_ne _ _ h, ret_put]

/-- What a return frame's end shows of return lane `r`. -/
def Device.heardView (d : Device) (r : Nat) : Nat × RetX := (d.get (ACL_RET_STAT_heard r), d.ret r)

/-- The return frames of all return lanes end. -/
def Device.frames (d : Device) : Device := eachOf (List.range 24) (fun r d => d.frameEnd r) d

theorem frames_ret (d : Device) {r : Nat} (hr : r < 24) : d.frames.heardView r = ((d.ret r).heardNow % 16, (d.ret r).framed) := by
  refine eachOf_at (fun e => e.heardView r) rfl (fun k _ hne e => ?_) (fun e he => ?_) List.nodup_range (List.mem_range.mpr hr)
  · have hget : (e.frameEnd k).get (ACL_RET_STAT_heard r) = e.get (ACL_RET_STAT_heard r) := by
      refine (frameEnd_marks e k).other fun p hp => .inl ?_
      rw [List.mem_singleton.mp hp]
      simp only [ACL_RET_STAT]
      omega
    rw [Device.heardView, hget, frameEnd_ret_ne e hne.symm, Device.heardView]
  · rw [Device.heardView, Device.heardView, Prod.mk.injEq] at he
    obtain ⟨-, hret⟩ := he
    rw [Device.heardView, (frameEnd_marks e r).val List.mem_cons_self, Device.frameEnd, ret_setRet_same, hret]

/-- The return frames' ends touch the return lanes alone. -/
theorem frames_keeps (d : Device) : d.onlyRegs d.frames ((List.range 24).map ACL_RET_STAT) ∧ d.frames.besideLink = d.besideLink ∧
    d.frames.link.mrk = d.link.mrk ∧ d.frames.link.lanes = d.link.lanes := by
  refine ⟨eachOf_onlyRegs (fun r _ e => (frameEnd_marks e r).onlyRegs (by simp)) d, ?_⟩
  rw [Device.frames]
  refine eachOf_keeps (P := fun e => e.besideLink = d.besideLink ∧ e.link.mrk = d.link.mrk ∧ e.link.lanes = d.link.lanes) ⟨rfl, rfl, rfl⟩
    fun r _ e he => ?_
  obtain ⟨hbeside, hmrk, hlanes⟩ := he
  exact ⟨(frameEnd_marks e r).beside.trans hbeside, hmrk, hlanes⟩

theorem retFrames_idle {d : Device} (h : ∀ r < 24, (d.ret r).proc = .idle) :
    eachOf (List.range 24) (fun r d => d.retFrame r) d = d.frames := by
  refine eachOf_congr (P := fun e => ∀ r < 24, (e.ret r).proc = .idle) h fun r hr e he => ⟨retFrame_idle (he r (List.mem_range.mp hr)),
    fun k hk => ?_⟩
  by_cases hkr : k = r
  · rw [hkr, Device.frameEnd, ret_setRet_same, RetX.framed, he r (List.mem_range.mp hr)]
  · rw [frameEnd_ret_ne e hkr, he k hk]

theorem exec_mrkSend {s : State} (hc : s.power.coreOn = true) (hidle : ∀ r < 24, (s.toDevice.ret r).proc = .idle) :
    exec .mrkSend s = .next { s with toDevice := s.toDevice.marked.presets.frames } := by
  obtain ⟨-, -, -, hrets⟩ := presets_keeps s.toDevice.marked
  have hready : ∀ r < 24, (s.toDevice.marked.presets.ret r).proc = .idle := fun r hr => by
    rw [Device.ret, hrets]
    exact hidle r hr
  rw [← retFrames_idle hready]
  show execMrkSend s = _
  rw [execMrkSend, run_next, hc]
  rfl

/-- A return frame begins. -/
theorem mrkSend_yields {s : State} (hc : s.power.coreOn = true) (hidle : ∀ r < 24, (s.toDevice.ret r).proc = .idle) :
    Yields .mrkSend s (fun e => e.link.mrk = (s.link.mrk + 1) % 256 ∧
      (∀ r < 24, e.get (ACL_RET_STAT_heard r) = (s.toDevice.ret r).heardNow % 16 ∧ e.ret r = (s.toDevice.ret r).framed) ∧
      (∀ n < 96, ∀ p f, (s.toDevice.lane n).presetAt = some (p, f) → f = (s.link.mrk + 1) % 256 →
        e.get (ACL_LANE_STAT_preset n) = p % 8 ∧ (e.lane n).presetAt = none) ∧
      (∀ n < 96, (∀ p, (s.toDevice.lane n).presetAt ≠ some (p, (s.link.mrk + 1) % 256)) →
        e.get (ACL_LANE_STAT_preset n) = s.toDevice.get (ACL_LANE_STAT_preset n) ∧ e.lane n = s.toDevice.lane n) ∧
      s.toDevice.onlyRegs e ((List.range 96).map ACL_LANE_STAT ++ (List.range 24).map ACL_RET_STAT) ∧
      e = { s.toDevice with regs := e.regs, link := e.link }) := by
  obtain ⟨hpregs, hpbeside, hpmrk, hprets⟩ := presets_keeps s.toDevice.marked
  obtain ⟨hfregs, hfbeside, hfmrk, hflanes⟩ := frames_keeps s.toDevice.marked.presets
  have hret (r : Nat) : s.toDevice.marked.presets.ret r = s.toDevice.ret r := by
    rw [Device.ret, hprets]
    rfl
  have hview {n : Nat} (hn : n < 96) : s.toDevice.marked.presets.frames.presetView n = s.toDevice.marked.presets.presetView n := by
    have hoff : ACL_LANE_STAT n ∉ (List.range 24).map ACL_RET_STAT := by
      simp only [List.mem_map, List.mem_range, ACL_RET_STAT, ACL_LANE_STAT, not_exists]
      omega
    rw [Device.presetView, get_of_onlyRegs hfregs hoff, lane_eq, Link.lane, hflanes, hfmrk, Device.presetView, lane_eq, Link.lane]
  refine ⟨_, exec_mrkSend hc hidle, ?_, fun r hr => ?_, fun n hn p f hp hf => ?_, fun n hn hp => ?_, ?_, ?_⟩
  · exact hfmrk.trans hpmrk
  · have hend := frames_ret s.toDevice.marked.presets hr
    rw [Device.heardView, hret, Prod.mk.injEq] at hend
    exact hend
  · subst hf
    have hend := (hview hn).trans (presets_due (d := s.toDevice.marked) hn hp)
    rw [Device.presetView, Prod.mk.injEq, Prod.mk.injEq] at hend
    obtain ⟨hpreset, hlane, -⟩ := hend
    exact ⟨hpreset, by rw [hlane, LaneX.settled]⟩
  · have hend := (hview hn).trans (presets_other (d := s.toDevice.marked) hp)
    rw [Device.presetView, Device.presetView, Prod.mk.injEq, Prod.mk.injEq] at hend
    obtain ⟨hpreset, hlane, -⟩ := hend
    exact ⟨hpreset, hlane⟩
  · have hmark : s.toDevice.onlyRegs s.toDevice.marked [] := fun _ _ => rfl
    exact (hmark.trans hpregs (List.nil_subset _) (List.Subset.refl _)).trans hfregs (List.subset_append_left _ _) (List.subset_append_right _ _)
  · exact eq_of_besideLink (hfbeside.trans (hpbeside.trans rfl))

end Sys2Proof.Machine

namespace Sys2Proof.Machine

/-! # A valid burst is heard (R326) -/

/-- A return lane that heard the driver of slot `j` at the phase `phase`, which it learns. -/
def RetX.hearing (x : RetX) (j phase : Nat) : RetX := { x with heardNow := onBit x.heardNow j, phase := Sparse.put x.phase j phase }

/-- The burst is heard on its return lane. -/
def Device.heard (d : Device) (b : Burst) : Device := d.setRet b.ret ((d.ret b.ret).hearing b.slot b.phase)

theorem burstIn_heard {d : Device} {b : Burst} {st : Nat} (hsil : (d.ret b.ret).silenced.testBit b.slot = false)
    (hphase : (d.ret b.ret).phase.find? (fun e => e.1 == b.slot.val) = none) (hcode : b.codeErr = false) (hguard : b.guard = false)
    (hcrc : b.crc = linkCrc16 b.body) (hst : d.slotStripe b.ret b.slot = some st) :
    d.burstIn b = (d.heard b, some (st, b.body.drop 2)) := by
  unfold Device.burstIn
  simp only [hsil, hphase, hcode, hguard, hcrc, bne_self_eq_false, Bool.or_self, Bool.false_eq_true, if_false, hst]
  rfl

/-! # CAPS (R328, R329) -/

/-- A CAPS ends the wait of a procedure that granted the burst's slot last. -/
def Device.grantHeard (d : Device) (b : Burst) : Device :=
  match (d.ret b.ret).proc with
  | .grant j => if j = b.slot.val then d.setRet b.ret { d.ret b.ret with await := false } else d
  | _ => d

/-- A return lane whose wait for CAPS ends if it granted slot `j` last. -/
def RetX.answered (x : RetX) (j : Nat) : RetX := { x with await := x.await && decide (x.proc ≠ .grant j) }

theorem answered_of_ne {x : RetX} {j : Nat} (h : x.proc ≠ .grant j) : x.answered j = x := by
  simp [RetX.answered, h]

theorem answered_of_eq {x : RetX} {j : Nat} (h : x.proc = .grant j) : x.answered j = { x with await := false } := by
  simp [RetX.answered, h]

theorem grantHeard_of_eq {d : Device} {b : Burst} (h : (d.ret b.ret).proc = .grant b.slot) :
    d.grantHeard b = d.setRet b.ret ((d.ret b.ret).answered b.slot) := by
  rw [Device.grantHeard, h, answered_of_eq h]
  exact if_pos rfl

theorem grantHeard_of_ne {d : Device} {b : Burst} (h : (d.ret b.ret).proc ≠ .grant b.slot) : d.grantHeard b = d := by
  unfold Device.grantHeard
  split
  next j hj => exact if_neg fun hslot => h (by rw [hj, hslot])
  next => rfl

theorem grantHeard_ret (d : Device) (b : Burst) : (d.grantHeard b).ret b.ret = (d.ret b.ret).answered b.slot := by
  by_cases h : (d.ret b.ret).proc = .grant b.slot
  · rw [grantHeard_of_eq h, ret_setRet_same]
  · rw [grantHeard_of_ne h, answered_of_ne h]

theorem grantHeard_ret_ne (d : Device) (b : Burst) {k : Nat} (hk : k ≠ b.ret) : (d.grantHeard b).ret k = d.ret k := by
  by_cases h : (d.ret b.ret).proc = .grant b.slot
  · rw [grantHeard_of_eq h, ret_setRet_ne _ _ hk]
  · rw [grantHeard_of_ne h]

theorem grantHeard_lane (d : Device) (b : Burst) (k : Nat) : (d.grantHeard b).lane k = d.lane k := by
  by_cases h : (d.ret b.ret).proc = .grant b.slot
  · rw [grantHeard_of_eq h, lane_setRet]
  · rw [grantHeard_of_ne h]

theorem Device.marks.grantHeard {d e : Device} {l : List (Fld × Nat)} (h : d.marks e l) (b : Burst) : d.marks (e.grantHeard b) l := by
  by_cases hg : (e.ret b.ret).proc = .grant b.slot
  · rw [grantHeard_of_eq hg]
    exact h.setRet _ _
  · rw [grantHeard_of_ne hg]
    exact h

/-- The word of ACL_LANE_CAPS fits its register. -/
theorem capsWord_lt (p : List Nat) : capsWord p < 2 ^ 32 := by
  have hload : Nat.min (p.getD 7 0 / 16) 15 ≤ 15 := Nat.min_le_right _ _
  unfold capsWord
  omega

/-- The CAPS of the driver on lane `n` is in its register, and whoever waited for it waits no more. -/
def Device.capsHeard (d : Device) (b : Burst) (n : Nat) : Device :=
  (((d.heard b).setLane n { d.lane n with missing := 0 }).wr (ACL_LANE_CAPS n) (capsWord (b.body.drop 2))).grantHeard b

/-- The hidden state of a lane whose driver has answered CONFIG. -/
def LaneX.capsTaken (x : LaneX) : LaneX := { x with missing := 0, prompted := false, resending := false }

/-- The CAPS taken, before what follows from it. -/
def Device.capsTaken (d : Device) (b : Burst) (n : Nat) : Device := (d.capsHeard b n).setLane n (d.lane n).capsTaken

theorem capsHeard_lane (d : Device) (b : Burst) (n k : Nat) :
    (d.capsHeard b n).lane k = if k = n then { d.lane n with missing := 0 } else d.lane k := by
  rw [Device.capsHeard, grantHeard_lane, lane_wr, lane_setLane, Device.heard, lane_setRet]

theorem capsTaken_marks (d : Device) (b : Burst) (n : Nat) :
    d.marks (d.capsTaken b n) [(whole (ACL_LANE_CAPS n), capsWord (b.body.drop 2))] :=
  (((((marks_refl d).setRet _ _).setLane _ _).wr (Nat.mod_eq_of_lt (capsWord_lt _)) (by simp)).grantHeard b).setLane _ _

/-- A CAPS that answers a CONFIG has no further effect on a lane that runs. -/
theorem exec_capsBurst {b : Burst} {st : Nat} {s : State} (hin : s.toDevice.burstIn b = (s.toDevice.heard b, some (st, b.body.drop 2)))
    (h4 : s.toDevice.laneState (s.act.lanes.getD st {}).lane = 4) (hp : (s.toDevice.lane (s.act.lanes.getD st {}).lane).prompted = true) :
    exec (.capsBurst b false) s = .next { s with toDevice := s.toDevice.capsTaken b (s.act.lanes.getD st {}).lane } := by
  have hstate : (s.toDevice.capsTaken b (s.act.lanes.getD st {}).lane).laneState (s.act.lanes.getD st {}).lane = 4 := by
    refine ((capsTaken_marks _ _ _).other fun p hp => .inl ?_).trans h4
    rw [List.mem_singleton.mp hp]
    simp only [whole, ACL_LANE_STAT, ACL_LANE_CAPS]
    omega
  have htaken : (s.toDevice.capsHeard b (s.act.lanes.getD st {}).lane).setLane (s.act.lanes.getD st {}).lane
      { (s.toDevice.capsHeard b (s.act.lanes.getD st {}).lane).lane (s.act.lanes.getD st {}).lane with prompted := false, resending := false } =
      s.toDevice.capsTaken b (s.act.lanes.getD st {}).lane := by
    rw [capsHeard_lane, if_pos rfl]
    rfl
  show execCapsBurst b false s = _
  rw [execCapsBurst, run_next, hin]
  refine congrArg (fun d : Device => Host.Outcome.next { s with toDevice := d }) ?_
  dsimp -zeta only
  extract_lets n heard capsSet x prompted r y answered z taken
  have hx : x.prompted = true := (congrArg LaneX.prompted (lane_setLane_same (s.toDevice.heard b) n _)).trans hp
  have hprompted : prompted = true := Bool.or_eq_true_iff.mpr (.inl hx)
  have htaken' : taken = s.toDevice.capsTaken b n := htaken
  have hruns : ¬ taken.laneState n = 2 := by
    rw [htaken']
    exact ne_of_eq_of_ne hstate (by decide)
  exact (if_neg hruns).trans ((if_neg (by simp [hprompted])).trans htaken')

/-- A valid CAPS that answers a CONFIG is taken. -/
theorem capsBurst_yields {b : Burst} {st : Nat} {s : State} (hin : s.toDevice.burstIn b = (s.toDevice.heard b, some (st, b.body.drop 2)))
    (h4 : s.toDevice.laneState (s.act.lanes.getD st {}).lane = 4) (hp : (s.toDevice.lane (s.act.lanes.getD st {}).lane).prompted = true) :
    Yields (.capsBurst b false) s (fun e =>
      e.ret b.ret = ((s.toDevice.ret b.ret).hearing b.slot b.phase).answered b.slot ∧
      (∀ j, j ≠ b.ret.val → e.ret j = s.toDevice.ret j) ∧
      e.lane (s.act.lanes.getD st {}).lane = (s.toDevice.lane (s.act.lanes.getD st {}).lane).capsTaken ∧
      (∀ j, j ≠ (s.act.lanes.getD st {}).lane → e.lane j = s.toDevice.lane j) ∧
      s.toDevice.marks e [(whole (ACL_LANE_CAPS (s.act.lanes.getD st {}).lane), capsWord (b.body.drop 2))]) := by
  refine ⟨_, exec_capsBurst hin h4 hp, ?_, fun j hne => ?_, lane_setLane_same _ _ _, fun j hne => ?_, capsTaken_marks _ _ _⟩
  · rw [Device.capsTaken, ret_setLane, Device.capsHeard, grantHeard_ret, ret_wr, ret_setLane, Device.heard, ret_setRet_same]
  · rw [Device.capsTaken, ret_setLane, Device.capsHeard, grantHeard_ret_ne _ _ hne, ret_wr, ret_setLane, Device.heard, ret_setRet_ne _ _ hne]
  · rw [Device.capsTaken, lane_setLane_ne _ _ hne, capsHeard_lane, if_neg hne]

end Sys2Proof.Machine

namespace Sys2Proof.Machine

/-! # Acknowledgements (R318) -/

/-- After an acknowledgement lane `n` keeps a remainder of its packets, and a packet to the driver of stripe `st` remains only if its
sequence number lies behind the acknowledged one. -/
theorem ackTaken_gives (d : Device) (n st seq : Nat) : ∃ left x, d.ackTaken n st seq = { d with link := x } ∧
    (∀ k, x.lane k = if k = n then { d.lane n with unacked := left } else d.lane k) ∧
    (st < 96 → ∀ k ∈ left, k.target = st → 128 ≤ (seq + 256 - k.seq) % 256) := by
  unfold Device.ackTaken
  extract_lets x covered need marked left done e
  refine ⟨left, if done && e.link.intPkt = some n then { e.link with intPkt := none } else e.link, ?_, fun k => ?_, fun hst k hk htarget => ?_⟩
  · split <;> rfl
  · have hlane : e.link.lane k = if k = n then { x with unacked := left } else d.lane k := lane_setLane d n _ k
    split
    · exact hlane
    · exact hlane
  · obtain ⟨hmarked, hleft⟩ := List.mem_filter.mp hk
    obtain ⟨p, -, rfl⟩ := List.mem_map.mp hmarked
    by_cases hc : covered p
    · rw [if_pos hc] at htarget hleft
      have hne : p.target ≠ 0xFF := by
        have : p.target = st := htarget
        omega
      rw [if_neg hne] at hleft
      simp [onBit, Nat.testBit_or, Nat.testBit_two_pow_self] at hleft
    · rw [if_neg hc] at htarget ⊢
      simp only [covered, htarget, decide_true, Bool.true_or, Bool.and_true, decide_eq_true_eq] at hc
      exact Nat.le_of_not_lt hc

theorem Device.marks.ackTaken {d e : Device} {l : List (Fld × Nat)} (h : d.marks e l) (n st seq : Nat) : d.marks (e.ackTaken n st seq) l := by
  obtain ⟨left, x, heq, -, -⟩ := ackTaken_gives e n st seq
  rw [heq]
  exact h.withLink x

/-! # STATUS (R324, R326, R337) -/

/-- The lane hears its driver again. -/
def LaneX.inTime (x : LaneX) : LaneX := { x with missing := 0 }

theorem burstHeard_eq (d : Device) (n : Nat) : d.burstHeard n false = d.setLane n (d.lane n).inTime := (rfl)

/-- ACL_LANE_DRV from a STATUS payload. -/
def drvWord (p : List Nat) : Nat := leNat ((p.drop 1).take 2) + p.getD 0 0 % 64 * 0x10000 + p.getD 3 0 * 0x1000000

theorem leNat_lt (l : List Nat) : leNat l < 256 ^ l.length := by
  induction l with
  | nil => exact Nat.one_pos
  | cons b bs ih =>
    rw [leNat, List.length_cons, Nat.pow_succ]
    omega

theorem drvWord_lt {p : List Nat} (h : ∀ x ∈ p, x < 256) : drvWord p < 2 ^ 32 := by
  have htemp : leNat ((p.drop 1).take 2) < 256 ^ 2 :=
    Nat.lt_of_lt_of_le (leNat_lt _) (Nat.pow_le_pow_right (by decide) (List.length_take_le _ _))
  have hcount : p.getD 3 0 < 256 := by
    rw [List.getD_eq_getElem?_getD]
    cases hp : p[3]? with
    | none => decide
    | some x => exact h x (List.mem_of_getElem? hp)
  unfold drvWord
  omega

/-- The registers and the hidden state of lane `n` after a STATUS burst with payload `p`, before its acknowledgement. -/
def Device.statusSet (d : Device) (n : Nat) (p : List Nat) : Device :=
  let e := (((d.wr (ACL_LANE_DRV n) (drvWord p)).put (ACL_LANE_STAT_in0 n) (p.getD 0 0 % 2)).put
    (ACL_LANE_STAT_in1 n) (p.getD 0 0 / 2 % 2)).put (ACL_LANE_STAT_in_use n) (p.getD 0 0 / 4 % 2)
  e.setLane n { e.lane n with status := p }

theorem statusSet_lane (d : Device) (n : Nat) (p : List Nat) : (d.statusSet n p).lane n = { d.lane n with status := p } := by
  rw [Device.statusSet, lane_setLane_same, lane_put, lane_put, lane_put, lane_wr]

/-- The fields a STATUS burst sets. -/
def statusMarks (n : Nat) (p : List Nat) : List (Fld × Nat) :=
  [(ACL_LANE_STAT_in_use n, p.getD 0 0 / 4 % 2), (ACL_LANE_STAT_in1 n, p.getD 0 0 / 2 % 2), (ACL_LANE_STAT_in0 n, p.getD 0 0 % 2),
   (whole (ACL_LANE_DRV n), drvWord p)]

theorem Device.marks.statusSet {d e : Device} (h : d.marks e []) (n : Nat) {p : List Nat} (hp : ∀ x ∈ p, x < 256) :
    d.marks (e.statusSet n p) (statusMarks n p) := by
  have hdrv := h.wr (off := ACL_LANE_DRV n) (Nat.mod_eq_of_lt (drvWord_lt hp)) (by simp)
  have hin0 := hdrv.put (f := ACL_LANE_STAT_in0 n) (v := p.getD 0 0 % 2) (by simp) (by simp) (Nat.mod_mod _ _) (by simp [Fld.apart, whole])
  have hin1 := hin0.put (f := ACL_LANE_STAT_in1 n) (v := p.getD 0 0 / 2 % 2) (by simp) (by simp) (Nat.mod_mod _ _)
    (by simp [Fld.apart, whole])
  have huse := hin1.put (f := ACL_LANE_STAT_in_use n) (v := p.getD 0 0 / 4 % 2) (by simp) (by simp) (Nat.mod_mod _ _)
    (by simp [Fld.apart, whole])
  exact huse.setLane _ _

/-- A STATUS burst taken, before its acknowledgement. -/
def Device.statusHeard (d : Device) (b : Burst) (n : Nat) : Device := ((d.heard b).burstHeard n false).statusSet n (b.body.drop 2)

theorem statusHeard_lane (d : Device) (b : Burst) (n : Nat) :
    (d.statusHeard b n).lane n = { (d.lane n).inTime with status := b.body.drop 2 } := by
  rw [Device.statusHeard, statusSet_lane, burstHeard_eq, lane_setLane_same, Device.heard, lane_setRet]

theorem statusHeard_marks (d : Device) {b : Burst} (n : Nat) (hbody : ∀ x ∈ b.body, x < 256) :
    d.marks (d.statusHeard b n) (statusMarks n (b.body.drop 2)) :=
  (((marks_refl d).setRet _ _).setLane n _).statusSet n fun x hx => hbody x (List.mem_of_mem_drop hx)

/-- A STATUS burst taken, with its acknowledgement. -/
def Device.statusTaken (d : Device) (b : Burst) (st : Nat) : Device :=
  let e := d.statusHeard b (d.act.lanes.getD st {}).lane
  e.ackTaken (e.stripeLane st) st ((b.body.drop 2).getD 4 0)

theorem statusTaken_marks (d : Device) {b : Burst} (st : Nat) (hbody : ∀ x ∈ b.body, x < 256) :
    d.marks (d.statusTaken b st) (statusMarks (d.act.lanes.getD st {}).lane (b.body.drop 2)) :=
  (statusHeard_marks d _ hbody).ackTaken _ _ _

/-- A STATUS burst leaves the lane's state alone. -/
theorem statusTaken_laneState (d : Device) {b : Burst} (st : Nat) (hbody : ∀ x ∈ b.body, x < 256) :
    (d.statusTaken b st).laneState (d.act.lanes.getD st {}).lane = d.laneState (d.act.lanes.getD st {}).lane := by
  refine (statusTaken_marks d st hbody).other fun p hp => ?_
  simp only [statusMarks, List.mem_cons, List.not_mem_nil, or_false] at hp
  rcases hp with rfl | rfl | rfl | rfl <;> simp [Fld.apart, whole]

/-- Where no step changes the device, the loop does not. -/
theorem eachOf_eq_self {α : Type} {l : List α} {f : α → Device → Device} {d : Device} (h : ∀ a ∈ l, f a d = d) : eachOf l f d = d :=
  eachOf_keeps (P := fun e => e = d) rfl fun a ha e he => by rw [he, h a ha]

/-- A first STATUS that finds the driver in use on its own input has no further effect on a lane that runs. -/
theorem exec_statusBurst {b : Burst} {st : Nat} {s : State} (hin : s.toDevice.burstIn b = (s.toDevice.heard b, some (st, b.body.drop 2)))
    (hbody : ∀ x ∈ b.body, x < 256) (h4 : s.toDevice.laneState (s.act.lanes.getD st {}).lane = 4)
    (hfirst : (s.toDevice.lane (s.act.lanes.getD st {}).lane).status = []) (hin0 : ((b.body.drop 2).getD 0 0).testBit 0 = true)
    (hspares : ∀ e ∈ s.act.spares, e.mask.testBit st = false) :
    exec (.statusBurst b false false) s = .next { s with toDevice := s.toDevice.statusTaken b st } := by
  have hstate := (statusTaken_laneState s.toDevice st hbody).trans h4
  have hact := (statusTaken_marks s.toDevice st hbody).act_eq
  show execStatusBurst b false false s = _
  rw [execStatusBurst, run_next, hin]
  refine congrArg (fun d : Device => Host.Outcome.next { s with toDevice := d }) ?_
  dsimp -zeta only
  extract_lets n old had e1 b0 e2 e3 x e4 u e5 e6 at2 holds e7 e8 e9 e10
  have hold : old = [] := (congrArg LaneX.status (lane_setRet _ _ _ _)).trans hfirst
  have hhad : had = false := by rw [show had = !old.isEmpty from rfl, hold]; rfl
  have hacked : e5 = s.toDevice.statusTaken b st := rfl
  have hearly : e6 = e5 := if_neg Bool.false_ne_true
  have hcounts : e7 = e6 := if_neg (by simp [hhad])
  have hheld : e8 = s.toDevice.statusTaken b st := by
    have hnone : holds = 0 := if_neg (by simp [hhad])
    rw [show e8 = e7.holdLines st holds from rfl, hnone]
    exact hcounts.trans (hearly.trans hacked)
  have hdriver : e9 = e8 := if_neg (by simp [hhad])
  have hsame : e9 = s.toDevice.statusTaken b st := hdriver.trans hheld
  have hruns : e9.laneState n = 4 := by
    rw [hsame]
    exact hstate
  have hin : b0.testBit 0 = true := hin0
  have hdone : e10 = s.toDevice.statusTaken b st :=
    (if_neg (by simp [hruns])).trans ((if_neg (by simp [hin])).trans hsame)
  refine Eq.trans (eachOf_eq_self fun k hk => ?_) hdone
  refine if_pos ?_
  rw [hdone, hact, List.mem_range] at hk
  rw [hdone, hact, List.getD_eq_getElem _ _ hk, hspares _ (List.getElem_mem hk)]
  rfl

/-- A first STATUS is taken. -/
theorem statusBurst_yields {b : Burst} {st : Nat} {s : State} (hin : s.toDevice.burstIn b = (s.toDevice.heard b, some (st, b.body.drop 2)))
    (hlt : st < 96) (hbody : ∀ x ∈ b.body, x < 256) (h4 : s.toDevice.laneState (s.act.lanes.getD st {}).lane = 4)
    (hfirst : (s.toDevice.lane (s.act.lanes.getD st {}).lane).status = []) (hin0 : (b.body.getD 2 0).testBit 0 = true)
    (hspares : ∀ e ∈ s.act.spares, e.mask.testBit st = false) (hn : (s.act.lanes.getD st {}).lane < 96) :
    Yields (.statusBurst b false false) s (fun e =>
      e.rd (ACL_LANE_DRV (s.act.lanes.getD st {}).lane) =
        leNat ((b.body.drop 3).take 2) + b.body.getD 2 0 % 64 * 0x10000 + b.body.getD 5 0 * 0x1000000 ∧
      e.get (ACL_LANE_STAT_in0 (s.act.lanes.getD st {}).lane) = 1 ∧
      e.get (ACL_LANE_STAT_in1 (s.act.lanes.getD st {}).lane) = b.body.getD 2 0 / 2 % 2 ∧
      e.get (ACL_LANE_STAT_in_use (s.act.lanes.getD st {}).lane) = b.body.getD 2 0 / 4 % 2 ∧
      e.laneState (s.act.lanes.getD st {}).lane = 4 ∧ (e.lane (s.act.lanes.getD st {}).lane).status = b.body.drop 2 ∧
      (e.lane (s.act.lanes.getD st {}).lane).missing = 0 ∧
      (∀ x ∈ (e.lane (s.toDevice.stripeLane st)).unacked, x.target = st → 128 ≤ (b.body.getD 6 0 + 256 - x.seq) % 256) ∧
      s.toDevice.onlyRegs e [ACL_LANE_STAT (s.act.lanes.getD st {}).lane, ACL_LANE_DRV (s.act.lanes.getD st {}).lane] ∧
      e = { s.toDevice with regs := e.regs, link := e.link }) := by
  have hpayload (i : Nat) : (b.body.drop 2).getD i 0 = b.body.getD (2 + i) 0 := by simp [List.getD_eq_getElem?_getD]
  have hset := statusTaken_marks s.toDevice st hbody
  have hstripe := stripeLane_of_marks (statusHeard_marks s.toDevice (b := b) (s.act.lanes.getD st {}).lane hbody) (t := st) fun p hp => by
    simp only [statusMarks, List.mem_cons, List.not_mem_nil, or_false] at hp
    rcases hp with rfl | rfl | rfl | rfl <;> simp only [whole, ACL_LANE_STAT, ACL_LANE_DRV] <;> omega
  obtain ⟨left, x, htaken, hlane, hleft⟩ := ackTaken_gives (s.toDevice.statusHeard b (s.act.lanes.getD st {}).lane)
    ((s.toDevice.statusHeard b (s.act.lanes.getD st {}).lane).stripeLane st) st ((b.body.drop 2).getD 4 0)
  have hlanes (k : Nat) : (s.toDevice.statusTaken b st).lane k = x.lane k := congrArg (fun d : Device => d.lane k) htaken
  have hown : ((s.toDevice.statusTaken b st).lane (s.act.lanes.getD st {}).lane).status = b.body.drop 2 ∧
      ((s.toDevice.statusTaken b st).lane (s.act.lanes.getD st {}).lane).missing = 0 := by
    have hheard := statusHeard_lane s.toDevice b (s.act.lanes.getD st {}).lane
    rw [hlanes, hlane]
    split
    next hsame =>
      rw [← hsame, hheard]
      exact ⟨rfl, rfl⟩
    next =>
      rw [hheard]
      exact ⟨rfl, rfl⟩
  obtain ⟨hstatus, hmissing⟩ := hown
  refine ⟨_, exec_statusBurst hin hbody h4 hfirst (by rw [hpayload]; exact hin0) hspares, ?_, ?_, ?_, ?_,
    (statusTaken_laneState _ _ hbody).trans h4, hstatus, hmissing, ?_, ?_, eq_of_besideLink hset.beside⟩
  · have hdrv := hset.val (p := (whole (ACL_LANE_DRV (s.act.lanes.getD st {}).lane), drvWord (b.body.drop 2))) (by simp [statusMarks])
    rw [get_whole, drvWord, hpayload, hpayload, List.drop_drop] at hdrv
    exact hdrv
  · have hused := hset.val (p := (ACL_LANE_STAT_in0 (s.act.lanes.getD st {}).lane, (b.body.drop 2).getD 0 0 % 2)) (by simp [statusMarks])
    rw [hpayload] at hused
    rw [hused]
    rw [Nat.testBit_zero, decide_eq_true_eq] at hin0
    exact hin0
  · have hused := hset.val (p := (ACL_LANE_STAT_in1 (s.act.lanes.getD st {}).lane, (b.body.drop 2).getD 0 0 / 2 % 2)) (by simp [statusMarks])
    rwa [hpayload] at hused
  · have hused := hset.val (p := (ACL_LANE_STAT_in_use (s.act.lanes.getD st {}).lane, (b.body.drop 2).getD 0 0 / 4 % 2)) (by simp [statusMarks])
    rwa [hpayload] at hused
  · intro k hk htarget
    rw [hlanes, hlane, hstripe, if_pos rfl] at hk
    have hbehind := hleft hlt k hk htarget
    rwa [hpayload] at hbehind
  · refine hset.onlyRegs fun p hp => ?_
    simp only [statusMarks, List.mem_cons, List.not_mem_nil, or_false] at hp
    rcases hp with rfl | rfl | rfl | rfl <;> simp [whole]

end Sys2Proof.Machine

namespace Sys2Proof.Machine

/-! # A driver is lost (R328, R509) -/

/-- A fault that recovers, raised while no recovery is open, is recorded, opens its recovery and is contained. -/
theorem raise_recovers {d : Device} {f : Flt} (detail : Nat) (hc : d.power.coreOn = true) (hb : d.hif.bscan = false) (hm : d.mode ≠ 5)
    (hs : f.sev ≠ 3) (ha : fltAtOnce f.code f.sev = false) (ho : d.flt.opened = none) :
    d.raise f detail = ((d.fltRecord f detail).fltOpen (some { flt := f, tickUs := d.us })).contain f := by
  have hview := fltRecord_aclView d f detail
  have hmode : (d.fltRecord f detail).mode ≠ 5 := by rwa [mode_of_calm (fltRecord_calm d f detail)]
  have hopened : (d.fltRecord f detail).flt.opened = none := (congrArg AclView.opened hview).trans ho
  have hus : (d.fltRecord f detail).us = d.us := congrArg AclView.us hview
  rw [Device.raise, if_neg (by simp [hc]), if_neg (by simp [hb])]
  dsimp only
  rw [if_neg hmode, if_neg hs, if_neg (by simp [ha]), Device.fltRecover, hopened, ← hus]

/-- The registers and the lane of a lost driver on lane `n`, before its fault is raised. -/
def Device.lossSeen (d : Device) (n : Nat) : Device :=
  let e := (d.bump (ACL_LANE_EVT_losses n)).put ACL_IRQ_lost 1
  e.setLane n { e.lane n with resending := true, missing := 0 }

theorem driverLost_eq (d : Device) (st : Nat) :
    d.driverLost st = (d.lossSeen (d.act.lanes.getD st {}).lane).raise
      (catalogue 0x21 ((d.act.lanes.getD st {}).lane / 8) (d.act.lanes.getD st {}).lane) := (rfl)

theorem Device.marks.lossSeen {d e : Device} {l : List (Fld × Nat)} (h : d.marks e l) {n : Nat} (hn : n < 96)
    (hl : ∀ p ∈ l, ACL_IRQ < p.1.off) :
    d.marks (e.lossSeen n) ((ACL_IRQ_lost, 1) :: (ACL_LANE_EVT_losses n, Nat.min (e.get (ACL_LANE_EVT_losses n) + 1) 0xFF) :: l) := by
  have hbelow : ACL_LANE_EVT n < ACL_IRQ := by
    simp only [ACL_LANE_EVT, ACL_IRQ]
    omega
  have hcount : e.get (ACL_LANE_EVT_losses n) = d.get (ACL_LANE_EVT_losses n) :=
    h.other fun p hp => .inl (Nat.ne_of_lt (Nat.lt_trans hbelow (hl p hp)))
  have hloss := h.bump (f := ACL_LANE_EVT_losses n) (n := 1) (by simp) (by simp) rfl
    fun p hp => .inl (Nat.ne_of_gt (Nat.lt_trans hbelow (hl p hp)))
  rw [← hcount] at hloss
  refine (hloss.put (f := ACL_IRQ_lost) (v := 1) (w := 1) (by decide) (by decide) rfl fun p hp => .inl ?_).setLane n _
  rcases List.mem_cons.mp hp with rfl | hp
  · exact Nat.ne_of_lt hbelow
  · exact Nat.ne_of_gt (hl p hp)

theorem contain_linkLoss (d : Device) (inst n : Nat) : d.contain (catalogue 0x21 inst n) = d.setLane n { d.lane n with resending := true } :=
  if_pos (.inr rfl)

/-- A lost driver's lane asks for CAPS again, and its fault's recovery is open. -/
theorem driverLost_gives {d : Device} {st : Nat} (hc : d.power.coreOn = true) (hb : d.hif.bscan = false) (hm : d.mode ≠ 5)
    (ho : d.flt.opened = none) :
    let n := (d.act.lanes.getD st {}).lane
    ((d.driverLost st).lane n).resending = true ∧
      (∀ f : Fld, 0xe0000 ≤ f.off → f.off < 0xf0000 → (d.driverLost st).get f = (d.lossSeen n).get f) ∧
      (d.driverLost st).flt.opened = some { flt := catalogue 0x21 (n / 8) n, tickUs := d.us } := by
  intro n
  have hcalm : (d.lossSeen n).calm = d.calm := by
    have hoff : GLB_MODE ≠ ACL_LANE_EVT n := by
      simp only [GLB_MODE, ACL_LANE_EVT]
      omega
    rw [Device.lossSeen, setLane_calm, calm_put _ _ _ (by decide), calm_bump _ _ _ hoff]
  have hrecovers := raise_recovers (d := d.lossSeen n) (f := catalogue 0x21 (n / 8) n) 0 (by rw [power_of_calm hcalm, hc]) hb
    (by rwa [mode_of_calm hcalm])
    (show fltSev 0x21 ≠ 3 by decide) (show fltAtOnce 0x21 (fltSev 0x21) = false by decide) ho
  have hview := (fltOpen_aclView ((d.lossSeen n).fltRecord (catalogue 0x21 (n / 8) n) 0)
    (some { flt := catalogue 0x21 (n / 8) n, tickUs := (d.lossSeen n).us })).trans
      (congrArg (fun v : AclView => { v with opened := some { flt := catalogue 0x21 (n / 8) n, tickUs := (d.lossSeen n).us } })
        (fltRecord_aclView _ _ _))
  rw [driverLost_eq, hrecovers, contain_linkLoss]
  refine ⟨by rw [lane_setLane_same], fun f hlo hhi => ?_, congrArg AclView.opened hview⟩
  rw [get_setLane]
  have hregs := congrArg AclView.regs hview
  exact get_of_aclRegs hregs hlo hhi

/-! # The end of a slot (R326, R328) -/

/-- The missing burst of return lane `r` is counted. -/
def Device.missed (d : Device) (r : Nat) : Device := d.bump (ACL_RET_EVT_missing r)

theorem missed_marks (d : Device) (r : Nat) :
    d.marks (d.missed r) [(ACL_RET_EVT_missing r, Nat.min (d.get (ACL_RET_EVT_missing r) + 1) 0xFF)] :=
  (marks_refl d).bump (by simp) (by simp) rfl (by simp)

theorem missed_lane (d : Device) (r k : Nat) : (d.missed r).lane k = d.lane k := lane_bump d _ 1 k

/-- A lane with one more burst missing. -/
def LaneX.missedOne (x : LaneX) : LaneX := { x with missing := x.missing + 1 }

/-- A granted slot without a burst counts as missing, and at the limit its driver is lost. -/
theorem exec_returnSlotEnd {r : RetLane} {j : Fin 4} {st : Nat} {s : State} (hc : s.power.coreOn = true)
    (hg : (s.toDevice.get (ACL_RET_STAT_granted r)).testBit j = true) (hh : (s.toDevice.ret r).heardNow.testBit j = false)
    (hsil : (s.toDevice.ret r).silenced.testBit j = false) (hst : s.toDevice.slotStripe r j = some st)
    (h4 : s.toDevice.laneState (s.act.lanes.getD st {}).lane = 4)
    (hr : (s.toDevice.lane (s.act.lanes.getD st {}).lane).resending = false) (hn : (s.act.lanes.getD st {}).lane < 96) :
    exec (.returnSlotEnd r j false) s = .next { s with toDevice :=
      (if s.toDevice.get ACL_CTRL_miss ≤ (s.toDevice.lane (s.act.lanes.getD st {}).lane).missing + 1 then (s.toDevice.missed r).driverLost st
        else (s.toDevice.missed r).setLane (s.act.lanes.getD st {}).lane (s.toDevice.lane (s.act.lanes.getD st {}).lane).missedOne) } := by
  have hset := missed_marks s.toDevice r
  have hstate : (s.toDevice.missed r).laneState (s.act.lanes.getD st {}).lane = 4 := by
    refine (hset.other fun p hp => .inl ?_).trans h4
    rw [List.mem_singleton.mp hp]
    simp only [ACL_LANE_STAT, ACL_RET_EVT]
    omega
  have hlimit : (s.toDevice.missed r).get ACL_CTRL_miss = s.toDevice.get ACL_CTRL_miss := by
    refine hset.other fun p hp => .inl ?_
    rw [List.mem_singleton.mp hp]
    simp only [ACL_CTRL, ACL_RET_EVT]
    omega
  show execReturnSlotEnd r j false s = _
  rw [execReturnSlotEnd, run_next, if_neg (by simp [hc])]
  dsimp only
  rw [if_neg Bool.false_ne_true, hg, hh, hsil, ← Device.missed, slotStripe_congr hset.act_eq, hst]
  dsimp only
  rw [if_pos (by decide), hset.act_eq, missed_lane, hlimit, if_neg (by rw [hr, hstate]; decide), LaneX.missedOne]

/-- Below the limit, the missing burst is counted on its lane. -/
theorem returnSlotEnd_missing_yields {r : RetLane} {j : Fin 4} {s : State} {n : Nat}
    (hexec : exec (.returnSlotEnd r j false) s = .next { s with toDevice := (s.toDevice.missed r).setLane n (s.toDevice.lane n).missedOne }) :
    Yields (.returnSlotEnd r j false) s (fun e => e.lane n = (s.toDevice.lane n).missedOne ∧
      (∀ i, i ≠ n → e.lane i = s.toDevice.lane i) ∧
      ({ s.toDevice with link := { s.link with lanes := e.link.lanes } }).sets e
        [(ACL_RET_EVT_missing r, Nat.min (s.toDevice.get (ACL_RET_EVT_missing r) + 1) 0xFF)]) := by
  refine ⟨_, hexec, ?_, fun i hne => ?_, ((missed_marks s.toDevice r).setLane _ _).lanes ?_⟩
  · rw [lane_setLane_same]
  · rw [lane_setLane_ne _ _ hne, missed_lane]
  · rw [Device.setLane, Device.missed, Device.bump_link]

/-- At the limit, the driver is lost. -/
theorem returnSlotEnd_lost_yields {r : RetLane} {j : Fin 4} {st : Nat} {s : State} (hn : (s.act.lanes.getD st {}).lane < 96)
    (hexec : exec (.returnSlotEnd r j false) s = .next { s with toDevice := (s.toDevice.missed r).driverLost st })
    (hc : s.power.coreOn = true) (ho : s.flt.opened = none) (hm : s.toDevice.mode ≠ 5) (hb : s.hif.bscan = false) :
    let n := (s.act.lanes.getD st {}).lane
    Yields (.returnSlotEnd r j false) s (fun e => (e.lane n).resending = true ∧ e.get ACL_IRQ_lost = 1 ∧
      e.get (ACL_LANE_EVT_losses n) = Nat.min (s.toDevice.get (ACL_LANE_EVT_losses n) + 1) 0xFF ∧
      e.flt.opened = some { flt := catalogue 0x21 (n / 8) n, tickUs := s.us }) := by
  intro n
  have hmode : (s.toDevice.missed r).mode ≠ 5 := by
    have hoff : GLB_MODE ≠ ACL_RET_EVT r := by
      simp only [GLB_MODE, ACL_RET_EVT]
      omega
    rw [Device.missed, mode_of_calm (calm_bump _ _ _ hoff)]
    exact hm
  have hmissed := missed_marks s.toDevice r
  have hcount : (s.toDevice.missed r).get (ACL_LANE_EVT_losses n) = s.toDevice.get (ACL_LANE_EVT_losses n) := by
    refine hmissed.other fun p hp => .inl ?_
    rw [List.mem_singleton.mp hp]
    simp only [ACL_LANE_EVT, ACL_RET_EVT]
    omega
  have hseen := hmissed.lossSeen hn fun p hp => by
    rw [List.mem_singleton.mp hp]
    simp only [ACL_IRQ, ACL_RET_EVT]
    omega
  have hlosses := hseen.val (List.mem_cons_of_mem _ List.mem_cons_self)
  have hpower : (s.toDevice.missed r).power = s.power := Device.bump_power _ _ _
  have hhif : (s.toDevice.missed r).hif = s.hif := Device.bump_hif _ _ _
  have hflt : (s.toDevice.missed r).flt = s.flt := Device.bump_flt _ _ _
  have hus : (s.toDevice.missed r).us = s.us := Device.bump_us _ _ _
  obtain ⟨hresending, hget, hopened⟩ := driverLost_gives (d := s.toDevice.missed r) (st := st) (by rw [hpower, hc]) (by rw [hhif, hb]) hmode
    (by rw [hflt, ho])
  rw [hmissed.act_eq] at hresending hget hopened
  rw [hus] at hopened
  refine ⟨_, hexec, hresending, ?_, ?_, hopened⟩
  · rw [hget _ (by decide) (by decide)]
    exact hseen.val (p := (ACL_IRQ_lost, 1)) (by simp)
  · rw [hget _ (by simp only [ACL_LANE_EVT]; omega) (by simp only [ACL_LANE_EVT]; omega), ← hcount]
    exact hlosses

/-- Settles O40: each event's equation, and what its parts set. -/
theorem returnFramesAreHeard : Obligations.ReturnFramesAreHeard := by
  refine ⟨fun s hc hidle => mrkSend_yields hc hidle, ?_, ?_, ?_⟩
  · intro b st s hsil hphase hcode hguard hcrc hst h4 hp
    exact capsBurst_yields (burstIn_heard hsil hphase hcode hguard hcrc hst) h4 hp
  · intro b st s hsil hphase hcode hguard hcrc hst hlt hbody h4 hfirst hin0 hspares hl
    exact statusBurst_yields (burstIn_heard hsil hphase hcode hguard hcrc hst) hlt hbody h4 hfirst hin0 hspares
      (laneEntry_fits hl.1 (slotStripe_lt hst)).1
  · intro r j st s hc hg hh hsil hst h4 hr hl
    obtain ⟨hn, -, -⟩ := laneEntry_fits hl.1 (slotStripe_lt hst)
    have hexec := exec_returnSlotEnd hc hg hh hsil hst h4 hr hn
    refine ⟨fun hlimit => ?_, fun hlimit ho hm hb => ?_⟩
    · rw [if_neg (Nat.not_le_of_lt hlimit)] at hexec
      exact returnSlotEnd_missing_yields hexec
    · rw [if_pos hlimit] at hexec
      exact returnSlotEnd_lost_yields hn hexec hc ho hm hb

end Sys2Proof.Machine
